-- ==== Sys2Proof/Word.lean ====
section
/-! DEFINITION. The word types of R7: a byte is 8 bits, a halfword 16, a word 32 and a doubleword 64. -/

namespace Sys2Proof

/-- A byte (R7). -/
abbrev Byte := BitVec 8

/-- A doubleword (R7); a G register, a status register and a memory doubleword have this width. -/
abbrev DWord := BitVec 64

end Sys2Proof
end

