-- ==== Sys2Proof/Config.lean ====
section
/-! DEFINITION. What the manual leaves open, as free values: constants without a body, applied to a counter of the state
(`State.fresh`) or to the operands they depend on. Nothing in Lean can evaluate one, so a statement about one holds for every value. -/

namespace Sys2Proof.Config

/-- Whether a load of a workspace line of a live task sees the register cache (true) or the slice (false): "Which of the two is
decided per line at the moment of the access" (R187): by the index of the step and the line. DESIGN CHOICE (log entry 2). -/
opaque lineFromCache : Nat → Nat → Bool

/-- The serial number of the module, carried by the factory part of the configuration record (R413, R415). Log entry 3. -/
opaque serialNumber : BitVec 64

/-- SHA-384 measurement that boot extends with the ROM, Streusel and record hashes (R414 step 4). Log entry 3. -/
opaque measurement : Nat → BitVec 384

/-- OWNER of an MMA frame, which the configuration record gives (R97). Log entry 5. -/
opaque frameOwner : Nat → BitVec 6

/-- VALID (bit 22), EPOCH (bits 21 to 6) and SOCKET (bits 5 to 0) of a logical die in the signed configuration record (R17, R413). Log entry 5. -/
opaque dieMapRecord : Nat → BitVec 23

/-- INFO of a poison trap or nondeterminism fault whose failing operand is no register of R372's table: a reserved memory word, or a
shadow register. DESIGN CHOICE (log entry 9): the spec states no value. -/
opaque trapInfo : Nat → BitVec 64

/-- Which level of the page table (1, 2, else 3) a leaf that the host stores through HLEAF stands for, by leaf and missing offset: R412 does
not say. Log entry 10. -/
opaque hostLeafLevel : BitVec 64 → Nat → BitVec 2

/-- REASON of a refused write to the module control page for which R401 names no reason: a JOBTAG clash, ERASKIND, ERASGRP, ERASMEM. Log
entry 11. -/
opaque hostRefusal : Nat → BitVec 8

/-- Which line of a full set of the domain cache gives way, taken modulo the number of lines that may (R117). DESIGN CHOICE (log entry 79): the spec names
no replacement. -/
opaque victimWay : Nat → Nat

/-- Whether the slots of a packet on an output link have freed by a step, so that its credits return (R125): by the index of the step and the packet's
place among the link's packets. DESIGN CHOICE (log entry 80): the spec gives no moment. -/
opaque slotFreed : Nat → Nat → Bool

end Sys2Proof.Config
end

