-- ==== Sys2Proof/Syntax.lean ====
section
/-! DEFINITION. The instruction set as syntax: one constructor per row of spec/opcode_table.json.
An encoded instruction carries the fields of its encoding (R34, R38), from the highest bit to the lowest, each as the bits the
word holds. A row without an encoding is an event of the hardware, of the service processors or of the host; the inputs it takes
from outside stand in State.ev. -/

namespace Sys2Proof

/-- The instructions and events of the KN740 (R34, R38, R47; 95_what_each_step_holds.md). -/
inductive Instr where
  /-- 16-bit two-address add: gd = gd + gs. (R217) -/
  | addS (s : BitVec 5) (d : BitVec 5)
  /-- 16-bit two-address subtract. (R217) -/
  | subS (s : BitVec 5) (d : BitVec 5)
  /-- 16-bit two-address bitwise AND. (R217) -/
  | andS (s : BitVec 5) (d : BitVec 5)
  /-- 16-bit two-address bitwise OR. (R217) -/
  | orS (s : BitVec 5) (d : BitVec 5)
  /-- 16-bit two-address bitwise XOR. (R217) -/
  | xorS (s : BitVec 5) (d : BitVec 5)
  /-- 16-bit two-address shift left. (R217) -/
  | shlS (s : BitVec 5) (d : BitVec 5)
  /-- 16-bit two-address logical shift right. (R217) -/
  | shrS (s : BitVec 5) (d : BitVec 5)
  /-- 16-bit register move; with d == s it reads nothing and only advances PC. (R37) -/
  | movS (s : BitVec 5) (d : BitVec 5)
  /-- Alias of MOV.S G0, G0, encoded 0x000E; it only advances PC by 2. (R37) -/
  | nop
  /-- 16-bit vector add with the element type taken from SR.VTYPE. (R241) -/
  | vaddS (s : BitVec 4) (d : BitVec 4)
  /-- 16-bit vector subtract with the type from SR.VTYPE. (R241) -/
  | vsubS (s : BitVec 4) (d : BitVec 4)
  /-- 16-bit vector multiply with the type from SR.VTYPE. (R241) -/
  | vmulS (s : BitVec 4) (d : BitVec 4)
  /-- 16-bit vector minimum with the type from SR.VTYPE. (R241) -/
  | vminS (s : BitVec 4) (d : BitVec 4)
  /-- 16-bit vector maximum with the type from SR.VTYPE. (R241) -/
  | vmaxS (s : BitVec 4) (d : BitVec 4)
  /-- 16-bit vector AND. (R241) -/
  | vandS (s : BitVec 4) (d : BitVec 4)
  /-- 16-bit vector OR. (R241) -/
  | vorS (s : BitVec 4) (d : BitVec 4)
  /-- 16-bit vector XOR. (R241) -/
  | vxorS (s : BitVec 4) (d : BitVec 4)
  /-- Three-register add, wrapped to 64 bits. (R211) -/
  | add (b : BitVec 5) (a : BitVec 5) (d : BitVec 5) (q : BitVec 4)
  /-- Three-register subtract. (R211) -/
  | sub (b : BitVec 5) (a : BitVec 5) (d : BitVec 5) (q : BitVec 4)
  /-- Bitwise AND. (R211) -/
  | and (b : BitVec 5) (a : BitVec 5) (d : BitVec 5) (q : BitVec 4)
  /-- Bitwise OR. (R211) -/
  | or (b : BitVec 5) (a : BitVec 5) (d : BitVec 5) (q : BitVec 4)
  /-- Bitwise XOR. (R211) -/
  | xor (b : BitVec 5) (a : BitVec 5) (d : BitVec 5) (q : BitVec 4)
  /-- a AND NOT b. (R211) -/
  | andn (b : BitVec 5) (a : BitVec 5) (d : BitVec 5) (q : BitVec 4)
  /-- a OR NOT b. (R211) -/
  | orn (b : BitVec 5) (a : BitVec 5) (d : BitVec 5) (q : BitVec 4)
  /-- NOT (a XOR b). (R211) -/
  | xnor (b : BitVec 5) (a : BitVec 5) (d : BitVec 5) (q : BitVec 4)
  /-- Shift left by b mod 64. (R211) -/
  | shl (b : BitVec 5) (a : BitVec 5) (d : BitVec 5) (q : BitVec 4)
  /-- Logical shift right by b mod 64. (R211) -/
  | shr (b : BitVec 5) (a : BitVec 5) (d : BitVec 5) (q : BitVec 4)
  /-- Arithmetic shift right by b mod 64. (R211) -/
  | sra (b : BitVec 5) (a : BitVec 5) (d : BitVec 5) (q : BitVec 4)
  /-- Rotate right by b mod 64. (R211) -/
  | ror (b : BitVec 5) (a : BitVec 5) (d : BitVec 5) (q : BitVec 4)
  /-- Signed minimum. (R211) -/
  | min (b : BitVec 5) (a : BitVec 5) (d : BitVec 5) (q : BitVec 4)
  /-- Signed maximum. (R211) -/
  | max (b : BitVec 5) (a : BitVec 5) (d : BitVec 5) (q : BitVec 4)
  /-- Unsigned minimum. (R211) -/
  | minn (b : BitVec 5) (a : BitVec 5) (d : BitVec 5) (q : BitVec 4)
  /-- Unsigned maximum. (R211) -/
  | maxn (b : BitVec 5) (a : BitVec 5) (d : BitVec 5) (q : BitVec 4)
  /-- Signed multiply, low 64 bits. (R212) -/
  | mul (b : BitVec 5) (a : BitVec 5) (d : BitVec 5) (q : BitVec 4)
  /-- High half of a signed product. (R212) -/
  | mulh (b : BitVec 5) (a : BitVec 5) (d : BitVec 5) (q : BitVec 4)
  /-- High half of an unsigned product. (R212) -/
  | mulhn (b : BitVec 5) (a : BitVec 5) (d : BitVec 5) (q : BitVec 4)
  /-- Signed division by div_i, which never traps. (R212) -/
  | div (b : BitVec 5) (a : BitVec 5) (d : BitVec 5) (q : BitVec 4)
  /-- Unsigned division by div_n. (R212) -/
  | divn (b : BitVec 5) (a : BitVec 5) (d : BitVec 5) (q : BitVec 4)
  /-- Signed remainder by rem_i. (R212) -/
  | rem (b : BitVec 5) (a : BitVec 5) (d : BitVec 5) (q : BitVec 4)
  /-- Unsigned remainder by rem_n. (R212) -/
  | remn (b : BitVec 5) (a : BitVec 5) (d : BitVec 5) (q : BitVec 4)
  /-- Register move that reads its source. (R213) -/
  | mov (a : BitVec 5) (d : BitVec 5) (q : BitVec 4)
  /-- Count leading zero bits. (R213) -/
  | clz (a : BitVec 5) (d : BitVec 5) (q : BitVec 4)
  /-- Count trailing zero bits. (R213) -/
  | ctz (a : BitVec 5) (d : BitVec 5) (q : BitVec 4)
  /-- Population count. (R213) -/
  | popc (a : BitVec 5) (d : BitVec 5) (q : BitVec 4)
  /-- Bit reversal. (R213) -/
  | brev (a : BitVec 5) (d : BitVec 5) (q : BitVec 4)
  /-- Byte swap. (R213) -/
  | bswap (a : BitVec 5) (d : BitVec 5) (q : BitVec 4)
  /-- Sign-extend from 8, 16 or 32 bits. (R213) -/
  | sext (e : BitVec 5) (a : BitVec 5) (d : BitVec 5) (q : BitVec 4)
  /-- Zero-extend from 8, 16 or 32 bits. (R213) -/
  | zext (e : BitVec 5) (a : BitVec 5) (d : BitVec 5) (q : BitVec 4)
  /-- a shifted left by 1, plus b. (R214) -/
  | shadd1 (b : BitVec 5) (a : BitVec 5) (d : BitVec 5) (q : BitVec 4)
  /-- a shifted left by 2, plus b. (R214) -/
  | shadd2 (b : BitVec 5) (a : BitVec 5) (d : BitVec 5) (q : BitVec 4)
  /-- a shifted left by 3, plus b. (R214) -/
  | shadd3 (b : BitVec 5) (a : BitVec 5) (d : BitVec 5) (q : BitVec 4)
  /-- a shifted left by 4, plus b. (R214) -/
  | shadd4 (b : BitVec 5) (a : BitVec 5) (d : BitVec 5) (q : BitVec 4)
  /-- Forms the flat SRAM address of a global tile and a slice offset. (R214) -/
  | mksa (b : BitVec 5) (a : BitVec 5) (d : BitVec 5) (q : BitVec 4)
  /-- Add a signed 15-bit immediate. (R215) -/
  | addi (i : BitVec 15) (s : BitVec 5) (d : BitVec 5)
  /-- AND with an unsigned immediate. (R215) -/
  | andi (i : BitVec 15) (s : BitVec 5) (d : BitVec 5)
  /-- OR with an unsigned immediate. (R215) -/
  | ori (i : BitVec 15) (s : BitVec 5) (d : BitVec 5)
  /-- XOR with an unsigned immediate. (R215) -/
  | xori (i : BitVec 15) (s : BitVec 5) (d : BitVec 5)
  /-- Shift left by an immediate count. (R215) -/
  | shli (i : BitVec 6) (s : BitVec 5) (d : BitVec 5)
  /-- Logical shift right by an immediate count. (R215) -/
  | shri (i : BitVec 6) (s : BitVec 5) (d : BitVec 5)
  /-- Arithmetic shift right by an immediate count. (R215) -/
  | srai (i : BitVec 6) (s : BitVec 5) (d : BitVec 5)
  /-- Multiply by a signed immediate. (R215) -/
  | muli (i : BitVec 15) (s : BitVec 5) (d : BitVec 5)
  /-- Load a sign-extended 20-bit constant. (R216) -/
  | li (i : BitVec 20) (d : BitVec 5)
  /-- Shift gd left by 20 bits and OR in a 20-bit constant. (R216) -/
  | lix (i : BitVec 20) (d : BitVec 5)
  /-- Load a PC-relative address. (R216) -/
  | lpc (i : BitVec 20) (d : BitVec 5)
  /-- Load a sign-extended byte. (R207) -/
  | ldB (i : BitVec 8) (b : BitVec 5) (t : BitVec 5) (q : BitVec 4)
  /-- Load a sign-extended halfword. (R207) -/
  | ldH (i : BitVec 8) (b : BitVec 5) (t : BitVec 5) (q : BitVec 4)
  /-- Load a sign-extended word. (R207) -/
  | ldW (i : BitVec 8) (b : BitVec 5) (t : BitVec 5) (q : BitVec 4)
  /-- Load a doubleword. (R207) -/
  | ldD (i : BitVec 8) (b : BitVec 5) (t : BitVec 5) (q : BitVec 4)
  /-- Load a zero-extended byte. (R207) -/
  | ldNb (i : BitVec 8) (b : BitVec 5) (t : BitVec 5) (q : BitVec 4)
  /-- Load a zero-extended halfword. (R207) -/
  | ldNh (i : BitVec 8) (b : BitVec 5) (t : BitVec 5) (q : BitVec 4)
  /-- Load a zero-extended word. (R207) -/
  | ldNw (i : BitVec 8) (b : BitVec 5) (t : BitVec 5) (q : BitVec 4)
  /-- Store a byte. (R207) -/
  | stB (i : BitVec 8) (b : BitVec 5) (t : BitVec 5) (q : BitVec 4)
  /-- Store a halfword. (R207) -/
  | stH (i : BitVec 8) (b : BitVec 5) (t : BitVec 5) (q : BitVec 4)
  /-- Store a word. (R207) -/
  | stW (i : BitVec 8) (b : BitVec 5) (t : BitVec 5) (q : BitVec 4)
  /-- Store a doubleword. (R207) -/
  | stD (i : BitVec 8) (b : BitVec 5) (t : BitVec 5) (q : BitVec 4)
  /-- 8-byte load that is an acquire at the scope in its minor field. (R208) -/
  | ldAcq (i : BitVec 8) (c : BitVec 3) (b : BitVec 5) (t : BitVec 5) (q : BitVec 4)
  /-- 8-byte store that is a release at the scope in its minor field. (R208) -/
  | stRel (i : BitVec 8) (c : BitVec 3) (b : BitVec 5) (t : BitVec 5) (q : BitVec 4)
  /-- Makes the masked registers live and zero, and may readmit the task with a larger footprint. (R199) -/
  | scopeOpen (a : BitVec 5) (q : BitVec 4)
  /-- Kills the masked registers without write-back. (R199) -/
  | scopeClose (a : BitVec 5) (q : BitVec 4)
  /-- Reads and empties a box, and parks while the box is empty. (R206) -/
  | mbr (a : BitVec 2) (d : BitVec 5) (q : BitVec 4)
  /-- Writes a value into an empty box. (R206) -/
  | mbw (a : BitVec 5) (d : BitVec 2) (q : BitVec 4)
  /-- Allocates granules in a slice, marks the guards as crust and returns a status. (R140) -/
  | alloc (b : BitVec 5) (a : BitVec 5) (d : BitVec 5) (q : BitVec 4)
  /-- Releases exactly one earlier allocation and returns a status. (R140) -/
  | free (b : BitVec 5) (a : BitVec 5) (d : BitVec 5) (q : BitVec 4)
  /-- Reserves a doubleword at its home and returns its value. (R345) -/
  | rsv (a : BitVec 5) (d : BitVec 5) (q : BitVec 4)
  /-- Writes the reserved word and releases the reservation. (R345) -/
  | relw (b : BitVec 5) (a : BitVec 5) (q : BitVec 4)
  /-- Releases the reservation and leaves the word unchanged. (R345) -/
  | reln (a : BitVec 5) (q : BitVec 4)
  /-- 4-byte compare-and-swap. (R347) -/
  | casW (b : BitVec 5) (a : BitVec 5) (d : BitVec 5) (q : BitVec 4)
  /-- 8-byte compare-and-swap. (R347) -/
  | casD (b : BitVec 5) (a : BitVec 5) (d : BitVec 5) (q : BitVec 4)
  /-- Atomic add, optionally returning the old value. (R346) -/
  | amoAdd (r : BitVec 1) (w : BitVec 1) (b : BitVec 5) (a : BitVec 5) (d : BitVec 5) (q : BitVec 4)
  /-- Atomic AND. (R346) -/
  | amoAnd (r : BitVec 1) (w : BitVec 1) (b : BitVec 5) (a : BitVec 5) (d : BitVec 5) (q : BitVec 4)
  /-- Atomic OR. (R346) -/
  | amoOr (r : BitVec 1) (w : BitVec 1) (b : BitVec 5) (a : BitVec 5) (d : BitVec 5) (q : BitVec 4)
  /-- Atomic XOR. (R346) -/
  | amoXor (r : BitVec 1) (w : BitVec 1) (b : BitVec 5) (a : BitVec 5) (d : BitVec 5) (q : BitVec 4)
  /-- Atomic signed minimum. (R346) -/
  | amoMin (r : BitVec 1) (w : BitVec 1) (b : BitVec 5) (a : BitVec 5) (d : BitVec 5) (q : BitVec 4)
  /-- Atomic signed maximum. (R346) -/
  | amoMax (r : BitVec 1) (w : BitVec 1) (b : BitVec 5) (a : BitVec 5) (d : BitVec 5) (q : BitVec 4)
  /-- Atomic unsigned minimum. (R346) -/
  | amoMinn (r : BitVec 1) (w : BitVec 1) (b : BitVec 5) (a : BitVec 5) (d : BitVec 5) (q : BitVec 4)
  /-- Atomic unsigned maximum. (R346) -/
  | amoMaxn (r : BitVec 1) (w : BitVec 1) (b : BitVec 5) (a : BitVec 5) (d : BitVec 5) (q : BitVec 4)
  /-- Atomic swap. (R346) -/
  | amoSwap (r : BitVec 1) (w : BitVec 1) (b : BitVec 5) (a : BitVec 5) (d : BitVec 5) (q : BitVec 4)
  /-- Waits for earlier accesses and makes one fence event at a scope. (R366) -/
  | fence (c : BitVec 3) (q : BitVec 4)
  /-- SC fence at a scope, which also enters sco. (R366) -/
  | fenceSc (c : BitVec 3) (q : BitVec 4)
  /-- Prepares a PC-relative target register and starts its snapshot fetch. (R323) -/
  | bprep (i : BitVec 20) (d : BitVec 3)
  /-- Prepares a target register from a G register. (R323) -/
  | bprepr (a : BitVec 5) (d : BitVec 3) (q : BitVec 4)
  /-- Sets a predicate when a == b. (R324) -/
  | cmpEq (b : BitVec 5) (a : BitVec 5) (d : BitVec 3) (q : BitVec 4)
  /-- Sets a predicate when a != b. (R324) -/
  | cmpNe (b : BitVec 5) (a : BitVec 5) (d : BitVec 3) (q : BitVec 4)
  /-- Signed less-than compare into a predicate. (R324) -/
  | cmpLt (b : BitVec 5) (a : BitVec 5) (d : BitVec 3) (q : BitVec 4)
  /-- Signed greater-or-equal compare. (R324) -/
  | cmpGe (b : BitVec 5) (a : BitVec 5) (d : BitVec 3) (q : BitVec 4)
  /-- Unsigned less-than compare. (R324) -/
  | cmpLtn (b : BitVec 5) (a : BitVec 5) (d : BitVec 3) (q : BitVec 4)
  /-- Unsigned greater-or-equal compare. (R324) -/
  | cmpGen (b : BitVec 5) (a : BitVec 5) (d : BitVec 3) (q : BitVec 4)
  /-- Predicate AND. (R325) -/
  | pand (b : BitVec 3) (a : BitVec 3) (d : BitVec 3) (q : BitVec 4)
  /-- Predicate OR. (R325) -/
  | por (b : BitVec 3) (a : BitVec 3) (d : BitVec 3) (q : BitVec 4)
  /-- Predicate NOT. (R325) -/
  | pnot (a : BitVec 3) (d : BitVec 3) (q : BitVec 4)
  /-- Unconditional transfer through a prepared target. (R326) -/
  | br (a : BitVec 3) (q : BitVec 4)
  /-- Transfer when the predicate is 1. (R326) -/
  | brP (a : BitVec 3) (d : BitVec 3) (q : BitVec 4)
  /-- Transfer when the predicate is 0. (R326) -/
  | brNp (a : BitVec 3) (d : BitVec 3) (q : BitVec 4)
  /-- Transfer and write the link register. (R326) -/
  | brl (a : BitVec 3) (d : BitVec 5) (q : BitVec 4)
  /-- Decrements a counter and transfers while it is non-zero. (R326) -/
  | brdec (a : BitVec 3) (d : BitVec 5) (q : BitVec 4)
  /-- Discards the tile's instruction cache and all snapshots after the task's own stores complete. (R330) -/
  | iinv (q : BitVec 4)
  /-- Checks a launch record, assigns a launch identifier and starts or holds the launch. (R312) -/
  | launch (a : BitVec 5) (d : BitVec 5) (q : BitVec 4)
  /-- Creates one task from a task descriptor. (R313) -/
  | spawn (a : BitVec 5) (q : BitVec 4)
  /-- Synchronisation point that ends the task, leaves its group, frees its resources and may update COMPL. (R314) -/
  | exit (q : BitVec 4)
  /-- Leaves the slot and re-enters the tail of the ready queue. (R315) -/
  | yield (q : BitVec 4)
  /-- Returns the interposer hop distance between two vdies. (R315) -/
  | qdist (a : BitVec 5) (d : BitVec 5) (q : BitVec 4)
  /-- Joins a group record at a scope. (R317) -/
  | join (e : BitVec 5) (a : BitVec 5) (q : BitVec 4)
  /-- Leaves the task's group, which may complete the open phase. (R317) -/
  | leave (q : BitVec 4)
  /-- Arrives at the group without a vote and parks until the phase completes. (R335) -/
  | gbar (a : BitVec 5) (q : BitVec 4)
  /-- Arrives at the group with a vote and returns the combined result. (R318) -/
  | sstep (e : BitVec 5) (a : BitVec 5) (d : BitVec 5) (q : BitVec 4)
  /-- Lowers a dependence count and starts the entry when it reaches zero. (R333) -/
  | ddec (e : BitVec 5) (a : BitVec 5) (q : BitVec 4)
  /-- Raises a dependence count. (R333) -/
  | dadd (a : BitVec 5) (d : BitVec 5) (q : BitVec 4)
  /-- Synchronisation point that parks until a counter word reaches a threshold, then acquires. (R334) -/
  | waitc (e : BitVec 5) (a : BitVec 5) (d : BitVec 5) (q : BitVec 4)
  /-- Sends a 64-byte message to a mailbox and parks until its reply. (R339) -/
  | msend (a : BitVec 5) (d : BitVec 5) (q : BitVec 4)
  /-- Pushes an item onto a work queue, parking while it is full. (R320) -/
  | wpush (a : BitVec 5) (d : BitVec 5) (q : BitVec 4)
  /-- Pops an item, returns done, or parks while the queue is empty. (R320) -/
  | wpop (e : BitVec 3) (a : BitVec 5) (d : BitVec 5) (q : BitVec 4)
  /-- Non-blocking pop. (R320) -/
  | wpopNb (e : BitVec 3) (a : BitVec 5) (d : BitVec 5) (q : BitVec 4)
  /-- Closes a work queue and readies its poppers. (R320) -/
  | wclose (a : BitVec 5) (q : BitVec 4)
  /-- Vector add. (R228) -/
  | vadd (y : BitVec 5) (m : BitVec 3) (b : BitVec 4) (a : BitVec 4) (d : BitVec 4)
  /-- Vector subtract. (R228) -/
  | vsub (y : BitVec 5) (m : BitVec 3) (b : BitVec 4) (a : BitVec 4) (d : BitVec 4)
  /-- Vector multiply. (R228) -/
  | vmul (y : BitVec 5) (m : BitVec 3) (b : BitVec 4) (a : BitVec 4) (d : BitVec 4)
  /-- Fused multiply-add with one rounding. (R228) -/
  | vfma (y : BitVec 5) (m : BitVec 3) (b : BitVec 4) (a : BitVec 4) (d : BitVec 4)
  /-- Fused multiply-subtract with one rounding. (R228) -/
  | vfms (y : BitVec 5) (m : BitVec 3) (b : BitVec 4) (a : BitVec 4) (d : BitVec 4)
  /-- Vector minimum (minimumNumber for floating lanes). (R228) -/
  | vmin (y : BitVec 5) (m : BitVec 3) (b : BitVec 4) (a : BitVec 4) (d : BitVec 4)
  /-- Vector maximum. (R228) -/
  | vmax (y : BitVec 5) (m : BitVec 3) (b : BitVec 4) (a : BitVec 4) (d : BitVec 4)
  /-- Vector absolute value. (R228) -/
  | vabs (y : BitVec 5) (m : BitVec 3) (a : BitVec 4) (d : BitVec 4)
  /-- Vector negate. (R228) -/
  | vneg (y : BitVec 5) (m : BitVec 3) (a : BitVec 4) (d : BitVec 4)
  /-- Saturating integer add. (R228) -/
  | vadds (y : BitVec 5) (m : BitVec 3) (b : BitVec 4) (a : BitVec 4) (d : BitVec 4)
  /-- Saturating integer subtract. (R228) -/
  | vsubs (y : BitVec 5) (m : BitVec 3) (b : BitVec 4) (a : BitVec 4) (d : BitVec 4)
  /-- Vector divide. (R229) -/
  | vdiv (y : BitVec 5) (m : BitVec 3) (b : BitVec 4) (a : BitVec 4) (d : BitVec 4)
  /-- Vector square root. (R229) -/
  | vsqrt (y : BitVec 5) (m : BitVec 3) (a : BitVec 4) (d : BitVec 4)
  /-- Vector reciprocal. (R229) -/
  | vrcp (y : BitVec 5) (m : BitVec 3) (a : BitVec 4) (d : BitVec 4)
  /-- Vector reciprocal square root. (R229) -/
  | vrsq (y : BitVec 5) (m : BitVec 3) (a : BitVec 4) (d : BitVec 4)
  /-- Vector 2 to the power x. (R229) -/
  | vexp2 (y : BitVec 5) (m : BitVec 3) (a : BitVec 4) (d : BitVec 4)
  /-- Vector base-2 logarithm. (R229) -/
  | vlog2 (y : BitVec 5) (m : BitVec 3) (a : BitVec 4) (d : BitVec 4)
  /-- Lane compare for equality into a mask register. (R230) -/
  | vcmpEq (y : BitVec 5) (m : BitVec 3) (b : BitVec 4) (a : BitVec 4) (d : BitVec 2)
  /-- Lane compare for inequality into a mask register. (R230) -/
  | vcmpNe (y : BitVec 5) (m : BitVec 3) (b : BitVec 4) (a : BitVec 4) (d : BitVec 2)
  /-- Lane less-than compare into a mask register. (R230) -/
  | vcmpLt (y : BitVec 5) (m : BitVec 3) (b : BitVec 4) (a : BitVec 4) (d : BitVec 2)
  /-- Lane less-or-equal compare into a mask register. (R230) -/
  | vcmpLe (y : BitVec 5) (m : BitVec 3) (b : BitVec 4) (a : BitVec 4) (d : BitVec 2)
  /-- Lane unordered compare into a mask register. (R230) -/
  | vcmpUn (y : BitVec 5) (m : BitVec 3) (b : BitVec 4) (a : BitVec 4) (d : BitVec 2)
  /-- Lane select under a mask. (R230) -/
  | vsel (y : BitVec 5) (m : BitVec 2) (b : BitVec 4) (a : BitVec 4) (d : BitVec 4)
  /-- Lane class code. (R230) -/
  | vclass (y : BitVec 5) (m : BitVec 3) (a : BitVec 4) (d : BitVec 4)
  /-- Vector AND. (R231) -/
  | vand (y : BitVec 5) (m : BitVec 3) (b : BitVec 4) (a : BitVec 4) (d : BitVec 4)
  /-- Vector OR. (R231) -/
  | vor (y : BitVec 5) (m : BitVec 3) (b : BitVec 4) (a : BitVec 4) (d : BitVec 4)
  /-- Vector XOR. (R231) -/
  | vxor (y : BitVec 5) (m : BitVec 3) (b : BitVec 4) (a : BitVec 4) (d : BitVec 4)
  /-- Vector NOT. (R231) -/
  | vnot (y : BitVec 5) (m : BitVec 3) (a : BitVec 4) (d : BitVec 4)
  /-- Lane shift left. (R231) -/
  | vshl (y : BitVec 5) (m : BitVec 3) (b : BitVec 4) (a : BitVec 4) (d : BitVec 4)
  /-- Lane logical shift right. (R231) -/
  | vshr (y : BitVec 5) (m : BitVec 3) (b : BitVec 4) (a : BitVec 4) (d : BitVec 4)
  /-- Lane arithmetic shift right. (R231) -/
  | vsra (y : BitVec 5) (m : BitVec 3) (b : BitVec 4) (a : BitVec 4) (d : BitVec 4)
  /-- Loads a 256-byte V register. (R232) -/
  | vld (i : BitVec 8) (b : BitVec 5) (t : BitVec 4) (q : BitVec 4)
  /-- Stores a 256-byte V register. (R232) -/
  | vst (i : BitVec 8) (b : BitVec 5) (t : BitVec 4) (q : BitVec 4)
  /-- Gathers indexed elements of a slice. (R233) -/
  | vgath (b : BitVec 4) (a : BitVec 5) (d : BitVec 4) (q : BitVec 4)
  /-- Scatters lanes to indexed slice elements. (R233) -/
  | vscat (b : BitVec 4) (a : BitVec 5) (d : BitVec 4) (q : BitVec 4)
  /-- Broadcasts a G register to every lane. (R233) -/
  | vbcast (a : BitVec 5) (d : BitVec 4) (q : BitVec 4)
  /-- Extracts one lane into a box. (R233) -/
  | vextr (b : BitVec 5) (a : BitVec 4) (d : BitVec 2) (q : BitVec 4)
  /-- Lane permutation. (R235) -/
  | vperm (y : BitVec 5) (m : BitVec 3) (b : BitVec 4) (a : BitVec 4) (d : BitVec 4)
  /-- Slides lanes down by one. (R235) -/
  | vslide (y : BitVec 5) (m : BitVec 3) (b : BitVec 4) (a : BitVec 4) (d : BitVec 4)
  /-- Interleaves two registers into a register pair. (R235) -/
  | vzip (y : BitVec 5) (b : BitVec 4) (a : BitVec 4) (d : BitVec 3)
  /-- De-interleaves two registers into a register pair. (R235) -/
  | vuzp (y : BitVec 5) (b : BitVec 4) (a : BitVec 4) (d : BitVec 3)
  /-- Loads a register from one acquired buffer page and releases the page. (R234) -/
  | vldc (h : BitVec 5) (r : BitVec 4) (q : BitVec 4)
  /-- As VLDC, but the page stays acquired. (R234) -/
  | vldcKeep (h : BitVec 5) (r : BitVec 4) (q : BitVec 4)
  /-- Stores a register into one reserved buffer page and publishes it. (R234) -/
  | vstc (h : BitVec 5) (r : BitVec 4) (q : BitVec 4)
  /-- Exact sum of lanes, rounded once, into lane 0 of vd. (R236) -/
  | vred (y : BitVec 5) (m : BitVec 3) (a : BitVec 4) (d : BitVec 4)
  /-- Exact lane sum into a box. (R236) -/
  | vredBox (y : BitVec 5) (m : BitVec 3) (b : BitVec 2) (a : BitVec 4)
  /-- Minimum across lanes into a register. (R236) -/
  | vrmin (y : BitVec 5) (m : BitVec 3) (a : BitVec 4) (d : BitVec 4)
  /-- Minimum across lanes into a box. (R236) -/
  | vrminBox (y : BitVec 5) (m : BitVec 3) (b : BitVec 2) (a : BitVec 4)
  /-- Maximum across lanes into a register. (R236) -/
  | vrmax (y : BitVec 5) (m : BitVec 3) (a : BitVec 4) (d : BitVec 4)
  /-- Maximum across lanes into a box. (R236) -/
  | vrmaxBox (y : BitVec 5) (m : BitVec 3) (b : BitVec 2) (a : BitVec 4)
  /-- Exact prefix sums. (R236) -/
  | vscan (y : BitVec 5) (m : BitVec 3) (a : BitVec 4) (d : BitVec 4)
  /-- Adds FP32 lanes exactly into the wide lane cells of a Z block. (R237) -/
  | vxacc (m : BitVec 3) (z : BitVec 1) (a : BitVec 4) (d : BitVec 3)
  /-- Drains lane cells into a V register with one rounding. (R237) -/
  | vxdrain (y : BitVec 5) (c : BitVec 1) (h : BitVec 1) (a : BitVec 3) (d : BitVec 4)
  /-- Merges candidates into a sorted top-64 list. (R238) -/
  | vtopk (y : BitVec 5) (m : BitVec 3) (b : BitVec 4) (a : BitVec 4) (d : BitVec 3)
  /-- Quantises FP32 lanes into two MX blocks. (R240) -/
  | vquant (y : BitVec 5) (a : BitVec 4) (d : BitVec 4)
  /-- Dequantises two MX blocks into FP32 lanes. (R240) -/
  | vdeq (y : BitVec 5) (a : BitVec 4) (d : BitVec 4)
  /-- Converts lanes from the source type to the destination type. (R239) -/
  | vcvt (s : BitVec 5) (y : BitVec 5) (m : BitVec 3) (a : BitVec 4) (d : BitVec 4)
  /-- Configures and clears an accumulator block. (R249) -/
  | mxcfg (a : BitVec 5) (d : BitVec 3) (q : BitVec 4)
  /-- Clears a block and keeps its mode. (R250) -/
  | mxzero (d : BitVec 3) (q : BitVec 4)
  /-- One exact 32 x 32 x K accumulation step into a block. (R254) -/
  | mxmac (d : BitVec 3) (q : BitVec 4)
  /-- Parks until the block's earlier commands complete and reports its fault record. (R270) -/
  | mxwait (d : BitVec 3) (q : BitVec 4)
  /-- Checks every cell and reports the block's state to a box. (R271) -/
  | mxchk (a : BitVec 2) (d : BitVec 3) (q : BitVec 4)
  /-- Binds A to a buffer in stream mode. (R252) -/
  | mxa (n : BitVec 3) (h : BitVec 5) (q : BitVec 4)
  /-- Binds A in keep mode. (R252) -/
  | mxaKeep (n : BitVec 3) (h : BitVec 5) (q : BitVec 4)
  /-- Binds A in hold mode. (R252) -/
  | mxaHold (n : BitVec 3) (h : BitVec 5) (q : BitVec 4)
  /-- Binds B to a buffer in stream mode. (R252) -/
  | mxb (n : BitVec 3) (h : BitVec 5) (q : BitVec 4)
  /-- Binds B in keep mode. (R252) -/
  | mxbKeep (n : BitVec 3) (h : BitVec 5) (q : BitVec 4)
  /-- Binds B in hold mode. (R252) -/
  | mxbHold (n : BitVec 3) (h : BitVec 5) (q : BitVec 4)
  /-- Rounds a block once into a buffer or a window's shadow destination. (R272) -/
  | mxdrain (k : BitVec 3) (n : BitVec 3) (h : BitVec 5) (r : BitVec 5) (q : BitVec 4)
  /-- Loads the unfold geometry from a descriptor. (R259) -/
  | ufcfg (a : BitVec 5) (q : BitVec 4)
  /-- Binds A to the unfold unit and sets the unfold cursor. (R260) -/
  | mxaUf (a : BitVec 5) (q : BitVec 4)
  /-- Subscribes a buffer to an operand stream. (R266) -/
  | ssub (a : BitVec 5) (d : BitVec 5) (q : BitVec 4)
  /-- Ends a buffer's subscription. (R267) -/
  | sunsub (d : BitVec 5) (q : BitVec 4)
  /-- Binds B to a subscription's buffer. (R268) -/
  | mxbS (e : BitVec 5) (d : BitVec 5) (q : BitVec 4)
  /-- Copies a block into a block image. (R276) -/
  | mxspill (a : BitVec 5) (d : BitVec 3) (q : BitVec 4)
  /-- Loads a block from a block image. (R277) -/
  | mxfill (a : BitVec 5) (d : BitVec 3) (q : BitVec 4)
  /-- Writes a mover shadow register. (R155) -/
  | mvset (e : BitVec 5) (a : BitVec 5) (q : BitVec 4)
  /-- Reads a mover shadow register. (R155) -/
  | mvget (e : BitVec 5) (d : BitVec 5) (q : BitVec 4)
  /-- Checks the shadow set and launches a transfer, returning its identifier. (R156) -/
  | mvgo (d : BitVec 5) (q : BitVec 4)
  /-- Launches a descriptor chain. (R169) -/
  | mvchain (a : BitVec 5) (d : BitVec 5) (q : BitVec 4)
  /-- Returns a transfer's status without parking. (R162) -/
  | mvtst (a : BitVec 5) (d : BitVec 5) (q : BitVec 4)
  /-- Parks until a transfer completes or stops, then returns its status. (R162) -/
  | mvwait (a : BitVec 5) (d : BitVec 5) (q : BitVec 4)
  /-- Initialises a copy barrier with its quota. (R180) -/
  | bxinit (a : BitVec 5) (d : BitVec 5) (q : BitVec 4)
  /-- Takes a seat announcing bytes and returns the ticket. (R180) -/
  | bxarv (e : BitVec 5) (a : BitVec 5) (d : BitVec 5) (q : BitVec 4)
  /-- Synchronisation point that parks until a round completes. (R180) -/
  | bxwait (e : BitVec 5) (a : BitVec 5) (d : BitVec 5) (q : BitVec 4)
  /-- Reads a barrier's round and flags. (R180) -/
  | bxtst (e : BitVec 5) (a : BitVec 5) (d : BitVec 5) (q : BitVec 4)
  /-- Reserves free buffer pages as a producer. (R147) -/
  | cbacqP (n : BitVec 3) (h : BitVec 5) (r : BitVec 5) (q : BitVec 4)
  /-- Acquires filled buffer pages as a consumer. (R147) -/
  | cbacqC (n : BitVec 3) (h : BitVec 5) (r : BitVec 5) (q : BitVec 4)
  /-- Marks scalar-reserved pages done, publishing them. (R147) -/
  | cbrelP (n : BitVec 3) (h : BitVec 5) (q : BitVec 4)
  /-- Marks scalar-acquired pages done, freeing them. (R147) -/
  | cbrelC (n : BitVec 3) (h : BitVec 5) (q : BitVec 4)
  /-- Returns a buffer counter or definition item. (R147) -/
  | cbqry (k : BitVec 3) (h : BitVec 5) (r : BitVec 5) (q : BitVec 4)
  /-- Defines a circular buffer from a descriptor. (R146) -/
  | cbinitBuffer (a : BitVec 5) (q : BitVec 4)
  /-- Defines a glazed window from a descriptor. (R146) -/
  | cbinitWindow (a : BitVec 5) (q : BitVec 4)
  /-- Waits for the window's writers, then swaps its halves as a release at its scope. (R149) -/
  | glaze (e : BitVec 5) (a : BitVec 4) (q : BitVec 4)
  /-- Reads a status register. (R419) -/
  | rdsr (e : BitVec 5) (d : BitVec 5) (q : BitVec 4)
  /-- Writes the writable fields of a status register. (R419) -/
  | wrsr (e : BitVec 5) (a : BitVec 5) (q : BitVec 4)
  /-- Drops translation-cache entries module-wide and waits for the requests that used them. (R420) -/
  | tlbinv (e : BitVec 5) (a : BitVec 5) (q : BitVec 4)
  /-- Raises a software trap after the instruction. (R375) -/
  | trap (e : BitVec 5) (a : BitVec 5) (q : BitVec 4)
  /-- Finishes a trapped task's trap with action 0, 1 or 2. (R376) -/
  | eret (e : BitVec 5) (a : BitVec 5) (q : BitVec 4)
  /-- Opens a containment-domain level and writes its checkpoint. (R383) -/
  | cdopen (a : BitVec 5) (q : BitVec 4)
  /-- Closes a level; the outermost close commits windows, pages and held messages. (R388) -/
  | cdclose (d : BitVec 5) (q : BitVec 4)
  /-- At an empty slot's turn, the scheduler admits the first eligible ready task. (R304) -/
  | taskAdmission
  /-- A parked task becomes ready when its park condition holds. (R302) -/
  | taskReady
  /-- A task ready for 65,536 cycles moves up one priority level. (R305) -/
  | readyAging
  /-- After the head of level 3 has waited 65,536 cycles, a long-resident task is rotated out. (R306) -/
  | rotation
  /-- The lead distributor places the next task of a launch and hands it to its die's distributor. (R308) -/
  | leadDistributorPlacement
  /-- A distributor instantiates a task once its frame is free. (R298) -/
  | taskInstantiation
  /-- A requested workspace line arrives and the parked task is readied. (R195) -/
  | registerCacheFill
  /-- The 64-byte snapshot of a prepared target completes. (R328) -/
  | snapshotFetch
  /-- Code that a parked fetch waited for arrives, or the fetch fault is found. (R329) -/
  | codeFetch
  /-- A tile idle for its idle interval is power-gated. (R310) -/
  | tilePowerGating
  /-- A request addressed to a gated tile or die wakes it and is held until the wake completes. (R28) -/
  | wake
  /-- The wake of a tile or die ends and held requests proceed. (R28) -/
  | wakeComplete
  /-- The service processors change an island's frequency at an instruction boundary. (R27) -/
  | frequencyChange
  /-- When the 1 ms average would exceed 9.0 kW, island frequencies are lowered. (R29) -/
  | powerLimit
  /-- A queued vector command begins and reads its V and M operands. (R223) -/
  | vectorCommandBegin
  /-- A vector command writes its destinations and merges its flags. (R223) -/
  | vectorCommandComplete
  /-- A matrix command at the head of its queue obtains its pages and begins. (R255) -/
  | matrixCommandBegin
  /-- A matrix command completes, releasing pages and merging flags. (R248) -/
  | matrixCommandComplete
  /-- An engine result waits for an empty box and then fills it. (R205) -/
  | boxWrite
  /-- A queued reserve or acquire request on a buffer is granted. (R143) -/
  | cbGrant
  /-- The mover begins a transfer in id order. (R158) -/
  | transferBegin
  /-- The mover moves 64 bytes of one transfer in its round-robin turn. (R158) -/
  | moverTurn
  /-- A transfer finalises its status and updates its crust, errors, counter and barrier. (R159) -/
  | transferCompletion
  /-- The mover fetches and checks a chain descriptor and its predicate word. (R167) -/
  | chainDescriptorFetch
  /-- A handle-table entry is read into the tile's handle cache. (R164) -/
  | handleCacheFill
  /-- A store to the revoke register invalidates a handle module-wide. (R165) -/
  | revoke
  /-- Once transfers using the handle complete, the revocation-done counter is incremented. (R165) -/
  | revocationDone
  /-- The distributor delivers a stored page into a subscription's buffer. (R265) -/
  | streamDelivery
  /-- On a refresh window, one burst is scrubbed and corrected, repaired or poisoned. (R106) -/
  | scrubRead
  /-- The home writes a protected granule and sends parity deltas. (R104) -/
  | protectedWrite
  /-- A parity holder applies a delta and acknowledges. (R104) -/
  | parityDelta
  /-- The service processors declare an erasure-group member lost. (R105) -/
  | memberLoss
  /-- Surviving members apply deltas and rebuild the lost frames. (R105) -/
  | erasureRebuild
  /-- A store to the page-move queue register enqueues a page-move record. (R99) -/
  | pageMoveQueueStore
  /-- A page-move record is checked and starts moving frames. (R100) -/
  | pageMoveRecord
  /-- One home frame is marked busy, copied and rebound. (R101) -/
  | frameMove
  /-- A flit that fails its CRC is replayed. (R112) -/
  | linkReplay
  /-- An I/O die receives a packet and drops it or accepts it by incarnation. (R123) -/
  | packetArrival
  /-- A request unanswered for 100 microseconds is sent again. (R116) -/
  | requestResend
  /-- The home serves a shared request for a line. (R119) -/
  | gets
  /-- The home invalidates other holders and grants a line in M. (R119) -/
  | getm
  /-- A write-back of an M or O line updates memory. (R119) -/
  | writeBack
  /-- A holder evicts an E or S line. (R119) -/
  | eviction
  /-- A domain cache receives an invalidation and drops a line. (R119) -/
  | invalidation
  /-- A full directory invalidates the holders of the line it evicts. (R119) -/
  | directoryEviction
  /-- After a vote, a module advances its incarnation and announces it. (R124) -/
  | incarnationChange
  /-- A translation miss goes to a walker, which reads the page table. (R131) -/
  | translationWalk
  /-- A walk returns its leaf or translation fault and the waiting tasks proceed. (R131) -/
  | walkComplete
  /-- A home grants a queued reservation of a word. (R343) -/
  | reservationGrant
  /-- A home performs a release and the writes held behind the reservation. (R343) -/
  | reservationRelease
  /-- A message reaches a mailbox and is refused, held or accepted. (R338) -/
  | messageArrival
  /-- A message's reply arrives and the sender's MSEND completes. (R339) -/
  | msendReply
  /-- At a phase completion, held messages are published in sender and sequence order. (R340) -/
  | heldMessageBatch
  /-- A handler task starts for the next published message of a mailbox. (R341) -/
  | handlerStart
  /-- A collective engine receives and combines a share during its row, column or gather phase. (R287) -/
  | colExchange
  /-- The coordinator receives a ready notice and sends commit once all members are ready. (R287) -/
  | collectiveReady
  /-- A member receives commit, forwards it, rounds and writes its result. (R287) -/
  | collectiveCommit
  /-- A collective fails before its commit point and every member's transfer stops. (R293) -/
  | collectiveAbort
  /-- After the coordinator is lost, the next member asks the survivors and sends commit or abort. (R287) -/
  | coordinatorTakeover
  /-- A trap handler starts for the next trapped task of the VI on the tile. (R374) -/
  | trapHandlerStart
  /-- A store to the pre-emption queue register enqueues a pre-emption request. (R377) -/
  | preemptionQueueStore
  /-- A task is stopped and its commands, blocks and lines are saved, then the status is written. (R378) -/
  | preemption
  /-- A store to the resume register makes a pre-empted task ready again. (R380) -/
  | resume
  /-- A containment level is discarded, its effects undone and the level re-executed. (R387) -/
  | domainDiscard
  /-- After SIGC entries, the tie-break signature is compared with SIGL and SIGT. (R390) -/
  | tieBreakComparison
  /-- An uncorrectable control-state error fences, resets and quarantines a rectangle. (R392) -/
  | rectangleReset
  /-- A vote quarantines a tile. (R394) -/
  | quarantine
  /-- A vote releases a quarantined tile or rectangle after its test passes. (R394) -/
  | quarantineRelease
  /-- A structural test of one unit completes and appends a result entry. (R417) -/
  | structuralTest
  /-- After a vote, a die is fenced, rebound to a spare in a new map epoch and unfenced. (R18) -/
  | dieRetirement
  /-- On host request, a degraded die's slices are copied to a spare and swapped. (R395) -/
  | dieEvacuation
  /-- When the voters disagree, the module enters the held state. (R393) -/
  | heldState
  /-- SP3 takes the place of a voter that stops answering. (R393) -/
  | voterReplacement
  /-- Recovery fails a request, which gives code 0x19, status 3 or transfer code 0x06. (R397) -/
  | remoteFailure
  /-- A write to a control-space or control-page register that has no row of its own; a refusal is recorded. (R401) -/
  | controlSpaceWrite
  /-- Writes the VI's trap configuration, or refuses it. (R373) -/
  | trapConfigurationWrite
  /-- Writes a mailbox entry, with checks made when doubleword 0 is written. (R400) -/
  | mailboxEntryWrite
  /-- Configures or removes a stream entry, or refuses the write. (R263) -/
  | streamEntryWrite
  /-- Configures a work queue or reopens it. (R319) -/
  | workQueueConfigWrite
  /-- Defines or changes a rectangle, or refuses the write. (R400) -/
  | rectangleWrite
  /-- Cancels a launch and ends its uninstantiated tasks. (R396) -/
  | lcancel
  /-- The host bridge performs a host request through a VI's aperture. (R402) -/
  | hostRequest
  /-- A 64-byte host write enqueues a launch record in a launch window. (R403) -/
  | launchWindowWrite
  /-- A queued window record is processed as LAUNCH once a launch-table entry is free. (R403) -/
  | hostLaunchStart
  /-- Setting VICTL.ENABLE enables a VI. (R404) -/
  | viEnable
  /-- Setting VICTL.STOP refuses new launches and spawns. (R404) -/
  | viStop
  /-- STOPPED becomes 1 once the conditions of R95 hold. (R404) -/
  | viStopped
  /-- Sets a VI's domain job tag unless another enabled VI already holds it. (R404) -/
  | jobtagWrite
  /-- Releases every frozen master of the VI. (R404) -/
  | frzclr
  /-- Binds or unbinds a virtual die while the VI is stopped. (R95) -/
  | contextEntryWrite
  /-- A HALLOCN write with OP 0 performs ALLOC for the VI. (R406) -/
  | hostAlloc
  /-- A HALLOCN write with OP 1 performs FREE for the VI. (R406) -/
  | hostFree
  /-- The host approves a pending die sparing in host-assisted mode. (R409) -/
  | sparingApproval
  /-- The host starts a pending erasure rebuild in host-assisted mode. (R409) -/
  | rebuildStart
  /-- Sets the KIND of a range of frames and writes their parity. (R409) -/
  | eraskind
  /-- Setting SET starts the exchange of erasure member lists. (R410) -/
  | erasgrpSet
  /-- The service processors find all ten lists matching and VALID becomes 1. (R410) -/
  | erasureGroupMatch
  /-- The host advances its consumed count, which lets held events be appended. (R411) -/
  | heqack
  /-- HEACT with k = 0 resumes the trapped task named by HEWP. (R412) -/
  | heactResume
  /-- HEACT with k = 1 ends the trapped task. (R412) -/
  | heactEnd
  /-- HEACT with k = 2 discards and re-executes the innermost domain. (R412) -/
  | heactDiscard
  /-- Completes a host-assisted walk with the leaf in HLEAF. (R412) -/
  | hwalk
  /-- The service processors verify, measure and configure the module, then enable it. (R414) -/
  | boot
  /-- The host writes a Streusel image to the inactive bank. (R414) -/
  | firmwareUpdate
  /-- A nonce request returns a doubly signed attestation report. (R415) -/
  | attestationRequest
  /-- Fetching and decoding an encoding that R47 and R48 do not assign, or one with non-zero reserved fields, raises the precise illegal-instruction
  fault. (R49) -/
  | illegalInstruction
  /-- A Kreyn Link port fails through persistent replay or loss and goes dark, so packets take detour routes. (R398) -/
  | linkPortFailure
  /-- An HBM stack fails, its protected frames are rebuilt and its plain frames are poisoned. (R398) -/
  | hbmStackFailure
  /-- A packet whose two first hops have had no free credit in its class for 256 flit slots is sent on a detour through a row peer. (R114) -/
  | detour
  deriving DecidableEq, Repr

end Sys2Proof
end

