-- ==== Sys2Proof/WellFormed.lean ====
section
/-! DEFINITION. WellFormed: the values an entry accepts in its fields (R41 to R45, R48, R49, R220), as one Bool per constructor.
For an event row it says that the unit named exists (R15, R21, R22, R25, R91). -/

namespace Sys2Proof

/-- INT of R220. -/
def acceptsInt (y : BitVec 5) : Bool := [1#5, 2#5, 3#5, 4#5, 9#5, 10#5, 11#5, 12#5].contains y

/-- FLT of R220. -/
def acceptsFlt (y : BitVec 5) : Bool := [0x15#5, 0x16#5, 0x17#5, 0x18#5].contains y

/-- FN of R220. -/
def acceptsFn (y : BitVec 5) : Bool := [0x15#5, 0x16#5, 0x17#5].contains y

/-- INT and FLT of R220. -/
def acceptsIntFlt (y : BitVec 5) : Bool := acceptsInt y || acceptsFlt y

/-- The types of VTOPK (R220): I32, N32 and FP32. -/
def acceptsTopk (y : BitVec 5) : Bool := [3#5, 11#5, 0x17#5].contains y

/-- The element formats of an MX block (R70, R220). -/
def acceptsMx (y : BitVec 5) : Bool := [0x10#5, 0x11#5, 0x12#5, 0x13#5, 0x14#5, 1#5].contains y

/-- The types VCVT converts between (R239): I4 to I64, N4 to N64 and E2M1 to FP64. -/
def acceptsCvt (y : BitVec 5) : Bool := decide (y.toNat ≤ 4) || decide (8 ≤ y.toNat ∧ y.toNat ≤ 12) || decide (16 ≤ y.toNat ∧ y.toNat ≤ 24)

/-- The mask codes of R45: 0b000, or 0b1mm. -/
def acceptsMask (m : BitVec 3) : Bool := m == 0#3 || decide (4 ≤ m.toNat)

/-- The field values that the entries accept. -/
def Instr.wf : Instr → Bool
  | .addS s d => !(s == 0#5 && d == 0#5)
  | .subS _ _ => true
  | .andS _ _ => true
  | .orS _ _ => true
  | .xorS _ _ => true
  | .shlS _ _ => true
  | .shrS _ _ => true
  | .movS s d => !(s == 0#5 && d == 0#5)
  | .nop => true
  | .vaddS _ _ => true
  | .vsubS _ _ => true
  | .vmulS _ _ => true
  | .vminS _ _ => true
  | .vmaxS _ _ => true
  | .vandS _ _ => true
  | .vorS _ _ => true
  | .vxorS _ _ => true
  | .add _ _ _ _ => true
  | .sub _ _ _ _ => true
  | .and _ _ _ _ => true
  | .or _ _ _ _ => true
  | .xor _ _ _ _ => true
  | .andn _ _ _ _ => true
  | .orn _ _ _ _ => true
  | .xnor _ _ _ _ => true
  | .shl _ _ _ _ => true
  | .shr _ _ _ _ => true
  | .sra _ _ _ _ => true
  | .ror _ _ _ _ => true
  | .min _ _ _ _ => true
  | .max _ _ _ _ => true
  | .minn _ _ _ _ => true
  | .maxn _ _ _ _ => true
  | .mul _ _ _ _ => true
  | .mulh _ _ _ _ => true
  | .mulhn _ _ _ _ => true
  | .div _ _ _ _ => true
  | .divn _ _ _ _ => true
  | .rem _ _ _ _ => true
  | .remn _ _ _ _ => true
  | .mov _ _ _ => true
  | .clz _ _ _ => true
  | .ctz _ _ _ => true
  | .popc _ _ _ => true
  | .brev _ _ _ => true
  | .bswap _ _ _ => true
  | .sext e _ _ _ => decide (e.toNat ≤ 2)
  | .zext e _ _ _ => decide (e.toNat ≤ 2)
  | .shadd1 _ _ _ _ => true
  | .shadd2 _ _ _ _ => true
  | .shadd3 _ _ _ _ => true
  | .shadd4 _ _ _ _ => true
  | .mksa _ _ _ _ => true
  | .addi _ _ _ => true
  | .andi _ _ _ => true
  | .ori _ _ _ => true
  | .xori _ _ _ => true
  | .shli _ _ _ => true
  | .shri _ _ _ => true
  | .srai _ _ _ => true
  | .muli _ _ _ => true
  | .li _ _ => true
  | .lix _ _ => true
  | .lpc _ _ => true
  | .ldB _ _ _ _ => true
  | .ldH _ _ _ _ => true
  | .ldW _ _ _ _ => true
  | .ldD _ _ _ _ => true
  | .ldNb _ _ _ _ => true
  | .ldNh _ _ _ _ => true
  | .ldNw _ _ _ _ => true
  | .stB _ _ _ _ => true
  | .stH _ _ _ _ => true
  | .stW _ _ _ _ => true
  | .stD _ _ _ _ => true
  | .ldAcq _ c _ _ _ => decide (c.toNat ≤ 4)
  | .stRel _ c _ _ _ => decide (c.toNat ≤ 4)
  | .scopeOpen _ _ => true
  | .scopeClose _ _ => true
  | .mbr _ _ _ => true
  | .mbw _ _ _ => true
  | .alloc _ _ _ _ => true
  | .free _ _ _ _ => true
  | .rsv _ _ _ => true
  | .relw _ _ _ => true
  | .reln _ _ => true
  | .casW _ _ _ _ => true
  | .casD _ _ _ _ => true
  | .amoAdd r _ _ _ d _ => (r == 1#1 || d == 0#5)
  | .amoAnd r _ _ _ d _ => (r == 1#1 || d == 0#5)
  | .amoOr r _ _ _ d _ => (r == 1#1 || d == 0#5)
  | .amoXor r _ _ _ d _ => (r == 1#1 || d == 0#5)
  | .amoMin r _ _ _ d _ => (r == 1#1 || d == 0#5)
  | .amoMax r _ _ _ d _ => (r == 1#1 || d == 0#5)
  | .amoMinn r _ _ _ d _ => (r == 1#1 || d == 0#5)
  | .amoMaxn r _ _ _ d _ => (r == 1#1 || d == 0#5)
  | .amoSwap r _ _ _ d _ => (r == 1#1 || d == 0#5)
  | .fence c _ => decide (c.toNat ≤ 4)
  | .fenceSc c _ => decide (c.toNat ≤ 4)
  | .bprep _ _ => true
  | .bprepr _ _ _ => true
  | .cmpEq _ _ _ _ => true
  | .cmpNe _ _ _ _ => true
  | .cmpLt _ _ _ _ => true
  | .cmpGe _ _ _ _ => true
  | .cmpLtn _ _ _ _ => true
  | .cmpGen _ _ _ _ => true
  | .pand _ _ _ _ => true
  | .por _ _ _ _ => true
  | .pnot _ _ _ => true
  | .br _ _ => true
  | .brP _ _ _ => true
  | .brNp _ _ _ => true
  | .brl _ _ _ => true
  | .brdec _ _ _ => true
  | .iinv _ => true
  | .launch _ _ _ => true
  | .spawn _ _ => true
  | .exit _ => true
  | .yield _ => true
  | .qdist _ _ _ => true
  | .join e _ _ => decide (1 ≤ e.toNat ∧ e.toNat ≤ 3)
  | .leave _ => true
  | .gbar _ _ => true
  | .sstep e _ _ _ => decide (e.toNat ≤ 3)
  | .ddec _ _ _ => true
  | .dadd _ _ _ => true
  | .waitc e _ _ _ => decide (1 ≤ e.toNat ∧ e.toNat ≤ 4)
  | .msend _ _ _ => true
  | .wpush _ _ _ => true
  | .wpop _ _ _ _ => true
  | .wpopNb _ _ _ _ => true
  | .wclose _ _ => true
  | .vadd y m _ _ _ => acceptsIntFlt y && acceptsMask m
  | .vsub y m _ _ _ => acceptsIntFlt y && acceptsMask m
  | .vmul y m _ _ _ => acceptsIntFlt y && acceptsMask m
  | .vfma y m _ _ _ => acceptsIntFlt y && acceptsMask m
  | .vfms y m _ _ _ => acceptsIntFlt y && acceptsMask m
  | .vmin y m _ _ _ => acceptsIntFlt y && acceptsMask m
  | .vmax y m _ _ _ => acceptsIntFlt y && acceptsMask m
  | .vabs y m _ _ => acceptsIntFlt y && acceptsMask m
  | .vneg y m _ _ => acceptsIntFlt y && acceptsMask m
  | .vadds y m _ _ _ => acceptsInt y && acceptsMask m
  | .vsubs y m _ _ _ => acceptsInt y && acceptsMask m
  | .vdiv y m _ _ _ => acceptsIntFlt y && acceptsMask m
  | .vsqrt y m _ _ => acceptsFlt y && acceptsMask m
  | .vrcp y m _ _ => acceptsFn y && acceptsMask m
  | .vrsq y m _ _ => acceptsFn y && acceptsMask m
  | .vexp2 y m _ _ => acceptsFn y && acceptsMask m
  | .vlog2 y m _ _ => acceptsFn y && acceptsMask m
  | .vcmpEq y m _ _ _ => acceptsIntFlt y && acceptsMask m
  | .vcmpNe y m _ _ _ => acceptsIntFlt y && acceptsMask m
  | .vcmpLt y m _ _ _ => acceptsIntFlt y && acceptsMask m
  | .vcmpLe y m _ _ _ => acceptsIntFlt y && acceptsMask m
  | .vcmpUn y m _ _ _ => acceptsFlt y && acceptsMask m
  | .vsel y _ _ _ _ => acceptsIntFlt y
  | .vclass y m _ _ => acceptsFlt y && acceptsMask m
  | .vand y m _ _ _ => acceptsIntFlt y && acceptsMask m
  | .vor y m _ _ _ => acceptsIntFlt y && acceptsMask m
  | .vxor y m _ _ _ => acceptsIntFlt y && acceptsMask m
  | .vnot y m _ _ => acceptsIntFlt y && acceptsMask m
  | .vshl y m _ _ _ => acceptsInt y && acceptsMask m
  | .vshr y m _ _ _ => acceptsInt y && acceptsMask m
  | .vsra y m _ _ _ => acceptsInt y && acceptsMask m
  | .vld _ _ _ _ => true
  | .vst _ _ _ _ => true
  | .vgath _ _ _ _ => true
  | .vscat _ _ _ _ => true
  | .vbcast _ _ _ => true
  | .vextr _ _ _ _ => true
  | .vperm y m _ _ _ => acceptsIntFlt y && acceptsMask m
  | .vslide y m _ _ _ => acceptsIntFlt y && acceptsMask m
  | .vzip y _ _ _ => acceptsIntFlt y
  | .vuzp y _ _ _ => acceptsIntFlt y
  | .vldc _ _ _ => true
  | .vldcKeep _ _ _ => true
  | .vstc _ _ _ => true
  | .vred y m _ _ => acceptsIntFlt y && acceptsMask m
  | .vredBox y m _ _ => acceptsIntFlt y && acceptsMask m
  | .vrmin y m _ _ => acceptsIntFlt y && acceptsMask m
  | .vrminBox y m _ _ => acceptsIntFlt y && acceptsMask m
  | .vrmax y m _ _ => acceptsIntFlt y && acceptsMask m
  | .vrmaxBox y m _ _ => acceptsIntFlt y && acceptsMask m
  | .vscan y m _ _ => acceptsIntFlt y && acceptsMask m
  | .vxacc m _ _ _ => acceptsMask m
  | .vxdrain y _ h _ _ => (y == 0x17#5 && h == 0#1 || y == 0x18#5)
  | .vtopk y m _ _ _ => acceptsTopk y && acceptsMask m
  | .vquant y _ _ => acceptsMx y
  | .vdeq y _ _ => acceptsMx y
  | .vcvt s y m _ _ => acceptsCvt s && acceptsCvt y && s != y && acceptsMask m
  | .mxcfg _ _ _ => true
  | .mxzero _ _ => true
  | .mxmac _ _ => true
  | .mxwait _ _ => true
  | .mxchk _ _ _ => true
  | .mxa _ _ _ => true
  | .mxaKeep _ _ _ => true
  | .mxaHold _ _ _ => true
  | .mxb _ _ _ => true
  | .mxbKeep _ _ _ => true
  | .mxbHold _ _ _ => true
  | .mxdrain k _ _ _ _ => k != 6#3
  | .ufcfg _ _ => true
  | .mxaUf _ _ => true
  | .ssub _ _ _ => true
  | .sunsub _ _ => true
  | .mxbS e _ _ => decide (e.toNat < 24)
  | .mxspill _ _ _ => true
  | .mxfill _ _ _ => true
  | .mvset e _ _ => decide (e.toNat ≤ 10)
  | .mvget e _ _ => decide (e.toNat ≤ 10)
  | .mvgo _ _ => true
  | .mvchain _ _ _ => true
  | .mvtst _ _ _ => true
  | .mvwait _ _ _ => true
  | .bxinit _ _ _ => true
  | .bxarv e _ _ _ => decide (1 ≤ e.toNat ∧ e.toNat ≤ 3)
  | .bxwait e _ _ _ => decide (1 ≤ e.toNat ∧ e.toNat ≤ 3)
  | .bxtst e _ _ _ => decide (1 ≤ e.toNat ∧ e.toNat ≤ 3)
  | .cbacqP _ _ _ _ => true
  | .cbacqC _ _ _ _ => true
  | .cbrelP _ _ _ => true
  | .cbrelC _ _ _ => true
  | .cbqry _ _ _ _ => true
  | .cbinitBuffer _ _ => true
  | .cbinitWindow _ _ => true
  | .glaze e _ _ => decide (1 ≤ e.toNat ∧ e.toNat ≤ 3)
  | .rdsr e _ _ => decide (e.toNat ≤ 28)
  | .wrsr e _ _ => decide (e.toNat ≤ 28)
  | .tlbinv e _ _ => decide (e.toNat ≤ 2)
  | .trap _ _ _ => true
  | .eret e _ _ => decide (e.toNat ≤ 2)
  | .cdopen _ _ => true
  | .cdclose _ _ => true
  | .taskAdmission => true
  | .taskReady => true
  | .readyAging => true
  | .rotation => true
  | .leadDistributorPlacement => true
  | .taskInstantiation => true
  | .registerCacheFill => true
  | .snapshotFetch => true
  | .codeFetch => true
  | .tilePowerGating => true
  | .wake => true
  | .wakeComplete => true
  | .frequencyChange => true
  | .powerLimit => true
  | .vectorCommandBegin => true
  | .vectorCommandComplete => true
  | .matrixCommandBegin => true
  | .matrixCommandComplete => true
  | .boxWrite => true
  | .cbGrant => true
  | .transferBegin => true
  | .moverTurn => true
  | .transferCompletion => true
  | .chainDescriptorFetch => true
  | .handleCacheFill => true
  | .revoke => true
  | .revocationDone => true
  | .streamDelivery => true
  | .scrubRead => true
  | .protectedWrite => true
  | .parityDelta => true
  | .memberLoss => true
  | .erasureRebuild => true
  | .pageMoveQueueStore => true
  | .pageMoveRecord => true
  | .frameMove => true
  | .linkReplay => true
  | .packetArrival => true
  | .requestResend => true
  | .gets => true
  | .getm => true
  | .writeBack => true
  | .eviction => true
  | .invalidation => true
  | .directoryEviction => true
  | .incarnationChange => true
  | .translationWalk => true
  | .walkComplete => true
  | .reservationGrant => true
  | .reservationRelease => true
  | .messageArrival => true
  | .msendReply => true
  | .heldMessageBatch => true
  | .handlerStart => true
  | .colExchange => true
  | .collectiveReady => true
  | .collectiveCommit => true
  | .collectiveAbort => true
  | .coordinatorTakeover => true
  | .trapHandlerStart => true
  | .preemptionQueueStore => true
  | .preemption => true
  | .resume => true
  | .domainDiscard => true
  | .tieBreakComparison => true
  | .rectangleReset => true
  | .quarantine => true
  | .quarantineRelease => true
  | .structuralTest => true
  | .dieRetirement => true
  | .dieEvacuation => true
  | .heldState => true
  | .voterReplacement => true
  | .remoteFailure => true
  | .controlSpaceWrite => true
  | .trapConfigurationWrite => true
  | .mailboxEntryWrite => true
  | .streamEntryWrite => true
  | .workQueueConfigWrite => true
  | .rectangleWrite => true
  | .lcancel => true
  | .hostRequest => true
  | .launchWindowWrite => true
  | .hostLaunchStart => true
  | .viEnable => true
  | .viStop => true
  | .viStopped => true
  | .jobtagWrite => true
  | .frzclr => true
  | .contextEntryWrite => true
  | .hostAlloc => true
  | .hostFree => true
  | .sparingApproval => true
  | .rebuildStart => true
  | .eraskind => true
  | .erasgrpSet => true
  | .erasureGroupMatch => true
  | .heqack => true
  | .heactResume => true
  | .heactEnd => true
  | .heactDiscard => true
  | .hwalk => true
  | .boot => true
  | .firmwareUpdate => true
  | .attestationRequest => true
  | .illegalInstruction => true
  | .linkPortFailure => true
  | .hbmStackFailure => true
  | .detour => true

end Sys2Proof
end

