-- ==== Sys2Proof/Decode.lean ====
section
/-! DEFINITION. The decoder and the encoder of the 16-bit and 32-bit instructions (R32 to R49).
The decoder splits a word at the field boundaries of its format (R38), picks the row by major and minor code (R46, R47),
requires every unused field bit to be 0 (R41, R49), and then asks WellFormed whether the entry accepts the values (R49, last row).
The encoder joins the same pieces from the highest bit to the lowest. -/

namespace Sys2Proof

/-- The n bits of a 32-bit word from bit lo upward. -/
abbrev fld (w : BitVec 32) (lo n : Nat) : BitVec n := w.extractLsb' lo n

/-- The n bits of a halfword from bit lo upward. -/
abbrev fld16 (w : BitVec 16) (lo n : Nat) : BitVec n := w.extractLsb' lo n

/-- The sixteen short forms and NOP (R34, R35, R37). The word 0x000E is NOP. -/
def decode16Raw (w : BitVec 16) : Option Instr :=
  if w == 14#16 then some .nop
  else if fld16 w 15 1 == 0#1 then
    match (fld16 w 0 5).toNat with
    | 0 => some (.addS (fld16 w 10 5) (fld16 w 5 5))
    | 2 => some (.subS (fld16 w 10 5) (fld16 w 5 5))
    | 4 => some (.andS (fld16 w 10 5) (fld16 w 5 5))
    | 6 => some (.orS (fld16 w 10 5) (fld16 w 5 5))
    | 8 => some (.xorS (fld16 w 10 5) (fld16 w 5 5))
    | 10 => some (.shlS (fld16 w 10 5) (fld16 w 5 5))
    | 12 => some (.shrS (fld16 w 10 5) (fld16 w 5 5))
    | 14 => some (.movS (fld16 w 10 5) (fld16 w 5 5))
    | 16 => if fld16 w 14 1 == 0#1 && fld16 w 9 1 == 0#1 then some (.vaddS (fld16 w 10 4) (fld16 w 5 4)) else none
    | 18 => if fld16 w 14 1 == 0#1 && fld16 w 9 1 == 0#1 then some (.vsubS (fld16 w 10 4) (fld16 w 5 4)) else none
    | 20 => if fld16 w 14 1 == 0#1 && fld16 w 9 1 == 0#1 then some (.vmulS (fld16 w 10 4) (fld16 w 5 4)) else none
    | 22 => if fld16 w 14 1 == 0#1 && fld16 w 9 1 == 0#1 then some (.vminS (fld16 w 10 4) (fld16 w 5 4)) else none
    | 24 => if fld16 w 14 1 == 0#1 && fld16 w 9 1 == 0#1 then some (.vmaxS (fld16 w 10 4) (fld16 w 5 4)) else none
    | 26 => if fld16 w 14 1 == 0#1 && fld16 w 9 1 == 0#1 then some (.vandS (fld16 w 10 4) (fld16 w 5 4)) else none
    | 28 => if fld16 w 14 1 == 0#1 && fld16 w 9 1 == 0#1 then some (.vorS (fld16 w 10 4) (fld16 w 5 4)) else none
    | 30 => if fld16 w 14 1 == 0#1 && fld16 w 9 1 == 0#1 then some (.vxorS (fld16 w 10 4) (fld16 w 5 4)) else none
    | _ => none
  else none

/-- Major 0x00, format A. -/
def decodeMajor00 (w : BitVec 32) : Option Instr :=
  match (fld w 26 6).toNat with
  | 0 => some (.add (fld w 21 5) (fld w 16 5) (fld w 11 5) (fld w 7 4))
  | 1 => some (.sub (fld w 21 5) (fld w 16 5) (fld w 11 5) (fld w 7 4))
  | 2 => some (.and (fld w 21 5) (fld w 16 5) (fld w 11 5) (fld w 7 4))
  | 3 => some (.or (fld w 21 5) (fld w 16 5) (fld w 11 5) (fld w 7 4))
  | 4 => some (.xor (fld w 21 5) (fld w 16 5) (fld w 11 5) (fld w 7 4))
  | 5 => some (.andn (fld w 21 5) (fld w 16 5) (fld w 11 5) (fld w 7 4))
  | 6 => some (.orn (fld w 21 5) (fld w 16 5) (fld w 11 5) (fld w 7 4))
  | 7 => some (.xnor (fld w 21 5) (fld w 16 5) (fld w 11 5) (fld w 7 4))
  | 8 => some (.shl (fld w 21 5) (fld w 16 5) (fld w 11 5) (fld w 7 4))
  | 9 => some (.shr (fld w 21 5) (fld w 16 5) (fld w 11 5) (fld w 7 4))
  | 10 => some (.sra (fld w 21 5) (fld w 16 5) (fld w 11 5) (fld w 7 4))
  | 11 => some (.ror (fld w 21 5) (fld w 16 5) (fld w 11 5) (fld w 7 4))
  | 12 => some (.min (fld w 21 5) (fld w 16 5) (fld w 11 5) (fld w 7 4))
  | 13 => some (.max (fld w 21 5) (fld w 16 5) (fld w 11 5) (fld w 7 4))
  | 14 => some (.minn (fld w 21 5) (fld w 16 5) (fld w 11 5) (fld w 7 4))
  | 15 => some (.maxn (fld w 21 5) (fld w 16 5) (fld w 11 5) (fld w 7 4))
  | _ => none

/-- Major 0x01, format A. -/
def decodeMajor01 (w : BitVec 32) : Option Instr :=
  match (fld w 26 6).toNat with
  | 0 => some (.mul (fld w 21 5) (fld w 16 5) (fld w 11 5) (fld w 7 4))
  | 1 => some (.mulh (fld w 21 5) (fld w 16 5) (fld w 11 5) (fld w 7 4))
  | 2 => some (.mulhn (fld w 21 5) (fld w 16 5) (fld w 11 5) (fld w 7 4))
  | 4 => some (.div (fld w 21 5) (fld w 16 5) (fld w 11 5) (fld w 7 4))
  | 5 => some (.divn (fld w 21 5) (fld w 16 5) (fld w 11 5) (fld w 7 4))
  | 6 => some (.rem (fld w 21 5) (fld w 16 5) (fld w 11 5) (fld w 7 4))
  | 7 => some (.remn (fld w 21 5) (fld w 16 5) (fld w 11 5) (fld w 7 4))
  | _ => none

/-- Major 0x02, format X. -/
def decodeMajor02 (w : BitVec 32) : Option Instr :=
  match (fld w 26 6).toNat with
  | 0 => if fld w 21 5 == 0#5 then some (.mov (fld w 16 5) (fld w 11 5) (fld w 7 4)) else none
  | 1 => if fld w 21 5 == 0#5 then some (.clz (fld w 16 5) (fld w 11 5) (fld w 7 4)) else none
  | 2 => if fld w 21 5 == 0#5 then some (.ctz (fld w 16 5) (fld w 11 5) (fld w 7 4)) else none
  | 3 => if fld w 21 5 == 0#5 then some (.popc (fld w 16 5) (fld w 11 5) (fld w 7 4)) else none
  | 4 => if fld w 21 5 == 0#5 then some (.brev (fld w 16 5) (fld w 11 5) (fld w 7 4)) else none
  | 5 => if fld w 21 5 == 0#5 then some (.bswap (fld w 16 5) (fld w 11 5) (fld w 7 4)) else none
  | 6 => some (.sext (fld w 21 5) (fld w 16 5) (fld w 11 5) (fld w 7 4))
  | 7 => some (.zext (fld w 21 5) (fld w 16 5) (fld w 11 5) (fld w 7 4))
  | _ => none

/-- Major 0x03, format A. -/
def decodeMajor03 (w : BitVec 32) : Option Instr :=
  match (fld w 26 6).toNat with
  | 0 => some (.shadd1 (fld w 21 5) (fld w 16 5) (fld w 11 5) (fld w 7 4))
  | 1 => some (.shadd2 (fld w 21 5) (fld w 16 5) (fld w 11 5) (fld w 7 4))
  | 2 => some (.shadd3 (fld w 21 5) (fld w 16 5) (fld w 11 5) (fld w 7 4))
  | 3 => some (.shadd4 (fld w 21 5) (fld w 16 5) (fld w 11 5) (fld w 7 4))
  | 8 => some (.mksa (fld w 21 5) (fld w 16 5) (fld w 11 5) (fld w 7 4))
  | _ => none

/-- Major 0x04, format I. -/
def decodeMajor04 (w : BitVec 32) : Option Instr :=
  some (.addi (fld w 17 15) (fld w 12 5) (fld w 7 5))

/-- Major 0x05, format I. -/
def decodeMajor05 (w : BitVec 32) : Option Instr :=
  some (.andi (fld w 17 15) (fld w 12 5) (fld w 7 5))

/-- Major 0x06, format I. -/
def decodeMajor06 (w : BitVec 32) : Option Instr :=
  some (.ori (fld w 17 15) (fld w 12 5) (fld w 7 5))

/-- Major 0x07, format I. -/
def decodeMajor07 (w : BitVec 32) : Option Instr :=
  some (.xori (fld w 17 15) (fld w 12 5) (fld w 7 5))

/-- Major 0x08, format I. -/
def decodeMajor08 (w : BitVec 32) : Option Instr :=
  if fld w 23 9 == 0#9 then some (.shli (fld w 17 6) (fld w 12 5) (fld w 7 5))
  else none

/-- Major 0x09, format I. -/
def decodeMajor09 (w : BitVec 32) : Option Instr :=
  if fld w 23 9 == 0#9 then some (.shri (fld w 17 6) (fld w 12 5) (fld w 7 5))
  else none

/-- Major 0x0A, format I. -/
def decodeMajor0A (w : BitVec 32) : Option Instr :=
  if fld w 23 9 == 0#9 then some (.srai (fld w 17 6) (fld w 12 5) (fld w 7 5))
  else none

/-- Major 0x0B, format I. -/
def decodeMajor0B (w : BitVec 32) : Option Instr :=
  some (.muli (fld w 17 15) (fld w 12 5) (fld w 7 5))

/-- Major 0x0C, format L. -/
def decodeMajor0C (w : BitVec 32) : Option Instr :=
  some (.li (fld w 12 20) (fld w 7 5))

/-- Major 0x0D, format L. -/
def decodeMajor0D (w : BitVec 32) : Option Instr :=
  some (.lix (fld w 12 20) (fld w 7 5))

/-- Major 0x0E, format L. -/
def decodeMajor0E (w : BitVec 32) : Option Instr :=
  some (.lpc (fld w 12 20) (fld w 7 5))

/-- Major 0x10, format M. -/
def decodeMajor10 (w : BitVec 32) : Option Instr :=
  match (fld w 21 3).toNat with
  | 0 => some (.ldB (fld w 24 8) (fld w 16 5) (fld w 11 5) (fld w 7 4))
  | 1 => some (.ldH (fld w 24 8) (fld w 16 5) (fld w 11 5) (fld w 7 4))
  | 2 => some (.ldW (fld w 24 8) (fld w 16 5) (fld w 11 5) (fld w 7 4))
  | 3 => some (.ldD (fld w 24 8) (fld w 16 5) (fld w 11 5) (fld w 7 4))
  | 4 => some (.ldNb (fld w 24 8) (fld w 16 5) (fld w 11 5) (fld w 7 4))
  | 5 => some (.ldNh (fld w 24 8) (fld w 16 5) (fld w 11 5) (fld w 7 4))
  | 6 => some (.ldNw (fld w 24 8) (fld w 16 5) (fld w 11 5) (fld w 7 4))
  | _ => none

/-- Major 0x11, format M. -/
def decodeMajor11 (w : BitVec 32) : Option Instr :=
  match (fld w 21 3).toNat with
  | 0 => some (.stB (fld w 24 8) (fld w 16 5) (fld w 11 5) (fld w 7 4))
  | 1 => some (.stH (fld w 24 8) (fld w 16 5) (fld w 11 5) (fld w 7 4))
  | 2 => some (.stW (fld w 24 8) (fld w 16 5) (fld w 11 5) (fld w 7 4))
  | 3 => some (.stD (fld w 24 8) (fld w 16 5) (fld w 11 5) (fld w 7 4))
  | _ => none

/-- Major 0x12, format M. -/
def decodeMajor12 (w : BitVec 32) : Option Instr :=
  some (.ldAcq (fld w 24 8) (fld w 21 3) (fld w 16 5) (fld w 11 5) (fld w 7 4))

/-- Major 0x13, format M. -/
def decodeMajor13 (w : BitVec 32) : Option Instr :=
  some (.stRel (fld w 24 8) (fld w 21 3) (fld w 16 5) (fld w 11 5) (fld w 7 4))

/-- Major 0x14, format A. -/
def decodeMajor14 (w : BitVec 32) : Option Instr :=
  match (fld w 26 6).toNat with
  | 0 => if fld w 21 5 == 0#5 && fld w 11 5 == 0#5 then some (.scopeOpen (fld w 16 5) (fld w 7 4)) else none
  | 1 => if fld w 21 5 == 0#5 && fld w 11 5 == 0#5 then some (.scopeClose (fld w 16 5) (fld w 7 4)) else none
  | 2 => if fld w 21 5 == 0#5 && fld w 18 3 == 0#3 then some (.mbr (fld w 16 2) (fld w 11 5) (fld w 7 4)) else none
  | 3 => if fld w 21 5 == 0#5 && fld w 13 3 == 0#3 then some (.mbw (fld w 16 5) (fld w 11 2) (fld w 7 4)) else none
  | 4 => some (.alloc (fld w 21 5) (fld w 16 5) (fld w 11 5) (fld w 7 4))
  | 5 => some (.free (fld w 21 5) (fld w 16 5) (fld w 11 5) (fld w 7 4))
  | _ => none

/-- Major 0x15, format A. -/
def decodeMajor15 (w : BitVec 32) : Option Instr :=
  match (fld w 26 6).toNat with
  | 0 => if fld w 21 5 == 0#5 then some (.rsv (fld w 16 5) (fld w 11 5) (fld w 7 4)) else none
  | 1 => if fld w 11 5 == 0#5 then some (.relw (fld w 21 5) (fld w 16 5) (fld w 7 4)) else none
  | 2 => if fld w 21 5 == 0#5 && fld w 11 5 == 0#5 then some (.reln (fld w 16 5) (fld w 7 4)) else none
  | 4 => some (.casW (fld w 21 5) (fld w 16 5) (fld w 11 5) (fld w 7 4))
  | 5 => some (.casD (fld w 21 5) (fld w 16 5) (fld w 11 5) (fld w 7 4))
  | _ => none

/-- Major 0x16, format A. -/
def decodeMajor16 (w : BitVec 32) : Option Instr :=
  match (fld w 26 4).toNat with
  | 0 => some (.amoAdd (fld w 31 1) (fld w 30 1) (fld w 21 5) (fld w 16 5) (fld w 11 5) (fld w 7 4))
  | 1 => some (.amoAnd (fld w 31 1) (fld w 30 1) (fld w 21 5) (fld w 16 5) (fld w 11 5) (fld w 7 4))
  | 2 => some (.amoOr (fld w 31 1) (fld w 30 1) (fld w 21 5) (fld w 16 5) (fld w 11 5) (fld w 7 4))
  | 3 => some (.amoXor (fld w 31 1) (fld w 30 1) (fld w 21 5) (fld w 16 5) (fld w 11 5) (fld w 7 4))
  | 4 => some (.amoMin (fld w 31 1) (fld w 30 1) (fld w 21 5) (fld w 16 5) (fld w 11 5) (fld w 7 4))
  | 5 => some (.amoMax (fld w 31 1) (fld w 30 1) (fld w 21 5) (fld w 16 5) (fld w 11 5) (fld w 7 4))
  | 6 => some (.amoMinn (fld w 31 1) (fld w 30 1) (fld w 21 5) (fld w 16 5) (fld w 11 5) (fld w 7 4))
  | 7 => some (.amoMaxn (fld w 31 1) (fld w 30 1) (fld w 21 5) (fld w 16 5) (fld w 11 5) (fld w 7 4))
  | 8 => some (.amoSwap (fld w 31 1) (fld w 30 1) (fld w 21 5) (fld w 16 5) (fld w 11 5) (fld w 7 4))
  | _ => none

/-- Major 0x17, format A. -/
def decodeMajor17 (w : BitVec 32) : Option Instr :=
  match (fld w 29 3).toNat with
  | 0 => if fld w 21 5 == 0#5 && fld w 16 5 == 0#5 && fld w 11 5 == 0#5 then some (.fence (fld w 26 3) (fld w 7 4)) else none
  | 1 => if fld w 21 5 == 0#5 && fld w 16 5 == 0#5 && fld w 11 5 == 0#5 then some (.fenceSc (fld w 26 3) (fld w 7 4)) else none
  | _ => none

/-- Major 0x18, format L. -/
def decodeMajor18 (w : BitVec 32) : Option Instr :=
  if fld w 10 2 == 0#2 then some (.bprep (fld w 12 20) (fld w 7 3))
  else none

/-- Major 0x19, format A. -/
def decodeMajor19 (w : BitVec 32) : Option Instr :=
  match (fld w 26 6).toNat with
  | 0 => if fld w 21 5 == 0#5 && fld w 14 2 == 0#2 then some (.bprepr (fld w 16 5) (fld w 11 3) (fld w 7 4)) else none
  | 8 => if fld w 14 2 == 0#2 then some (.cmpEq (fld w 21 5) (fld w 16 5) (fld w 11 3) (fld w 7 4)) else none
  | 9 => if fld w 14 2 == 0#2 then some (.cmpNe (fld w 21 5) (fld w 16 5) (fld w 11 3) (fld w 7 4)) else none
  | 10 => if fld w 14 2 == 0#2 then some (.cmpLt (fld w 21 5) (fld w 16 5) (fld w 11 3) (fld w 7 4)) else none
  | 11 => if fld w 14 2 == 0#2 then some (.cmpGe (fld w 21 5) (fld w 16 5) (fld w 11 3) (fld w 7 4)) else none
  | 12 => if fld w 14 2 == 0#2 then some (.cmpLtn (fld w 21 5) (fld w 16 5) (fld w 11 3) (fld w 7 4)) else none
  | 13 => if fld w 14 2 == 0#2 then some (.cmpGen (fld w 21 5) (fld w 16 5) (fld w 11 3) (fld w 7 4)) else none
  | 16 => if fld w 24 2 == 0#2 && fld w 19 2 == 0#2 && fld w 14 2 == 0#2 then some (.pand (fld w 21 3) (fld w 16 3) (fld w 11 3) (fld w 7 4)) else none
  | 17 => if fld w 24 2 == 0#2 && fld w 19 2 == 0#2 && fld w 14 2 == 0#2 then some (.por (fld w 21 3) (fld w 16 3) (fld w 11 3) (fld w 7 4)) else none
  | 18 => if fld w 21 5 == 0#5 && fld w 19 2 == 0#2 && fld w 14 2 == 0#2 then some (.pnot (fld w 16 3) (fld w 11 3) (fld w 7 4)) else none
  | _ => none

/-- Major 0x1A, format X. -/
def decodeMajor1A (w : BitVec 32) : Option Instr :=
  match (fld w 26 6).toNat with
  | 0 => if fld w 21 5 == 0#5 && fld w 19 2 == 0#2 && fld w 11 5 == 0#5 then some (.br (fld w 16 3) (fld w 7 4)) else none
  | 1 => if fld w 21 5 == 0#5 && fld w 19 2 == 0#2 && fld w 14 2 == 0#2 then some (.brP (fld w 16 3) (fld w 11 3) (fld w 7 4)) else none
  | 2 => if fld w 21 5 == 0#5 && fld w 19 2 == 0#2 && fld w 14 2 == 0#2 then some (.brNp (fld w 16 3) (fld w 11 3) (fld w 7 4)) else none
  | 3 => if fld w 21 5 == 0#5 && fld w 19 2 == 0#2 then some (.brl (fld w 16 3) (fld w 11 5) (fld w 7 4)) else none
  | 4 => if fld w 21 5 == 0#5 && fld w 19 2 == 0#2 then some (.brdec (fld w 16 3) (fld w 11 5) (fld w 7 4)) else none
  | _ => none

/-- Major 0x1B, format X. -/
def decodeMajor1B (w : BitVec 32) : Option Instr :=
  if fld w 26 6 == 0#6 && fld w 21 5 == 0#5 && fld w 16 5 == 0#5 && fld w 11 5 == 0#5 then some (.iinv (fld w 7 4))
  else none

/-- Major 0x1C, format X. -/
def decodeMajor1C (w : BitVec 32) : Option Instr :=
  match (fld w 26 6).toNat with
  | 0 => if fld w 21 5 == 0#5 then some (.launch (fld w 16 5) (fld w 11 5) (fld w 7 4)) else none
  | 1 => if fld w 21 5 == 0#5 && fld w 11 5 == 0#5 then some (.spawn (fld w 16 5) (fld w 7 4)) else none
  | 2 => if fld w 21 5 == 0#5 && fld w 16 5 == 0#5 && fld w 11 5 == 0#5 then some (.exit (fld w 7 4)) else none
  | 3 => if fld w 21 5 == 0#5 && fld w 16 5 == 0#5 && fld w 11 5 == 0#5 then some (.yield (fld w 7 4)) else none
  | 4 => if fld w 21 5 == 0#5 then some (.qdist (fld w 16 5) (fld w 11 5) (fld w 7 4)) else none
  | _ => none

/-- Major 0x1D, format X. -/
def decodeMajor1D (w : BitVec 32) : Option Instr :=
  match (fld w 26 6).toNat with
  | 0 => if fld w 11 5 == 0#5 then some (.join (fld w 21 5) (fld w 16 5) (fld w 7 4)) else none
  | 1 => if fld w 21 5 == 0#5 && fld w 16 5 == 0#5 && fld w 11 5 == 0#5 then some (.leave (fld w 7 4)) else none
  | 2 => if fld w 21 5 == 0#5 && fld w 11 5 == 0#5 then some (.gbar (fld w 16 5) (fld w 7 4)) else none
  | 3 => some (.sstep (fld w 21 5) (fld w 16 5) (fld w 11 5) (fld w 7 4))
  | _ => none

/-- Major 0x1E, format X. -/
def decodeMajor1E (w : BitVec 32) : Option Instr :=
  match (fld w 26 6).toNat with
  | 0 => if fld w 11 5 == 0#5 then some (.ddec (fld w 21 5) (fld w 16 5) (fld w 7 4)) else none
  | 1 => if fld w 21 5 == 0#5 then some (.dadd (fld w 16 5) (fld w 11 5) (fld w 7 4)) else none
  | 2 => some (.waitc (fld w 21 5) (fld w 16 5) (fld w 11 5) (fld w 7 4))
  | 3 => if fld w 21 5 == 0#5 then some (.msend (fld w 16 5) (fld w 11 5) (fld w 7 4)) else none
  | _ => none

/-- Major 0x1F, format X. -/
def decodeMajor1F (w : BitVec 32) : Option Instr :=
  match (fld w 26 6).toNat with
  | 0 => if fld w 21 5 == 0#5 then some (.wpush (fld w 16 5) (fld w 11 5) (fld w 7 4)) else none
  | 1 => if fld w 24 2 == 0#2 then some (.wpop (fld w 21 3) (fld w 16 5) (fld w 11 5) (fld w 7 4)) else none
  | 2 => if fld w 24 2 == 0#2 then some (.wpopNb (fld w 21 3) (fld w 16 5) (fld w 11 5) (fld w 7 4)) else none
  | 3 => if fld w 21 5 == 0#5 && fld w 11 5 == 0#5 then some (.wclose (fld w 16 5) (fld w 7 4)) else none
  | _ => none

/-- Major 0x20, format V. -/
def decodeMajor20 (w : BitVec 32) : Option Instr :=
  match (fld w 27 5).toNat with
  | 0 => some (.vadd (fld w 22 5) (fld w 19 3) (fld w 15 4) (fld w 11 4) (fld w 7 4))
  | 1 => some (.vsub (fld w 22 5) (fld w 19 3) (fld w 15 4) (fld w 11 4) (fld w 7 4))
  | 2 => some (.vmul (fld w 22 5) (fld w 19 3) (fld w 15 4) (fld w 11 4) (fld w 7 4))
  | 3 => some (.vfma (fld w 22 5) (fld w 19 3) (fld w 15 4) (fld w 11 4) (fld w 7 4))
  | 4 => some (.vfms (fld w 22 5) (fld w 19 3) (fld w 15 4) (fld w 11 4) (fld w 7 4))
  | 5 => some (.vmin (fld w 22 5) (fld w 19 3) (fld w 15 4) (fld w 11 4) (fld w 7 4))
  | 6 => some (.vmax (fld w 22 5) (fld w 19 3) (fld w 15 4) (fld w 11 4) (fld w 7 4))
  | 7 => if fld w 15 4 == 0#4 then some (.vabs (fld w 22 5) (fld w 19 3) (fld w 11 4) (fld w 7 4)) else none
  | 8 => if fld w 15 4 == 0#4 then some (.vneg (fld w 22 5) (fld w 19 3) (fld w 11 4) (fld w 7 4)) else none
  | 9 => some (.vadds (fld w 22 5) (fld w 19 3) (fld w 15 4) (fld w 11 4) (fld w 7 4))
  | 10 => some (.vsubs (fld w 22 5) (fld w 19 3) (fld w 15 4) (fld w 11 4) (fld w 7 4))
  | _ => none

/-- Major 0x21, format V. -/
def decodeMajor21 (w : BitVec 32) : Option Instr :=
  match (fld w 27 5).toNat with
  | 0 => some (.vdiv (fld w 22 5) (fld w 19 3) (fld w 15 4) (fld w 11 4) (fld w 7 4))
  | 1 => if fld w 15 4 == 0#4 then some (.vsqrt (fld w 22 5) (fld w 19 3) (fld w 11 4) (fld w 7 4)) else none
  | 2 => if fld w 15 4 == 0#4 then some (.vrcp (fld w 22 5) (fld w 19 3) (fld w 11 4) (fld w 7 4)) else none
  | 3 => if fld w 15 4 == 0#4 then some (.vrsq (fld w 22 5) (fld w 19 3) (fld w 11 4) (fld w 7 4)) else none
  | 4 => if fld w 15 4 == 0#4 then some (.vexp2 (fld w 22 5) (fld w 19 3) (fld w 11 4) (fld w 7 4)) else none
  | 5 => if fld w 15 4 == 0#4 then some (.vlog2 (fld w 22 5) (fld w 19 3) (fld w 11 4) (fld w 7 4)) else none
  | _ => none

/-- Major 0x22, format V. -/
def decodeMajor22 (w : BitVec 32) : Option Instr :=
  match (fld w 27 5).toNat with
  | 0 => if fld w 9 2 == 0#2 then some (.vcmpEq (fld w 22 5) (fld w 19 3) (fld w 15 4) (fld w 11 4) (fld w 7 2)) else none
  | 1 => if fld w 9 2 == 0#2 then some (.vcmpNe (fld w 22 5) (fld w 19 3) (fld w 15 4) (fld w 11 4) (fld w 7 2)) else none
  | 2 => if fld w 9 2 == 0#2 then some (.vcmpLt (fld w 22 5) (fld w 19 3) (fld w 15 4) (fld w 11 4) (fld w 7 2)) else none
  | 3 => if fld w 9 2 == 0#2 then some (.vcmpLe (fld w 22 5) (fld w 19 3) (fld w 15 4) (fld w 11 4) (fld w 7 2)) else none
  | 4 => if fld w 9 2 == 0#2 then some (.vcmpUn (fld w 22 5) (fld w 19 3) (fld w 15 4) (fld w 11 4) (fld w 7 2)) else none
  | 8 => if fld w 21 1 == 1#1 then some (.vsel (fld w 22 5) (fld w 19 2) (fld w 15 4) (fld w 11 4) (fld w 7 4)) else none
  | 9 => if fld w 15 4 == 0#4 then some (.vclass (fld w 22 5) (fld w 19 3) (fld w 11 4) (fld w 7 4)) else none
  | _ => none

/-- Major 0x23, format V. -/
def decodeMajor23 (w : BitVec 32) : Option Instr :=
  match (fld w 27 5).toNat with
  | 0 => some (.vand (fld w 22 5) (fld w 19 3) (fld w 15 4) (fld w 11 4) (fld w 7 4))
  | 1 => some (.vor (fld w 22 5) (fld w 19 3) (fld w 15 4) (fld w 11 4) (fld w 7 4))
  | 2 => some (.vxor (fld w 22 5) (fld w 19 3) (fld w 15 4) (fld w 11 4) (fld w 7 4))
  | 3 => if fld w 15 4 == 0#4 then some (.vnot (fld w 22 5) (fld w 19 3) (fld w 11 4) (fld w 7 4)) else none
  | 4 => some (.vshl (fld w 22 5) (fld w 19 3) (fld w 15 4) (fld w 11 4) (fld w 7 4))
  | 5 => some (.vshr (fld w 22 5) (fld w 19 3) (fld w 15 4) (fld w 11 4) (fld w 7 4))
  | 6 => some (.vsra (fld w 22 5) (fld w 19 3) (fld w 15 4) (fld w 11 4) (fld w 7 4))
  | _ => none

/-- Major 0x24, format M. -/
def decodeMajor24 (w : BitVec 32) : Option Instr :=
  if fld w 21 3 == 0#3 && fld w 15 1 == 0#1 then some (.vld (fld w 24 8) (fld w 16 5) (fld w 11 4) (fld w 7 4))
  else none

/-- Major 0x25, format M. -/
def decodeMajor25 (w : BitVec 32) : Option Instr :=
  if fld w 21 3 == 0#3 && fld w 15 1 == 0#1 then some (.vst (fld w 24 8) (fld w 16 5) (fld w 11 4) (fld w 7 4))
  else none

/-- Major 0x26, format A. -/
def decodeMajor26 (w : BitVec 32) : Option Instr :=
  match (fld w 26 6).toNat with
  | 0 => if fld w 25 1 == 0#1 && fld w 15 1 == 0#1 then some (.vgath (fld w 21 4) (fld w 16 5) (fld w 11 4) (fld w 7 4)) else none
  | 1 => if fld w 25 1 == 0#1 && fld w 15 1 == 0#1 then some (.vscat (fld w 21 4) (fld w 16 5) (fld w 11 4) (fld w 7 4)) else none
  | 2 => if fld w 21 5 == 0#5 && fld w 15 1 == 0#1 then some (.vbcast (fld w 16 5) (fld w 11 4) (fld w 7 4)) else none
  | 3 => if fld w 20 1 == 0#1 && fld w 13 3 == 0#3 then some (.vextr (fld w 21 5) (fld w 16 4) (fld w 11 2) (fld w 7 4)) else none
  | _ => none

/-- Major 0x27, format V. -/
def decodeMajor27 (w : BitVec 32) : Option Instr :=
  match (fld w 27 5).toNat with
  | 0 => some (.vperm (fld w 22 5) (fld w 19 3) (fld w 15 4) (fld w 11 4) (fld w 7 4))
  | 1 => some (.vslide (fld w 22 5) (fld w 19 3) (fld w 15 4) (fld w 11 4) (fld w 7 4))
  | 2 => if fld w 19 3 == 0#3 && fld w 7 1 == 0#1 then some (.vzip (fld w 22 5) (fld w 15 4) (fld w 11 4) (fld w 8 3)) else none
  | 3 => if fld w 19 3 == 0#3 && fld w 7 1 == 0#1 then some (.vuzp (fld w 22 5) (fld w 15 4) (fld w 11 4) (fld w 8 3)) else none
  | _ => none

/-- Major 0x28, format C. -/
def decodeMajor28 (w : BitVec 32) : Option Instr :=
  match (fld w 27 5).toNat with
  | 0 => if fld w 24 3 == 0#3 && fld w 21 3 == 0#3 && fld w 15 1 == 0#1 then some (.vldc (fld w 16 5) (fld w 11 4) (fld w 7 4)) else if fld w 24 3 == 1#3 && fld w 21 3 == 0#3 && fld w 15 1 == 0#1 then some (.vldcKeep (fld w 16 5) (fld w 11 4) (fld w 7 4)) else none
  | 1 => if fld w 24 3 == 0#3 && fld w 21 3 == 0#3 && fld w 15 1 == 0#1 then some (.vstc (fld w 16 5) (fld w 11 4) (fld w 7 4)) else none
  | _ => none

/-- Major 0x29, format V. -/
def decodeMajor29 (w : BitVec 32) : Option Instr :=
  match (fld w 27 5).toNat with
  | 0 => if fld w 17 2 == 2#2 && fld w 7 4 == 0#4 then some (.vredBox (fld w 22 5) (fld w 19 3) (fld w 15 2) (fld w 11 4)) else if fld w 15 4 == 0#4 then some (.vred (fld w 22 5) (fld w 19 3) (fld w 11 4) (fld w 7 4)) else none
  | 1 => if fld w 17 2 == 2#2 && fld w 7 4 == 0#4 then some (.vrminBox (fld w 22 5) (fld w 19 3) (fld w 15 2) (fld w 11 4)) else if fld w 15 4 == 0#4 then some (.vrmin (fld w 22 5) (fld w 19 3) (fld w 11 4) (fld w 7 4)) else none
  | 2 => if fld w 17 2 == 2#2 && fld w 7 4 == 0#4 then some (.vrmaxBox (fld w 22 5) (fld w 19 3) (fld w 15 2) (fld w 11 4)) else if fld w 15 4 == 0#4 then some (.vrmax (fld w 22 5) (fld w 19 3) (fld w 11 4) (fld w 7 4)) else none
  | 3 => if fld w 15 4 == 0#4 then some (.vscan (fld w 22 5) (fld w 19 3) (fld w 11 4) (fld w 7 4)) else none
  | _ => none

/-- Major 0x2A, format V. -/
def decodeMajor2A (w : BitVec 32) : Option Instr :=
  match (fld w 27 5).toNat with
  | 0 => if fld w 22 5 == 23#5 && fld w 16 3 == 0#3 && fld w 10 1 == 0#1 then some (.vxacc (fld w 19 3) (fld w 15 1) (fld w 11 4) (fld w 7 3)) else none
  | 1 => if fld w 19 3 == 0#3 && fld w 17 2 == 0#2 && fld w 14 1 == 0#1 then some (.vxdrain (fld w 22 5) (fld w 16 1) (fld w 15 1) (fld w 11 3) (fld w 7 4)) else none
  | _ => none

/-- Major 0x2B, format V. -/
def decodeMajor2B (w : BitVec 32) : Option Instr :=
  if fld w 27 5 == 0#5 && fld w 7 1 == 0#1 then some (.vtopk (fld w 22 5) (fld w 19 3) (fld w 15 4) (fld w 11 4) (fld w 8 3))
  else none

/-- Major 0x2C, format V. -/
def decodeMajor2C (w : BitVec 32) : Option Instr :=
  match (fld w 27 5).toNat with
  | 0 => if fld w 19 3 == 0#3 && fld w 15 4 == 0#4 then some (.vquant (fld w 22 5) (fld w 11 4) (fld w 7 4)) else none
  | 1 => if fld w 19 3 == 0#3 && fld w 15 4 == 0#4 then some (.vdeq (fld w 22 5) (fld w 11 4) (fld w 7 4)) else none
  | _ => none

/-- Major 0x2E, format V. -/
def decodeMajor2E (w : BitVec 32) : Option Instr :=
  if fld w 15 4 == 0#4 then some (.vcvt (fld w 27 5) (fld w 22 5) (fld w 19 3) (fld w 11 4) (fld w 7 4))
  else none

/-- Major 0x30, format X. -/
def decodeMajor30 (w : BitVec 32) : Option Instr :=
  match (fld w 26 6).toNat with
  | 0 => if fld w 21 5 == 0#5 && fld w 14 2 == 0#2 then some (.mxcfg (fld w 16 5) (fld w 11 3) (fld w 7 4)) else none
  | 1 => if fld w 21 5 == 0#5 && fld w 16 5 == 0#5 && fld w 14 2 == 0#2 then some (.mxzero (fld w 11 3) (fld w 7 4)) else none
  | 2 => if fld w 21 5 == 0#5 && fld w 16 5 == 0#5 && fld w 14 2 == 0#2 then some (.mxmac (fld w 11 3) (fld w 7 4)) else none
  | 3 => if fld w 21 5 == 0#5 && fld w 16 5 == 0#5 && fld w 14 2 == 0#2 then some (.mxwait (fld w 11 3) (fld w 7 4)) else none
  | 4 => if fld w 21 5 == 0#5 && fld w 18 3 == 0#3 && fld w 14 2 == 0#2 then some (.mxchk (fld w 16 2) (fld w 11 3) (fld w 7 4)) else none
  | _ => none

/-- Major 0x31, format C. -/
def decodeMajor31 (w : BitVec 32) : Option Instr :=
  match (fld w 27 5).toNat with
  | 0 => if fld w 24 3 == 0#3 && fld w 11 5 == 0#5 then some (.mxa (fld w 21 3) (fld w 16 5) (fld w 7 4)) else if fld w 24 3 == 1#3 && fld w 11 5 == 0#5 then some (.mxaKeep (fld w 21 3) (fld w 16 5) (fld w 7 4)) else if fld w 24 3 == 2#3 && fld w 11 5 == 0#5 then some (.mxaHold (fld w 21 3) (fld w 16 5) (fld w 7 4)) else none
  | 1 => if fld w 24 3 == 0#3 && fld w 11 5 == 0#5 then some (.mxb (fld w 21 3) (fld w 16 5) (fld w 7 4)) else if fld w 24 3 == 1#3 && fld w 11 5 == 0#5 then some (.mxbKeep (fld w 21 3) (fld w 16 5) (fld w 7 4)) else if fld w 24 3 == 2#3 && fld w 11 5 == 0#5 then some (.mxbHold (fld w 21 3) (fld w 16 5) (fld w 7 4)) else none
  | 2 => some (.mxdrain (fld w 24 3) (fld w 21 3) (fld w 16 5) (fld w 11 5) (fld w 7 4))
  | _ => none

/-- Major 0x32, format X. -/
def decodeMajor32 (w : BitVec 32) : Option Instr :=
  match (fld w 26 6).toNat with
  | 0 => if fld w 21 5 == 0#5 && fld w 11 5 == 0#5 then some (.ufcfg (fld w 16 5) (fld w 7 4)) else none
  | 1 => if fld w 21 5 == 0#5 && fld w 11 5 == 0#5 then some (.mxaUf (fld w 16 5) (fld w 7 4)) else none
  | _ => none

/-- Major 0x33, format X. -/
def decodeMajor33 (w : BitVec 32) : Option Instr :=
  match (fld w 26 6).toNat with
  | 0 => if fld w 21 5 == 0#5 then some (.ssub (fld w 16 5) (fld w 11 5) (fld w 7 4)) else none
  | 1 => if fld w 21 5 == 0#5 && fld w 16 5 == 0#5 then some (.sunsub (fld w 11 5) (fld w 7 4)) else none
  | 2 => if fld w 16 5 == 0#5 then some (.mxbS (fld w 21 5) (fld w 11 5) (fld w 7 4)) else none
  | _ => none

/-- Major 0x34, format X. -/
def decodeMajor34 (w : BitVec 32) : Option Instr :=
  match (fld w 26 6).toNat with
  | 0 => if fld w 21 5 == 0#5 && fld w 14 2 == 0#2 then some (.mxspill (fld w 16 5) (fld w 11 3) (fld w 7 4)) else none
  | 1 => if fld w 21 5 == 0#5 && fld w 14 2 == 0#2 then some (.mxfill (fld w 16 5) (fld w 11 3) (fld w 7 4)) else none
  | _ => none

/-- Major 0x38, format X. -/
def decodeMajor38 (w : BitVec 32) : Option Instr :=
  match (fld w 26 6).toNat with
  | 0 => if fld w 11 5 == 0#5 then some (.mvset (fld w 21 5) (fld w 16 5) (fld w 7 4)) else none
  | 1 => if fld w 16 5 == 0#5 then some (.mvget (fld w 21 5) (fld w 11 5) (fld w 7 4)) else none
  | 2 => if fld w 21 5 == 0#5 && fld w 16 5 == 0#5 then some (.mvgo (fld w 11 5) (fld w 7 4)) else none
  | 3 => if fld w 21 5 == 0#5 then some (.mvchain (fld w 16 5) (fld w 11 5) (fld w 7 4)) else none
  | 4 => if fld w 21 5 == 0#5 then some (.mvtst (fld w 16 5) (fld w 11 5) (fld w 7 4)) else none
  | 5 => if fld w 21 5 == 0#5 then some (.mvwait (fld w 16 5) (fld w 11 5) (fld w 7 4)) else none
  | _ => none

/-- Major 0x39, format X. -/
def decodeMajor39 (w : BitVec 32) : Option Instr :=
  match (fld w 26 6).toNat with
  | 0 => if fld w 21 5 == 0#5 then some (.bxinit (fld w 16 5) (fld w 11 5) (fld w 7 4)) else none
  | 1 => some (.bxarv (fld w 21 5) (fld w 16 5) (fld w 11 5) (fld w 7 4))
  | 2 => some (.bxwait (fld w 21 5) (fld w 16 5) (fld w 11 5) (fld w 7 4))
  | 3 => some (.bxtst (fld w 21 5) (fld w 16 5) (fld w 11 5) (fld w 7 4))
  | _ => none

/-- Major 0x3A, format C. -/
def decodeMajor3A (w : BitVec 32) : Option Instr :=
  match (fld w 27 5).toNat with
  | 0 => if fld w 24 3 == 0#3 then some (.cbacqP (fld w 21 3) (fld w 16 5) (fld w 11 5) (fld w 7 4)) else if fld w 24 3 == 1#3 then some (.cbacqC (fld w 21 3) (fld w 16 5) (fld w 11 5) (fld w 7 4)) else none
  | 1 => if fld w 24 3 == 0#3 && fld w 11 5 == 0#5 then some (.cbrelP (fld w 21 3) (fld w 16 5) (fld w 7 4)) else if fld w 24 3 == 1#3 && fld w 11 5 == 0#5 then some (.cbrelC (fld w 21 3) (fld w 16 5) (fld w 7 4)) else none
  | 2 => if fld w 21 3 == 0#3 then some (.cbqry (fld w 24 3) (fld w 16 5) (fld w 11 5) (fld w 7 4)) else none
  | _ => none

/-- Major 0x3B, format X. -/
def decodeMajor3B (w : BitVec 32) : Option Instr :=
  match (fld w 26 6).toNat with
  | 0 => if fld w 21 5 == 0#5 && fld w 11 5 == 0#5 then some (.cbinitBuffer (fld w 16 5) (fld w 7 4)) else if fld w 21 5 == 1#5 && fld w 11 5 == 0#5 then some (.cbinitWindow (fld w 16 5) (fld w 7 4)) else none
  | 1 => if fld w 20 1 == 0#1 && fld w 11 5 == 0#5 then some (.glaze (fld w 21 5) (fld w 16 4) (fld w 7 4)) else none
  | _ => none

/-- Major 0x3C, format X. -/
def decodeMajor3C (w : BitVec 32) : Option Instr :=
  match (fld w 26 6).toNat with
  | 0 => if fld w 16 5 == 0#5 then some (.rdsr (fld w 21 5) (fld w 11 5) (fld w 7 4)) else none
  | 1 => if fld w 11 5 == 0#5 then some (.wrsr (fld w 21 5) (fld w 16 5) (fld w 7 4)) else none
  | 2 => if fld w 11 5 == 0#5 then some (.tlbinv (fld w 21 5) (fld w 16 5) (fld w 7 4)) else none
  | _ => none

/-- Major 0x3D, format X. -/
def decodeMajor3D (w : BitVec 32) : Option Instr :=
  match (fld w 26 6).toNat with
  | 0 => if fld w 11 5 == 0#5 then some (.trap (fld w 21 5) (fld w 16 5) (fld w 7 4)) else none
  | 1 => if fld w 11 5 == 0#5 then some (.eret (fld w 21 5) (fld w 16 5) (fld w 7 4)) else none
  | _ => none

/-- Major 0x3E, format X. -/
def decodeMajor3E (w : BitVec 32) : Option Instr :=
  match (fld w 26 6).toNat with
  | 0 => if fld w 21 5 == 0#5 && fld w 11 5 == 0#5 then some (.cdopen (fld w 16 5) (fld w 7 4)) else none
  | 1 => if fld w 21 5 == 0#5 && fld w 16 5 == 0#5 then some (.cdclose (fld w 11 5) (fld w 7 4)) else none
  | _ => none

/-- A 32-bit word, by its major opcode (R38, R46). -/
def decode32Raw (w : BitVec 32) : Option Instr :=
  if fld w 0 1 == 1#1 then
    match (fld w 1 6).toNat with
    | 0 => decodeMajor00 w
    | 1 => decodeMajor01 w
    | 2 => decodeMajor02 w
    | 3 => decodeMajor03 w
    | 4 => decodeMajor04 w
    | 5 => decodeMajor05 w
    | 6 => decodeMajor06 w
    | 7 => decodeMajor07 w
    | 8 => decodeMajor08 w
    | 9 => decodeMajor09 w
    | 10 => decodeMajor0A w
    | 11 => decodeMajor0B w
    | 12 => decodeMajor0C w
    | 13 => decodeMajor0D w
    | 14 => decodeMajor0E w
    | 16 => decodeMajor10 w
    | 17 => decodeMajor11 w
    | 18 => decodeMajor12 w
    | 19 => decodeMajor13 w
    | 20 => decodeMajor14 w
    | 21 => decodeMajor15 w
    | 22 => decodeMajor16 w
    | 23 => decodeMajor17 w
    | 24 => decodeMajor18 w
    | 25 => decodeMajor19 w
    | 26 => decodeMajor1A w
    | 27 => decodeMajor1B w
    | 28 => decodeMajor1C w
    | 29 => decodeMajor1D w
    | 30 => decodeMajor1E w
    | 31 => decodeMajor1F w
    | 32 => decodeMajor20 w
    | 33 => decodeMajor21 w
    | 34 => decodeMajor22 w
    | 35 => decodeMajor23 w
    | 36 => decodeMajor24 w
    | 37 => decodeMajor25 w
    | 38 => decodeMajor26 w
    | 39 => decodeMajor27 w
    | 40 => decodeMajor28 w
    | 41 => decodeMajor29 w
    | 42 => decodeMajor2A w
    | 43 => decodeMajor2B w
    | 44 => decodeMajor2C w
    | 46 => decodeMajor2E w
    | 48 => decodeMajor30 w
    | 49 => decodeMajor31 w
    | 50 => decodeMajor32 w
    | 51 => decodeMajor33 w
    | 52 => decodeMajor34 w
    | 56 => decodeMajor38 w
    | 57 => decodeMajor39 w
    | 58 => decodeMajor3A w
    | 59 => decodeMajor3B w
    | 60 => decodeMajor3C w
    | 61 => decodeMajor3D w
    | 62 => decodeMajor3E w
    | _ => none
  else none

/-- A short form that some entry accepts (R49). -/
def decode16 (w : BitVec 16) : Option Instr :=
  match decode16Raw w with
  | some i => if i.wf then some i else none
  | none => none

/-- A 32-bit instruction that some entry accepts (R49). -/
def decode32 (w : BitVec 32) : Option Instr :=
  match decode32Raw w with
  | some i => if i.wf then some i else none
  | none => none

/-- What decoding a run of bytes finds. -/
inductive Decoded where
  /-- The instruction and its length in bytes (R32). -/
  | ok (i : Instr) (len : Nat)
  /-- An encoding that is not an instruction (R49): the word as R50 captures it, and whether it has 32 bits. -/
  | illegal (word : BitVec 32) (long : Nat)
  /-- The bytes end inside the instruction. -/
  | short
  deriving DecidableEq, Repr

/-- Decode a run of bytes, lowest address first (R7, R32). Total on any bytes. -/
def decode (bs : List (BitVec 8)) : Decoded :=
  match bs with
  | b0 :: b1 :: rest =>
    let h : BitVec 16 := b1 ++ b0
    if h.getLsbD 0 then
      match rest with
      | b2 :: b3 :: _ =>
        let w : BitVec 32 := b3 ++ b2 ++ b1 ++ b0
        match decode32 w with
        | some i => .ok i 4
        | none => .illegal w 1
      | _ => .short
    else
      match decode16 h with
      | some i => .ok i 2
      | none => .illegal (h.setWidth 32) 0
  | _ => .short

/-- The length in bytes of an encoded instruction (R32); 0 for an event, which has no encoding. -/
def Instr.length : Instr → Nat
  | .addS _ _ => 2
  | .subS _ _ => 2
  | .andS _ _ => 2
  | .orS _ _ => 2
  | .xorS _ _ => 2
  | .shlS _ _ => 2
  | .shrS _ _ => 2
  | .movS _ _ => 2
  | .nop => 2
  | .vaddS _ _ => 2
  | .vsubS _ _ => 2
  | .vmulS _ _ => 2
  | .vminS _ _ => 2
  | .vmaxS _ _ => 2
  | .vandS _ _ => 2
  | .vorS _ _ => 2
  | .vxorS _ _ => 2
  | .add _ _ _ _ => 4
  | .sub _ _ _ _ => 4
  | .and _ _ _ _ => 4
  | .or _ _ _ _ => 4
  | .xor _ _ _ _ => 4
  | .andn _ _ _ _ => 4
  | .orn _ _ _ _ => 4
  | .xnor _ _ _ _ => 4
  | .shl _ _ _ _ => 4
  | .shr _ _ _ _ => 4
  | .sra _ _ _ _ => 4
  | .ror _ _ _ _ => 4
  | .min _ _ _ _ => 4
  | .max _ _ _ _ => 4
  | .minn _ _ _ _ => 4
  | .maxn _ _ _ _ => 4
  | .mul _ _ _ _ => 4
  | .mulh _ _ _ _ => 4
  | .mulhn _ _ _ _ => 4
  | .div _ _ _ _ => 4
  | .divn _ _ _ _ => 4
  | .rem _ _ _ _ => 4
  | .remn _ _ _ _ => 4
  | .mov _ _ _ => 4
  | .clz _ _ _ => 4
  | .ctz _ _ _ => 4
  | .popc _ _ _ => 4
  | .brev _ _ _ => 4
  | .bswap _ _ _ => 4
  | .sext _ _ _ _ => 4
  | .zext _ _ _ _ => 4
  | .shadd1 _ _ _ _ => 4
  | .shadd2 _ _ _ _ => 4
  | .shadd3 _ _ _ _ => 4
  | .shadd4 _ _ _ _ => 4
  | .mksa _ _ _ _ => 4
  | .addi _ _ _ => 4
  | .andi _ _ _ => 4
  | .ori _ _ _ => 4
  | .xori _ _ _ => 4
  | .shli _ _ _ => 4
  | .shri _ _ _ => 4
  | .srai _ _ _ => 4
  | .muli _ _ _ => 4
  | .li _ _ => 4
  | .lix _ _ => 4
  | .lpc _ _ => 4
  | .ldB _ _ _ _ => 4
  | .ldH _ _ _ _ => 4
  | .ldW _ _ _ _ => 4
  | .ldD _ _ _ _ => 4
  | .ldNb _ _ _ _ => 4
  | .ldNh _ _ _ _ => 4
  | .ldNw _ _ _ _ => 4
  | .stB _ _ _ _ => 4
  | .stH _ _ _ _ => 4
  | .stW _ _ _ _ => 4
  | .stD _ _ _ _ => 4
  | .ldAcq _ _ _ _ _ => 4
  | .stRel _ _ _ _ _ => 4
  | .scopeOpen _ _ => 4
  | .scopeClose _ _ => 4
  | .mbr _ _ _ => 4
  | .mbw _ _ _ => 4
  | .alloc _ _ _ _ => 4
  | .free _ _ _ _ => 4
  | .rsv _ _ _ => 4
  | .relw _ _ _ => 4
  | .reln _ _ => 4
  | .casW _ _ _ _ => 4
  | .casD _ _ _ _ => 4
  | .amoAdd _ _ _ _ _ _ => 4
  | .amoAnd _ _ _ _ _ _ => 4
  | .amoOr _ _ _ _ _ _ => 4
  | .amoXor _ _ _ _ _ _ => 4
  | .amoMin _ _ _ _ _ _ => 4
  | .amoMax _ _ _ _ _ _ => 4
  | .amoMinn _ _ _ _ _ _ => 4
  | .amoMaxn _ _ _ _ _ _ => 4
  | .amoSwap _ _ _ _ _ _ => 4
  | .fence _ _ => 4
  | .fenceSc _ _ => 4
  | .bprep _ _ => 4
  | .bprepr _ _ _ => 4
  | .cmpEq _ _ _ _ => 4
  | .cmpNe _ _ _ _ => 4
  | .cmpLt _ _ _ _ => 4
  | .cmpGe _ _ _ _ => 4
  | .cmpLtn _ _ _ _ => 4
  | .cmpGen _ _ _ _ => 4
  | .pand _ _ _ _ => 4
  | .por _ _ _ _ => 4
  | .pnot _ _ _ => 4
  | .br _ _ => 4
  | .brP _ _ _ => 4
  | .brNp _ _ _ => 4
  | .brl _ _ _ => 4
  | .brdec _ _ _ => 4
  | .iinv _ => 4
  | .launch _ _ _ => 4
  | .spawn _ _ => 4
  | .exit _ => 4
  | .yield _ => 4
  | .qdist _ _ _ => 4
  | .join _ _ _ => 4
  | .leave _ => 4
  | .gbar _ _ => 4
  | .sstep _ _ _ _ => 4
  | .ddec _ _ _ => 4
  | .dadd _ _ _ => 4
  | .waitc _ _ _ _ => 4
  | .msend _ _ _ => 4
  | .wpush _ _ _ => 4
  | .wpop _ _ _ _ => 4
  | .wpopNb _ _ _ _ => 4
  | .wclose _ _ => 4
  | .vadd _ _ _ _ _ => 4
  | .vsub _ _ _ _ _ => 4
  | .vmul _ _ _ _ _ => 4
  | .vfma _ _ _ _ _ => 4
  | .vfms _ _ _ _ _ => 4
  | .vmin _ _ _ _ _ => 4
  | .vmax _ _ _ _ _ => 4
  | .vabs _ _ _ _ => 4
  | .vneg _ _ _ _ => 4
  | .vadds _ _ _ _ _ => 4
  | .vsubs _ _ _ _ _ => 4
  | .vdiv _ _ _ _ _ => 4
  | .vsqrt _ _ _ _ => 4
  | .vrcp _ _ _ _ => 4
  | .vrsq _ _ _ _ => 4
  | .vexp2 _ _ _ _ => 4
  | .vlog2 _ _ _ _ => 4
  | .vcmpEq _ _ _ _ _ => 4
  | .vcmpNe _ _ _ _ _ => 4
  | .vcmpLt _ _ _ _ _ => 4
  | .vcmpLe _ _ _ _ _ => 4
  | .vcmpUn _ _ _ _ _ => 4
  | .vsel _ _ _ _ _ => 4
  | .vclass _ _ _ _ => 4
  | .vand _ _ _ _ _ => 4
  | .vor _ _ _ _ _ => 4
  | .vxor _ _ _ _ _ => 4
  | .vnot _ _ _ _ => 4
  | .vshl _ _ _ _ _ => 4
  | .vshr _ _ _ _ _ => 4
  | .vsra _ _ _ _ _ => 4
  | .vld _ _ _ _ => 4
  | .vst _ _ _ _ => 4
  | .vgath _ _ _ _ => 4
  | .vscat _ _ _ _ => 4
  | .vbcast _ _ _ => 4
  | .vextr _ _ _ _ => 4
  | .vperm _ _ _ _ _ => 4
  | .vslide _ _ _ _ _ => 4
  | .vzip _ _ _ _ => 4
  | .vuzp _ _ _ _ => 4
  | .vldc _ _ _ => 4
  | .vldcKeep _ _ _ => 4
  | .vstc _ _ _ => 4
  | .vred _ _ _ _ => 4
  | .vredBox _ _ _ _ => 4
  | .vrmin _ _ _ _ => 4
  | .vrminBox _ _ _ _ => 4
  | .vrmax _ _ _ _ => 4
  | .vrmaxBox _ _ _ _ => 4
  | .vscan _ _ _ _ => 4
  | .vxacc _ _ _ _ => 4
  | .vxdrain _ _ _ _ _ => 4
  | .vtopk _ _ _ _ _ => 4
  | .vquant _ _ _ => 4
  | .vdeq _ _ _ => 4
  | .vcvt _ _ _ _ _ => 4
  | .mxcfg _ _ _ => 4
  | .mxzero _ _ => 4
  | .mxmac _ _ => 4
  | .mxwait _ _ => 4
  | .mxchk _ _ _ => 4
  | .mxa _ _ _ => 4
  | .mxaKeep _ _ _ => 4
  | .mxaHold _ _ _ => 4
  | .mxb _ _ _ => 4
  | .mxbKeep _ _ _ => 4
  | .mxbHold _ _ _ => 4
  | .mxdrain _ _ _ _ _ => 4
  | .ufcfg _ _ => 4
  | .mxaUf _ _ => 4
  | .ssub _ _ _ => 4
  | .sunsub _ _ => 4
  | .mxbS _ _ _ => 4
  | .mxspill _ _ _ => 4
  | .mxfill _ _ _ => 4
  | .mvset _ _ _ => 4
  | .mvget _ _ _ => 4
  | .mvgo _ _ => 4
  | .mvchain _ _ _ => 4
  | .mvtst _ _ _ => 4
  | .mvwait _ _ _ => 4
  | .bxinit _ _ _ => 4
  | .bxarv _ _ _ _ => 4
  | .bxwait _ _ _ _ => 4
  | .bxtst _ _ _ _ => 4
  | .cbacqP _ _ _ _ => 4
  | .cbacqC _ _ _ _ => 4
  | .cbrelP _ _ _ => 4
  | .cbrelC _ _ _ => 4
  | .cbqry _ _ _ _ => 4
  | .cbinitBuffer _ _ => 4
  | .cbinitWindow _ _ => 4
  | .glaze _ _ _ => 4
  | .rdsr _ _ _ => 4
  | .wrsr _ _ _ => 4
  | .tlbinv _ _ _ => 4
  | .trap _ _ _ => 4
  | .eret _ _ _ => 4
  | .cdopen _ _ => 4
  | .cdclose _ _ => 4
  | .taskAdmission => 0
  | .taskReady => 0
  | .readyAging => 0
  | .rotation => 0
  | .leadDistributorPlacement => 0
  | .taskInstantiation => 0
  | .registerCacheFill => 0
  | .snapshotFetch => 0
  | .codeFetch => 0
  | .tilePowerGating => 0
  | .wake => 0
  | .wakeComplete => 0
  | .frequencyChange => 0
  | .powerLimit => 0
  | .vectorCommandBegin => 0
  | .vectorCommandComplete => 0
  | .matrixCommandBegin => 0
  | .matrixCommandComplete => 0
  | .boxWrite => 0
  | .cbGrant => 0
  | .transferBegin => 0
  | .moverTurn => 0
  | .transferCompletion => 0
  | .chainDescriptorFetch => 0
  | .handleCacheFill => 0
  | .revoke => 0
  | .revocationDone => 0
  | .streamDelivery => 0
  | .scrubRead => 0
  | .protectedWrite => 0
  | .parityDelta => 0
  | .memberLoss => 0
  | .erasureRebuild => 0
  | .pageMoveQueueStore => 0
  | .pageMoveRecord => 0
  | .frameMove => 0
  | .linkReplay => 0
  | .packetArrival => 0
  | .requestResend => 0
  | .gets => 0
  | .getm => 0
  | .writeBack => 0
  | .eviction => 0
  | .invalidation => 0
  | .directoryEviction => 0
  | .incarnationChange => 0
  | .translationWalk => 0
  | .walkComplete => 0
  | .reservationGrant => 0
  | .reservationRelease => 0
  | .messageArrival => 0
  | .msendReply => 0
  | .heldMessageBatch => 0
  | .handlerStart => 0
  | .colExchange => 0
  | .collectiveReady => 0
  | .collectiveCommit => 0
  | .collectiveAbort => 0
  | .coordinatorTakeover => 0
  | .trapHandlerStart => 0
  | .preemptionQueueStore => 0
  | .preemption => 0
  | .resume => 0
  | .domainDiscard => 0
  | .tieBreakComparison => 0
  | .rectangleReset => 0
  | .quarantine => 0
  | .quarantineRelease => 0
  | .structuralTest => 0
  | .dieRetirement => 0
  | .dieEvacuation => 0
  | .heldState => 0
  | .voterReplacement => 0
  | .remoteFailure => 0
  | .controlSpaceWrite => 0
  | .trapConfigurationWrite => 0
  | .mailboxEntryWrite => 0
  | .streamEntryWrite => 0
  | .workQueueConfigWrite => 0
  | .rectangleWrite => 0
  | .lcancel => 0
  | .hostRequest => 0
  | .launchWindowWrite => 0
  | .hostLaunchStart => 0
  | .viEnable => 0
  | .viStop => 0
  | .viStopped => 0
  | .jobtagWrite => 0
  | .frzclr => 0
  | .contextEntryWrite => 0
  | .hostAlloc => 0
  | .hostFree => 0
  | .sparingApproval => 0
  | .rebuildStart => 0
  | .eraskind => 0
  | .erasgrpSet => 0
  | .erasureGroupMatch => 0
  | .heqack => 0
  | .heactResume => 0
  | .heactEnd => 0
  | .heactDiscard => 0
  | .hwalk => 0
  | .boot => 0
  | .firmwareUpdate => 0
  | .attestationRequest => 0
  | .illegalInstruction => 0
  | .linkPortFailure => 0
  | .hbmStackFailure => 0
  | .detour => 0

/-- The halfword of a short form (R34). -/
def encode16 : Instr → BitVec 16
  | .addS s d => 0#1 ++ s ++ d ++ 0#5
  | .subS s d => 0#1 ++ s ++ d ++ 2#5
  | .andS s d => 0#1 ++ s ++ d ++ 4#5
  | .orS s d => 0#1 ++ s ++ d ++ 6#5
  | .xorS s d => 0#1 ++ s ++ d ++ 8#5
  | .shlS s d => 0#1 ++ s ++ d ++ 10#5
  | .shrS s d => 0#1 ++ s ++ d ++ 12#5
  | .movS s d => 0#1 ++ s ++ d ++ 14#5
  | .nop => 0#1 ++ 0#5 ++ 0#5 ++ 14#5
  | .vaddS s d => 0#1 ++ 0#1 ++ s ++ 0#1 ++ d ++ 16#5
  | .vsubS s d => 0#1 ++ 0#1 ++ s ++ 0#1 ++ d ++ 18#5
  | .vmulS s d => 0#1 ++ 0#1 ++ s ++ 0#1 ++ d ++ 20#5
  | .vminS s d => 0#1 ++ 0#1 ++ s ++ 0#1 ++ d ++ 22#5
  | .vmaxS s d => 0#1 ++ 0#1 ++ s ++ 0#1 ++ d ++ 24#5
  | .vandS s d => 0#1 ++ 0#1 ++ s ++ 0#1 ++ d ++ 26#5
  | .vorS s d => 0#1 ++ 0#1 ++ s ++ 0#1 ++ d ++ 28#5
  | .vxorS s d => 0#1 ++ 0#1 ++ s ++ 0#1 ++ d ++ 30#5
  | _ => 0#16

/-- The word of a 32-bit instruction (R38, R47, R48). -/
def encode32 : Instr → BitVec 32
  | .add b a d q => 0#6 ++ b ++ a ++ d ++ q ++ 1#7
  | .sub b a d q => 1#6 ++ b ++ a ++ d ++ q ++ 1#7
  | .and b a d q => 2#6 ++ b ++ a ++ d ++ q ++ 1#7
  | .or b a d q => 3#6 ++ b ++ a ++ d ++ q ++ 1#7
  | .xor b a d q => 4#6 ++ b ++ a ++ d ++ q ++ 1#7
  | .andn b a d q => 5#6 ++ b ++ a ++ d ++ q ++ 1#7
  | .orn b a d q => 6#6 ++ b ++ a ++ d ++ q ++ 1#7
  | .xnor b a d q => 7#6 ++ b ++ a ++ d ++ q ++ 1#7
  | .shl b a d q => 8#6 ++ b ++ a ++ d ++ q ++ 1#7
  | .shr b a d q => 9#6 ++ b ++ a ++ d ++ q ++ 1#7
  | .sra b a d q => 10#6 ++ b ++ a ++ d ++ q ++ 1#7
  | .ror b a d q => 11#6 ++ b ++ a ++ d ++ q ++ 1#7
  | .min b a d q => 12#6 ++ b ++ a ++ d ++ q ++ 1#7
  | .max b a d q => 13#6 ++ b ++ a ++ d ++ q ++ 1#7
  | .minn b a d q => 14#6 ++ b ++ a ++ d ++ q ++ 1#7
  | .maxn b a d q => 15#6 ++ b ++ a ++ d ++ q ++ 1#7
  | .mul b a d q => 0#6 ++ b ++ a ++ d ++ q ++ 3#7
  | .mulh b a d q => 1#6 ++ b ++ a ++ d ++ q ++ 3#7
  | .mulhn b a d q => 2#6 ++ b ++ a ++ d ++ q ++ 3#7
  | .div b a d q => 4#6 ++ b ++ a ++ d ++ q ++ 3#7
  | .divn b a d q => 5#6 ++ b ++ a ++ d ++ q ++ 3#7
  | .rem b a d q => 6#6 ++ b ++ a ++ d ++ q ++ 3#7
  | .remn b a d q => 7#6 ++ b ++ a ++ d ++ q ++ 3#7
  | .mov a d q => 0#6 ++ 0#5 ++ a ++ d ++ q ++ 5#7
  | .clz a d q => 1#6 ++ 0#5 ++ a ++ d ++ q ++ 5#7
  | .ctz a d q => 2#6 ++ 0#5 ++ a ++ d ++ q ++ 5#7
  | .popc a d q => 3#6 ++ 0#5 ++ a ++ d ++ q ++ 5#7
  | .brev a d q => 4#6 ++ 0#5 ++ a ++ d ++ q ++ 5#7
  | .bswap a d q => 5#6 ++ 0#5 ++ a ++ d ++ q ++ 5#7
  | .sext e a d q => 6#6 ++ e ++ a ++ d ++ q ++ 5#7
  | .zext e a d q => 7#6 ++ e ++ a ++ d ++ q ++ 5#7
  | .shadd1 b a d q => 0#6 ++ b ++ a ++ d ++ q ++ 7#7
  | .shadd2 b a d q => 1#6 ++ b ++ a ++ d ++ q ++ 7#7
  | .shadd3 b a d q => 2#6 ++ b ++ a ++ d ++ q ++ 7#7
  | .shadd4 b a d q => 3#6 ++ b ++ a ++ d ++ q ++ 7#7
  | .mksa b a d q => 8#6 ++ b ++ a ++ d ++ q ++ 7#7
  | .addi i s d => i ++ s ++ d ++ 9#7
  | .andi i s d => i ++ s ++ d ++ 11#7
  | .ori i s d => i ++ s ++ d ++ 13#7
  | .xori i s d => i ++ s ++ d ++ 15#7
  | .shli i s d => 0#9 ++ i ++ s ++ d ++ 17#7
  | .shri i s d => 0#9 ++ i ++ s ++ d ++ 19#7
  | .srai i s d => 0#9 ++ i ++ s ++ d ++ 21#7
  | .muli i s d => i ++ s ++ d ++ 23#7
  | .li i d => i ++ d ++ 25#7
  | .lix i d => i ++ d ++ 27#7
  | .lpc i d => i ++ d ++ 29#7
  | .ldB i b t q => i ++ 0#3 ++ b ++ t ++ q ++ 33#7
  | .ldH i b t q => i ++ 1#3 ++ b ++ t ++ q ++ 33#7
  | .ldW i b t q => i ++ 2#3 ++ b ++ t ++ q ++ 33#7
  | .ldD i b t q => i ++ 3#3 ++ b ++ t ++ q ++ 33#7
  | .ldNb i b t q => i ++ 4#3 ++ b ++ t ++ q ++ 33#7
  | .ldNh i b t q => i ++ 5#3 ++ b ++ t ++ q ++ 33#7
  | .ldNw i b t q => i ++ 6#3 ++ b ++ t ++ q ++ 33#7
  | .stB i b t q => i ++ 0#3 ++ b ++ t ++ q ++ 35#7
  | .stH i b t q => i ++ 1#3 ++ b ++ t ++ q ++ 35#7
  | .stW i b t q => i ++ 2#3 ++ b ++ t ++ q ++ 35#7
  | .stD i b t q => i ++ 3#3 ++ b ++ t ++ q ++ 35#7
  | .ldAcq i c b t q => i ++ c ++ b ++ t ++ q ++ 37#7
  | .stRel i c b t q => i ++ c ++ b ++ t ++ q ++ 39#7
  | .scopeOpen a q => 0#6 ++ 0#5 ++ a ++ 0#5 ++ q ++ 41#7
  | .scopeClose a q => 1#6 ++ 0#5 ++ a ++ 0#5 ++ q ++ 41#7
  | .mbr a d q => 2#6 ++ 0#5 ++ 0#3 ++ a ++ d ++ q ++ 41#7
  | .mbw a d q => 3#6 ++ 0#5 ++ a ++ 0#3 ++ d ++ q ++ 41#7
  | .alloc b a d q => 4#6 ++ b ++ a ++ d ++ q ++ 41#7
  | .free b a d q => 5#6 ++ b ++ a ++ d ++ q ++ 41#7
  | .rsv a d q => 0#6 ++ 0#5 ++ a ++ d ++ q ++ 43#7
  | .relw b a q => 1#6 ++ b ++ a ++ 0#5 ++ q ++ 43#7
  | .reln a q => 2#6 ++ 0#5 ++ a ++ 0#5 ++ q ++ 43#7
  | .casW b a d q => 4#6 ++ b ++ a ++ d ++ q ++ 43#7
  | .casD b a d q => 5#6 ++ b ++ a ++ d ++ q ++ 43#7
  | .amoAdd r w b a d q => r ++ w ++ 0#4 ++ b ++ a ++ d ++ q ++ 45#7
  | .amoAnd r w b a d q => r ++ w ++ 1#4 ++ b ++ a ++ d ++ q ++ 45#7
  | .amoOr r w b a d q => r ++ w ++ 2#4 ++ b ++ a ++ d ++ q ++ 45#7
  | .amoXor r w b a d q => r ++ w ++ 3#4 ++ b ++ a ++ d ++ q ++ 45#7
  | .amoMin r w b a d q => r ++ w ++ 4#4 ++ b ++ a ++ d ++ q ++ 45#7
  | .amoMax r w b a d q => r ++ w ++ 5#4 ++ b ++ a ++ d ++ q ++ 45#7
  | .amoMinn r w b a d q => r ++ w ++ 6#4 ++ b ++ a ++ d ++ q ++ 45#7
  | .amoMaxn r w b a d q => r ++ w ++ 7#4 ++ b ++ a ++ d ++ q ++ 45#7
  | .amoSwap r w b a d q => r ++ w ++ 8#4 ++ b ++ a ++ d ++ q ++ 45#7
  | .fence c q => 0#3 ++ c ++ 0#5 ++ 0#5 ++ 0#5 ++ q ++ 47#7
  | .fenceSc c q => 1#3 ++ c ++ 0#5 ++ 0#5 ++ 0#5 ++ q ++ 47#7
  | .bprep i d => i ++ 0#2 ++ d ++ 49#7
  | .bprepr a d q => 0#6 ++ 0#5 ++ a ++ 0#2 ++ d ++ q ++ 51#7
  | .cmpEq b a d q => 8#6 ++ b ++ a ++ 0#2 ++ d ++ q ++ 51#7
  | .cmpNe b a d q => 9#6 ++ b ++ a ++ 0#2 ++ d ++ q ++ 51#7
  | .cmpLt b a d q => 10#6 ++ b ++ a ++ 0#2 ++ d ++ q ++ 51#7
  | .cmpGe b a d q => 11#6 ++ b ++ a ++ 0#2 ++ d ++ q ++ 51#7
  | .cmpLtn b a d q => 12#6 ++ b ++ a ++ 0#2 ++ d ++ q ++ 51#7
  | .cmpGen b a d q => 13#6 ++ b ++ a ++ 0#2 ++ d ++ q ++ 51#7
  | .pand b a d q => 16#6 ++ 0#2 ++ b ++ 0#2 ++ a ++ 0#2 ++ d ++ q ++ 51#7
  | .por b a d q => 17#6 ++ 0#2 ++ b ++ 0#2 ++ a ++ 0#2 ++ d ++ q ++ 51#7
  | .pnot a d q => 18#6 ++ 0#5 ++ 0#2 ++ a ++ 0#2 ++ d ++ q ++ 51#7
  | .br a q => 0#6 ++ 0#5 ++ 0#2 ++ a ++ 0#5 ++ q ++ 53#7
  | .brP a d q => 1#6 ++ 0#5 ++ 0#2 ++ a ++ 0#2 ++ d ++ q ++ 53#7
  | .brNp a d q => 2#6 ++ 0#5 ++ 0#2 ++ a ++ 0#2 ++ d ++ q ++ 53#7
  | .brl a d q => 3#6 ++ 0#5 ++ 0#2 ++ a ++ d ++ q ++ 53#7
  | .brdec a d q => 4#6 ++ 0#5 ++ 0#2 ++ a ++ d ++ q ++ 53#7
  | .iinv q => 0#6 ++ 0#5 ++ 0#5 ++ 0#5 ++ q ++ 55#7
  | .launch a d q => 0#6 ++ 0#5 ++ a ++ d ++ q ++ 57#7
  | .spawn a q => 1#6 ++ 0#5 ++ a ++ 0#5 ++ q ++ 57#7
  | .exit q => 2#6 ++ 0#5 ++ 0#5 ++ 0#5 ++ q ++ 57#7
  | .yield q => 3#6 ++ 0#5 ++ 0#5 ++ 0#5 ++ q ++ 57#7
  | .qdist a d q => 4#6 ++ 0#5 ++ a ++ d ++ q ++ 57#7
  | .join e a q => 0#6 ++ e ++ a ++ 0#5 ++ q ++ 59#7
  | .leave q => 1#6 ++ 0#5 ++ 0#5 ++ 0#5 ++ q ++ 59#7
  | .gbar a q => 2#6 ++ 0#5 ++ a ++ 0#5 ++ q ++ 59#7
  | .sstep e a d q => 3#6 ++ e ++ a ++ d ++ q ++ 59#7
  | .ddec e a q => 0#6 ++ e ++ a ++ 0#5 ++ q ++ 61#7
  | .dadd a d q => 1#6 ++ 0#5 ++ a ++ d ++ q ++ 61#7
  | .waitc e a d q => 2#6 ++ e ++ a ++ d ++ q ++ 61#7
  | .msend a d q => 3#6 ++ 0#5 ++ a ++ d ++ q ++ 61#7
  | .wpush a d q => 0#6 ++ 0#5 ++ a ++ d ++ q ++ 63#7
  | .wpop e a d q => 1#6 ++ 0#2 ++ e ++ a ++ d ++ q ++ 63#7
  | .wpopNb e a d q => 2#6 ++ 0#2 ++ e ++ a ++ d ++ q ++ 63#7
  | .wclose a q => 3#6 ++ 0#5 ++ a ++ 0#5 ++ q ++ 63#7
  | .vadd y m b a d => 0#5 ++ y ++ m ++ b ++ a ++ d ++ 65#7
  | .vsub y m b a d => 1#5 ++ y ++ m ++ b ++ a ++ d ++ 65#7
  | .vmul y m b a d => 2#5 ++ y ++ m ++ b ++ a ++ d ++ 65#7
  | .vfma y m b a d => 3#5 ++ y ++ m ++ b ++ a ++ d ++ 65#7
  | .vfms y m b a d => 4#5 ++ y ++ m ++ b ++ a ++ d ++ 65#7
  | .vmin y m b a d => 5#5 ++ y ++ m ++ b ++ a ++ d ++ 65#7
  | .vmax y m b a d => 6#5 ++ y ++ m ++ b ++ a ++ d ++ 65#7
  | .vabs y m a d => 7#5 ++ y ++ m ++ 0#4 ++ a ++ d ++ 65#7
  | .vneg y m a d => 8#5 ++ y ++ m ++ 0#4 ++ a ++ d ++ 65#7
  | .vadds y m b a d => 9#5 ++ y ++ m ++ b ++ a ++ d ++ 65#7
  | .vsubs y m b a d => 10#5 ++ y ++ m ++ b ++ a ++ d ++ 65#7
  | .vdiv y m b a d => 0#5 ++ y ++ m ++ b ++ a ++ d ++ 67#7
  | .vsqrt y m a d => 1#5 ++ y ++ m ++ 0#4 ++ a ++ d ++ 67#7
  | .vrcp y m a d => 2#5 ++ y ++ m ++ 0#4 ++ a ++ d ++ 67#7
  | .vrsq y m a d => 3#5 ++ y ++ m ++ 0#4 ++ a ++ d ++ 67#7
  | .vexp2 y m a d => 4#5 ++ y ++ m ++ 0#4 ++ a ++ d ++ 67#7
  | .vlog2 y m a d => 5#5 ++ y ++ m ++ 0#4 ++ a ++ d ++ 67#7
  | .vcmpEq y m b a d => 0#5 ++ y ++ m ++ b ++ a ++ 0#2 ++ d ++ 69#7
  | .vcmpNe y m b a d => 1#5 ++ y ++ m ++ b ++ a ++ 0#2 ++ d ++ 69#7
  | .vcmpLt y m b a d => 2#5 ++ y ++ m ++ b ++ a ++ 0#2 ++ d ++ 69#7
  | .vcmpLe y m b a d => 3#5 ++ y ++ m ++ b ++ a ++ 0#2 ++ d ++ 69#7
  | .vcmpUn y m b a d => 4#5 ++ y ++ m ++ b ++ a ++ 0#2 ++ d ++ 69#7
  | .vsel y m b a d => 8#5 ++ y ++ 1#1 ++ m ++ b ++ a ++ d ++ 69#7
  | .vclass y m a d => 9#5 ++ y ++ m ++ 0#4 ++ a ++ d ++ 69#7
  | .vand y m b a d => 0#5 ++ y ++ m ++ b ++ a ++ d ++ 71#7
  | .vor y m b a d => 1#5 ++ y ++ m ++ b ++ a ++ d ++ 71#7
  | .vxor y m b a d => 2#5 ++ y ++ m ++ b ++ a ++ d ++ 71#7
  | .vnot y m a d => 3#5 ++ y ++ m ++ 0#4 ++ a ++ d ++ 71#7
  | .vshl y m b a d => 4#5 ++ y ++ m ++ b ++ a ++ d ++ 71#7
  | .vshr y m b a d => 5#5 ++ y ++ m ++ b ++ a ++ d ++ 71#7
  | .vsra y m b a d => 6#5 ++ y ++ m ++ b ++ a ++ d ++ 71#7
  | .vld i b t q => i ++ 0#3 ++ b ++ 0#1 ++ t ++ q ++ 73#7
  | .vst i b t q => i ++ 0#3 ++ b ++ 0#1 ++ t ++ q ++ 75#7
  | .vgath b a d q => 0#6 ++ 0#1 ++ b ++ a ++ 0#1 ++ d ++ q ++ 77#7
  | .vscat b a d q => 1#6 ++ 0#1 ++ b ++ a ++ 0#1 ++ d ++ q ++ 77#7
  | .vbcast a d q => 2#6 ++ 0#5 ++ a ++ 0#1 ++ d ++ q ++ 77#7
  | .vextr b a d q => 3#6 ++ b ++ 0#1 ++ a ++ 0#3 ++ d ++ q ++ 77#7
  | .vperm y m b a d => 0#5 ++ y ++ m ++ b ++ a ++ d ++ 79#7
  | .vslide y m b a d => 1#5 ++ y ++ m ++ b ++ a ++ d ++ 79#7
  | .vzip y b a d => 2#5 ++ y ++ 0#3 ++ b ++ a ++ d ++ 0#1 ++ 79#7
  | .vuzp y b a d => 3#5 ++ y ++ 0#3 ++ b ++ a ++ d ++ 0#1 ++ 79#7
  | .vldc h r q => 0#5 ++ 0#3 ++ 0#3 ++ h ++ 0#1 ++ r ++ q ++ 81#7
  | .vldcKeep h r q => 0#5 ++ 1#3 ++ 0#3 ++ h ++ 0#1 ++ r ++ q ++ 81#7
  | .vstc h r q => 1#5 ++ 0#3 ++ 0#3 ++ h ++ 0#1 ++ r ++ q ++ 81#7
  | .vred y m a d => 0#5 ++ y ++ m ++ 0#4 ++ a ++ d ++ 83#7
  | .vredBox y m b a => 0#5 ++ y ++ m ++ 2#2 ++ b ++ a ++ 0#4 ++ 83#7
  | .vrmin y m a d => 1#5 ++ y ++ m ++ 0#4 ++ a ++ d ++ 83#7
  | .vrminBox y m b a => 1#5 ++ y ++ m ++ 2#2 ++ b ++ a ++ 0#4 ++ 83#7
  | .vrmax y m a d => 2#5 ++ y ++ m ++ 0#4 ++ a ++ d ++ 83#7
  | .vrmaxBox y m b a => 2#5 ++ y ++ m ++ 2#2 ++ b ++ a ++ 0#4 ++ 83#7
  | .vscan y m a d => 3#5 ++ y ++ m ++ 0#4 ++ a ++ d ++ 83#7
  | .vxacc m z a d => 0#5 ++ 23#5 ++ m ++ 0#3 ++ z ++ a ++ 0#1 ++ d ++ 85#7
  | .vxdrain y c h a d => 1#5 ++ y ++ 0#3 ++ 0#2 ++ c ++ h ++ 0#1 ++ a ++ d ++ 85#7
  | .vtopk y m b a d => 0#5 ++ y ++ m ++ b ++ a ++ d ++ 0#1 ++ 87#7
  | .vquant y a d => 0#5 ++ y ++ 0#3 ++ 0#4 ++ a ++ d ++ 89#7
  | .vdeq y a d => 1#5 ++ y ++ 0#3 ++ 0#4 ++ a ++ d ++ 89#7
  | .vcvt s y m a d => s ++ y ++ m ++ 0#4 ++ a ++ d ++ 93#7
  | .mxcfg a d q => 0#6 ++ 0#5 ++ a ++ 0#2 ++ d ++ q ++ 97#7
  | .mxzero d q => 1#6 ++ 0#5 ++ 0#5 ++ 0#2 ++ d ++ q ++ 97#7
  | .mxmac d q => 2#6 ++ 0#5 ++ 0#5 ++ 0#2 ++ d ++ q ++ 97#7
  | .mxwait d q => 3#6 ++ 0#5 ++ 0#5 ++ 0#2 ++ d ++ q ++ 97#7
  | .mxchk a d q => 4#6 ++ 0#5 ++ 0#3 ++ a ++ 0#2 ++ d ++ q ++ 97#7
  | .mxa n h q => 0#5 ++ 0#3 ++ n ++ h ++ 0#5 ++ q ++ 99#7
  | .mxaKeep n h q => 0#5 ++ 1#3 ++ n ++ h ++ 0#5 ++ q ++ 99#7
  | .mxaHold n h q => 0#5 ++ 2#3 ++ n ++ h ++ 0#5 ++ q ++ 99#7
  | .mxb n h q => 1#5 ++ 0#3 ++ n ++ h ++ 0#5 ++ q ++ 99#7
  | .mxbKeep n h q => 1#5 ++ 1#3 ++ n ++ h ++ 0#5 ++ q ++ 99#7
  | .mxbHold n h q => 1#5 ++ 2#3 ++ n ++ h ++ 0#5 ++ q ++ 99#7
  | .mxdrain k n h r q => 2#5 ++ k ++ n ++ h ++ r ++ q ++ 99#7
  | .ufcfg a q => 0#6 ++ 0#5 ++ a ++ 0#5 ++ q ++ 101#7
  | .mxaUf a q => 1#6 ++ 0#5 ++ a ++ 0#5 ++ q ++ 101#7
  | .ssub a d q => 0#6 ++ 0#5 ++ a ++ d ++ q ++ 103#7
  | .sunsub d q => 1#6 ++ 0#5 ++ 0#5 ++ d ++ q ++ 103#7
  | .mxbS e d q => 2#6 ++ e ++ 0#5 ++ d ++ q ++ 103#7
  | .mxspill a d q => 0#6 ++ 0#5 ++ a ++ 0#2 ++ d ++ q ++ 105#7
  | .mxfill a d q => 1#6 ++ 0#5 ++ a ++ 0#2 ++ d ++ q ++ 105#7
  | .mvset e a q => 0#6 ++ e ++ a ++ 0#5 ++ q ++ 113#7
  | .mvget e d q => 1#6 ++ e ++ 0#5 ++ d ++ q ++ 113#7
  | .mvgo d q => 2#6 ++ 0#5 ++ 0#5 ++ d ++ q ++ 113#7
  | .mvchain a d q => 3#6 ++ 0#5 ++ a ++ d ++ q ++ 113#7
  | .mvtst a d q => 4#6 ++ 0#5 ++ a ++ d ++ q ++ 113#7
  | .mvwait a d q => 5#6 ++ 0#5 ++ a ++ d ++ q ++ 113#7
  | .bxinit a d q => 0#6 ++ 0#5 ++ a ++ d ++ q ++ 115#7
  | .bxarv e a d q => 1#6 ++ e ++ a ++ d ++ q ++ 115#7
  | .bxwait e a d q => 2#6 ++ e ++ a ++ d ++ q ++ 115#7
  | .bxtst e a d q => 3#6 ++ e ++ a ++ d ++ q ++ 115#7
  | .cbacqP n h r q => 0#5 ++ 0#3 ++ n ++ h ++ r ++ q ++ 117#7
  | .cbacqC n h r q => 0#5 ++ 1#3 ++ n ++ h ++ r ++ q ++ 117#7
  | .cbrelP n h q => 1#5 ++ 0#3 ++ n ++ h ++ 0#5 ++ q ++ 117#7
  | .cbrelC n h q => 1#5 ++ 1#3 ++ n ++ h ++ 0#5 ++ q ++ 117#7
  | .cbqry k h r q => 2#5 ++ k ++ 0#3 ++ h ++ r ++ q ++ 117#7
  | .cbinitBuffer a q => 0#6 ++ 0#5 ++ a ++ 0#5 ++ q ++ 119#7
  | .cbinitWindow a q => 0#6 ++ 1#5 ++ a ++ 0#5 ++ q ++ 119#7
  | .glaze e a q => 1#6 ++ e ++ 0#1 ++ a ++ 0#5 ++ q ++ 119#7
  | .rdsr e d q => 0#6 ++ e ++ 0#5 ++ d ++ q ++ 121#7
  | .wrsr e a q => 1#6 ++ e ++ a ++ 0#5 ++ q ++ 121#7
  | .tlbinv e a q => 2#6 ++ e ++ a ++ 0#5 ++ q ++ 121#7
  | .trap e a q => 0#6 ++ e ++ a ++ 0#5 ++ q ++ 123#7
  | .eret e a q => 1#6 ++ e ++ a ++ 0#5 ++ q ++ 123#7
  | .cdopen a q => 0#6 ++ 0#5 ++ a ++ 0#5 ++ q ++ 125#7
  | .cdclose d q => 1#6 ++ 0#5 ++ 0#5 ++ d ++ q ++ 125#7
  | _ => 0#32

/-- The bytes of an encoded instruction, lowest address first (R7, R32); none for an event. -/
def encode (i : Instr) : List (BitVec 8) :=
  match i.length with
  | 2 => let h := encode16 i
    [h.extractLsb' 0 8, h.extractLsb' 8 8]
  | 4 => let w := encode32 i
    [w.extractLsb' 0 8, w.extractLsb' 8 8, w.extractLsb' 16 8, w.extractLsb' 24 8]
  | _ => []

/-- The instruction the decoder reads from a word numbered as spec/opcode_table.json numbers it: bit 0 is the least significant bit
of the first halfword, and the bits above nbits are 0. -/
def decodeTableWord (_nbits w : Nat) : Option Instr :=
  let x := BitVec.ofNat 32 w
  match decode [x.extractLsb' 0 8, x.extractLsb' 8 8, x.extractLsb' 16 8, x.extractLsb' 24 8] with
  | .ok i _ => some i
  | _ => none

end Sys2Proof
end

