-- ==== Sys2Proof/Machine/State.lean ====
section
/-! DEFINITION. The state of one KN740 module as plain data: the tasks with their workspaces' architectural state (R185 to R193),
the tiles (R22), the compute dies' distributors (R263, R319), the virtual interfaces (R399, R404), the memories (R91, R96, R108) and
the module's own units (I/O dies, service processors, host bridge). `State.cur` is the task that issues the next instruction; the
other tasks stand in `State.others`. Tables keyed by a number are lists of (key, value) pairs with the keys strictly rising and no
entry equal to the table's stated default (R134, R142 and the reset columns give the defaults). -/

namespace Sys2Proof.Machine

/-- Why the machine stops for good. No meaning of an instruction raises one of these: every fault of R371 is taken as a trap, a
next state. Only an event that names a unit state does not hold raises `noSuchUnit`. -/
inductive Fault where
  /-- Raised by an event row whose operands name a task, command, transfer, request or entry that the state does not hold, so
  that the event cannot happen there. Safe: the hardware has no such step. -/
  | noSuchUnit (event : String)
  deriving DecidableEq, Repr

/-- Why the model gives an instruction no meaning. -/
inductive Refusal where
  /-- Raised only by a dispatch arm whose instruction has no meaning yet. Safe. -/
  | notModelled (mnemonic : String)
  deriving DecidableEq, Repr

/-! ## Tasks -/

/-- What a parked task waits for (R61, R302). The condition is read from the state; see `parkHolds`. -/
inductive Park where
  /-- A box is empty (MBR, R206). -/
  | box (n : Nat)
  /-- Pages of a buffer: side 0 reserve, 1 acquire (CBACQ, R147). -/
  | pages (h side n : Nat)
  /-- The task's earlier engine commands that the mask names have not completed (R76, R139, R199, R224, R226, R330, R356, R366). Mask bit 0: vector,
  bit 1: matrix, bit 2: commands of either that can set a flag, bit 3: commands of either that access memory. -/
  | commands (mask : Nat)
  /-- Earlier commands of the task that name a block (MXWAIT, R270). -/
  | block (n : Nat)
  /-- The commands recorded by a GLAZE, and the window it will swap (R149). -/
  | glaze (w : Nat)
  /-- Commands, held pages or deliveries that keep a CBINIT from redefining a buffer (0) or a window (1) (R146). -/
  | redefine (kind n : Nat)
  /-- A counter word has not reached its threshold (WAITC, R334). -/
  | counter (addr : Nat) (threshold : DWord)
  /-- A copy-barrier round has not completed (BXWAIT, R180), or has no free seat (BXARV). -/
  | round (addr ticket : Nat)
  | seat (addr round : Nat)
  /-- A group's PARITY is still the one given (SSTEP, GBAR; R318, R335). -/
  | phase (addr parity : Nat)
  /-- A transfer is not complete (MVWAIT, R162). -/
  | transfer (id : Nat)
  /-- A handle entry is absent from the tile's handle cache (R156, R164). -/
  | handle (index : Nat)
  /-- A reservation grant (R343). -/
  | grant (addr : Nat)
  /-- A busy granule (R135, R148). -/
  | granule (addr : Nat)
  /-- A page-busy frame (R101). -/
  | pageBusy (frame : Nat)
  /-- A tile whose rectangle is being reset refuses requests until it is released (R392). -/
  | fenced (gt : Nat)
  /-- A translation walk (R131); the key holds VI, region and offset. -/
  | walk (page : Nat)
  /-- A peer's line is absent from the domain cache (R117, R121); `write` 1 asks for M. -/
  | line (addr write : Nat)
  /-- A launch table, a pending table, or a record address that is still named (R312, R313, R332). -/
  | launchTable
  | pendingTable (gt : Nat)
  | recordName (addr : Nat)
  /-- A work queue is full or empty (R320). -/
  | queueFull (die q : Nat)
  | queueEmpty (die q : Nat)
  /-- An MSEND reply (R339). -/
  | reply
  /-- A register-cache line (R195). -/
  | regLine (line : Nat)
  /-- Code (R329). -/
  | code
  /-- More stores of the task are outstanding than this many (R207, R356, R366). -/
  | stores (most : Nat)
  /-- The leading copy of a redundant task waits for its trailing copy (R210): for free places, or until it has caught up. -/
  | comparator (whole : Bool)
  /-- Readmission with a larger footprint (SCOPE.OPEN, R199). -/
  | footprint
  /-- A full page-move, pre-emption or revocation queue (R99, R377, R165). -/
  | hostQueue (kind : Nat)
  /-- A stream or subscription is being changed (SUNSUB, R267). -/
  | delivery (h : Nat)
  /-- A tie-break comparison that is due (CDCLOSE, R388, R390). -/
  | drained
  /-- Requests translated with the entries that TLBINV k names of ga (R132, R420). -/
  | requests (k ga : Nat)
  /-- A preserved window (R384). -/
  | preserved (w : Nat)
  /-- Held messages of a closing domain still to be sent (CDCLOSE, R388). -/
  | heldSends
  /-- Stopped by a discard of a level, while commands and transfers issued since it opened complete (R387 step 1). -/
  | discard (level : Nat)
  deriving DecidableEq, Repr

/-- A task's place in its life (R301 to R306, R374, R377). -/
inductive TaskStatus where
  /-- No task. -/
  | absent
  /-- In its tile's ready queue (R302). -/
  | ready
  /-- Holds a slot (R304). -/
  | resident
  | parked (why : Park)
  /-- Trapped and not yet finished by ERET or HEACT (R374). -/
  | trapped
  /-- Frozen: trapped with code 0x1C (R407). -/
  | frozen
  /-- Pre-empted and not yet resumed (R378). -/
  | preempted
  deriving DecidableEq, Repr

/-- How a task came to be, and what its end does (R298, R313, R341, R374). -/
inductive TaskKind where
  | launched
  | spawned
  /-- A message handler of a mailbox (R341). -/
  | handler (mbox : Nat)
  /-- A trap handler, for the task with this WP (R374). -/
  | trapHandler (wp : Nat)
  deriving DecidableEq, Repr

/-- A box (R204). -/
structure Box where
  value : DWord := 0
  pois : Bool := false
  taint : Bool := false
  full : Bool := false
  deriving DecidableEq, Repr

/-- Status words of R188, SR.CRUST and SR.MVERR of R192, and SR.VTYPE of R221. -/
structure Status where
  mode : DWord := 0x10
  fpflags : DWord := 0
  tstat : DWord := 0
  pois : DWord := 0
  taint : DWord := 0
  rkey : DWord := 0
  rseq : DWord := 0
  crust : DWord := 0
  mverr : DWord := 0
  vtype : DWord := 0x17
  deriving DecidableEq, Repr

/-- The shadow set of R150, with the tag of each register (R155). -/
structure Shadow where
  regs : Vector DWord 11 := Vector.replicate 11 0
  pois : BitVec 11 := 0
  taint : BitVec 11 := 0
  deriving DecidableEq, Repr

/-- The hardware area of R193, but for the matrix state and SR.VTYPE. -/
structure HwArea where
  /-- Arrival word: [1] P, [0] PENDING (R193, R318). -/
  arrival : DWord := 0
  /-- SR.TASK with SLOT stored as 0: [11:8] FRAME (R303). -/
  frame : DWord := 0
  launch : DWord := 0
  seed : DWord := 0
  tindex : DWord := 0
  group : DWord := 0
  mseq : DWord := 0
  /-- SR.RSV (R344). -/
  rsv : DWord := 0
  /-- Claim word: [17:16] PRIO, [15:8] blocks now held, [7:0] CLAIM (R193). -/
  claim : DWord := 0
  /-- Creation word: SR.MODE[15:11] as fixed at creation (R193). -/
  creation : DWord := 0
  /-- SR.CDNEST and the domain-area addresses of levels 1 to 8 (R382). -/
  cdnest : DWord := 0
  cdAddr : Vector DWord 8 := Vector.replicate 8 0
  deriving DecidableEq, Repr

/-- The matrix state of R247, and the binding generations of R252, R253. -/
structure MatState where
  mxa : DWord := 0
  mxb : DWord := 0
  ufcur : DWord := 0
  zmode : DWord := 0
  uf0 : DWord := 0
  uf1 : DWord := 0
  uf2 : DWord := 0
  /-- Number of the current A generation and B generation. -/
  genA : Nat := 0
  genB : Nat := 0
  deriving DecidableEq, Repr

/-- An instruction that the leading copy of a redundant task has executed and the trailing copy has still to (R210): with its PC, the containment
level, whether its guard held, what the copies compare (the doublewords that the signature absorbs, R389, and the others), whether it holds a
place in the load-value queue and in the store comparator, and what the trailing copy receives: G registers (number, value, poison, taint), P
registers (number, value, taint), the matrix state, and a step of SR.RSEQ; the stores that wait for it; and the leading copy's
signature and count of entries up to and including it. -/
structure Twinned where
  instr : Instr
  pc : BitVec 56 := 0
  depth : Nat := 0
  took : Bool := false
  absorbed : List DWord := []
  extra : List DWord := []
  load : Bool := false
  store : Bool := false
  gs : List (Nat × DWord × Bool × Bool) := []
  ps : List (Nat × Bool × Bool) := []
  mx : Option MatState := none
  drew : Bool := false
  held : Nat := 0
  sig : DWord := 0
  count : Nat := 0
  deriving DecidableEq, Repr

/-- The trailing copy of a redundant task (R186, R210, R243, R331): the registers of its own workspace at WP + 0x2000. V and M of the
trailing copy are never written (R243), and it receives the boxes' values through the queue (R206). -/
structure Twin where
  pc : BitVec 56 := 0
  g : Vector DWord 32 := Vector.replicate 32 0
  t : Vector DWord 8 := Vector.replicate 8 0
  scope : DWord := 0xFFFFFFFF
  st : Status := {}
  mv : Shadow := {}
  mx : MatState := {}
  /-- The trailing copy's signature, with its count of entries (R389). -/
  sig : DWord := 0
  count : Nat := 0
  deriving DecidableEq, Repr

/-- Redundant execution (R210, R389, R390): the leading copy's signature with its entry count, and what stands between the copies. -/
structure Redundant where
  sig : DWord := 0
  count : Nat := 0
  /-- What the trailing copy is behind, oldest first: the load-value queue and the store comparator are the entries with places in them (R210). -/
  queue : List Twinned := []
  /-- A tie-break run is pending: SIGL, SIGT and SIGC of the mismatch. -/
  tie : Option (DWord × DWord × Nat) := none
  /-- SIG3: the signature at SIGC entries of the tie-break run. -/
  sig3 : Option DWord := none
  deriving DecidableEq, Repr

/-- The scheduler's and the hardware's notes on a task (R302 to R306). -/
structure Sched where
  /-- Level of the ready queue, and order of entry into it (R302, R305). -/
  level : Nat := 0
  order : Nat := 0
  /-- Tile cycle at which the task became ready at its level, and at which it took its slot. -/
  since : Nat := 0
  resident : Nat := 0
  /-- The task has held a slot (R187). -/
  started : Bool := false
  /-- Order in which tasks trapped (R374). -/
  trapOrder : Nat := 0
  /-- A trap handler has started for it (R374). -/
  served : Bool := false
  /-- The first load, store or engine access of a store that recovery failed (R397). -/
  failedStore : Option Nat := none
  /-- A remote failure to report at the next execution of the parked instruction: the address (R397). -/
  failedAccess : Option Nat := none
  /-- Status of an MSEND whose reply has come (R339), and whether one is awaited. -/
  reply : Option Nat := none
  sending : Bool := false
  /-- Number of the message whose reply it awaits. -/
  sentId : Nat := 0
  /-- A CDCLOSE that is sending held messages: the next one and how many were not accepted (R388). -/
  closing : Option (Nat × Nat) := none
  /-- The group record that a task instantiated while it was busy has still to join (R313, R437); 0 for none. -/
  joining : Nat := 0
  /-- Output windows that a closing nest has still to swap (R388). -/
  swaps : List Nat := []
  /-- A waiting GLAZE: its window, and the commands it has recorded, by sequence number, and transfers, by tile and identifier (R149). -/
  glaze : Option (Nat × List Nat × List (Nat × Nat)) := none
  /-- Footprint with which SCOPE.OPEN asked to be readmitted (R199). -/
  foot : Nat := 0
  /-- Handles that a fill found invalid, until the waiting instruction executes again (R164). -/
  badHandles : List Nat := []
  /-- EXIT has begun (R205). -/
  exiting : Bool := false
  /-- Granules of output windows that a write since a level opened touched: (level, 2^17 × global tile + granule) (R387 step 5). -/
  touched : List (Nat × Nat) := []
  /-- The task's blocks and commands stand in its save area (R380). -/
  saved : Bool := false
  /-- Binding generations of its saved commands, in order, under which held pages stay held (R253, R279). -/
  savedGens : List (Nat × Nat) := []
  /-- Whether a saved command writes memory, so that a release of the task is still to come after it (R226). -/
  savedMem : Bool := false
  /-- An asynchronous fault to report at the next unissued instruction: cause and detail (R371). -/
  async : Option (Nat × DWord) := none
  /-- The instruction that the task is parked on, decoded: readied, it executes again without a new fetch (R61). -/
  again : Option Instr := none
  /-- What it waited for, until it has executed again (R132). -/
  why : Option Park := none
  /-- Crust entries charged while the line of SR.CRUST is absent from the register cache, which join it when the line is filled. -/
  owed : List DWord := []
  deriving DecidableEq, Repr

/-- A task: its workspace's architectural state while the task exists (R185), and its place in the schedule. -/
structure Task where
  status : TaskStatus := .absent
  kind : TaskKind := .launched
  vi : Nat := 0
  wp : BitVec 56 := 0
  slot : Nat := 0
  pc : BitVec 56 := 0
  g : Vector DWord 32 := Vector.replicate 32 0
  t : Vector DWord 8 := Vector.replicate 8 0
  m : Vector (BitVec 256) 4 := Vector.replicate 4 0
  v : Vector (BitVec 2048) 16 := Vector.replicate 16 0
  box : Vector Box 4 := Vector.replicate 4 {}
  /-- The live set, SR.SCOPE (R197). -/
  scope : DWord := 0xFFFFFFFF
  st : Status := {}
  mv : Shadow := {}
  hw : HwArea := {}
  mx : MatState := {}
  sch : Sched := {}
  red : Redundant := {}
  /-- Snapshots of prepared targets: target number, address and bytes (R328). -/
  snaps : List (Nat × Nat × List Byte) := []
  /-- Lines of the architectural area that are absent from the register cache (R194, R195), by line number from WP; a redundant task's
  line stands for the lines of both copies. -/
  absentLines : List Nat := []
  /-- The trailing copy of a redundant task. -/
  twin : Option Twin := none
  deriving DecidableEq, Repr

/-- What names a task in the tables of this model: its VI above its WP, as HEWP lays them out (R412). -/
def Task.key (t : Task) : Nat := t.vi * 2 ^ 56 + t.wp.toNat

/-- A place an address names after its checks: a slice's offset, an MMA of this module, one of another module or of this one through the domain cache,
or a control-space page (R91). -/
inductive Loc where
  | sram (gt off : Nat)
  | hbm (mma : Nat)
  | peer (m mma : Nat)
  | ctrl (vdie page off : Nat)
  deriving DecidableEq, Repr

/-- What an outstanding store does: write its bytes, release the word's reservation with or without writing it (R345), or add its bytes to the word
as an AMO without return does (R387 step 3). -/
inductive StoreKind where
  | write
  | release (writes : Bool)
  | add
  deriving DecidableEq, Repr

/-- A store, or an atomic's release, that has left its instruction and has not completed (R121, R207, R345): the task, the address and place, the
bytes and marks; a redundant task's store is held until the trailing copy has presented the same (R210), and a late one while the agenda keeps it
(R362); one that is a release orders what follows it (R356, R363); once performed, the writes of protected
granules (R104) and the requests to other homes whose acknowledgements it awaits. -/
structure Store where
  key : Nat
  vi : Nat
  addr : Nat
  loc : Loc
  bytes : List Byte
  marks : List Bool
  held : Bool := false
  late : Bool := false
  rel : Bool := false
  performed : Bool := false
  ids : List Nat := []
  reqs : List Nat := []
  kind : StoreKind := .write
  deriving DecidableEq, Repr

/-! ## Engines and slice -/

/-- Where an engine command stands (R223, R248, R255). -/
inductive Phase where
  | queued
  /-- At the head of its queue with some of its page requests granted (R255). -/
  | waiting
  | begun
  /-- Its result is ready and waits for an empty box (R205). -/
  | boxWait
  deriving DecidableEq, Repr

/-- An engine command with its snapshots (R76, R223, R248, R379). -/
structure Cmd where
  instr : Instr
  word : BitVec 32 := 0
  seq : Nat := 0
  wp : BitVec 56 := 0
  vi : Nat := 0
  slot : Nat := 0
  phase : Phase := .queued
  /-- Values and tags of the G operands: field a, then field b or d (R379). -/
  ga : DWord := 0
  gb : DWord := 0
  poisA : Bool := false
  poisB : Bool := false
  taintA : Bool := false
  taintB : Bool := false
  mode : DWord := 0
  vtype : DWord := 0x17
  rkey : DWord := 0
  rseq : DWord := 0
  mx : MatState := {}
  /-- Configuration word that an MXFILL's header gave at issue (R277). -/
  cfg : DWord := 0
  /-- Containment level open when the command issued (R387). -/
  depth : Nat := 0
  /-- V operands and mask captured when the command began (R223). -/
  ops : List (BitVec 2048) := []
  mask : BitVec 256 := 0
  /-- Poison and taint of the registers, memory and cells it read (R225). -/
  pois : Bool := false
  taint : Bool := false
  /-- Pages granted so far, in the order requested: (buffer, first page number, count) (R255). -/
  grants : List (Nat × Nat × Nat) := []
  /-- Bytes read from memory or pages when it began, and their poison per byte's doubleword. -/
  bytes : List Byte := []
  marks : List Bool := []
  /-- Granules it made busy, as (global tile, granule) (R137). -/
  busy : List (Nat × Nat) := []
  /-- A scalar result waiting for a box: (box, value, poison, taint) (R205). -/
  result : Option (Nat × DWord × Bool × Bool) := none
  /-- Flags and crust entries to merge at completion (R76, R138). -/
  flags : DWord := 0
  crust : List DWord := []
  deriving DecidableEq, Repr

/-- Who asks for pages of a buffer (R143). -/
inductive Asker where
  | task (wp : Nat)
  | command (seq : Nat)
  | transfer (id : Nat)
  | stream (s : Nat)
  | message (n : Nat)
  deriving DecidableEq, Repr

/-- A circular buffer (R142). The four counters stand as the numbers of pages since CBINIT; as 32-bit counters they are these mod 2^32, and a page
of number k lives at slot k mod PAGES. -/
structure CBuf where
  valid : Bool := false
  owner : Nat := 0
  prot : Bool := false
  base : Nat := 0
  plog : Nat := 0
  pages : Nat := 0
  resv : Nat := 0
  pushed : Nat := 0
  taken : Nat := 0
  popped : Nat := 0
  /-- Slots whose done bit is set, and slots whose scalar bit is set, rising. -/
  done : List Nat := []
  scal : List Nat := []
  /-- Queued reserve and acquire requests, oldest first: who, and how many pages. -/
  resQ : List (Asker × Nat) := []
  acqQ : List (Asker × Nat) := []
  /-- Grants made to tasks that have not resumed: (WP, side, first page). -/
  granted : List (Nat × Nat × Nat) := []
  /-- The stream and slot this buffer subscribes to (R266). -/
  sub : Option (Nat × Nat) := none
  /-- Held generations: (WP, operand 0 A or 1 B, generation, first page, pages) (R253). -/
  holds : List (Nat × Nat × Nat × Nat × Nat) := []
  /-- Tasks that have reserved, and that have acquired, since CBINIT (R147). -/
  reservers : List Nat := []
  acquirers : List Nat := []
  /-- Pages that a task with an open domain reserved (kind 0), completed as a producer (1), acquired (2) or released as a consumer (3):
  (task, level, kind, page). Kinds 1 and 3 take effect at CDCLOSE (R145, R385, R387). -/
  dom : List (Nat × Nat × Nat × Nat) := []
  /-- Discarded reservations and acquisitions that RESV and TAKEN have not stepped back over yet (R145, R387). -/
  undoR : List Nat := []
  undoA : List Nat := []
  deriving DecidableEq, Repr

/-- A glazed window (R148). -/
structure Win where
  valid : Bool := false
  owner : Nat := 0
  base : Nat := 0
  size : Nat := 0
  front : Bool := false
  deriving DecidableEq, Repr

/-- An accumulator cell: value bits, residue and poison bit (R83, R244). A narrow cell uses the low 128 bits. -/
structure Cell where
  c : BitVec 640 := 0
  r : BitVec 8 := 0
  pois : Bool := false
  deriving DecidableEq, Repr

/-- An accumulator block (R244) with its fault record (R269). -/
structure Block where
  mode : Nat := 0
  config : DWord := 0
  fkind : Nat := 0
  fcell : Nat := 0
  cells : List (Nat × Cell) := []
  deriving DecidableEq, Repr

/-- State of a granule (R134): 0 free, 1 unwritten, 2 written, 3 busy; with its crust bit. -/
structure Gran where
  state : BitVec 2 := 0
  crust : Bool := false
  deriving DecidableEq, Repr

/-- A chain's descriptor as its fetch left it (R167): its doublewords, the code of a failed check (0 for none), whether it is skipped, and
doublewords 0 and 1 of the handle entries that its check took (R165). -/
structure Ahead where
  desc : List DWord := []
  code : Nat := 0
  skip : Bool := false
  srcH : DWord × DWord := (0, 0)
  dstH : DWord × DWord := (0, 0)
  deriving DecidableEq, Repr

/-- A mover transfer or chain in the tile's transfer table (R157 to R160). -/
structure Transfer where
  id : Nat := 0
  vi : Nat := 0
  wp : BitVec 56 := 0
  /-- The shadow registers copied at launch (R156), or those of the descriptor in force (R166). -/
  regs : Vector DWord 11 := Vector.replicate 11 0
  /-- Doublewords 0 and 1 of the source and destination handles' entries, as the handle check took them (R163). -/
  srcH : DWord × DWord := (0, 0)
  dstH : DWord × DWord := (0, 0)
  /-- 0 queued, 1 moving, 2 complete, 3 stopped (R160). -/
  state : Nat := 0
  /-- Destination bytes delivered to each destination, and source bytes read. -/
  done : Nat := 0
  read : Nat := 0
  /-- Source bytes not yet transformed, with their poison; output bytes not yet written, with their poison and whether a faulted PX
  block gave them (R175); PX blocks decoded. -/
  inp : List (Byte × Bool) := []
  out : List (Byte × Bool × Bool) := []
  blocks : Nat := 0
  /-- An error of R160 has stopped it. -/
  stop : Bool := false
  code : Nat := 0
  badMeta : Bool := false
  pois : Bool := false
  csum : Bool := false
  trunc : Nat := 0
  /-- Crust entries logged (R138, R159). -/
  crusts : List DWord := []
  isChain : Bool := false
  /-- A chain: the next descriptor's address; whether a descriptor is in force, and whether it has begun to move data (R167). -/
  chain : Option Nat := none
  inForce : Bool := false
  began : Bool := false
  /-- The next descriptor, fetched (R167). -/
  ahead : Option Ahead := none
  /-- The window a deterministic chain must stay in (R168). -/
  detWin : Option Nat := none
  det : Bool := false
  /-- The page being read, and the pages being written, as (global tile, page, whether a faulted block gave a byte of it) (R175). -/
  srcPage : Option Nat := none
  dstPages : List (Nat × Nat × Bool) := []
  /-- The 64-byte granule of the destination that last took a byte of a faulted block (R175). -/
  badGran : Option Nat := none
  /-- Destination granules that it has begun to write and not finished, as (global tile, granule) (R137, R144). -/
  busy : List (Nat × Nat) := []
  /-- Writes of protected granules, by number, and requests to other modules' homes, by sequence number, that have not been acknowledged (R164). -/
  ids : List Nat := []
  reqs : List Nat := []
  /-- It has asked for a line and not been served since (R122). -/
  missed : Bool := false
  /-- Containment level open at launch (R385). -/
  depth : Nat := 0
  /-- The eight doublewords of a collective's record, read once at MVGO (R285), and its use number. -/
  record : List DWord := []
  use : Nat := 0
  deriving DecidableEq, Repr

/-- A translation-cache entry (R131): VI, region, first offset, size in bytes, the leaf. -/
structure TlbEntry where
  vi : Nat
  region : Nat
  base : Nat
  size : Nat
  leaf : DWord
  deriving DecidableEq, Repr

/-- A pending task of a tile (R301): the address that names it, its VI, the descriptor, its count, the spawner's seed. -/
structure Pending where
  addr : Nat := 0
  vi : Nat := 0
  desc : List DWord := []
  dep : Nat := 0
  seed : DWord := 0
  deriving DecidableEq, Repr

/-- A message placed in a mailbox's buffer and not yet handled or popped (R338, R341): its page number, the sender's DET bit, seed, task
index and SEQ, and whether CTR has counted it. -/
structure Post where
  page : Nat
  det : Bool
  seed : DWord
  tindex : Nat
  seq : Nat
  counted : Bool := false
  deriving DecidableEq, Repr

/-- A mailbox (R336), and the page that its handler is handling (R341). -/
structure Mailbox where
  dw0 : DWord := 0
  dw1 : DWord := 0
  dw2 : DWord := 0
  dw3 : DWord := 0
  posts : List Post := []
  handler : Option Nat := none
  deriving DecidableEq, Repr

/-- A tile (R22). -/
structure Tile where
  gran : List (Nat × Gran) := []
  cb : List (Nat × CBuf) := []
  win : List (Nat × Win) := []
  z : List (Nat × Block) := []
  xctr : BitVec 16 := 0
  xfers : List (Nat × Transfer) := []
  /-- Identifier of the transfer the mover served last (R158). -/
  xlast : Nat := 0xFFFF
  /-- The command in progress and the queued commands of the vector and matrix engines, in issue order (R24, R223, R248). -/
  vq : List Cmd := []
  mq : List Cmd := []
  /-- Slot each engine served last; the round goes on from the next one (R24). -/
  vlast : Nat := 0
  mlast : Nat := 0
  /-- Handle cache: (VI, index, doubleword 0, doubleword 1) (R164). -/
  hcache : List (Nat × Nat × DWord × DWord) := []
  tlb : List TlbEntry := []
  pend : List Pending := []
  mbox : List (Nat × Mailbox) := []
  /-- Instruction-cache lines, newest first: address of the line as (VI, address) code, the moment its bytes were read, and the bytes (R328,
  R329). -/
  icache : List (Nat × Nat × List Byte) := []
  /-- Tile cycles since reset (R418). -/
  cycle : DWord := 0
  quarantined : Bool := false
  failed : Bool := false
  gated : Bool := false
  waking : Bool := false
  resetting : Bool := false
  /-- Cycle of the last work or request (R310). -/
  lastBusy : Nat := 0
  /-- The task for which a rotation has made room and that is admitted before any other (R306). -/
  waitHead : Option Nat := none
  /-- The head of level 3 of the ready queue, and the cycle since which it has been eligible (R306). -/
  headSince : Option (Nat × Nat) := none
  deriving DecidableEq, Repr

/-- A stream (R263, R264): the entry's RW fields, the pages stored with their delivered bits, and the bytes of an open page. -/
structure Stream where
  entry : DWord := 0
  /-- Stored pages, oldest first: the task whose transfer completed the page, bytes, marks, and the slots delivered to. -/
  pages : List (Nat × List Byte × List Bool × List Nat) := []
  part : List Byte := []
  partMarks : List Bool := []
  /-- Occupied slots: (slot, global tile, buffer). -/
  subs : List (Nat × Nat × Nat) := []
  deriving DecidableEq, Repr

/-- A work queue (R319). -/
structure WorkQ where
  valid : Bool := false
  owner : Nat := 0
  closed : Bool := false
  lcap : Nat := 0
  items : List (DWord × Bool) := []
  deriving DecidableEq, Repr

/-- A compute die's shared units (R263, R319, R391). -/
structure Die where
  streams : List (Nat × Stream) := []
  wq : List (Nat × WorkQ) := []
  rects : List (Nat × DWord) := []
  degraded : Bool := false
  deriving DecidableEq, Repr

/-! ## Virtual interfaces -/

/-- A launch in its VI's table (R301, R308): pending or placing. -/
structure Launch where
  id : Nat := 0
  record : List DWord := []
  /-- Address that names it while pending (R332). -/
  addr : Nat := 0
  dep : Nat := 0
  /-- Tasks placed so far, tasks instantiated, and tasks that have exited or ended. -/
  placed : Nat := 0
  started : Nat := 0
  ended : Nat := 0
  /-- Placed tasks not yet instantiated: (task index, position in the tile set) (R297). -/
  waiting : List (Nat × Nat) := []
  /-- Tasks held (R396): (task index, position). -/
  held : List (Nat × Nat) := []
  /-- Tasks instantiated per position, for R298: (position, count). -/
  perTile : List (Nat × Nat) := []
  cancelled : Bool := false
  deriving DecidableEq, Repr

/-- A launch window (R403): queued records with their slot offsets, and WSTAT's parts. -/
structure LWin where
  queue : List (Nat × BitVec 512) := []
  last : Nat := 0
  refused : Nat := 0
  deriving DecidableEq, Repr

/-- A page-move record in progress (R100, R101). -/
structure PageMove where
  first : Nat
  count : Nat
  dstack : Nat
  dframe : Nat
  stat : Nat
  moved : Nat := 0
  /-- Status that it reports when nothing of it is left to move. -/
  status : Nat := 0
  deriving DecidableEq, Repr

/-- A virtual interface: its control space (R399), its block of the module control page (R404) and its queues. -/
structure Vi where
  enable : Bool := false
  stop : Bool := false
  stopped : Bool := false
  rect : Bool := false
  prio : Nat := 0
  assist : Nat := 0
  jobtag : Nat := 0
  quotaGran : Nat := 0
  quotaLaunch : Nat := 0
  sramWin : List (Nat × DWord) := []
  ctx : List (Nat × BitVec 32) := []
  root1 : DWord := 0
  root2 : DWord := 0
  htbase : DWord := 0
  htcount : DWord := 0
  revq : List Nat := []
  /-- The revocation that has cleared its entry and waits for transfers (R165). -/
  revoking : Option Nat := none
  revdone : DWord := 0
  pmq : List Nat := []
  move : Option PageMove := none
  preq : List Nat := []
  trapcfg : DWord := 0x8000000000000000
  frz0 : DWord := 0
  frz1 : DWord := 0
  cserr : DWord := 0
  evidx : BitVec 32 := 0
  evctr : DWord := 0
  /-- The last 256 event-log entries by slot (R408). -/
  log : List (Nat × DWord × DWord) := []
  launches : List Launch := []
  nextLaunch : Nat := 1
  lwin : List (Nat × LWin) := []
  halloca : DWord := 0
  hallocst : DWord := 0x8000000000000000
  /-- Granules allocated by the VI (R405). -/
  granules : Nat := 0
  /-- Host ports whose aperture is frozen (R407). -/
  frozenPorts : List Nat := []
  deriving DecidableEq, Repr

/-! ## The module -/

/-- A line of the domain cache (R117, R118): state 1 S, 2 E, 3 M, 4 O; its bytes and marks stand in the line when held. -/
structure DLine where
  state : Nat := 0
  data : BitVec 1024 := 0
  marks : BitVec 16 := 0
  deriving DecidableEq, Repr

/-- A directory entry (R119): the sharers, and the E (2), M (3) or O (4) holder, by module number; whether memory holds what an O holder does; the
request being served, as (requester, its sequence number, kind: 0 a forwarded GetS, 1 a GetM, 2 a recall for a load of this module, 3 one for a
store or atomic, 4 a directory eviction), and the holders whose answers it awaits. -/
structure Dir where
  sharers : List Nat := []
  owner : Option (Nat × Nat) := none
  clean : Bool := false
  serving : Option (Nat × Nat × Nat) := none
  awaited : List Nat := []
  deriving DecidableEq, Repr

/-- A packet that the module sends (R112): class, priority class, source agent and incarnation, destination module and agent, the incarnation
expected of the destination, sequence number, kind, address, job tag, data and marks, bytes of a store, the sequence number of the request that it
answers, and a code. A request stays until it is answered; `req` is the master that waits for it. -/
structure Packet where
  cls : Nat
  dst : Nat
  seq : Nat := 0
  kind : Nat
  addr : Nat
  prio : Nat := 0
  agent : Nat := 0
  dagent : Nat := 0
  inc : BitVec 16 := 0
  expect : BitVec 16 := 0
  tag : Nat := 0
  data : BitVec 1024 := 0
  marks : BitVec 16 := 0
  size : Nat := 0
  re : Nat := 0
  code : Nat := 0
  req : Option Asker := none
  /-- The modules that it goes through, its destination last, once it has found credits on its first link (R113, R114). -/
  route : Option (List Nat) := none
  sends : Nat := 1
  deriving DecidableEq, Repr

/-- Credits that a packet holds on an output link (R125): port, class, hop channel, and its flits in reserved and in shared slots. -/
structure LinkUse where
  port : Nat
  cls : Nat
  hop : Nat
  own : Nat
  shared : Nat
  deriving DecidableEq, Repr

/-- A parity delta that this module has sent (R104): the number of the write, granule, weight (0 P, 1 Q), the packet's sequence number, the delta, the
requester's tag and an atomic's old word, and whether its holder has acknowledged. -/
structure Delta where
  id : Nat
  granule : Nat
  weight : Nat
  seq : Nat
  data : BitVec 512
  req : Nat := 0
  old : Option DWord := none
  acked : Bool := false
  deriving DecidableEq, Repr

/-- A delta that this module keeps as a parity holder until its home retires it (R104, R105). -/
structure HeldDelta where
  home : Nat
  seq : Nat
  granule : Nat
  data : BitVec 512
  req : Nat := 0
  old : Option DWord := none
  deriving DecidableEq, Repr

/-- What this module's homes have served (R116, R349): source module and agent, sequence number and kind of a request, and the answer once it has been
given: kind, address, data, marks and code. -/
structure Served where
  src : Nat
  agent : Nat
  seq : Nat
  kind : Nat
  answer : Option (Nat × Nat × BitVec 1024 × BitVec 16 × Nat) := none
  deriving DecidableEq, Repr

/-- A translation walk (R131, R409): its tag, the VI, region and offset, the keys of the tasks that wait for it, and what it read: a leaf
with its page's first offset and size, or none for the translation fault. Until delivery the reading stands in `read`. A delivered walk
stays only while its reading serves the tasks that started it (a fault, or a leaf that TLBINV dropped), each for one execution. -/
structure Walk where
  tag : Nat
  vi : Nat
  region : Nat
  offset : Nat
  wps : List Nat
  host : Bool := false
  /-- An entry of this page was dropped by TLBINV while the walk was in flight (R420). -/
  dropped : Bool := false
  read : Option (Option (DWord × Nat × Nat)) := none
  result : Option (Option (DWord × Nat × Nat)) := none
  /-- Tasks whose one execution with a delivered reading has begun. -/
  used : List Nat := []
  deriving DecidableEq, Repr

/-- A reserved doubleword (R343), by `State.wordKey`: its holder, and the reservers that wait, in order of arrival. -/
structure Reserv where
  addr : Nat
  holder : Option Nat
  waiters : List Nat := []
  /-- The word and its poison as a grant of another module's home brought them. -/
  value : DWord := 0
  pois : Bool := false
  granted : Bool := false
  deriving DecidableEq, Repr

/-- A message on its way, held, or answered and not yet replied to (R337 to R340). -/
structure Msg where
  /-- Order in which it was sent or came in. -/
  id : Nat
  /-- The number that its sender gave it, for the reply. -/
  num : Nat := 0
  /-- Sender's module, task and tile, and doubleword 72 of the page (R337). -/
  src : Nat
  key : Nat
  tile : Nat := 0
  sender : DWord
  /-- The matched VI on this module, if any (R338), and the destination as gd gave it. -/
  vi : Option Nat
  dest : DWord
  payload : List Byte
  marks : List Bool
  seq : Nat
  tindex : Nat
  seed : DWord
  det : Bool
  /-- Held under R340, for the phase `phase` of the group whose record has the key `group`. -/
  held : Bool
  group : Nat := 0
  phase : Nat := 0
  arrived : Bool := false
  /-- The page reserved at the mailbox (R340). -/
  page : Option Nat := none
  /-- The status that the reply carries, until the reply has arrived. -/
  reply : Option Nat := none
  replied : Bool := false
  deriving DecidableEq, Repr

/-- A collective on this module (R283 to R293): the four values that match it (R286), the module's own transfer once its source is read,
and the shares and notices that have been given or have arrived. -/
structure Coll where
  /-- Domain job tag, TAG, use number, and the record's ROWS and COLS (R286). -/
  job : Nat := 0
  tag : Nat := 0
  use : Nat := 0
  sel : DWord := 0
  /-- The transfer, as (global tile, identifier), and its source bytes. -/
  xfer : Option (Nat × Nat) := none
  source : List Byte := []
  /-- Shares: (member that gives it, 8 × phase + kind, index, wire bytes). -/
  shares : List (Nat × Nat × Nat × BitVec 704) := []
  /-- What each member gives for the fields that all must give alike (R286). -/
  heads : List (Nat × Nat) := []
  ready : List Nat := []
  commit : Bool := false
  written : Bool := false
  /-- Code of the failure that has stopped it (R293). -/
  failed : Option Nat := none
  /-- Members declared lost, and what the survivors have answered about commit: (member, whether it holds commit). -/
  lost : List Nat := []
  answers : List (Nat × Bool) := []
  deriving DecidableEq, Repr

/-- A host-event-queue entry (R411). -/
structure HEvent where
  kind : Nat
  vi : Nat
  d1 : DWord := 0
  d2 : DWord := 0
  d3 : DWord := 0
  deriving DecidableEq, Repr

/-- What an event row names and brings from outside: each row's meaning says which fields it reads. A packet that has come in stands in the same
form: its class `cls`, source module `src` and agent `gt`, destination agent `die`, sequence number `seq`, kind, address, job tag `index`, data and
marks (`data`, `value`), bytes of a store (`size`), the sequence number it answers (`offset`), and `code`. -/
structure EvIn where
  /-- A task's key (`Task.key`). -/
  key : Nat := 0
  gt : Nat := 0
  slot : Nat := 0
  vi : Nat := 0
  vdie : Nat := 0
  die : Nat := 0
  /-- An identifier: of a transfer, launch, stream, buffer, mailbox, walk, use, voter, port, stack or island. -/
  id : Nat := 0
  index : Nat := 0
  addr : Nat := 0
  kind : Nat := 0
  size : Nat := 0
  offset : Nat := 0
  src : Nat := 0
  cls : Nat := 0
  srcInc : Nat := 0
  dstInc : Nat := 0
  seq : Nat := 0
  code : Nat := 0
  time : Nat := 0
  value : Nat := 0
  write : Bool := false
  /-- A verdict, agreement or pass. -/
  ok : Bool := false
  data : BitVec 1024 := 0
  deriving DecidableEq, Repr

/-- The service processors and the module block (R393 to R417). -/
structure Module where
  /-- This module's number in the domain (R110). -/
  number : Nat := 0
  booted : Bool := false
  held : Bool := false
  voters : List Nat := [0, 1, 2]
  /-- Die-map entries by logical die (R17), loaded at boot (R414), and the map epoch. -/
  dieMap : List (Nat × BitVec 32) := []
  epoch : Nat := 0
  /-- Home-map entries that differ from the reset map (R97). -/
  homeMap : List (Nat × BitVec 32) := []
  /-- Domain-cache and incarnation counters: key 8 × k + c (R122). -/
  counters : List (Nat × BitVec 48) := []
  present : List Nat := [0]
  incarnation : BitVec 16 := 0
  /-- Incarnations recorded by the I/O dies: key 1,024 × die + module (R123). -/
  peers : List (Nat × BitVec 16) := []
  announce : List Nat := []
  dcache : List (Nat × DLine) := []
  dir : List (Nat × Dir) := []
  darkPorts : List Nat := []
  /-- Lines of other modules whose stores go through to the home (R120). -/
  through : List Nat := []
  outbox : List Packet := []
  nextSeq : BitVec 32 := 0
  /-- Next sequence number of each ordered flow that leaves, and of each that comes in (R115), and packets that came in before their turn. -/
  outFlows : List (Nat × Nat) := []
  inFlows : List (Nat × Nat) := []
  early : List EvIn := []
  /-- Packets accepted and not yet served (R115, R123). -/
  inbox : List EvIn := []
  served : List Served := []
  /-- Credits in use on the output links (R125). -/
  links : List LinkUse := []
  replays : Nat := 0
  /-- Poisoned words that a release of a reservation has overwritten: logged as corrected by overwrite (R109, R345). -/
  overwrites : Nat := 0
  /-- Parity deltas not yet retired (R104, R105), the number of the next write of a protected granule, and writers on other modules that wait for both
  acknowledgements: (number of the write, what the packet that asked for it was). -/
  deltas : List Delta := []
  nextWrite : Nat := 0
  writers : List (Nat × EvIn) := []
  /-- Deltas kept as a parity holder (R104). -/
  kept : List HeldDelta := []
  /-- Requests that have had 8 sends without a response, by sequence number (R116). -/
  unanswered : List Nat := []
  lostMembers : List Nat := []
  degradedStripes : List Nat := []
  /-- Scrub log per stack: corrected, repaired, poisoned counts (R107). -/
  scrubLog : List (Nat × Nat × Nat × Nat) := []
  walks : List Walk := []
  nextTag : Nat := 0
  modassist : Nat := 0
  scrubDiv : Nat := 8
  erasgrp : DWord := 0
  erasmem : List (Nat × DWord) := []
  pendingSparing : List Nat := []
  /-- Sockets of retired dies, which are no spares (R16, R18). -/
  deadSockets : List Nat := []
  /-- Logical dies being retired: fenced (step 1 of R18 done), or bound anew with the fence still up (step 2 done: true). -/
  retiring : List (Nat × Bool) := []
  pendingRebuild : List Nat := []
  testUnits : List Nat := []
  heq : List (Nat × HEvent) := []
  heqidx : BitVec 32 := 0
  heqack : BitVec 32 := 0
  heqWait : List HEvent := []
  notices : Nat := 0
  hewp : DWord := 0
  hestat : DWord := 0x8000000000000000
  hleaf : DWord := 0
  hcserr : DWord := 0
  /-- Island frequencies and ceilings in MHz that differ from 2,500 and 2,800 (R27, R416). -/
  freq : List (Nat × Nat) := []
  ceiling : List (Nat × Nat) := []
  idle : Nat := 65536
  /-- Structural-test ring (R417) and its write index. -/
  tests : List (Nat × DWord × DWord) := []
  testIdx : Nat := 0
  fwActive : Nat := 0
  fwVersion : Nat := 0
  fwPending : Option (Nat × Bool) := none
  /-- The last attestation report's contents: nonce, serial number, measurement chain, epoch, incarnation, failed test units (R415). -/
  attest : Option (BitVec 384 × BitVec 64 × BitVec 384 × Nat × BitVec 16 × Nat) := none
  measurement : BitVec 384 := 0
  /-- The answer to the last host request: aperture, status (0 done, 1 error, 2 poisoned data), and the bytes of a read (R402). -/
  hostReply : Nat × Nat × BitVec 1024 := (0, 0, 0)
  /-- Slot halves reported for structural test, as 32 × global tile + slot (R390). -/
  suspects : List Nat := []
  /-- Residue failures that collective engines reported (R293). -/
  colReports : Nat := 0
  deriving DecidableEq, Repr

/-- What happens next: the issuing task's turn, or an event row with its inputs. -/
inductive Move where
  /-- The turn of a slot (R23): the resident task with this key issues. -/
  | issue (key : Nat)
  | event (i : Instr) (x : EvIn)
  /-- The turn of the second slot of a redundant task: its trailing copy executes (R210, R304). -/
  | trail (key : Nat)
  /-- As `issue`, but a plain store stays outstanding while the agenda lasts, so that later accesses may overtake it (R362). -/
  | late (key : Nat)
  /-- The n-th of the outstanding stores is kept no longer. -/
  | store (n : Nat)
  deriving DecidableEq, Repr

/-- One KN740 module. -/
structure State where
  /-- The task that issues (R23). -/
  cur : Task := {}
  others : List Task := []
  /-- Bytes of flat SRAM and HBM that differ from `unlistedByte`, by physical byte number (R91, R96), rising. -/
  mem : List Host.Cell := []
  /-- Poisoned doublewords, by physical doubleword number, rising (R108). -/
  poison : List Nat := []
  tiles : List (Nat × Tile) := []
  dies : List (Nat × Die) := []
  vis : List (Nat × Vi) := []
  md : Module := {}
  resv : List Reserv := []
  /-- Stores outstanding, oldest first (R207). -/
  stores : List Store := []
  /-- Updates of completion and counter words that wait (R28, R314, R343, R392): VI, address, and the launch it completes, or 0. -/
  owedBumps : List (Nat × Nat × Nat) := []
  /-- Groups that ended tasks leave once their records are no longer busy: VI, tile and record (R314, R437). -/
  owedLeaves : List (Nat × Nat × Nat) := []
  msgs : List Msg := []
  colls : List Coll := []
  /-- Uses of collective tags: (tag, count) (R286). -/
  tagUses : List (Nat × Nat) := []
  /-- Moves chosen from outside: the interleaving of tasks, hardware events and inputs, first one next. -/
  agenda : List Move := []
  /-- The inputs of the event that is happening. -/
  ev : EvIn := {}
  /-- The issuing task found a queue full and hardware work must go first (R24). -/
  stalled : Bool := false
  /-- A plain store of the turn under way stays outstanding (R362). -/
  defer : Bool := false
  /-- Sequence numbers for commands, ready-queue entries and messages. -/
  clock : Nat := 0
  /-- Index of the next free value (Config). -/
  fresh : Nat := 0
  deriving DecidableEq, Repr

/-- What a byte of memory that nothing has written reads as. DESIGN CHOICE (log entry 1). -/
def unlistedByte : Byte := 0

/-- The machine right after reset: no task, every granule free (R134), every table at its reset column, not yet booted (R414). -/
def State.reset : State := {}

end Sys2Proof.Machine
end

