-- ==== Sys2Proof/Machine/Maps.lean ====
section
/-! DEFINITION. Tables: lists of (key, value) with rising keys and no entry equal to the default, and bit-field helpers (R8). -/

namespace Sys2Proof.Machine

/-- The value at a key; an unlisted key holds the default. -/
def tget {α : Type} (d : α) : List (Nat × α) → Nat → α
  | [], _ => d
  | (k, v) :: r, a => if k = a then v else tget d r a

/-- Insert or replace, keeping the keys rising. -/
def tinsert {α : Type} : List (Nat × α) → Nat → α → List (Nat × α)
  | [], a, v => [(a, v)]
  | (k, w) :: r, a, v =>
    if a < k then (a, v) :: (k, w) :: r
    else if a = k then (a, v) :: r
    else (k, w) :: tinsert r a v

/-- Write a key; writing the default removes the entry. -/
def tset {α : Type} [DecidableEq α] (d : α) (t : List (Nat × α)) (a : Nat) (v : α) : List (Nat × α) :=
  if v = d then t.filter (fun e => e.1 ≠ a) else tinsert t a v

/-- Change the value at a key. -/
def tmod {α : Type} [DecidableEq α] (d : α) (t : List (Nat × α)) (a : Nat) (f : α → α) : List (Nat × α) :=
  tset d t a (f (tget d t a))

/-- Keys strictly rising. -/
def rising {α : Type} : List (Nat × α) → Bool
  | [] => true
  | [_] => true
  | (k, _) :: (k', v') :: r => decide (k < k') && rising ((k', v') :: r)

/-- The canonical form of a table. -/
def tableWf {α : Type} [DecidableEq α] (d : α) (t : List (Nat × α)) : Bool :=
  rising t && t.all (fun e => decide (e.2 ≠ d))

/-- A rising list of numbers, as a set: membership, insertion and removal. -/
def sadd : List Nat → Nat → List Nat
  | [], a => [a]
  | k :: r, a => if a < k then a :: k :: r else if a = k then k :: r else k :: sadd r a

/-- Remove a number from a set. -/
def sdel (t : List Nat) (a : Nat) : List Nat := t.filter (fun k => k ≠ a)

/-- x[lo + n − 1 : lo] of a 64-bit value, as a number (R8). -/
def bits (x : DWord) (lo n : Nat) : Nat := (x.toNat >>> lo) % 2 ^ n

/-- Bit n of a 64-bit value. -/
def bit (x : DWord) (n : Nat) : Bool := x.getLsbD n

/-- x with its bits [lo + n − 1 : lo] replaced. -/
def setBits (x : DWord) (lo n : Nat) (v : Nat) : DWord :=
  let mask : DWord := BitVec.ofNat 64 ((2 ^ n - 1) <<< lo)
  (x &&& ~~~mask) ||| (BitVec.ofNat 64 ((v % 2 ^ n) <<< lo))

/-- x with bit n set to b. -/
def setBit (x : DWord) (n : Nat) (b : Bool) : DWord :=
  if b then x ||| (1#64 <<< n) else x &&& ~~~(1#64 <<< n)

/-- A number as a 64-bit value, wrapped (R65). -/
def dw (n : Nat) : DWord := BitVec.ofNat 64 n

/-- Little-endian bytes of a number (R7). -/
def toBytes : Nat → Nat → List Byte
  | 0, _ => []
  | n + 1, x => BitVec.ofNat 8 x :: toBytes n (x / 256)

/-- The number that little-endian bytes hold (R7). -/
def ofBytes : List Byte → Nat
  | [] => 0
  | b :: r => b.toNat + 256 * ofBytes r

/-- The doublewords of a run of bytes (R7). -/
def dwordsOf : Nat → List Byte → List DWord
  | 0, _ => []
  | n + 1, bs => dw (ofBytes (bs.take 8)) :: dwordsOf n (bs.drop 8)

/-- The n-th of a list of doublewords; 0 past its end. -/
def nthDw (l : List DWord) (n : Nat) : DWord := l.getD n 0

/-- Doublewords joined into one value, the first lowest. -/
def dwJoin (n : Nat) (l : List DWord) : BitVec n := BitVec.ofNat n (l.foldr (fun d x => d.toNat + 2 ^ 64 * x) 0)

/-- Position of the first element that satisfies a test. -/
def firstIdx {α : Type} (p : α → Bool) : List α → Option Nat
  | [] => none
  | x :: r => if p x then some 0 else (firstIdx p r).map (· + 1)

/-- Replace the elements that satisfy a test. -/
def modWhere {α : Type} (p : α → Bool) (f : α → α) (l : List α) : List α := l.map (fun x => if p x then f x else x)

end Sys2Proof.Machine
end

