-- ==== Sys2Proof/Machine/Image.lean ====
section
/-! DEFINITION. The workspace image of a task (R185 to R196): the doublewords of its architectural area and hardware area at their offsets
from WP. -/

namespace Sys2Proof.Machine

/-- All tasks. -/
def State.tasks (s : State) : List Task := if s.cur.status = .absent then s.others else s.cur :: s.others

/-- Doublewords of an M or a V register. -/
def limbs (n : Nat) (x : Nat) : List DWord := (List.range n).map (fun i => dw (x >>> (64 * i)))

def Box.flags (b : Box) : DWord := dw ((if b.full then 1 else 0) + (if b.pois then 2 else 0) + (if b.taint then 4 else 0))

/-- Doublewords at consecutive offsets. -/
def at8 (off : Nat) (l : List DWord) : List (Nat × DWord) := (List.range l.length).map (fun i => (off + 8 * i, nthDw l i))

/-- The hardware area (R193). -/
def Task.hwWords (t : Task) : List (Nat × DWord) :=
  at8 0x300 ([t.st.vtype, t.hw.arrival, t.hw.frame, t.hw.launch, t.hw.seed, t.hw.tindex, t.hw.group, t.hw.mseq,
    t.mx.mxa, t.mx.mxb, t.mx.ufcur, t.mx.zmode, t.mx.uf0, t.mx.uf1, t.mx.uf2, 0, t.hw.cdnest] ++ t.hw.cdAddr.toList ++
    [t.hw.rsv, t.hw.claim, t.hw.creation, 0, 0, 0, 0])

/-- The trailing copy of a redundant task as a task of its own, and the task with its trailing copy put back (R210, R243). -/
def Task.copy (t : Task) : Task :=
  match t.twin with
  | none => t
  | some w => { t with pc := w.pc, g := w.g, t := w.t, scope := w.scope, st := w.st, mv := w.mv, mx := w.mx }
def Task.putCopy (t u : Task) : Task :=
  { t with twin := t.twin.map (fun w => { w with pc := u.pc, g := u.g, t := u.t, scope := u.scope, st := u.st, mv := u.mv, mx := u.mx }) }

/-- Whether a redundant task's trailing copy has executed all that its leading copy has (R210). -/
def Task.caughtUp (t : Task) : Bool :=
  match t.twin with
  | none => true
  | some w => t.red.queue.isEmpty && w.pc == t.pc
/-- A task's PC, that of both copies where the trailing copy is not behind. -/
def Task.setPc (t : Task) (x : BitVec 56) : Task := { t with pc := x, twin := if t.red.queue = [] then t.twin.map (fun w => { w with pc := x }) else t.twin }

/-- The doublewords of a line that a write-back stores: the bytes of live registers, and those of the non-register lines (R185, R192, R196). -/
def Task.lineWords (t : Task) (l : Nat) : List (Nat × DWord) :=
  if l < 4 then (at8 (64 * l) ((t.g.toList.drop (8 * l)).take 8)).filter (fun e => bit t.scope (e.1 / 8))
  else if l = 4 then at8 0x100 t.t.toList
  else if l = 5 then at8 0x140 [t.pc.setWidth 64, t.st.mode, t.st.fpflags, t.st.tstat, t.st.pois, t.st.taint, t.st.rkey, t.st.rseq]
  else if l = 6 then at8 0x180 (t.box.toList.flatMap (fun b => [b.value, b.flags]))
  else if l = 7 then at8 0x1C0 [t.scope, 0, 0, 0, 0, 0, 0, 0]
  else if l < 10 then at8 (64 * l) (((t.m.toList.drop (2 * (l - 8))).take 2).flatMap (fun x => limbs 4 x.toNat))
  else if l = 10 then at8 0x280 ([t.st.crust, t.st.mverr] ++ t.mv.regs.toList.take 6)
  else if l = 11 then at8 0x2C0 (t.mv.regs.toList.drop 6 ++ [0, 0, 0])
  else if l < 16 then []
  else if bit t.scope (32 + (l - 16) / 4) then at8 (64 * l) (limbs 8 ((t.v.toList.getD ((l - 16) / 4) 0).toNat >>> (512 * (l % 4)))) else []

/-- Every line of the architectural area that the register cache can hold (R185). -/
def areaLines : List Nat := List.range 12 ++ (List.range 64).map (· + 16)

/-- The lines a task needs in the register cache while it holds a slot (R194): those of live G and V registers, and lines 4 to 11. -/
def Task.cacheLines (t : Task) : List Nat :=
  areaLines.filter (fun l => if l < 4 then bits t.scope (8 * l) 8 != 0 else if l < 12 then true else bit t.scope (32 + (l - 16) / 4))

/-- Of those, the lines that are present. -/
def Task.presentLines (t : Task) : List Nat := t.cacheLines.filter (fun l => !t.absentLines.contains l)

/-- What a write-back of the lines given stores, with the hardware area. -/
def Task.words (t : Task) (ls : List Nat) : List (Nat × DWord) := ls.flatMap t.lineWords ++ t.hwWords

/-- A byte of the image, by its offset from WP; none where the image holds nothing (a dead register, R196). -/
def Task.imageByte (t : Task) (off : Nat) : Option Byte :=
  ((t.lineWords (off / 64)).find? (fun e => e.1 == off / 8 * 8)).map (fun e => BitVec.ofNat 8 (e.2.toNat / 256 ^ (off % 8)))

/-- The state of the task's registers stands in the register cache: it is not trapped, frozen or pre-empted (R187, R378). -/
def Task.inCache (t : Task) : Bool :=
  match t.status with
  | .ready => true
  | .resident => true
  | .parked _ => true
  | _ => false

end Sys2Proof.Machine
end

