-- ==== Sys2Proof/Machine/Flags.lean ====
section
/-! DEFINITION. The sticky flags of SR.FPFLAGS (R74), the rounding modes (R71), and the generator KCG with its draws (R78, R80). -/

namespace Sys2Proof.Machine

/-- A value with the flags that forming it raised, as the bits of R74. -/
abbrev Flagged (α : Type) := α × BitVec 7

/-- No flag. -/
def fNone : BitVec 7 := 0
/-- Inexact (R74 bit 0). -/
def fNX : BitVec 7 := 1
/-- Underflow (bit 1). -/
def fUF : BitVec 7 := 2
/-- Overflow (bit 2). -/
def fOF : BitVec 7 := 4
/-- Division by zero (bit 3). -/
def fDZ : BitVec 7 := 8
/-- Invalid operation (bit 4). -/
def fNV : BitVec 7 := 16
/-- A subnormal operand was read as zero under FTZ (bit 5). -/
def fDN : BitVec 7 := 32
/-- An integer result was clamped (bit 6). -/
def fSA : BitVec 7 := 64

/-- SR.FPFLAGS after an operation ORs its flags in (R74, R76). -/
def mergeFlags (old : DWord) (f : BitVec 7) : DWord := old ||| f.setWidth 64

/-- Rounding modes of R71: 0 RNE, 1 RTZ, 2 RUP, 3 RDN, 4 RNA, 5 SR, 7 DYN. -/
def rmRNE : Nat := 0
def rmRTZ : Nat := 1
def rmRUP : Nat := 2
def rmRDN : Nat := 3
def rmRNA : Nat := 4
def rmSR : Nat := 5

/-- SR.MODE.RM, SR.MODE.FTZ and SR.MODE.SAT (R75). -/
def modeRm (mode : DWord) : Nat := bits mode 0 3
def modeFtz (mode : DWord) : Bool := bit mode 3
def modeSat (mode : DWord) : Bool := bit mode 4

/-- A mode field with DYN resolved from SR.MODE (R71). -/
def resolveRm (field : Nat) (mode : DWord) : Nat := if field = 7 then modeRm mode else field

/-- Rotate a 64-bit value left by n, n < 64 (R78). -/
def rotl64 (x n : Nat) : Nat := if n = 0 then x else ((x <<< n) ||| (x >>> (64 - n))) % 2 ^ 64

/-- The constants KC[r] of R78. -/
def kcgC : List Nat := [0x71C30A5E94D2B867, 0x5E08D39B2C71F4A1, 0xA4F961D70B3E8C52, 0x3D82BC45E61709FA, 0xC95A2F607DB41E83, 0x8617E4AB52C9306D]

/-- The multiplier KM of R78. -/
def kcgM : Nat := 0x9F2C6B17A3E5D84B

/-- One round of R78. -/
def kcgRound (k x r : Nat) : Nat :=
  let x1 := (x + rotl64 k (8 * r) + kcgC.getD r 0) % 2 ^ 64
  let x2 := x1 ^^^ (x1 >>> 27)
  let x3 := (x2 * kcgM) % 2 ^ 64
  x3 ^^^ (x3 >>> 31)

/-- KCG of a 64-bit key and a 64-bit counter (R78). -/
def kcgNat (k c : Nat) : Nat := [0, 1, 2, 3, 4, 5].foldl (kcgRound k) c

/-- KCG on doublewords (R78). -/
def kcg (k c : DWord) : DWord := dw (kcgNat k.toNat c.toNat)

/-- sr_draw(j) of R80, from the snapshots of SR.RKEY and SR.RSEQ. -/
def srDraw (rkey rseq : DWord) (j : Nat) : Nat := kcgNat rkey.toNat ((rseq.toNat % 2 ^ 32) * 2 ^ 32 + j % 2 ^ 32) >>> 32

end Sys2Proof.Machine
end

