-- ==== Sys2Proof/Machine/Numbers.lean ====
section
/-! DEFINITION. Numbers (03_numbers.md): integer functions (R65), floating formats (R66 to R70), the one rounding (R72), conversions
(R81, R82), exact sums and functions (R227, R229), and accumulator cells (R83 to R90). Exact values are integers with a power of two;
quotients, roots, 2^a and log2 are given by what their floor at any grain is, which is all that R72 asks of a value. -/

namespace Sys2Proof.Machine

/-! ## Integers -/

/-- sign_extend of an n-bit pattern (R11, R63). -/
def sval (n x : Nat) : Int := if x % 2 ^ n < 2 ^ (n - 1) then (x % 2 ^ n : Nat) else (x % 2 ^ n : Nat) - (2 ^ n : Nat)

/-- wrap(x, n) of R65: the n-bit pattern. -/
def wrapI (n : Nat) (x : Int) : Nat := (x % ((2 ^ n : Nat) : Int)).toNat

/-- Clamp to a range, saying whether the clamp changed the value. -/
def clampI (lo hi x : Int) : Int × Bool := if x < lo then (lo, true) else if hi < x then (hi, true) else (x, false)

/-- sat_i and sat_n of R65, with the SA flag. -/
def satPat (signed : Bool) (n : Nat) (x : Int) : Flagged Nat :=
  let c := if signed then clampI (-((2 ^ (n - 1) : Nat) : Int)) ((2 ^ (n - 1) : Nat) - 1 : Int) x else clampI 0 ((2 ^ n : Nat) - 1 : Int) x
  (wrapI n c.1, if c.2 then fSA else fNone)

/-- div_i of R65. -/
def divI (a b : Int) (n : Nat) : Int :=
  if b = 0 then -1 else if a = -((2 ^ (n - 1) : Nat) : Int) ∧ b = -1 then a else Int.tdiv a b

/-- rem_i of R65. -/
def remI (a b : Int) (n : Nat) : Int :=
  if b = 0 then a else if a = -((2 ^ (n - 1) : Nat) : Int) ∧ b = -1 then 0 else a - b * divI a b n

/-- div_n of R65. -/
def divN (a b n : Nat) : Nat := if b = 0 then 2 ^ n - 1 else a / b

/-- rem_n of R65. -/
def remN (a b : Nat) : Nat := if b = 0 then a else a % b

/-! ## Element types (R43) -/

/-- Width in bits of an element type; 0 for a reserved code. -/
def tyWidth (y : Nat) : Nat :=
  match y with
  | 0 => 4 | 1 => 8 | 2 => 16 | 3 => 32 | 4 => 64
  | 8 => 4 | 9 => 8 | 10 => 16 | 11 => 32 | 12 => 64
  | 16 => 4 | 17 => 6 | 18 => 6 | 19 => 8 | 20 => 8 | 21 => 16 | 22 => 16 | 23 => 32 | 24 => 64 | 25 => 8
  | _ => 0

/-- An integer type of either kind, and a signed one. -/
def tyIsInt (y : Nat) : Bool := decide (y ≤ 12)
def tySigned (y : Nat) : Bool := decide (y ≤ 4)

/-- A floating format (R66, R67). -/
structure Fmt where
  w : Nat
  p : Nat
  b : Nat
  hasInf : Bool
  hasNan : Bool
  /-- Encoding of the largest finite magnitude. -/
  maxMag : Nat
  deriving DecidableEq, Repr

/-- The formats of R67, by type code; FP32 for a code that is not a floating type. -/
def fmtOf (y : Nat) : Fmt :=
  match y with
  | 16 => ⟨2, 1, 1, false, false, 0x7⟩
  | 17 => ⟨2, 3, 1, false, false, 0x1F⟩
  | 18 => ⟨3, 2, 3, false, false, 0x1F⟩
  | 19 => ⟨4, 3, 7, false, true, 0x7E⟩
  | 20 => ⟨5, 2, 15, true, true, 0x7B⟩
  | 21 => ⟨5, 10, 15, true, true, 0x7BFF⟩
  | 22 => ⟨8, 7, 127, true, true, 0x7F7F⟩
  | 24 => ⟨11, 52, 1023, true, true, 0x7FEFFFFFFFFFFFFF⟩
  | _ => ⟨8, 23, 127, true, true, 0x7F7FFFFF⟩

/-- Total width of a format. -/
def Fmt.width (f : Fmt) : Nat := 1 + f.w + f.p

/-- The grain g = 1 − b − p (R66). -/
def Fmt.grain (f : Fmt) : Int := 1 - (f.b : Int) - (f.p : Int)

/-- canonical_nan (R68): positive, quiet, other mantissa bits zero; E4M3 0x7F. -/
def Fmt.nan (f : Fmt) : Nat := if f.hasInf then (2 ^ f.w - 1) * 2 ^ f.p + 2 ^ (f.p - 1) else 2 ^ (f.w + f.p) - 1

/-- The infinity of a sign (R67). -/
def Fmt.inf (f : Fmt) (neg : Bool) : Nat := (if neg then 2 ^ (f.w + f.p) else 0) + (2 ^ f.w - 1) * 2 ^ f.p

/-- The zero of a sign, and the largest finite value of a sign. -/
def Fmt.zero (f : Fmt) (neg : Bool) : Nat := if neg then 2 ^ (f.w + f.p) else 0
def Fmt.max (f : Fmt) (neg : Bool) : Nat := (if neg then 2 ^ (f.w + f.p) else 0) + f.maxMag

/-- What an encoding stands for (R66 to R68). A finite value is (−1)^neg × m × 2^q with m ≠ 0. -/
inductive FVal where
  | nan (signalling : Bool)
  | inf (neg : Bool)
  | zero (neg : Bool)
  | fin (neg : Bool) (m : Nat) (q : Int)
  deriving DecidableEq, Repr

/-- Read an encoding (R66 to R68). -/
def Fmt.read (f : Fmt) (x : Nat) : FVal :=
  let m := x % 2 ^ f.p
  let e := (x / 2 ^ f.p) % 2 ^ f.w
  let neg := decide ((x / 2 ^ (f.w + f.p)) % 2 = 1)
  if f.hasInf && e == 2 ^ f.w - 1 then
    if m = 0 then .inf neg else .nan (decide (m < 2 ^ (f.p - 1)))
  else if f.hasNan && !f.hasInf && e == 2 ^ f.w - 1 && m == 2 ^ f.p - 1 then .nan false
  else if e = 0 ∧ m = 0 then .zero neg
  else .fin neg (if e = 0 then m else 2 ^ f.p + m) ((Nat.max e 1 : Nat) - (f.b : Int) - (f.p : Int))

/-- A non-zero finite encoding with e = 0 (R66). -/
def Fmt.subnormal (f : Fmt) (x : Nat) : Bool := (x / 2 ^ f.p) % 2 ^ f.w == 0 && x % 2 ^ f.p != 0

/-! ## Exact magnitudes -/

/-- An exact positive magnitude: floor(log2) and, for each k, floor(a / 2^k) with whether a remainder is left. -/
structure Mag where
  lg : Int
  at_ : Int → Nat × Bool

/-- n × 2^e, n ≠ 0. -/
def magDyadic (n : Nat) (e : Int) : Mag where
  lg := (Nat.log2 n : Int) + e
  at_ k := if k ≤ e then (n <<< (e - k).toNat, false) else (n >>> (k - e).toNat, n % 2 ^ (k - e).toNat != 0)

/-- n / d × 2^e, n and d ≠ 0. -/
def magRatio (n d : Nat) (e : Int) : Mag where
  lg :=
    let l : Int := (Nat.log2 n : Int) - (Nat.log2 d : Int)
    let ge := if 0 ≤ l then decide (d <<< l.toNat ≤ n) else decide (d ≤ n <<< (-l).toNat)
    (if ge then l else l - 1) + e
  at_ k :=
    if k ≤ e then ((n <<< (e - k).toNat) / d, (n <<< (e - k).toNat) % d != 0)
    else (n / (d <<< (k - e).toNat), n % (d <<< (k - e).toNat) != 0)

/-- Integer square root, one bit a step. -/
def isqrtAux : Nat → Nat → Nat → Nat
  | 0, _, r => r
  | i + 1, n, r =>
    let c := r + 2 ^ i
    isqrtAux i n (if c * c ≤ n then c else r)

/-- floor(√n). -/
def isqrt (n : Nat) : Nat := isqrtAux (Nat.log2 n / 2 + 1) n 0

/-- √(n × 2^e), n ≠ 0. -/
def magSqrt (n : Nat) (e : Int) : Mag where
  lg := ((Nat.log2 n : Int) + e) / 2
  at_ k :=
    let t := e - 2 * k
    if 0 ≤ t then
      let x := n <<< t.toNat
      let r := isqrt x
      (r, r * r != x)
    else
      let x := n >>> (-t).toNat
      let r := isqrt x
      (r, r * r != x || n % 2 ^ (-t).toNat != 0)

/-- 1 / √(n × 2^e), n ≠ 0. -/
def magRsqrt (n : Nat) (e : Int) : Mag where
  lg := ((magRatio 1 n (-e)).lg) / 2
  at_ k :=
    let t := -(2 * k) - e
    if 0 ≤ t then
      let r := isqrt ((1 <<< t.toNat) / n)
      (r, r * r * n != 1 <<< t.toNat)
    else (0, true)

/-- Bits of the fixed-point fractions used for 2^a and log2. DEDUCED (log entry 4): enough to decide every rounding of R72. -/
def fixBits : Nat := 320

/-- ln 2 as a fixed-point fraction: the sum of 1 / (k 2^k). -/
def ln2Fix : Nat := ((List.range 340).map (fun i => 2 ^ (fixBits + 16) / ((i + 1) * 2 ^ (i + 1)))).foldl (· + ·) 0 / 2 ^ 16

/-- Terms of e^x for a fixed-point x in [0, 1). -/
def expTerms : Nat → Nat → Nat → Nat → Nat
  | 0, _, _, _ => 0
  | fuel + 1, x, n, term => term + expTerms fuel x (n + 1) (term * x / (2 ^ fixBits * (n + 1)))

/-- 2^(i + f / 2^s) for 0 < f < 2^s: never a dyadic value, so a remainder is always left. -/
def magExp2 (i : Int) (f s : Nat) : Mag where
  lg := i
  at_ k :=
    let fr := (f * 2 ^ fixBits) / 2 ^ s
    let y := expTerms 90 (fr * ln2Fix / 2 ^ fixBits) 0 (2 ^ fixBits)
    let t := i - (fixBits : Int) - k
    (if 0 ≤ t then y <<< t.toNat else y >>> (-t).toNat, true)

/-- Terms of the inverse hyperbolic tangent of a fixed-point z. -/
def atanhTerms : Nat → Nat → Nat → Nat → Nat
  | 0, _, _, _ => 0
  | fuel + 1, z2, n, zp => zp / (2 * n + 1) + atanhTerms fuel z2 (n + 1) (zp * z2 / 2 ^ fixBits)

/-- log2(n × 2^e) as a fixed-point integer, for n not a power of two. -/
def log2Fix (n : Nat) (e : Int) : Int :=
  let l := Nat.log2 n
  let z := (n - 2 ^ l) * 2 ^ fixBits / (n + 2 ^ l)
  let ln := 2 * atanhTerms 110 (z * z / 2 ^ fixBits) 0 z
  ((l : Int) + e) * (2 ^ fixBits : Nat) + (ln * 2 ^ fixBits / ln2Fix : Nat)

/-- |x| / 2^fixBits for a fixed-point x ≠ 0 that is not exact. -/
def magFix (x : Nat) : Mag where
  lg := (Nat.log2 x : Int) - (fixBits : Int)
  at_ k :=
    let t := -(fixBits : Int) - k
    (if 0 ≤ t then x <<< t.toNat else x >>> (-t).toNat, true)

/-! ## Rounding (R72) -/

/-- How an operation rounds: mode, saturation, FTZ and the draw of each element (R72, R77, R80). -/
structure Rnd where
  rm : Nat
  sat : Bool
  ftz : Bool
  draw : Nat → Nat

/-- Whether the magnitude rounds up: `lo` is floor(a / Q), `fr` the next 34 bits and `st` whether more is left (R72). -/
def roundsUp (rm draw : Nat) (neg : Bool) (lo fr : Nat) (st : Bool) : Bool :=
  match rm with
  | 0 => decide (2 ^ 33 < fr) || (fr == 2 ^ 33 && (st || lo % 2 == 1))
  | 2 => !neg
  | 3 => neg
  | 4 => decide (2 ^ 33 ≤ fr)
  | 5 => decide (draw * 4 < fr) || (draw * 4 == fr && st)
  | _ => false

/-- The magnitude encoding of n × 2^k for n ≤ 2^(p+1), where k is the grain, or n ≥ 2^p. -/
def Fmt.encodeMag (f : Fmt) (n : Nat) (k : Int) : Nat :=
  if n < 2 ^ f.p then n
  else if n = 2 ^ (f.p + 1) then (k + 1 + (f.b : Int) + (f.p : Int)).toNat * 2 ^ f.p
  else (k + (f.b : Int) + (f.p : Int)).toNat * 2 ^ f.p + (n - 2 ^ f.p)

/-- round_to(v, F, rm, sat, j) of R72 for a non-zero value of sign `neg` and magnitude `a`. -/
def roundTo (f : Fmt) (r : Rnd) (j : Nat) (neg : Bool) (a : Mag) : Flagged Nat :=
  let k := max (a.lg - (f.p : Int)) f.grain
  let x := a.at_ (k - 34)
  let lo := x.1 >>> 34
  let fr := x.1 % 2 ^ 34
  let exact := fr == 0 && !x.2
  let up := !exact && roundsUp r.rm (r.draw j) neg lo fr x.2
  let mag := f.encodeMag (if up then lo + 1 else lo) k
  let fl := if exact then fNone else if a.lg < 1 - (f.b : Int) then fNX ||| fUF else fNX
  let sgn := if neg then 2 ^ (f.w + f.p) else 0
  if f.maxMag < mag then
    let fl' := fl ||| fOF ||| fNX
    if r.rm == rmRTZ || (r.rm == rmRUP && neg) || (r.rm == rmRDN && !neg) || r.sat || (!f.hasInf && !f.hasNan) then (sgn + f.maxMag, fl')
    else if f.hasInf then (f.inf neg, fl')
    else (f.nan, fl')
  else (sgn + mag, fl)

/-- FTZ on a result (R77): a non-zero subnormal becomes zero of its sign, with UF and NX. -/
def ftzResult (f : Fmt) (on : Bool) (x : Flagged Nat) : Flagged Nat :=
  if on && f.subnormal x.1 then (f.zero (decide (2 ^ (f.w + f.p) ≤ x.1)), x.2 ||| fUF ||| fNX) else x

/-- FTZ on an operand (R77): a subnormal reads as zero of its sign, with DN. -/
def ftzOperand (f : Fmt) (on : Bool) (x : Nat) : Flagged FVal :=
  if on && f.subnormal x then (.zero (decide (2 ^ (f.w + f.p) ≤ x % 2 ^ f.width)), fDN) else (f.read x, fNone)

/-- Rounding to an integer, the rule of R72 with Q = 1 (R82): the signed value and the NX flag. -/
def roundInt (r : Rnd) (j : Nat) (neg : Bool) (a : Mag) : Flagged Int :=
  let x := a.at_ (-34)
  let lo := x.1 >>> 34
  let fr := x.1 % 2 ^ 34
  let exact := fr == 0 && !x.2
  let up := !exact && roundsUp r.rm (r.draw j) neg lo fr x.2
  let n : Nat := if up then lo + 1 else lo
  (if neg then -(n : Int) else (n : Int), if exact then fNone else fNX)

/-- Limits of an integer type of n bits. -/
def intLo (signed : Bool) (n : Nat) : Int := if signed then -((2 ^ (n - 1) : Nat) : Int) else 0
def intHi (signed : Bool) (n : Nat) : Int := if signed then (2 ^ (n - 1) : Nat) - 1 else (2 ^ n : Nat) - 1

/-- Floating or exact value to an integer of n bits (R82). -/
def toIntRule (r : Rnd) (j : Nat) (signed : Bool) (n : Nat) (v : FVal) : Flagged Nat :=
  match v with
  | .nan _ => (0, fNV)
  | .inf neg => (wrapI n (if neg then intLo signed n else intHi signed n), fNV)
  | .zero _ => (0, fNone)
  | .fin neg m q =>
    let x := roundInt r j neg (magDyadic m q)
    let c := clampI (intLo signed n) (intHi signed n) x.1
    (wrapI n c.1, if c.2 then fNV else x.2)

/-- A value to a floating format: R81 for the special values, R72 for the rest. -/
def toFloatRule (f : Fmt) (r : Rnd) (j : Nat) (v : FVal) : Flagged Nat :=
  match v with
  | .nan sig => if f.hasNan then (f.nan, if sig then fNV else fNone) else (0, fNV)
  | .inf neg => if f.hasInf then (f.inf neg, fNone) else (f.max neg, fNV)
  | .zero neg => (f.zero neg, fNone)
  | .fin neg m q => roundTo f r j neg (magDyadic m q)

/-- VCVT of one element (R81, R82, R77, R239); x is the source pattern. -/
def convert (src dst : Nat) (r : Rnd) (j : Nat) (x : Nat) : Flagged Nat :=
  let ftzS := r.ftz && decide (21 ≤ src ∧ src ≤ 24)
  let ftzD := r.ftz && decide (21 ≤ dst ∧ dst ≤ 24)
  if tyIsInt src then
    let v : Int := if tySigned src then sval (tyWidth src) x else (x % 2 ^ tyWidth src : Nat)
    if tyIsInt dst then satPat (tySigned dst) (tyWidth dst) v
    else if v = 0 then (0, fNone)
    else ftzResult (fmtOf dst) ftzD (roundTo (fmtOf dst) r j (decide (v < 0)) (magDyadic v.natAbs 0))
  else
    let o := ftzOperand (fmtOf src) ftzS x
    if tyIsInt dst then
      let y := toIntRule r j (tySigned dst) (tyWidth dst) o.1
      (y.1, y.2 ||| o.2)
    else
      let y := ftzResult (fmtOf dst) ftzD (toFloatRule (fmtOf dst) r j o.1)
      (y.1, y.2 ||| o.2)

/-! ## Exact sums (R227, R236) -/

/-- An addend of an exact sum: a signed integer times a power of two, or a signed zero. -/
structure Addend where
  neg : Bool
  m : Nat
  q : Int
  deriving DecidableEq, Repr

/-- The least exponent of a list of non-zero addends. -/
def minExp (l : List Addend) : Int := l.foldl (fun e a => if a.m = 0 then e else min e a.q) 100000

/-- The exact sum of addends as n × 2^e. -/
def sumAddends (l : List Addend) : Int × Int :=
  let e := minExp l
  (l.foldl (fun s a => if a.m = 0 then s else s + (if a.neg then -((a.m <<< (a.q - e).toNat : Nat) : Int) else ((a.m <<< (a.q - e).toNat : Nat) : Int))) 0, e)

/-- Sign of an exact zero sum (R227). -/
def zeroSign (rm : Nat) (l : List Addend) : Bool :=
  if l.all (fun a => a.m == 0 && a.neg) && !l.isEmpty then true
  else if l.all (fun a => a.m == 0 && !a.neg) then false
  else rm == rmRDN

/-- Round an exact sum of finite addends. -/
def roundSum (f : Fmt) (r : Rnd) (j : Nat) (l : List Addend) : Flagged Nat :=
  let s := sumAddends l
  if s.1 = 0 then (f.zero (zeroSign r.rm l), fNone)
  else roundTo f r j (decide (s.1 < 0)) (magDyadic s.1.natAbs s.2)

/-- The addend of a finite value or zero. -/
def FVal.addend : FVal → Addend
  | .fin neg m q => ⟨neg, m, q⟩
  | .zero neg => ⟨neg, 0, 0⟩
  | _ => ⟨false, 0, 0⟩

/-- NaN, a signalling NaN, infinities. -/
def FVal.isNan : FVal → Bool | .nan _ => true | _ => false
def FVal.isSig : FVal → Bool | .nan s => s | _ => false
def FVal.isInf : FVal → Bool | .inf _ => true | _ => false
def FVal.isZero : FVal → Bool | .zero _ => true | _ => false
def FVal.neg : FVal → Bool | .nan _ => false | .inf n => n | .zero n => n | .fin n _ _ => n

/-- The value with its sign flipped. -/
def FVal.flip : FVal → FVal
  | .nan s => .nan s
  | .inf n => .inf (!n)
  | .zero n => .zero (!n)
  | .fin n m q => .fin (!n) m q

/-- The exact sum of values, rounded once, with the special cases of R227 and R236. -/
def sumVals (f : Fmt) (r : Rnd) (j : Nat) (l : List FVal) : Flagged Nat :=
  let sig := if l.any FVal.isSig then fNV else fNone
  if l.any FVal.isNan then (f.nan, sig)
  else if l.any (fun v => v == .inf true) && l.any (fun v => v == .inf false) then (f.nan, fNV)
  else if l.any FVal.isInf then (f.inf (l.any (fun v => v == .inf true)), fNone)
  else roundSum f r j (l.map FVal.addend)

/-- The exact product of two values; an invalid one is a NaN with NV (R227). -/
def mulVal (a b : FVal) : Flagged FVal :=
  let neg := a.neg != b.neg
  let sig := if a.isSig || b.isSig then fNV else fNone
  if a.isNan || b.isNan then
    (.nan false, sig)
  else match a, b with
    | .inf _, .zero _ => (.nan false, fNV)
    | .zero _, .inf _ => (.nan false, fNV)
    | .inf _, _ => (.inf neg, fNone)
    | _, .inf _ => (.inf neg, fNone)
    | .fin _ m q, .fin _ m' q' => (.fin neg (m * m') (q + q'), fNone)
    | _, _ => (.zero neg, fNone)

/-- VFMA and VFMS: a × b + c with one rounding; 0 × ∞ sets NV whatever c holds (R228). -/
def fmaVals (f : Fmt) (r : Rnd) (j : Nat) (a b c : FVal) : Flagged Nat :=
  let p := mulVal a b
  let nan := a.isNan || b.isNan || c.isNan || p.1.isNan
  let sig := if a.isSig || b.isSig || c.isSig then fNV else fNone
  if nan then (f.nan, sig ||| p.2)
  else sumVals f r j [p.1, c]

/-- Order of values for compares: −1, 0 or 1; NaNs are handled by the caller. −0 == +0 here. -/
def cmpVals (a b : FVal) : Int :=
  let s (v : FVal) : Int := match v with | .inf n => if n then -2 else 2 | .zero _ => 0 | .fin n _ _ => if n then -1 else 1 | .nan _ => 0
  if s a < s b then -1 else if s b < s a then 1
  else match a, b with
    | .fin n m q, .fin _ m' q' =>
      let e := min q q'
      let x := m <<< (q - e).toNat
      let y := m' <<< (q' - e).toNat
      if x = y then 0 else if (decide (x < y)) != n then -1 else 1
    | _, _ => 0

/-- minimumNumber and maximumNumber of R228 on patterns: the result is an operand, unrounded. -/
def minMaxNum (f : Fmt) (wantMax : Bool) (x y : Nat) (a b : FVal) : Flagged Nat :=
  let sig := if a.isSig || b.isSig then fNV else fNone
  if a.isNan && b.isNan then (f.nan, sig)
  else if a.isNan then (y, sig)
  else if b.isNan then (x, sig)
  else
    let c := cmpVals a b
    let less := c < 0 || (c == 0 && a.isZero && b.isZero && a.neg && !b.neg)
    (if wantMax then (if less then y else x) else (if less || c == 0 && !(a.isZero && b.isZero && !a.neg && b.neg) then x else y), fNone)

/-- VDIV on floating lanes (R229). -/
def divVals (f : Fmt) (r : Rnd) (j : Nat) (a b : FVal) : Flagged Nat :=
  let neg := a.neg != b.neg
  let sig := if a.isSig || b.isSig then fNV else fNone
  if a.isNan || b.isNan then (f.nan, sig)
  else match a, b with
    | .zero _, .zero _ => (f.nan, fNV)
    | .inf _, .inf _ => (f.nan, fNV)
    | .fin _ _ _, .zero _ => (f.inf neg, fDZ)
    | .inf _, _ => (f.inf neg, fNone)
    | _, .inf _ => (f.zero neg, fNone)
    | .zero _, _ => (f.zero neg, fNone)
    | .fin _ m q, .fin _ m' q' => roundTo f r j neg (magRatio m m' (q - q'))
    | _, _ => (f.nan, fNone)

/-- VSQRT (R229). -/
def sqrtVal (f : Fmt) (r : Rnd) (j : Nat) (a : FVal) : Flagged Nat :=
  match a with
  | .nan s => (f.nan, if s then fNV else fNone)
  | .zero n => (f.zero n, fNone)
  | .inf false => (f.inf false, fNone)
  | .inf true => (f.nan, fNV)
  | .fin true _ _ => (f.nan, fNV)
  | .fin false m q => roundTo f r j false (magSqrt m q)

/-- VRCP (R229). -/
def rcpVal (f : Fmt) (r : Rnd) (j : Nat) (a : FVal) : Flagged Nat :=
  match a with
  | .nan s => (f.nan, if s then fNV else fNone)
  | .zero n => (f.inf n, fDZ)
  | .inf n => (f.zero n, fNone)
  | .fin n m q => roundTo f r j n (magRatio 1 m (-q))

/-- VRSQ (R229). -/
def rsqVal (f : Fmt) (r : Rnd) (j : Nat) (a : FVal) : Flagged Nat :=
  match a with
  | .nan s => (f.nan, if s then fNV else fNone)
  | .zero n => (f.inf n, fDZ)
  | .inf false => (f.zero false, fNone)
  | .inf true => (f.nan, fNV)
  | .fin true _ _ => (f.nan, fNV)
  | .fin false m q => roundTo f r j false (magRsqrt m q)

/-- VEXP2 (R229). An integer operand gives a power of two; any other gives an irrational value. -/
def exp2Val (f : Fmt) (r : Rnd) (j : Nat) (a : FVal) : Flagged Nat :=
  match a with
  | .nan s => (f.nan, if s then fNV else fNone)
  | .zero _ => roundTo f r j false (magDyadic 1 0)
  | .inf false => (f.inf false, fNone)
  | .inf true => (f.zero false, fNone)
  | .fin n m q =>
    -- beyond 2^11 in magnitude every format overflows or underflows alike; the exponent is held there
    let big := decide (11 < (Nat.log2 m : Int) + q)
    if big then roundTo f r j false (if n then magExp2 (-4096) 1 1 else magDyadic 1 4096)
    else if 0 ≤ q then roundTo f r j false (magDyadic 1 (if n then -((m <<< q.toNat : Nat) : Int) else ((m <<< q.toNat : Nat) : Int)))
    else
      let s := (-q).toNat
      let v : Int := if n then -(m : Int) else (m : Int)
      let i := v / ((2 ^ s : Nat) : Int)
      let fr := (v % ((2 ^ s : Nat) : Int)).toNat
      if fr = 0 then roundTo f r j false (magDyadic 1 i) else roundTo f r j false (magExp2 i fr s)

/-- VLOG2 (R229). A power of two gives an integer; any other operand gives an irrational value. -/
def log2Val (f : Fmt) (r : Rnd) (j : Nat) (a : FVal) : Flagged Nat :=
  match a with
  | .nan s => (f.nan, if s then fNV else fNone)
  | .zero _ => (f.inf true, fDZ)
  | .inf false => (f.inf false, fNone)
  | .inf true => (f.nan, fNV)
  | .fin true _ _ => (f.nan, fNV)
  | .fin false m q =>
    if m = 2 ^ Nat.log2 m then
      let v : Int := (Nat.log2 m : Int) + q
      if v = 0 then (f.zero false, fNone) else roundTo f r j (decide (v < 0)) (magDyadic v.natAbs 0)
    else
      let v := log2Fix m q
      roundTo f r j (decide (v < 0)) (magFix v.natAbs)

/-! ## Packed elements (R64) and block scales (R70) -/

/-- Element i of a packed run, from the little-endian number the run forms (R64). -/
def packedGet (w i run : Nat) : Nat := (run >>> (w * i)) % 2 ^ w

/-- Join elements into the number their packed run forms (R64); every width packs from bit 0 upward. -/
def packedJoin (w : Nat) : List Nat → Nat
  | [] => 0
  | x :: r => x % 2 ^ w + 2 ^ w * packedJoin w r

/-! ## Accumulator cells (R83 to R90) -/

/-- State of a cell (R83). -/
inductive CellVal where
  | finite (c : Int)
  | nan
  | inf (neg : Bool)
  | corrupt
  deriving DecidableEq, Repr

/-- Cell width: 640 for wide and lane cells, 128 for narrow ones (R83). -/
def cellWidth (wide : Bool) : Nat := if wide then 640 else 128

/-- Read a cell (R83). -/
def readCell (wide : Bool) (x : Cell) : CellVal :=
  let w := cellWidth wide
  let c := sval w x.c.toNat
  let lo : Int := -((2 ^ (w - 1) : Nat) : Int)
  if x.r == 0xFF then
    if c = lo then .nan else if c = lo + 1 then .inf false else if c = lo + 2 then .inf true else .corrupt
  else if lo < c ∧ x.r.toNat < 255 ∧ ((x.r.toNat : Nat) : Int) = c % 255 then .finite c
  else .corrupt

/-- Write a cell's value bits and residue (R83, R87); the residue of a finite cell is given, as the hardware sums it. -/
def writeCell (wide : Bool) (v : CellVal) (res : Nat) (pois : Bool) : Cell :=
  let w := cellWidth wide
  let lo : Int := -((2 ^ (w - 1) : Nat) : Int)
  match v with
  | .finite c => ⟨BitVec.ofNat 640 (wrapI w c), BitVec.ofNat 8 res, pois⟩
  | .nan => ⟨BitVec.ofNat 640 (wrapI w lo), 0xFF, pois⟩
  | .inf neg => ⟨BitVec.ofNat 640 (wrapI w (lo + if neg then 2 else 1)), 0xFF, pois⟩
  | .corrupt => ⟨0, 0xFE, pois⟩

/-- What one step adds to a cell (R86, R87): the exact sum, its residue, and the non-finite products seen. -/
structure StepSum where
  t : Int := 0
  res : Nat := 0
  nan : Bool := false
  pinf : Bool := false
  ninf : Bool := false
  deriving DecidableEq, Repr

/-- A finite contribution t with its residue res(t) from the operands (R86): magnitude Ma × Mb × 2^k. -/
def contribution (neg : Bool) (ma mb k : Nat) : Int × Nat :=
  let t : Int := ((ma * mb) <<< k : Nat)
  let r : Int := ((ma % 255) * (mb % 255) * 2 ^ (k % 8) : Nat)
  (if neg then -t else t, ((if neg then -r else r) % 255).toNat)

/-- Update a cell with a step's contributions (R87); the Bool says that a carry-guard overflow happened. -/
def updateCell (wide : Bool) (x : Cell) (s : StepSum) : Cell × Bool :=
  let old := readCell wide x
  let nan := s.nan || (s.pinf && s.ninf)
  match old with
  | .nan => (writeCell wide .nan 0 x.pois, false)
  | .inf n =>
    if nan || (n && s.pinf) || (!n && s.ninf) then (writeCell wide .nan 0 x.pois, false) else (writeCell wide (.inf n) 0 x.pois, false)
  | v =>
    if nan then (writeCell wide .nan 0 x.pois, false)
    else if s.pinf then (writeCell wide (.inf false) 0 x.pois, false)
    else if s.ninf then (writeCell wide (.inf true) 0 x.pois, false)
    else
      let c : Int := match v with | .finite c => c | _ => sval (cellWidth wide) x.c.toNat
      let c' := c + s.t
      let lim : Int := (2 ^ (cellWidth wide - 1) : Nat) - 1
      if c' < -lim ∨ lim < c' then (writeCell wide .nan 0 x.pois, true)
      else ({ x with c := BitVec.ofNat 640 (wrapI (cellWidth wide) c'), r := BitVec.ofNat 8 ((x.r.toNat + s.res) % 255) }, false)

/-- Drain of one cell to an element type (R90): scale exponent L + Wb. Never applies FTZ. -/
def drainCell (ty : Nat) (r : Rnd) (j : Nat) (scale : Int) (v : CellVal) : Flagged Nat :=
  let val : FVal := match v with
    | .finite c => if c = 0 then .zero false else .fin (decide (c < 0)) c.natAbs scale
    | .inf n => .inf n
    | _ => .nan false
  let nv := match v with | .nan => fNV | _ => fNone
  let y := if tyIsInt ty then toIntRule r j (tySigned ty) (tyWidth ty) val else toFloatRule (fmtOf ty) r j val
  (y.1, y.2 ||| nv)

/-- Grain of an operand format; 0 for an integer type (R84). -/
def tyGrain (y : Nat) : Int := if tyIsInt y then 0 else (fmtOf y).grain

/-- Dot-length class of an operand format (R26, R84); 0 for a type the matrix engine does not take. -/
def dotClass (y : Nat) : Nat :=
  match y with
  | 0 => 8 | 8 => 8 | 16 => 8
  | 1 => 4 | 9 => 4 | 17 => 4 | 18 => 4 | 19 => 4 | 20 => 4
  | 21 => 2
  | 22 => 1
  | _ => 0

/-- Pairs that R84 accepts. -/
def pairOk (fa fb : Nat) : Bool := dotClass fa != 0 && dotClass fa == dotClass fb && tyIsInt fa == tyIsInt fb

/-- An operand element of the matrix engine as a value; integers have q = 0 (R86). -/
def elemVal (y x : Nat) : FVal :=
  if tyIsInt y then
    let v : Int := if tySigned y then sval (tyWidth y) x else (x % 2 ^ tyWidth y : Nat)
    if v = 0 then .zero false else .fin (decide (v < 0)) v.natAbs 0
  else (fmtOf y).read x

end Sys2Proof.Machine
end

