-- ==== Sys2Proof/Machine/Memory.lean ====
section
/-! DEFINITION. Addresses and memory: the checks of R91 and R92 with the SRAM windows of R405, translation (R128 to R131), the home
map (R97), the domain cache as a task sees it (R117 to R121), granule states with their crust entries (R134 to R138), window
redirection (R148, R436) and poison marks (R108, R109). -/

namespace Sys2Proof.Machine

/-! ## Tables of the state -/

/-- A tile by global number 128 × logical die + tile (R16). -/
def State.tile (s : State) (gt : Nat) : Tile := tget {} s.tiles gt
def State.modTile (s : State) (gt : Nat) (f : Tile → Tile) : State := { s with tiles := tmod {} s.tiles gt f }
def State.die (s : State) (d : Nat) : Die := tget {} s.dies d
def State.modDie (s : State) (d : Nat) (f : Die → Die) : State := { s with dies := tmod {} s.dies d f }
def State.vi (s : State) (v : Nat) : Vi := tget {} s.vis v
def State.modVi (s : State) (v : Nat) (f : Vi → Vi) : State := { s with vis := tmod {} s.vis v f }
def State.modMd (s : State) (f : Module → Module) : State := { s with md := f s.md }
def State.modCur (s : State) (f : Task → Task) : State := { s with cur := f s.cur }
def State.gran (s : State) (gt i : Nat) : Gran := tget {} (s.tile gt).gran i
def State.setGran (s : State) (gt i : Nat) (g : Gran) : State := s.modTile gt (fun t => { t with gran := tset {} t.gran i g })
def State.cb (s : State) (gt h : Nat) : CBuf := tget {} (s.tile gt).cb h
def State.modCb (s : State) (gt h : Nat) (f : CBuf → CBuf) : State := s.modTile gt (fun t => { t with cb := tmod {} t.cb h f })
def State.win (s : State) (gt w : Nat) : Win := tget {} (s.tile gt).win w
def State.modWin (s : State) (gt w : Nat) (f : Win → Win) : State := s.modTile gt (fun t => { t with win := tmod {} t.win w f })
def State.blk (s : State) (gt z : Nat) : Block := tget {} (s.tile gt).z z
def State.modBlk (s : State) (gt z : Nat) (f : Block → Block) : State := s.modTile gt (fun t => { t with z := tmod {} t.z z f })

/-- The logical die a virtual die is bound to (R94). -/
def Vi.ldie (v : Vi) (vdie : Nat) : Option Nat :=
  let e := tget 0 v.ctx vdie
  if e.getLsbD 31 then some (e.toNat % 32) else none

/-- The virtual die of a VI that a logical die is bound to; 63 for none. -/
def Vi.vdieOf (v : Vi) (ldie : Nat) : Nat :=
  match v.ctx.find? (fun e => e.2.getLsbD 31 && e.2.toNat % 32 == ldie) with
  | some e => e.1
  | none => 63

/-- vdie, tile and slice offset of a flat SRAM address (R91). -/
def aVdie (a : Nat) : Nat := a >>> 46 % 64
def aTile (a : Nat) : Nat := (a >>> 39) % 128
def aOff (a : Nat) : Nat := a % 2 ^ 25
def aRegion (a : Nat) : Nat := (a >>> 52) % 16

/-- Flat address of a vdie, tile and offset (R91). -/
def flat (vdie tile off : Nat) : Nat := (vdie % 64) * 2 ^ 46 + (tile % 128) * 2 ^ 39 + off % 2 ^ 25

/-- Flat address of a global tile's offset, as a VI names it. -/
def State.flatOf (s : State) (v gt off : Nat) : Nat := flat ((s.vi v).vdieOf (gt / 128)) (gt % 128) off

/-- Global tile that a WP or a flat address names for a VI; one whose binding is gone names a tile of no die (R19). -/
def State.gtOf (s : State) (v wp : Nat) : Nat := (((s.vi v).ldie ((wp >>> 46) % 64)).getD 32) * 128 + aTile wp

/-- The die-map entry of a logical die (R17): vacant until the map is loaded. -/
def State.dieEntry (s : State) (d : Nat) : BitVec 32 := tget 0 s.md.dieMap d
def State.dieValid (s : State) (d : Nat) : Bool := (s.dieEntry d).getLsbD 31

/-- Whether a tile refuses every request for now: its rectangle is being reset (R392), or its die is being retired (R18). -/
def State.fencedTile (s : State) (gt : Nat) : Bool := (s.tile gt).resetting || s.md.retiring.any (fun e => e.1 == gt / 128)

/-- The issuing task's tile, and any task's. -/
def State.taskGt (s : State) (t : Task) : Nat := s.gtOf t.vi t.wp.toNat

/-! ## Checks of an address (R91, R92) -/

/-- Result of a check: a place, the cause code of a fault, a park, or a freeze with its cause (R407). -/
inductive Chk (α : Type) where
  | ok (x : α)
  | trap (code : Nat)
  | park (p : Park)
  | freeze (cause : Nat)
  deriving DecidableEq, Repr

/-- Rights of a page-table leaf (R129): the bit of each. -/
def rRD : Nat := 61
def rWR : Nat := 60
def rEX : Nat := 59
def rAT : Nat := 58
/-- The VALID bit, for a check that asks no right. -/
def rAny : Nat := 63

/-- Who asks: the VI, whether as supervisor, and the key that a walk's result is meant for. -/
structure Who where
  vi : Nat
  sup : Bool
  key : Nat
  deriving DecidableEq, Repr

/-- Key of a page walk: VI, region and 64 KiB page of the offset (R131). -/
def walkKey (vi region off : Nat) : Nat := (vi * 4 + region) * 2 ^ 24 + off / 2 ^ 16

/-- Translation of an offset through the tile's cache (R131); a miss waits for a walk, whose failure is the translation fault. -/
def State.translate (s : State) (w : Who) (gt region off right : Nat) : Chk Nat :=
  match (s.tile gt).tlb.find? (fun e => e.vi == w.vi && e.region == region && decide (e.base ≤ off) && decide (off < e.base + e.size)) with
  | some e => if bit e.leaf right then .ok ((bits e.leaf 8 32) * 256 + (off - e.base)) else .trap 0x07
  | none =>
    match s.md.walks.find? (fun k => k.vi == w.vi && k.region == region && k.offset / 2 ^ 16 == off / 2 ^ 16 && k.wps.contains w.key) with
    | some k =>
      match k.result with
      | some none => .trap 0x07
      | some (some r) => if bit r.1 right then .ok ((bits r.1 8 32) * 256 + (off - r.2.1)) else .trap 0x07
      | none => .park (.walk (walkKey w.vi region off))
    | none => .park (.walk (walkKey w.vi region off))

/-- The home-map entry of an MMA frame that differs from reset, if any (R97). -/
def State.homeEntry? (s : State) (frame : Nat) : Option (BitVec 32) := (s.md.homeMap.find? (fun e => e.1 == frame)).map (·.2)

/-- The home-map entry of an MMA frame (R97); the reset entry is the identity, and its OWNER comes from the configuration record
(log entry 5). -/
def State.home (s : State) (frame : Nat) : BitVec 32 :=
  match s.homeEntry? frame with
  | some e => e
  | none => 1#1 ++ Config.frameOwner frame ++ 0#6 ++ BitVec.ofNat 19 frame
/-- BUSY, KIND and OWNER of a frame (R97). -/
def State.frameBusy (s : State) (frame : Nat) : Bool := match s.homeEntry? frame with | some e => e.getLsbD 24 | none => false
def State.frameKind (s : State) (frame : Nat) : Nat := match s.homeEntry? frame with | some e => (e.toNat >>> 22) % 4 | none => 0
def State.frameOwner (s : State) (frame : Nat) : Nat := ((s.home frame).toNat >>> 25) % 64
/-- STACK and FRAME of a frame as one number (R97). -/
def State.framePhys (s : State) (frame : Nat) : Nat := match s.homeEntry? frame with | some e => e.toNat % 2 ^ 19 | none => frame

/-- Whether a valid SRAM window of the VI covers a granule (R405). -/
def Vi.covers (v : Vi) (vdie g : Nat) : Bool :=
  v.sramWin.any (fun w => bit w.2 63 && bits w.2 56 6 == vdie && decide (bits w.2 0 17 ≤ g) && decide (g ≤ bits w.2 24 17))

/-- The checks of R91 and R92 on one byte's address of region 0x0: zero fields, the vdie binding and its logical die (R19), the slice bound. -/
def State.sramPlace (s : State) (v a : Nat) : Chk (Nat × Nat) :=
  if (a >>> 25) % 2 ^ 14 ≠ 0 then .trap 0x04
  else match (s.vi v).ldie ((a >>> 46) % 64) with
    | none => .trap 0x04
    | some d =>
      if !s.dieValid d then .trap 0x04
      else if 0x1800000 ≤ aOff a then .trap 0x05
      else .ok (d * 128 + aTile a, aOff a)

/-- The checks of R91 and R92 on one byte's address, then the window check of R405; a fenced tile (R18, R392) and a power-gated one (R28) let the
request wait. Translation uses the tile `gt`. -/
def State.check1 (s : State) (w : Who) (gt right a : Nat) : Chk Loc :=
  if 2 ^ 56 ≤ a then .trap 0x04
  else match aRegion a with
  | 0 =>
    match s.sramPlace w.vi a with
    | .ok (t, off) =>
      if !(s.vi w.vi).covers ((a >>> 46) % 64) (off / 256) then .freeze 1
      else if s.fencedTile t || (s.tile t).gated then .park (.fenced t)
      else .ok (.sram t off)
    | .trap c => .trap c
    | .park p => .park p
    | .freeze c => .freeze c
  | 1 =>
    if (a >>> 40) % 2 ^ 12 ≠ 0 then .trap 0x04
    else match s.translate w gt 1 (a % 2 ^ 40) right with
      | .ok m => if s.frameBusy (m / 2 ^ 21) then .park (.pageBusy (m / 2 ^ 21)) else .ok (.hbm m)
      | .trap c => .trap c
      | .park p => .park p
      | .freeze c => .freeze c
  | 2 =>
    if (a >>> 50) % 4 ≠ 0 then .trap 0x04
    else if !(s.md.number :: s.md.present).contains ((a >>> 40) % 1024) then .trap 0x04
    else match s.translate w gt 2 (a % 2 ^ 40) right with
      | .ok m =>
        if (a >>> 40) % 1024 = s.md.number ∧ s.frameBusy (m / 2 ^ 21) = true then .park (.pageBusy (m / 2 ^ 21))
        else .ok (.peer ((a >>> 40) % 1024) m)
      | .trap c => .trap c
      | .park p => .park p
      | .freeze c => .freeze c
  | 15 =>
    if (a >>> 32) % 2 ^ 14 ≠ 0 then .trap 0x04
    else if !w.sup then .trap 0x02
    else .ok (.ctrl ((a >>> 46) % 64) ((a >>> 16) % 2 ^ 16) (a % 2 ^ 16))
  | _ => .trap 0x04

/-- An access of n bytes is checked at its first and its last byte (R92). -/
def State.check (s : State) (w : Who) (gt right a n : Nat) : Chk Loc :=
  match s.check1 w gt right a with
  | .ok l =>
    match s.check1 w gt right (a + n - 1) with
    | .ok _ => .ok l
    | e => e
  | e => e

/-! ## Bytes and marks -/

/-- Physical number of a slice byte, and of an HBM byte behind the home map (R96). -/
def sramKey (gt off : Nat) : Nat := gt * 2 ^ 25 + off
def State.hbmKey (s : State) (mma : Nat) : Nat :=
  2 ^ 40 + s.framePhys (mma / 2 ^ 21) * 2 ^ 21 + mma % 2 ^ 21

/-- One byte of memory by its physical number. -/
def State.byteAt (s : State) (k : Nat) : Byte := tget unlistedByte s.mem k

/-- A doubleword's poison mark (R108). -/
def State.marked (s : State) (k : Nat) : Bool := s.poison.contains (k / 8)

/-- Write bytes at a physical number, keeping the canonical form. -/
def writeCells (m : List Host.Cell) (k : Nat) : List Byte → List Host.Cell
  | [] => m
  | b :: r => writeCells (tset unlistedByte m k b) (k + 1) r

/-- Marks after a write of `bs.length` bytes at k, each byte clean or poisoned: a touched doubleword takes the mark when a poisoned
byte reaches it, and loses it when every byte of it is written clean (R109). `todo` counts doublewords. -/
def markCells (p : List Nat) (k : Nat) (marks : List Bool) : Nat → List Nat
  | 0 => p
  | todo + 1 =>
    let d := k / 8 + todo
    let lo := d * 8 - k
    let hi := d * 8 + 8 - k
    let part := (marks.take hi).drop lo
    let p' := markCells p k marks todo
    if part.any id then sadd p' d
    else if part.length = 8 then sdel p' d
    else p'

/-- Write bytes with their marks at a physical number. -/
def State.put (s : State) (k : Nat) (bs : List Byte) (marks : List Bool) : State :=
  { s with mem := writeCells s.mem k bs, poison := markCells s.poison k marks ((k % 8 + bs.length + 7) / 8) }

/-- Bytes and marks of n bytes at a physical number. -/
def State.fetch (s : State) (k n : Nat) : List (Byte × Bool) := (List.range n).map (fun i => (s.byteAt (k + i), s.marked (k + i)))

/-! ## Slices (R134 to R138, R148, R436) -/

/-- Kinds of access that R135 tells apart. -/
inductive Acc where
  | task
  | engine
  | atomic
  | fetch
  | fill
  deriving DecidableEq, Repr

/-- Where a window sends an offset: a plain offset, or the second range (R148). -/
inductive Redirect where
  | at_ (off : Nat)
  | second (w : Nat)
  deriving DecidableEq, Repr

/-- Redirection of R148. -/
def Tile.redirect (t : Tile) (write : Bool) (off : Nat) : Redirect :=
  match t.win.find? (fun e => e.2.valid && decide (e.2.base ≤ off) && decide (off < e.2.base + 2 * e.2.size)) with
  | none => .at_ off
  | some e =>
    if off < e.2.base + e.2.size then .at_ (if e.2.front != write then off + e.2.size else off)
    else .second e.1

/-- Whether an offset lies in a valid window's range, and the window (R148). -/
def Tile.winAt (t : Tile) (off : Nat) : Option Nat :=
  (t.win.find? (fun e => e.2.valid && decide (e.2.base ≤ off) && decide (off < e.2.base + e.2.size))).map (fun e => e.1)

/-- Whether an offset lies in a valid window's second range (R148). -/
def Tile.inSecond (t : Tile) (off : Nat) : Bool :=
  t.win.any (fun e => e.2.valid && decide (e.2.base + e.2.size ≤ off) && decide (off < e.2.base + 2 * e.2.size))

/-- A crust entry with COUNT 1 (R138). -/
def crustEntry (kind agent vdie tile off : Nat) : DWord :=
  dw (2 ^ 56 + kind * 2 ^ 52 + agent * 2 ^ 50 + vdie * 2 ^ 44 + tile * 2 ^ 37 + (off / 64 % 16) * 2 ^ 33 + off * 2 ^ 8)

/-- SR.CRUST after one more entry (R138). -/
def addCrust (c e : DWord) : DWord :=
  if bits c 56 8 = 0 then e
  else if bits c 56 8 = 255 then c else setBits c 56 8 (bits c 56 8 + 1)

/-- SR.CRUST after several entries. -/
def addCrusts (c : DWord) (es : List DWord) : DWord := es.foldl addCrust c

/-- Split a range of a slice at granule bounds: (offset, length). -/
def granChunks : Nat → Nat → Nat → List (Nat × Nat)
  | 0, _, _ => []
  | fuel + 1, off, n =>
    if n = 0 then [] else
    let m := min n (256 - off % 256)
    (off, m) :: granChunks fuel (off + m) (n - m)

/-- Bytes read, each with its mark; crust entries; and what stopped the read. -/
structure Rd where
  bytes : List (Byte × Bool) := []
  crust : List DWord := []
  stop : Option (Chk Unit) := none
  deriving DecidableEq, Repr

/-- Kind of a logged read of a granule in a state (R138). -/
def crustReadKind (g : Gran) : Nat := if g.state = 0 then (if g.crust then 3 else 1) else if g.state = 1 then 5 else 6

/-- The copy of a task whose live workspace holds a granule of a slice (R186, R187), with the granule's offset from its workspace: a redundant
task's trailing copy has its own at WP + 0x2000. -/
def State.liveArea (s : State) (gt off : Nat) : Option (Task × Nat) :=
  s.tasks.findSome? (fun t =>
    let b := aOff t.wp.toNat
    if t.inCache = false ∨ s.taskGt t ≠ gt then none
    else if b ≤ off / 256 * 256 ∧ off / 256 * 256 < b + 0x1400 then some (t, off / 256 * 256 - b)
    else if bit t.st.mode 13 = true ∧ b + 0x2000 ≤ off / 256 * 256 ∧ off / 256 * 256 < b + 0x3400 then
      -- the V and M registers of the trailing copy are never written, so its area holds none (R243)
      some ({ t.copy with absentLines := t.absentLines ++ areaLines.filter (fun l => l == 8 || l == 9 || decide (16 ≤ l)) }, off / 256 * 256 - (b + 0x2000))
    else none)

/-- A byte that a load finds in the register cache of a live task: for a line present there the free value says whether the cache or the
slice answers (R187, log entry 2); a line that is absent, and the hardware area (R193), are read in the slice. -/
def State.liveByte (s : State) (t : Task) (off place : Nat) : Option Byte :=
  if t.absentLines.contains (off / 64) = false ∧ Config.lineFromCache s.fresh (place / 64) = true then t.imageByte off else none

/-- A load's result, with the bytes that a live workspace gives instead of the slice's (R187). -/
def State.withLive (s : State) (gt o n : Nat) (r : Rd) : Rd :=
  match s.liveArea gt o with
  | none => r
  | some (t, b) =>
    let l := (List.range n).map (fun i => s.liveByte t (b + (o % 256 + i)) (gt * 2 ^ 25 + o + i))
    if l.all Option.isSome then { bytes := l.map (fun x => (x.getD 0, false)) }
    else { r with bytes := r.bytes.zipIdx.map (fun e => match l.getD e.2 none with | some x => (x, false) | none => e.1) }

/-- Read within one granule (R135). `own` lists the granules this reader's own command made busy. -/
def State.sramRead1 (s : State) (acc : Acc) (agent vdie gt : Nat) (own : List (Nat × Nat)) (off n : Nat) : Rd :=
  let zero : List (Byte × Bool) := List.replicate n (0, false)
  let log (k o : Nat) : List DWord := [crustEntry k agent vdie (gt % 128) o]
  match (s.tile gt).redirect false off with
  | .second _ =>
    match acc with
    | .task => { stop := some (.trap 0x08) }
    | .atomic => { stop := some (.trap 0x08) }
    | .fetch => { stop := some (.trap 0x03) }
    | .fill => { bytes := zero }
    | .engine => { bytes := List.replicate n (0, true), crust := log 8 off }
  | .at_ o =>
    let g := s.gran gt (o / 256)
    let slice : Rd :=
      if g.state = 2 ∨ (g.state = 3 ∧ own.contains (gt, o / 256) = true) then { bytes := s.fetch (sramKey gt o) n }
      else match acc with
        | .task => { bytes := zero, crust := log (crustReadKind g) o }
        | .engine => if g.state = 3 then { stop := some (.park (.granule (sramKey gt o))) } else { bytes := zero, crust := log (crustReadKind g) o }
        | .atomic => if g.state = 3 then { stop := some (.park (.granule (sramKey gt o))) } else { stop := some (.trap 0x04) }
        | .fetch => { stop := some (.trap 0x03) }
        | .fill => { bytes := zero, crust := if g.state = 1 then [] else log (crustReadKind g) o }
    match acc with
    | .task => s.withLive gt o n slice
    | .engine => s.withLive gt o n slice
    | _ => slice

/-- Read of a slice, granule by granule (R135). -/
def State.sramRead (s : State) (acc : Acc) (agent vdie gt : Nat) (own : List (Nat × Nat)) (off n : Nat) : Rd :=
  (granChunks (n / 256 + 2) off n).foldl (fun r c =>
    let x := s.sramRead1 acc agent vdie gt own c.1 c.2
    { bytes := r.bytes ++ x.bytes, crust := r.crust ++ x.crust, stop := if r.stop.isSome then r.stop else x.stop }) {}

/-- A written state, with crust entries and what stopped the write; the writes of protected granules (R104) and the requests to another home
(R120) whose acknowledgements it still awaits. -/
structure Wr where
  s : State
  crust : List DWord := []
  stop : Option (Chk Unit) := none
  ids : List Nat := []
  reqs : List Nat := []
  deriving DecidableEq, Repr

/-- Write within one granule (R135, R136). -/
def State.sramWrite1 (s : State) (agent vdie gt : Nat) (own : List (Nat × Nat)) (off : Nat) (bs : List Byte) (marks : List Bool) : Wr :=
  let log (k o : Nat) : List DWord := [crustEntry k agent vdie (gt % 128) o]
  match (s.tile gt).redirect true off with
  | .second _ => { s := s, crust := log 9 off }
  | .at_ o =>
    let i := o / 256
    let g := s.gran gt i
    if g.state = 1 then
      let z := s.put (sramKey gt (i * 256)) (List.replicate 256 0) (List.replicate 256 false)
      { s := (z.put (sramKey gt o) bs marks).setGran gt i { state := 2, crust := false } }
    else if g.state = 2 ∨ (g.state = 3 ∧ own.contains (gt, i) = true) then { s := s.put (sramKey gt o) bs marks }
    else { s := s, crust := log (if g.state = 0 then (if g.crust then 4 else 2) else 7) o }

/-- Write of a slice, granule by granule (R135). -/
def State.sramWrite (s : State) (agent vdie gt : Nat) (own : List (Nat × Nat)) (off : Nat) (bs : List Byte) (marks : List Bool) : Wr :=
  (granChunks (bs.length / 256 + 2) off bs.length).foldl (fun r c =>
    let x := r.s.sramWrite1 agent vdie gt own c.1 ((bs.drop (c.1 - off)).take c.2) ((marks.drop (c.1 - off)).take c.2)
    { s := x.s, crust := r.crust ++ x.crust }) { s := s }

/-! ## HBM and the domain cache -/

/-- Product in GF(2^8) with the polynomial 0x11D (R103). -/
def gfMul : Nat → Nat → Nat → Nat
  | 0, _, _ => 0
  | fuel + 1, a, b =>
    let h := gfMul fuel (if 128 ≤ a then ((a * 2) ^^^ 0x11D) % 256 else a * 2) (b / 2)
    if b % 2 = 1 then h ^^^ a else h

/-- α^j (R103). -/
def gfPow : Nat → Nat
  | 0 => 1
  | j + 1 => gfMul 8 (gfPow j) 2

/-- The data number j of this module's position in stripe i (R102). -/
def dataNumber (i pos : Nat) : Nat := (List.range pos).countP (fun p => !(p == i % 10 || p == (i + 1) % 10))

/-- Position of this module in its erasure group, and the member at a position (R410). -/
def Module.pos (m : Module) : Nat := bits m.erasgrp 0 4
def Module.member (m : Module) (p : Nat) : Nat := bits (tget 0 m.erasmem p) 0 10

/-! ## Packets (R112, R115, R125, R127) -/

/-- Packet classes of R125 in the table's order. -/
def cREQ : Nat := 0
def cRSP : Nat := 1
def cSNP : Nat := 2
def cMSG : Nat := 3
def cCOL : Nat := 4
def cMGT : Nat := 5

/-- Kinds of request and answer a packet carries: GetS, GetM, write-back, eviction, parity delta, forward, invalidation, data. -/
def kGetS : Nat := 0
def kGetM : Nat := 1
def kWriteBack : Nat := 2
def kEvict : Nat := 3
def kDelta : Nat := 4
def kForward : Nat := 5
def kInval : Nat := 6
def kData : Nat := 7
def kAck : Nat := 8
/-- A refusal to retry, a peer's violation report, a delta's acknowledgement, a new incarnation and its acknowledgement; an atomic's
reservation, its release with the new value, and the undoing of a counter update. -/
def kRefuse : Nat := 9
def kViolation : Nat := 10
def kDeltaAck : Nat := 11
def kInc : Nat := 12
def kIncAck : Nat := 13
def kReserve : Nat := 14
def kRelease : Nat := 15
def kUndo : Nat := 16
/-- Data granted in E, and in M; `kData` grants S. -/
def kDataE : Nat := 17
def kDataM : Nat := 18
/-- A store sent through to a home (R120), the answer that a line's stores go through, a holder's answer to a forward, an atomic's grant, and the
retirement of a delta (R104). -/
def kStore : Nat := 22
def kThrough : Nat := 23
def kForwarded : Nat := 24
def kGrant : Nat := 25
def kRetire : Nat := 26
/-- A lost home's delta, between the holders of a stripe (R105). -/
def kShareDelta : Nat := 27
/-- A message, and its reply (R338). -/
def kMsg : Nat := 20
def kReply : Nat := 21
/-- Between collective engines: a share, ready, commit, abort, the question whether a member holds commit, and its answer (R287). -/
def kShare : Nat := 30
def kReady : Nat := 31
def kCommit : Nat := 32
def kAbort : Nat := 33
def kQuery : Nat := 34
def kAnswer : Nat := 35

/-- Agents of a module as a packet names them (R112): a tile by its number 128 × die + tile, I/O die k, and the service processors. -/
def agentIo (k : Nat) : Nat := 4096 + k % 4
def agentSp : Nat := 4100

/-- The flow whose packets of classes MSG, COL and MGT stay in order (R115): the class, the other module, its agent and this module's. -/
def flowKey (cls other agent own : Nat) : Nat := ((other * 8 + cls) * 8192 + agent) * 8192 + own
def flowModule (key : Nat) : Nat := key / 2 ^ 29

/-- The priority class of a packet (R127). -/
def packetPrio (p : Packet) : Nat :=
  if p.cls = cMGT then 7 else if p.cls = cSNP then 6 else if p.cls = cRSP then 5 else if p.cls = cCOL then 4 else if p.cls = cMSG then 3
  else if p.kind = kDelta ∨ p.kind = kRetire then 1
  else match p.req with | some (.transfer _) => 1 | _ => 2

/-- The incarnation of a module as I/O die 0 records it; all four record the same (R123, R124). -/
def Module.peerInc (m : Module) (d : Nat) : BitVec 16 := tget 0 m.peers d

/-- A packet leaves for another module (R112): with its number, in its flow for the classes that are delivered in order (R115), the incarnations, and
its priority. A request of this module to its own home takes its number here too. -/
def Module.post (m : Module) (p : Packet) : Module :=
  let ordered : Bool := decide (3 ≤ p.cls)
  let k := flowKey p.cls p.dst p.dagent p.agent
  let n := if ordered then tget 0 m.outFlows k else m.nextSeq.toNat
  let q := { p with seq := n, inc := m.incarnation, expect := m.peerInc p.dst, prio := packetPrio p }
  if ordered then { m with outbox := m.outbox ++ [q], outFlows := tset 0 m.outFlows k ((n + 1) % 2 ^ 32) }
  else { m with outbox := m.outbox ++ [q], nextSeq := m.nextSeq + 1 }

/-- A packet between I/O dies, or between service processors. -/
def Module.send (m : Module) (cls dst kind addr : Nat) (data : BitVec 1024) : Module :=
  let a := if cls = cMGT then agentSp else agentIo (addr / 128)
  m.post { cls := cls, dst := dst, kind := kind, addr := addr, agent := a, dagent := a, data := data }

/-! ## Protected frames (R104, R105) -/

/-- Send a parity delta to the holder at a position of the erasure group; the stripe of a lost one is degraded (R105). -/
def Module.sendDelta (m : Module) (p : Nat) (d : Delta) : Module :=
  if m.lostMembers.contains p then { m with degradedStripes := sadd m.degradedStripes (d.granule / 2 ^ 21) }
  else
    let a := agentIo (d.granule / 128)
    { m.post { cls := cREQ, dst := m.member p, kind := kDelta, addr := d.granule, agent := a, dagent := a, data := d.data.setWidth 1024, tag := d.req, code := if d.old.isSome then 1 else 0,
               re := (d.old.getD 0).toNat } with
      deltas := m.deltas ++ [{ d with seq := m.nextSeq.toNat }] }

/-- The parity deltas of a write to a protected granule (R104): sent to both holders with the requester's tag and an atomic's old word, under the
number of the write, and kept until retired. -/
def State.parity (s : State) (mma req : Nat) (word : Option DWord) (old new : Nat) : State :=
  let i := mma / 2 ^ 21
  let j := dataNumber i s.md.pos
  let delta : Nat := old ^^^ new
  let q := packedJoin 8 ((List.range 64).map (fun n => gfMul 8 ((delta >>> (8 * n)) % 256) (gfPow j)))
  s.modMd (fun m =>
    let d (w v : Nat) : Delta := { id := m.nextWrite, granule := mma, weight := w, seq := 0, data := BitVec.ofNat 512 v, req := req, old := word }
    { (m.sendDelta (i % 10) (d 0 delta)).sendDelta ((i + 1) % 10) (d 1 q) with nextWrite := m.nextWrite + 1 })

/-- Bytes and marks of n bytes of HBM behind the home map, whichever frames they lie in (R97). -/
def State.hbmFetch (s : State) (mma n : Nat) : List (Byte × Bool) :=
  (List.range n).map (fun i => (s.byteAt (s.hbmKey (mma + i)), s.marked (s.hbmKey (mma + i))))

/-- Write bytes of HBM behind the home map, those past the end of a frame where the next frame lies; a write to a protected frame sends its
deltas with the requester's tag and an atomic's old word (R97, R104). -/
def State.hbmWrite (s : State) (req : Nat) (word : Option DWord) (mma : Nat) (bs : List Byte) (marks : List Bool) : State :=
  let m := 2 ^ 21 - mma % 2 ^ 21
  let s1 := s.put (s.hbmKey mma) (bs.take m) (marks.take m)
  let s' := if bs.length ≤ m then s1 else s1.put (s.hbmKey (mma + m)) (bs.drop m) (marks.drop m)
  (List.range ((mma % 64 + bs.length + 63) / 64)).foldl (fun x n =>
    let g := (mma / 64 + n) * 64
    if s.frameKind (g / 2 ^ 21) = 1 then
      x.parity g req word (ofBytes ((s.fetch (s.hbmKey g) 64).map (·.1))) (ofBytes ((s'.fetch (s'.hbmKey g) 64).map (·.1)))
    else x) s'

/-- A requester's tag (R104): module, agent, and the number of its request. -/
def tagOf (src agent seq : Nat) : Nat := (src * 8192 + agent) * 2 ^ 32 + seq

/-- A write of this module's own agents, whose number is that of the write (R104). -/
def State.hbmPut (s : State) (mma : Nat) (bs : List Byte) (marks : List Bool) : State :=
  s.hbmWrite (tagOf s.md.number (agentIo (mma / 128)) s.md.nextWrite) none mma bs marks

/-- Writes of protected granules begun since a state `old` that a holder has not acknowledged (R104). -/
def State.openWrites (s old : State) : List Nat :=
  ((List.range (s.md.nextWrite - old.md.nextWrite)).map (old.md.nextWrite + ·)).filter (fun i => s.md.deltas.any (fun d => d.id == i && !d.acked))

/-! ## The directory and the domain cache (R117 to R122) -/

/-- Key of a domain-cache line: module and MMA / 128 (R117). Bits 1 and 0 are the slice, and bits 16 to 2 the set within it (log entry 79). -/
def lineKey (m mma : Nat) : Nat := m * 2 ^ 33 + mma / 128
def keyModule (k : Nat) : Nat := k / 2 ^ 33
def keyMma (k : Nat) : Nat := k % 2 ^ 33 * 128

/-- Add to a counter of R122 (c in the table's order) of the I/O die that serves a line. -/
def State.count (s : State) (mma c : Nat) : State :=
  s.modMd (fun m => { m with counters := tmod 0 m.counters (8 * ((mma / 128) % 4) + c) (· + 1) })

/-- The lines a run of bytes touches. -/
def linesOf (mma n : Nat) : List Nat := (List.range ((mma % 128 + n + 127) / 128)).map (fun i => (mma / 128 + i) * 128)

/-- A line of the domain cache. -/
def State.dline (s : State) (m mma : Nat) : DLine := tget {} s.md.dcache (lineKey m mma)

/-- The directory entry of a line of this module's memory, and changing it (R119). -/
def State.dirOf (s : State) (mma : Nat) : Dir := tget {} s.md.dir (mma / 128)
def State.modDir (s : State) (mma : Nat) (f : Dir → Dir) : State := s.modMd (fun m => { m with dir := tmod {} m.dir (mma / 128) f })

/-- A directory entry without a holder. -/
def Dir.without (d : Dir) (h : Nat) : Dir :=
  { d with sharers := sdel d.sharers h
           owner := match d.owner with | some o => if o.1 = h then none else some o | none => none
           clean := d.clean && !(match d.owner with | some o => o.1 == h | none => false) }

/-- Modules other than this one that hold a line: its E, M or O holder, and with `write` its sharers too (R119). An O holder whose data memory
has is none for a load. -/
def State.otherHolders (s : State) (mma : Nat) (write : Bool) : List Nat :=
  let d := s.dirOf mma
  (((match d.owner with | some o => if !write && d.clean then [] else [o.1] | none => []) ++ (if write then d.sharers else [])).filter (· != s.md.number)).eraseDups

/-- Whether a line of this module's memory must be recalled from other modules before a load or a store (R119). -/
def State.remoteHeld (s : State) (mma : Nat) (write : Bool) : Bool := !(s.otherHolders mma write).isEmpty

/-- The own domain cache takes or drops a line (R118). -/
def State.setOwnLine (s : State) (home mma : Nat) (l : DLine) : State := s.modMd (fun m => { m with dcache := tset {} m.dcache (lineKey home mma) l })

/-- The domain cache loses a line of this module's memory: an invalidation received (R119, R122). Its data stand in memory. -/
def State.dropOwn (s : State) (mma : Nat) : State :=
  if (s.dline s.md.number mma).state = 0 then s.modDir mma (·.without s.md.number)
  else ((s.setOwnLine s.md.number mma {}).modDir mma (·.without s.md.number)).count mma 3

/-- The domain cache gives a line up (R119, R122): M and O are written back, E sends a notice, S goes silently. -/
def State.giveUp (s : State) (home mma : Nat) : State :=
  let l := s.dline home mma
  let a := agentIo (mma / 128)
  let s1 := s.setOwnLine home mma {}
  let s2 := if l.state = 3 ∨ l.state = 4 then s1.count mma 2 else s1
  if home = s.md.number then s2.modDir mma (·.without home)
  else if l.state = 3 ∨ l.state = 4 then
    s2.modMd (fun m => m.post { cls := cREQ, dst := home, kind := kWriteBack, addr := mma, agent := a, dagent := a, data := l.data, marks := l.marks })
  else if l.state = 2 then s2.modMd (fun m => m.post { cls := cREQ, dst := home, kind := kEvict, addr := mma, agent := a, dagent := a })
  else s2

/-- Whether a request of this module for a line is under way. -/
def State.asking (s : State) (home mma : Nat) : Bool :=
  s.md.outbox.any (fun p => p.cls == cREQ && p.dst == home && (p.kind == kGetS || p.kind == kGetM) && p.addr == mma)

/-- A line enters the domain cache (R25, R117): 16 ways of each set, of which a full set gives up one that no request of this module is for; which
one is a free value (log entry 79). -/
def State.install (s : State) (home mma : Nat) (l : DLine) : State :=
  let k := lineKey home mma
  let set_ := s.md.dcache.filter (fun e => e.1 % 2 ^ 17 == k % 2 ^ 17 && e.1 != k)
  let free := set_.filter (fun e => !s.asking (keyModule e.1) (keyMma e.1))
  let s1 := if set_.length < 16 then s else match free[Config.victimWay s.fresh % free.length]? with
    | some e => s.giveUp (keyModule e.1) (keyMma e.1)
    | none => s
  s1.setOwnLine home mma l

/-- A byte of a peer's line held in the domain cache, with its mark. -/
def State.lineByte (s : State) (m mma : Nat) : Byte × Bool :=
  let l := s.dline m mma
  (BitVec.ofNat 8 (l.data.toNat >>> (8 * (mma % 128))), l.marks.getLsbD (mma % 128 / 8))

/-- A line's data after bytes are written at offset o. -/
def putBytes (d : BitVec 1024) (o : Nat) (bs : List Byte) : BitVec 1024 :=
  (d &&& ~~~((BitVec.ofNat 1024 (2 ^ (8 * bs.length) - 1)) <<< (8 * o))) ||| (BitVec.ofNat 1024 (ofBytes bs) <<< (8 * o))

/-- A line's marks after bytes are written at offset o (R109): a doubleword that a poisoned byte reaches is marked, one written whole and clean is
not. -/
def putMarks (m : BitVec 16) (o : Nat) (marks : List Bool) : BitVec 16 :=
  (List.range 16).foldl (fun r i =>
    let part := (marks.take (8 * i + 8 - o)).drop (8 * i - o)
    if part.any id then r ||| (1#16 <<< i) else if part.length = 8 then r &&& ~~~(1#16 <<< i) else r) m

/-- Write bytes into held lines; each becomes M (R118). -/
def State.linePut (s : State) (m mma : Nat) (bs : List Byte) (marks : List Bool) : State :=
  (linesOf mma bs.length).foldl (fun x y =>
    let o := mma - y
    let n := 128 - o
    let skip := y - mma
    x.modMd (fun d => { d with dcache := tmod {} d.dcache (lineKey m y) (fun l =>
      { state := 3, data := putBytes l.data o ((bs.drop skip).take n), marks := putMarks l.marks o ((marks.drop skip).take n) }) })) s

/-- Split a run of bytes at 64-byte granules: (address, bytes before it, length). -/
def granParts (mma n : Nat) : List (Nat × Nat × Nat) :=
  (List.range ((mma % 64 + n + 63) / 64)).map (fun i =>
    let a := max mma ((mma / 64 + i) * 64)
    (a, a - mma, min (mma + n) ((mma / 64 + i + 1) * 64) - a))

/-- Stores that go through to another module's home, one request for each granule (R120); the copies in the own cache are dropped. -/
def State.sendThrough (s : State) (q : Option Asker) (gt tag m mma : Nat) (bs : List Byte) (marks : List Bool) : State × List Nat :=
  let s0 := (linesOf mma bs.length).foldl (fun x y => x.setOwnLine m y {}) s
  (granParts mma bs.length).foldl (fun r c =>
    let mk := (marks.drop c.2.1).take c.2.2
    (r.1.modMd (fun d => d.post { cls := cREQ, dst := m, kind := kStore, addr := c.1, agent := gt, dagent := agentIo (c.1 / 128), tag := tag, req := q
                                  data := BitVec.ofNat 1024 (ofBytes ((bs.drop c.2.1).take c.2.2)), size := c.2.2, marks := putMarks 0 0 mk }),
     r.2 ++ [r.1.md.nextSeq.toNat])) (s0, [])

/-! ## Accesses to any place -/

/-- Who makes an access, as a request to a home carries it (R112, R130): the master, its tile, and the job tag of its VI. -/
structure Master where
  q : Option Asker := none
  gt : Nat := 0
  tag : Nat := 0
  deriving DecidableEq, Repr

/-- Read n bytes at a place (R108, R117, R135). -/
def State.readLoc (s : State) (acc : Acc) (agent vdie : Nat) (own : List (Nat × Nat)) (l : Loc) (n : Nat) : Rd :=
  match l with
  | .sram gt off => s.sramRead acc agent vdie gt own off n
  | .hbm mma =>
    match (linesOf mma n).find? (fun x => s.remoteHeld x false) with
    | some x => { stop := some (.park (.line (lineKey s.md.number x) 2)) }
    | none => { bytes := s.hbmFetch mma n }
  | .peer m mma =>
    match (linesOf mma n).find? (fun x => (s.dline m x).state == 0) with
    | some x => { stop := some (.park (.line (lineKey m x) 0)) }
    | none => if m = s.md.number then { bytes := s.hbmFetch mma n } else { bytes := (List.range n).map (fun i => s.lineByte m (mma + i)) }
  | .ctrl _ _ _ => { stop := some (.trap 0x04) }

/-- A write performed at this module's home, once no other module holds a line of it (R104, R119, R120): its own domain cache loses the lines. -/
def State.homePut (s : State) (req : Nat) (word : Option DWord) (mma : Nat) (bs : List Byte) (marks : List Bool) : Wr :=
  match (linesOf mma bs.length).find? (fun x => s.remoteHeld x true) with
  | some x => { s := s, stop := some (.park (.line (lineKey s.md.number x) 3)) }
  | none =>
    let s1 := ((linesOf mma bs.length).foldl (fun x y => x.dropOwn y) s).hbmWrite req word mma bs marks
    { s := s1, ids := s1.openWrites s }

/-- Write bytes at a place (R109, R117 to R120, R135). -/
def State.writeLoc (s : State) (w : Master) (agent vdie : Nat) (own : List (Nat × Nat)) (l : Loc) (bs : List Byte) (marks : List Bool) : Wr :=
  let req := tagOf s.md.number w.gt s.md.nextWrite
  match l with
  | .sram gt off => s.sramWrite agent vdie gt own off bs marks
  | .hbm mma => s.homePut req none mma bs marks
  | .peer m mma =>
    if m = s.md.number ∧ s.frameKind (mma / 2 ^ 21) = 1 then s.homePut req none mma bs marks
    else match (linesOf mma bs.length).find? (fun x => !(decide (2 ≤ (s.dline m x).state) && decide ((s.dline m x).state ≤ 3)) && !s.md.through.contains (lineKey m x)) with
    | some x => { s := s, stop := some (.park (.line (lineKey m x) 1)) }
    | none =>
      if m = s.md.number then
        { s := ((linesOf mma bs.length).foldl (fun x y => x.modMd (fun d => { d with dcache := tmod {} d.dcache (lineKey m y) (fun l => { l with state := 3 }) })) s).hbmPut mma bs marks }
      else if (linesOf mma bs.length).any (fun x => s.md.through.contains (lineKey m x)) then
        let r := s.sendThrough w.q w.gt w.tag m mma bs marks
        { s := r.1, reqs := r.2 }
      else { s := s.linePut m mma bs marks }
  | .ctrl _ _ _ => { s := s, stop := some (.trap 0x04) }

/-- The directory serves a request for a line (R119): its holders are asked, and their answers awaited. `who` is the requester, the number of its
request, and the kind of service (`Dir.serving`). -/
def State.serve (s : State) (mma : Nat) (who : Nat × Nat × Nat) (kind : Nat) (hs : List Nat) : State :=
  let a := agentIo (mma / 128)
  (hs.foldl (fun x h => x.modMd (fun m => m.post { cls := cSNP, dst := h, kind := kind, addr := mma, agent := a, dagent := a, re := who.2.1, code := who.1 })) s).modDir mma
    (fun d => { d with serving := some who, awaited := hs })

/-- What a master that waits for a line sends, once. Codes 0 and 1: the domain cache asks the line's home, which may be this module, for S or M
(R117, R121), a miss of R122; a request for M says whether the line is held in O. Codes 2 and 3: this module's directory recalls a line of its
own memory from the holder, or from every holder, for an access through region 0x1 or at the home (R119). -/
def State.askLine (s : State) (w : Master) (key code : Nat) : State :=
  let m := keyModule key
  let mma := keyMma key
  if 2 ≤ code then
    let hs := s.otherHolders mma (code == 3)
    if hs = [] ∨ (s.dirOf mma).serving.isSome = true then s
    else s.serve mma (s.md.number, 0, code) (if code = 3 then kInval else kForward) hs
  else if s.asking m mma then s
  else
    (s.modMd (fun d => d.post { cls := cREQ, dst := m, kind := if code = 1 then kGetM else kGetS, addr := mma, agent := w.gt, dagent := agentIo (mma / 128), tag := w.tag, req := w.q
                                code := if (s.dline m mma).state = 4 then 1 else 0 })).count mma 1

/-- Count domain-cache hits of a region 0x2 access that needed no message (R122). -/
def State.countHits (s : State) (missed : Bool) (l : Loc) (n : Nat) : State :=
  match l with
  | .peer _ mma => if missed then s else (linesOf mma n).foldl (fun x y => x.count y 0) s
  | _ => s

/-- Whether a place lies in a protected data frame of this module (R97). -/
def State.frameProtected (s : State) (l : Loc) : Bool :=
  match l with
  | .hbm mma => s.frameKind (mma / 2 ^ 21) == 1
  | .peer m mma => m == s.md.number && s.frameKind (mma / 2 ^ 21) == 1
  | _ => false

/-- Whether R130 turns an access through region 0x2 to this module's own memory away: the job tag of the frame's owner is another. -/
def State.tagOk (s : State) (mma tag : Nat) : Bool := (s.vi (s.frameOwner (mma / 2 ^ 21))).jobtag == tag
def State.ownTagBad (s : State) (w : Master) (l : Loc) : Bool :=
  match l with
  | .peer m mma => m == s.md.number && !s.tagOk mma w.tag
  | _ => false

/-- Whether a place lies in a frame of this module that is being moved (R101). -/
def State.locBusy (s : State) (l : Loc) : Bool :=
  match l with
  | .hbm mma => s.frameBusy (mma / 2 ^ 21)
  | .peer m mma => m == s.md.number && s.frameBusy (mma / 2 ^ 21)
  | _ => false

/-- Whether a place lies in a slice that is fenced (R18, R392): a request that has left its instruction is refused and comes again. -/
def State.locFenced (s : State) (l : Loc) : Bool := match l with | .sram gt _ => s.fencedTile gt | _ => false

/-- What an access of the hardware to n bytes of this module's memory must wait for: a frame that is being moved (R101), or a line that another
module holds (R119). -/
def State.memWait (s : State) (mma n : Nat) (write : Bool) : Option Park :=
  if s.frameBusy (mma / 2 ^ 21) then some (.pageBusy (mma / 2 ^ 21))
  else ((linesOf mma n).find? (fun x => s.remoteHeld x write)).map (fun x => .line (lineKey s.md.number x) (if write then 3 else 2))

/-! ## Reserved words and completion words (R159, R343) -/

/-- A number for the byte at a place, the same by whichever region it is named: slices, then the MMAs of this module, then those of the others. -/
def State.byteNo (s : State) (l : Loc) : Nat :=
  match l with
  | .sram gt off => sramKey gt off
  | .hbm mma => 2 ^ 60 + mma
  | .peer m mma => if m = s.md.number then 2 ^ 60 + mma else 2 ^ 63 + m * 2 ^ 43 + mma
  | .ctrl _ _ _ => 2 ^ 64

/-- The number of the doubleword at a place, for reservations (R343), and the place of a doubleword. A page move changes neither (R101). -/
def State.wordKey (s : State) (l : Loc) : Nat := s.byteNo l / 8
def wordLoc (w : Nat) : Loc :=
  if w < 2 ^ 57 then .sram (w * 8 / 2 ^ 25) (w * 8 % 2 ^ 25) else if w < 2 ^ 60 then .hbm ((w - 2 ^ 57) * 8) else .peer ((w - 2 ^ 60) / 2 ^ 40) (w % 2 ^ 40 * 8)

/-- Requesters of other modules among the reservers (R349): module, agent and number of the request. -/
def awayKey : Nat := 2 ^ 64
def awayOf (src agent seq : Nat) : Nat := awayKey + (seq * 2 ^ 13 + agent) * 1024 + src

/-- The reserved doubleword, if any, that a write of n bytes at a place meets, its holder being one that a test admits. -/
def State.heldBy (s : State) (p : Nat → Bool) (l : Loc) (n : Nat) : Option Nat :=
  (s.resv.find? (fun r => r.holder.any p && decide (r.addr * 8 < s.byteNo l + n) && decide (s.byteNo l < r.addr * 8 + 8))).map (·.addr)

/-- A write of an agent other than the holder to a reserved doubleword waits at the home until the release (R343). -/
def State.writeHeld (s : State) (key : Nat) (l : Loc) (n : Nat) : Option Nat := s.heldBy (· != key) l n

/-- State of a completion word: absent, updatable (its slice key), refused, busy for now, or outside the VI's windows. -/
inductive WordAt where
  | none
  | at_ (k : Nat)
  | refused
  | busy
  | outside
  deriving DecidableEq, Repr

/-- Where a completion word stands (R159); a tile that refuses for now is tried again (R18, R28, R392). -/
def State.wordAt (s : State) (v gt a n : Nat) : WordAt :=
  if a = 0 then .none
  else match s.check1 ⟨v, true, 0⟩ gt rAny a with
    | .ok (.sram g off) =>
      let st := (s.gran g (off / 256)).state
      if ((s.tile g).winAt off).isSome || (s.tile g).inSecond off then .refused
      else if st = 3 ∨ (s.writeHeld (2 ^ 63) (.sram g off) n).isSome = true then .busy
      else if st = 2 then .at_ (sramKey g off) else .refused
    | .park _ => .busy
    | .freeze _ => .outside
    | _ => .refused

end Sys2Proof.Machine
end

