-- ==== Sys2Proof/Machine/Ops.lean ====
section
/-! DEFINITION. The named operations that instructions and events share: register access with dead registers and tags (R191, R198,
R200 to R202), guards (R39, R40), workspace images (R185 to R196), the ready queue (R302), taking a trap and finishing one (R371 to
R376), freezing (R407), reports (R401, R408, R411), and how an instruction ends (`Act`, `finish`). -/

namespace Sys2Proof.Machine

/-! ## Mode bits and tags -/

def Task.sup (t : Task) : Bool := bit t.st.mode 15
def Task.det (t : Task) : Bool := bit t.st.mode 14
def Task.redundant (t : Task) : Bool := bit t.st.mode 13
def Task.bsp (t : Task) : Bool := bit t.st.mode 12
def Task.hnd (t : Task) : Bool := bit t.st.mode 11
def Task.who (t : Task) : Who := ⟨t.vi, t.sup, t.key⟩
/-- Open containment levels (R382). -/
def Task.depth (t : Task) : Nat := bits t.hw.cdnest 0 4
/-- vdie of the task's tile (R303). -/
def Task.vdie (t : Task) : Nat := (t.wp.toNat >>> 46) % 64
/-- The matrix-state line as a part of the task. -/
def Task.modSt (t : Task) (f : Status → Status) : Task := { t with st := f t.st }
def Task.modHw (t : Task) (f : HwArea → HwArea) : Task := { t with hw := f t.hw }
def Task.modSch (t : Task) (f : Sched → Sched) : Task := { t with sch := f t.sch }
/-- Whether the task's instruction has waited for a line, so that its access is no hit (R122). -/
def Task.missed (t : Task) : Bool := match t.sch.why with | some (.line _ _) => true | _ => false

/-- A value with its poison and taint tags. -/
structure RegV where
  v : DWord := 0
  p : Bool := false
  t : Bool := false
  deriving DecidableEq, Repr

/-- Bit positions of the tags in SR.POIS and SR.TAINT (R191). -/
def tagV : Nat := 32
def tagM : Nat := 48
def tagP : Nat := 52

def Task.liveG (t : Task) (n : BitVec 5) : Bool := bit t.scope n.toNat
def Task.liveV (t : Task) (n : BitVec 4) : Bool := bit t.scope (32 + n.toNat)

/-- A G register as an instruction reads it: a dead register is zero with clear tags (R198). -/
def Task.rdG (t : Task) (n : BitVec 5) : RegV :=
  if t.liveG n then ⟨t.g[n.toNat], bit t.st.pois n.toNat, bit t.st.taint n.toNat⟩ else {}

/-- SR.TSTAT.DEADREAD after reading registers (R198). -/
def Task.noteReads (t : Task) (ns : List (BitVec 5)) : Task :=
  if ns.all t.liveG then t else t.modSt (fun x => { x with tstat := setBit x.tstat 16 true })

/-- Write a G register with its tags; a dead one discards the write and sets DEADWR (R198). Taint needs deterministic mode (R202). -/
def Task.wrG (t : Task) (n : BitVec 5) (x : RegV) : Task :=
  if t.liveG n then
    { t with g := t.g.set n.toNat x.v
             st := { t.st with pois := setBit t.st.pois n.toNat x.p, taint := setBit t.st.taint n.toNat (t.det && x.t) } }
  else t.modSt (fun y => { y with tstat := setBit y.tstat 17 true })

/-- A predicate and its taint (R190, R191, R322). -/
def Task.rdP (t : Task) (n : Nat) : Bool := bit t.st.tstat n
def Task.taintP (t : Task) (n : Nat) : Bool := bit t.st.taint (tagP + n)
def Task.wrP (t : Task) (n : Nat) (b taint : Bool) : Task :=
  t.modSt (fun x => { x with tstat := setBit x.tstat n b, taint := setBit x.taint (tagP + n) (t.det && taint) })

/-! ## Finding tasks -/

/-- The task with a key. -/
def State.task? (s : State) (k : Nat) : Option Task :=
  if s.cur.status ≠ .absent ∧ s.cur.key = k then some s.cur else s.others.find? (fun t => t.key == k)

/-- Change the task with a key. -/
def State.modTask (s : State) (k : Nat) (f : Task → Task) : State :=
  if s.cur.status ≠ .absent ∧ s.cur.key = k then { s with cur := f s.cur }
  else { s with others := modWhere (fun t => t.key == k) f s.others }

/-- Drop tasks that do not exist any more from the list. -/
def State.dropTask (s : State) (k : Nat) : State :=
  if s.cur.status ≠ .absent ∧ s.cur.key = k then { s with cur := {} } else { s with others := s.others.filter (fun t => t.key ≠ k) }

/-- Make the task with a key the issuing one. -/
def State.select (s : State) (k : Nat) : State :=
  if s.cur.key = k ∧ s.cur.status ≠ .absent then s
  else match s.others.find? (fun t => t.key == k) with
    | none => s
    | some t => { s with cur := t, others := (if s.cur.status = .absent then [] else [s.cur]) ++ s.others.filter (fun x => x.key ≠ k) }

/-- A task enters the tail of its tile's ready queue (R302), at the level of its PRIO. -/
def Task.prio (t : Task) : Nat := bits t.hw.claim 16 2
def State.ready (s : State) (k : Nat) : State :=
  let n := s.clock
  let s' := s.modTask k (fun t => { t with status := .ready, sch := { t.sch with level := t.prio, order := n, since := ((s.tile (s.taskGt t)).cycle).toNat } })
  { s' with clock := n + 1 }

/-- Ready every task whose park satisfies a test (R302). -/
def State.wake (s : State) (p : Task → Park → Bool) : State :=
  (s.tasks.filter (fun t => match t.status with | .parked w => p t w | _ => false)).foldl (fun x t => x.ready t.key) s

/-- Whether an address names a pending task or launch of a VI (R332). -/
def State.nameTaken (s : State) (v a : Nat) : Bool :=
  (s.vi v).launches.any (fun l => l.dep != 0 && l.addr == a) || s.tiles.any (fun t => t.2.pend.any (fun p => p.vi == v && p.addr == a))

/-- A free value of the configuration advances its counter. -/
def State.tick (s : State) : State := { s with fresh := s.fresh + 1 }

/-! ## Reports -/

/-- CSERR and HCSERR after one refusal (R401). -/
def addRefusal (c : DWord) (reason vdie page off : Nat) : DWord :=
  if bits c 56 8 = 0 then dw (2 ^ 56 + reason * 2 ^ 48 + vdie * 2 ^ 40 + page * 2 ^ 16 + off)
  else if bits c 56 8 = 255 then c else setBits c 56 8 (bits c 56 8 + 1)

/-- Add 1 to a completion or counter word (R314, R338, R341, R408), `launch` being the launch that it completes or 0: a word that may be updated
later waits. The answer says whether it is a word to update at all. -/
def State.bump (s : State) (v a launch : Nat) : State × Bool :=
  match s.wordAt v 0 a 8 with
  | .at_ k => (s.put k (toBytes 8 (ofBytes ((s.fetch k 8).map (·.1)) + 1)) (List.replicate 8 (s.marked k)), true)
  | .busy => ({ s with owedBumps := s.owedBumps ++ [(v, a, launch)] }, true)
  | _ => (s, false)

/-- Whether an address lies in a busy granule. -/
def State.inBusy (s : State) (v a : Nat) : Bool := match s.sramPlace v a with | .ok p => (s.gran p.1 (p.2 / 256)).state == 3 | _ => false

/-- Append to a VI's event log and count in EVCTR, which must be a written doubleword at that moment (R408). -/
def State.logEvent (s : State) (v kind : Nat) (addr : Nat) (info : DWord) : State :=
  let s' := s.modVi v (fun x => { x with
    log := tinsert x.log (x.evidx.toNat % 256) (dw (kind * 2 ^ 56 + addr % 2 ^ 56), info)
    evidx := x.evidx + 1 })
  let c := (s.vi v).evctr
  if c = 0 ∨ c.toNat % 8 ≠ 0 ∨ s'.inBusy v c.toNat = true then s' else (s'.bump v c.toNat 0).1

/-- Update the word of a launch that is complete, or record that it is none (R314). -/
def State.bumpLaunch (s : State) (v a id : Nat) : State :=
  let r := s.bump v a id
  if r.2 then r.1 else s.logEvent v 9 a (dw (id * 2 ^ 32))

/-- Updates that have waited are tried again, oldest first. -/
def State.settleBumps (s : State) : State :=
  if s.owedBumps = [] then s
  else s.owedBumps.foldl (fun x e => if e.2.2 = 0 then (x.bump e.1 e.2.1 0).1 else x.bumpLaunch e.1 e.2.1 e.2.2) { s with owedBumps := [] }

/-- A refused control-space write of a VI (R401, R408). -/
def State.refuse (s : State) (v reason vdie page off : Nat) : State :=
  (s.modVi v (fun x => { x with cserr := addRefusal x.cserr reason vdie page off })).logEvent v 7 0 (addRefusal 0 reason vdie page off)

/-- Append to the host event queue, or hold the event while the ring is full (R411). -/
def State.hostEvent (s : State) (e : HEvent) : State :=
  s.modMd (fun m =>
    if 1024 ≤ (m.heqidx - m.heqack).toNat ∨ m.heqWait ≠ [] then { m with heqWait := m.heqWait ++ [e] }
    else { m with heq := tinsert m.heq (m.heqidx.toNat % 1024) e, heqidx := m.heqidx + 1, notices := m.notices + 1 })

/-! ## Workspace images and the register cache (R185 to R196) -/

/-- Store doublewords at offsets from a WP as register-cache write-backs (R135, R186); the crust entries are charged to the task. -/
def State.storeWords (s : State) (gt vdie base : Nat) (ws : List (Nat × DWord)) : State × List DWord :=
  ws.foldl (fun r w =>
    let x := r.1.sramWrite 1 vdie gt [] (base + w.1) (toBytes 8 w.2.toNat) (List.replicate 8 false)
    (x.s, r.2 ++ x.crust)) (s, [])

/-- Charge crust entries to a task (R138): they join SR.CRUST, or wait for its line. -/
def Task.charge (t : Task) (es : List DWord) : Task :=
  if t.absentLines.contains 10 then t.modSch (fun x => { x with owed := x.owed ++ es })
  else t.modSt (fun x => { x with crust := addCrusts x.crust es })

/-- The trailing copy's words that a write-back stores: V and M of the trailing copy are never written (R243). -/
def Task.copyWords (t : Task) (ls : List Nat) : List (Nat × DWord) :=
  if t.redundant then t.copy.words (ls.filter (fun l => decide (l < 12) && l != 8 && l != 9)) else []

/-- Write lines of a task back, the hardware area with them, a redundant task's second copy at WP + 0x2000 (R186, R193, R196). -/
def State.writeLines (s : State) (k : Nat) (ls : List Nat) : State :=
  match s.task? k with
  | none => s
  | some t =>
    let b := aOff t.wp.toNat
    let r := s.storeWords (s.taskGt t) t.vdie b (t.words ls)
    let r2 := r.1.storeWords (s.taskGt t) t.vdie (b + 0x2000) (t.copyWords ls)
    r2.1.modTask k (fun x => x.charge (r.2 ++ r2.2))

/-- Write every present line of a task back (R196). -/
def State.writeBack (s : State) (k : Nat) : State :=
  match s.task? k with
  | none => s
  | some t => s.writeLines k t.presentLines

/-- Lines leave the register cache (R195): written back, then dropped. Poison tags of an absent SR.POIS gather the marks of later fills. -/
def State.dropLines (s : State) (k : Nat) (ls : List Nat) : State :=
  match s.task? k with
  | none => s
  | some t =>
    (s.writeLines k (t.presentLines.filter ls.contains)).modTask k (fun x =>
      let clean (c : Task) : Task := if ls.contains 5 then c.modSt (fun y => { y with pois := 0 }) else c
      { (clean x).putCopy (clean x.copy) with absentLines := x.absentLines ++ ls.filter (fun l => !x.absentLines.contains l) })

/-- A doubleword of a workspace as the hardware reads it there, with its mark (R135). -/
def State.wsWord (s : State) (gt base off : Nat) : DWord × Bool :=
  let r := s.sramRead .fill 1 0 gt [] (base + off) 8
  (dw (ofBytes (r.bytes.map (·.1))), r.bytes.any (·.2))

/-- The hardware area from its image (R193, R247). -/
def hwFrom (w : Nat → DWord) (t : Task) : Task :=
  { t with
    st := { t.st with vtype := w 0x300 &&& 0x1F }
    hw := { t.hw with
      arrival := w 0x308, frame := w 0x310, launch := w 0x318, seed := w 0x320, tindex := w 0x328, group := w 0x330, mseq := w 0x338
      cdnest := w 0x380, cdAddr := Vector.ofFn (fun i => w (0x388 + 8 * i.val)), rsv := w 0x3C8, claim := w 0x3D0, creation := w 0x3D8 }
    mx := { t.mx with mxa := w 0x340, mxb := w 0x348, ufcur := w 0x350, zmode := w 0x358, uf0 := w 0x360, uf1 := w 0x368, uf2 := w 0x370 } }

/-- The bits of each shadow register that are not reserved (R151). -/
def mvMask (e : Nat) : DWord :=
  match e with
  | 3 => 0xFFFFFFFF
  | 4 => 0xFFFFFFFF
  | 7 => 0xFFFFFFFF
  | 10 => 0x3FFF
  | _ => 0xFFFFFFFFFFFFFFFF

/-- Set tags of SR.POIS. -/
def Task.poison (t : Task) (ns : List Nat) : Task := t.modSt (fun x => { x with pois := ns.foldl (fun p n => setBit p n true) x.pois })

/-- A line as a fill takes it (R185, R187, R191, R192), d being its doublewords and mk their marks: SR.MODE[15:11] is that of creation, reserved
fields are zero, outside deterministic mode every taint tag is 0 (R202, log entry 71), and a mark on a register's bytes, or on SR.POIS itself, makes
it poisoned. The marks of the shadow registers are ignored, and their tags stay (log entry 69). -/
def Task.takeLine (t : Task) (l : Nat) (d : List DWord) (mk : List Bool) : Task :=
  let hit (lo n : Nat) : Bool := ((mk.drop lo).take n).any id
  if l < 4 then
    { t with g := Vector.ofFn (fun i => if i.val / 8 = l then nthDw d (i.val % 8) else t.g[i.val]) }.poison
      (((List.range 8).filter (fun i => hit i 1)).map (· + 8 * l))
  else if l = 4 then { t with t := Vector.ofFn (fun i => nthDw d i.val &&& 0x00FFFFFFFFFFFFFE) }
  else if l = 5 then
    ({ t with
      pc := (nthDw d 0 &&& 0xFFFFFFFFFFFFFFFE).setWidth 56
      st := { t.st with mode := (t.hw.creation &&& 0xF800) ||| (nthDw d 1 &&& 0x1F), fpflags := nthDw d 2 &&& 0x7F, tstat := nthDw d 3 &&& 0x3FFFF
                        pois := (t.st.pois ||| nthDw d 4) &&& 0x000FFFFFFFFFFFFF, taint := if bit t.hw.creation 14 then nthDw d 5 &&& 0x0FFFFFFFFFFFFFFF else 0
                        rkey := nthDw d 6, rseq := nthDw d 7 &&& 0xFFFFFFFF } } : Task).poison (if hit 4 1 then List.range 52 else [])
  else if l = 6 then { t with box := Vector.ofFn (fun i => let f := nthDw d (2 * i.val + 1); ⟨nthDw d (2 * i.val), bit f 1, bit t.hw.creation 14 && bit f 2, bit f 0⟩) }
  else if l = 7 then { t with scope := nthDw d 0 &&& 0x0000FFFFFFFFFFFF }
  else if l < 10 then
    { t with m := Vector.ofFn (fun i => if i.val / 2 = l - 8 then dwJoin 256 ((d.drop (4 * (i.val % 2))).take 4) else t.m[i.val]) }.poison
      (((List.range 2).filter (fun i => hit (4 * i) 4)).map (fun i => tagM + 2 * (l - 8) + i))
  else if l = 10 then
    { t with st := { t.st with crust := addCrusts (nthDw d 0 &&& 0xFFFFFFFFFFFFFF00) t.sch.owed, mverr := nthDw d 1 &&& 0xFFFFFF000000FF00 }
             sch := { t.sch with owed := [] }
             mv := { t.mv with regs := Vector.ofFn (fun i => if i.val < 6 then nthDw d (2 + i.val) &&& mvMask i.val else t.mv.regs[i.val]) } }
  else if l = 11 then { t with mv := { t.mv with regs := Vector.ofFn (fun i => if i.val < 6 then t.mv.regs[i.val] else nthDw d (i.val - 6) &&& mvMask i.val) } }
  else if l < 16 then t
  else
    { t with v := Vector.ofFn (fun i => if i.val = (l - 16) / 4 then
        let sh := 512 * (l % 4)
        (t.v[i.val] &&& ~~~((BitVec.ofNat 2048 (2 ^ 512 - 1)) <<< sh)) ||| ((dwJoin 512 d).setWidth 2048 <<< sh) else t.v[i.val]) }.poison
      (if hit 0 8 then [tagV + (l - 16) / 4] else [])

/-- A task with one line filled from its workspace: a register-cache access of agent 1, whose crust entries are the task's (R135, R186). -/
def State.fillLine (s : State) (t : Task) (l : Nat) : Task :=
  let gt := s.taskGt t
  let read (base : Nat) : Rd := s.sramRead .fill 1 t.vdie gt [] (base + 64 * l) 64
  let take (u : Task) (r : Rd) : Task := u.takeLine l (dwordsOf 8 (r.bytes.map (·.1))) ((List.range 8).map (fun i => ((r.bytes.drop (8 * i)).take 8).any (·.2)))
  let b := aOff t.wp.toNat
  let r := read b
  let second := t.redundant && decide (l < 12) && l != 6 && l != 8 && l != 9
  let r2 : Rd := if second then read (b + 0x2000) else {}
  let t1 := { take t r with absentLines := t.absentLines.filter (· ≠ l) }
  (if second then t1.putCopy (take t.copy r2) else t1).charge (r.crust ++ r2.crust)

/-- A task with every absent line as a fill would take it now. -/
def State.filled (s : State) (t : Task) : Task := t.absentLines.foldl s.fillLine t

/-- The tasks of a tile. -/
def State.onTile (s : State) (gt : Nat) : List Task := s.tasks.filter (fun t => s.taskGt t == gt)

/-- Lines that a tile's register cache holds (R194). -/
def Task.heldLines (t : Task) : Nat := if t.inCache then t.presentLines.length * (if t.redundant then 2 else 1) else 0
def State.usedLines (s : State) (gt : Nat) : Nat := ((s.onTile gt).map Task.heldLines).sum

/-- Evict lines until n more fit in a tile's register cache of 512 (R194, R195): of tasks that hold no slot, all lines of one task after another
(log entry 70). Task `k` keeps its own. -/
def State.makeRoom (s : State) (gt k n : Nat) : State :=
  (s.onTile gt).foldl (fun x t =>
    if x.usedLines gt + n ≤ 512 ∨ t.key = k ∨ t.status = .resident ∨ t.inCache = false then x else x.dropLines t.key t.presentLines) s

/-- Fill lines of a task that are absent (R195). -/
def State.fillLines (s : State) (k : Nat) (ls : List Nat) : State :=
  match s.task? k with
  | none => s
  | some t =>
    let l := ls.filter t.absentLines.contains
    if l = [] then s
    else
      let x := if t.inCache then s.makeRoom (s.taskGt t) k (l.length * (if t.redundant then 2 else 1)) else s
      x.modTask k (fun u => l.foldl x.fillLine u)

/-- The hardware changes registers of a task wherever their lines are (R205, R223): in the register cache, where they are filled first, or,
for a task that has been written back, in the slice. -/
def State.onLines (s : State) (k : Nat) (ls : List Nat) (f : Task → Task) : State :=
  match s.task? k with
  | none => s
  | some t =>
    let x := (s.fillLines k ls).modTask k f
    if t.inCache then x else x.dropLines k ls

/-- The hardware area of a task is in the slice whenever one of its fields changes (R193): `old` is the state before. -/
def State.keepHw (s old : State) : State :=
  s.tasks.foldl (fun x t => match old.task? t.key with
    | some u => if t.hwWords = u.hwWords then x else
      let r := x.storeWords (x.taskGt t) t.vdie (aOff t.wp.toNat) t.hwWords
      let r2 := r.1.storeWords (x.taskGt t) t.vdie (aOff t.wp.toNat + 0x2000) (if t.redundant then t.copy.hwWords else [])
      r2.1.modTask t.key (fun y => y.charge (r.2 ++ r2.2))
    | none => x) s

/-- A task that resumes takes its state from the bytes of its area (R187): every line is absent, so that it is filled before it is used,
and the hardware area is read again, but for what was fixed at creation. The live set, which admission needs, is read at once (R194). -/
def State.resumeArea (s : State) (t : Task) : Task :=
  let gt := s.taskGt t
  let b := aOff t.wp.toNat
  let u := hwFrom (fun off => (s.wsWord gt b off).1) t
  { u with hw := { u.hw with creation := t.hw.creation }, scope := (s.wsWord gt b 0x1C0).1 &&& 0x0000FFFFFFFFFFFF, absentLines := areaLines }

/-- A task comes to exist (R299, R321): its workspace receives the initial state, in a redundant task both workspaces do. No other register is
written, so M0 to M3 are what the slice holds there. Its lines are filled when it first needs them (R195). -/
def State.addTask (s : State) (t : Task) : State :=
  let gt := s.taskGt t
  let b := aOff t.wp.toNat
  let u : Task := if t.redundant then { t with twin := some { pc := t.pc, g := t.g, st := t.st } } else t
  let ls := areaLines.filter (fun l => l != 8 && l != 9)
  let r := s.storeWords gt t.vdie b (u.words ls)
  let r2 := r.1.storeWords gt t.vdie (b + 0x2000) (u.copyWords ls)
  { r2.1 with others := r2.1.others ++ [{ u with absentLines := areaLines }.charge (r.2 ++ r2.2)] }

/-- Whether the load-value queue of 64 and the store comparator of 32 entries each have a free place (R210). -/
def Redundant.room (r : Redundant) : Bool := decide (r.queue.countP (·.load) < 64) && decide (r.queue.countP (·.store) < 32)

/-! ## Guards and operand checks -/

/-- The guard of Q (R39). -/
def Task.guard (t : Task) (q : BitVec 4) : Bool :=
  if q = 0 then true else if q.getLsbD 3 then t.rdP (q.toNat % 8) else !t.rdP (q.toNat % 8)

/-- A trap's contents (R371, R372). Class: 0 precise, 1 deferred, 2 asynchronous, 3 pre-emption. -/
structure TrapInfo where
  code : Nat
  cls : Nat := 0
  /-- EPC is the next instruction (TRAP). -/
  after : Bool := false
  addr : DWord := 0
  info : DWord := 0
  deriving DecidableEq, Repr

/-- How an instruction ends. -/
inductive Act where
  /-- It takes effect, and PC moves past it. -/
  | next (s : State)
  /-- It takes effect and transfers. -/
  | jump (s : State) (pc : BitVec 56)
  /-- It takes effect and has left its slot by itself, with PC as the state holds it. -/
  | left (s : State)
  | trap (s : State) (x : TrapInfo)
  | park (s : State) (p : Park)
  /-- A queue is full, or a vector operand is still being produced: the slot issues it again (R24, R224). -/
  | retry (s : State)
  /-- A violation of R407 by this task, with its cause. -/
  | freeze (s : State) (cause : Nat)
  deriving DecidableEq, Repr

/-- Change the state after an instruction that takes effect. -/
def Act.after (f : State → State) : Act → Act
  | .next s => .next (f s)
  | x => x

/-- A precise fault with no detail. -/
def fault (s : State) (code : Nat) : Act := .trap s { code := code }
/-- A precise fault with a faulting address. -/
def faultAt (s : State) (code : Nat) (a : Nat) : Act := .trap s { code := code, addr := dw a }
/-- The poison trap and the nondeterminism fault name the register file and number (R372). -/
def faultReg (s : State) (code file n : Nat) : Act := .trap s { code := code, info := dw (file * 32 + n) }
/-- The illegal-operand fault. -/
def illegalOperand (s : State) : Act := fault s 0x0B

/-- Poison, then taint, of registers that an entry checks, in order (R201, R203). -/
def checkRegs (s : State) (ns : List (BitVec 5)) (k : Act) : Act :=
  match ns.find? (fun n => (s.cur.rdG n).p) with
  | some n => faultReg s 0x0D 0 n.toNat
  | none =>
    match ns.find? (fun n => s.cur.det && (s.cur.rdG n).t) with
    | some n => faultReg s 0x0E 0 n.toNat
    | none => k

/-- The nondeterminism fault of store data alone (R203). -/
def checkTaint (s : State) (ns : List (BitVec 5)) (k : Act) : Act :=
  match ns.find? (fun n => s.cur.det && (s.cur.rdG n).t) with
  | some n => faultReg s 0x0E 0 n.toNat
  | none => k

/-- The outcome of a check as the end of an instruction. -/
def chkAct {α : Type} (s : State) (a : Nat) (c : Chk α) (k : α → Act) : Act :=
  match c with
  | .ok x => k x
  | .trap code => if 0x03 ≤ code ∧ code ≤ 0x08 then faultAt s code a else fault s code
  | .park p => .park s p
  | .freeze c => .freeze s c

/-! ## Freezing, traps and handlers -/

/-- Enter a freeze in FRZ0, FRZ1, the event log and the host event queue (R407). -/
def State.recordFreeze (s : State) (v kind cause : Nat) (ident : DWord) : State :=
  let old := (s.vi v).frz0
  let f0 := dw (2 ^ 56 + kind * 2 ^ 52 + cause * 2 ^ 48)
  let s' := s.modVi v (fun x => if bits old 56 8 = 0 then { x with frz0 := f0, frz1 := ident }
    else { x with frz0 := if bits old 56 8 = 255 then old else setBits old 56 8 (bits old 56 8 + 1) })
  (s'.logEvent v 6 ident.toNat f0).hostEvent { kind := 2, vi := v, d1 := f0, d2 := ident }

/-- Doublewords of a trap record (R372). TCOPY is 0: a fault that the trailing copy alone raises is a mismatch (R331). -/
def trapRecord (depth : Nat) (x : TrapInfo) (epc iword : Nat) (save : DWord) : List (Nat × DWord) :=
  at8 0x1400 ([dw (depth * 4096 + x.cls * 1024 + x.code), dw epc, dw iword, x.addr, x.info, save] ++ List.replicate 26 0)

/-- Every line of a task leaves the register cache, written back (R196, R374, R378). -/
def State.dropAll (s : State) (k : Nat) : State :=
  match s.task? k with
  | none => s
  | some t => (s.dropLines k t.presentLines).modTask k (fun x => { x with absentLines := areaLines })

/-- Trap steps 1 to 3 (R374): write back, write the record, become trapped; EPC is where the task resumes. -/
def State.enterTrap (s : State) (k : Nat) (x : TrapInfo) (epc iword : Nat) (st : TaskStatus) : State :=
  let n := s.clock
  let s1 := (s.onLines k [5] (fun t => t.setPc (BitVec.ofNat 56 epc))).dropAll k
  let s2 := match s1.task? k with
    | none => s1
    | some t => (s1.storeWords (s1.taskGt t) t.vdie (aOff t.wp.toNat) (trapRecord t.depth x epc iword 0)).1
  { s2.modTask k (fun t => { t with status := st, snaps := [], sch := { t.sch with trapOrder := n, served := false, glaze := none, again := none, why := none } }) with clock := n + 1 }

/-- A freeze of a task (R407 KIND 1): trapped with code 0x1C, and no handler starts. -/
def State.freezeTask (s : State) (k cause : Nat) : State :=
  match s.task? k with
  | none => s
  | some t =>
    ((s.enterTrap k { code := 0x1C, cls := 2 } t.pc.toNat 0 .frozen).recordFreeze t.vi 1 cause (dw t.wp.toNat))

/-- Whether a trap handler of a VI runs on a tile (R374). -/
def State.handlerRuns (s : State) (v gt : Nat) : Bool :=
  s.tasks.any (fun t => match t.kind with | .trapHandler _ => t.vi == v && s.taskGt t == gt | _ => false)

/-- The initial state of a task at instantiation (R299, R79, R221). -/
def newTask (v : Nat) (wp entry : Nat) (g0 g1 g2 g3 : DWord) (mode : DWord) (hw : HwArea) (kind : TaskKind) : Task :=
  { status := .ready, kind := kind, vi := v, wp := BitVec.ofNat 56 wp, pc := BitVec.ofNat 56 entry
    g := ((((Vector.replicate 32 0).set 0 g0).set 1 g1).set 2 g2).set 3 g3
    st := { mode := mode ||| 0x10, rkey := kcg hw.seed (dw (bits hw.tindex 0 32)) }
    hw := { hw with creation := mode &&& 0xF800 } }

/-- The earliest trapped task of a VI on a tile that no handler has been started for (R374 step 4). -/
def State.nextTrapped (s : State) (v gt : Nat) : Option Task :=
  (s.tasks.filter (fun t => t.status == .trapped && !t.sch.served && t.vi == v && s.taskGt t == gt)).foldl
    (fun (b : Option Task) t => match b with | none => some t | some u => if t.sch.trapOrder < u.sch.trapOrder then some t else some u) none

/-- Start the trap handler for the earliest waiting trapped task of a VI on a tile (R374 step 4). -/
def State.startTrapHandler (s : State) (v gt : Nat) : State :=
  let cfg := (s.vi v).trapcfg
  if bit cfg 63 || s.handlerRuns v gt then s
  else match s.nextTrapped v gt with
    | none => s
    | some t =>
      let b := aOff t.wp.toNat
      let code := bits (s.wsWord gt b 0x1400).1 0 8
      let epc := (s.wsWord gt b 0x1408).1
      let base := t.wp.toNat / 2 ^ 25 * 2 ^ 25
      let h := newTask v (base + bits cfg 32 25) (base + bits cfg 0 25) (dw code) (t.wp.setWidth 64) epc 0 0x8800 { claim := dw (3 * 2 ^ 16) } (.trapHandler t.key)
      ((s.modTask t.key (fun u => u.modSch (fun x => { x with served := true }))).addTask h).ready h.key

/-- Whether a trap of this code goes to the host (R374, R409 VI bit 0). -/
def Vi.trapToHost (x : Vi) (code : Nat) : Bool := bit x.trapcfg 63 || (code == 0x07 && x.assist % 2 == 1)

/-- TAKING A TRAP (R374): the task's record is written, it becomes trapped, and its handler starts, waits, or the host is told. A
fault inside a trap handler is a double fault: the handler and then its trapped task are frozen. -/
def State.takeTrap (s : State) (k : Nat) (x : TrapInfo) (epc iword : Nat) : State :=
  match s.task? k with
  | none => s
  | some t =>
    match t.kind with
    | .trapHandler other => (s.freezeTask k 6).freezeTask other 6
    | _ =>
      let s1 := s.enterTrap k x epc iword .trapped
      if (s.vi t.vi).trapToHost x.code then
        s1.hostEvent { kind := 1, vi := t.vi, d1 := t.wp.setWidth 64, d2 := dw (t.depth * 4096 + x.cls * 1024 + x.code), d3 := dw epc }
      else s1.startTrapHandler t.vi (s.taskGt t)

/-- The instruction word a trap record captures (R50, R372). -/
def iwordOf (i : Instr) : Nat := ofBytes (encode i)

/-- EPC and IWORD of a trap that instruction i raises (R371, R372). -/
def State.raise (s : State) (i : Instr) (x : TrapInfo) : State :=
  let epc := if x.after then (s.cur.pc.toNat + Instr.length i) % 2 ^ 56 else s.cur.pc.toNat
  s.takeTrap s.cur.key x epc (if x.cls = 2 ∨ x.code = 0x03 then 0 else iwordOf i)

/-! ## How an instruction ends -/

/-- Parks that a handler may not take (R342). -/
def Park.handlerWait : Park → Bool
  | .box _ | .pages _ _ _ | .counter _ _ | .round _ _ | .seat _ _ | .phase _ _ | .queueFull _ _ | .queueEmpty _ _ => true
  | .launchTable | .pendingTable _ | .footprint | .transfer _ | .block _ => true
  | _ => false

/-- PC moves past the instruction (R59). -/
def State.advance (s : State) (n : Nat) : State :=
  { s with cur := { s.cur with pc := s.cur.pc + BitVec.ofNat 56 n }, stalled := false }

/-- A task as the master of a request (R112, R130). -/
def State.master (s : State) (t : Task) : Master := ⟨some (.task t.key), s.taskGt t, (s.vi t.vi).jobtag⟩

/-- What a master that waits asks for: a line (R121). -/
def State.askFor (s : State) (w : Master) (p : Park) : State :=
  match p with
  | .line k c => s.askLine w k c
  | _ => s

/-- A task that waits for a line asks for it (R121). -/
def State.noteWait (s : State) (p : Park) : State := s.askFor (s.master s.cur) p

/-- End an instruction: a park or a fault leaves the state that it issued in (R61, R371), and a parked task holds the instruction, decoded, to
execute it again. -/
def finish (i : Instr) : Act → Host.Outcome State Fault Refusal
  | .next s => .next (s.advance (Instr.length i))
  | .jump s pc => .next { s with cur := { s.cur with pc := pc }, stalled := false }
  | .left s => .next { s with stalled := false }
  | .trap s x => .next { s.raise i x with stalled := false }
  | .park s p =>
    if s.cur.hnd && p.handlerWait then .next { s.raise i { code := 0x0F } with stalled := false }
    else .next { s.noteWait p with cur := { s.cur with status := .parked p, snaps := [], sch := { s.cur.sch with again := some i, why := some p } }, stalled := false }
  | .retry s => .next { s with stalled := true }
  | .freeze s c => .next { s.freezeTask s.cur.key c with stalled := false }

/-- Whether evaluating the guard uses a tainted predicate in deterministic mode (R40, R203, R331). -/
def Task.guardTainted (t : Task) (q : BitVec 4) : Bool := t.det && q != 0 && t.taintP (q.toNat % 8)

/-- Run an instruction that carries a guard (R40, R51): a false guard only advances PC; a tainted one is the nondeterminism fault. -/
def run (i : Instr) (q : BitVec 4) (s : State) (body : State → Act) : Host.Outcome State Fault Refusal :=
  if s.cur.guardTainted q then finish i (faultReg s 0x0E 3 (q.toNat % 8))
  else if s.cur.guard q then finish i (body s)
  else .next (s.advance (Instr.length i))

/-- Run an instruction without a guard. -/
def run0 (i : Instr) (s : State) (body : State → Act) : Host.Outcome State Fault Refusal := finish i (body s)

/-- Run a supervisor-only instruction: the privilege fault comes before the guard (R51, R52). -/
def runSup (i : Instr) (q : BitVec 4) (s : State) (body : State → Act) : Host.Outcome State Fault Refusal :=
  if s.cur.sup then run i q s body else finish i (fault s 0x02)

/-- An event that names something the state does not hold. -/
def noUnit (e : String) : Host.Outcome State Fault Refusal := .fault (.noSuchUnit e)

/-- The VI itself as the master of a request that the hardware makes for it. -/
def State.viMaster (s : State) (v : Nat) : Master := { tag := (s.vi v).jobtag }

/-- An event that needs an access of the hardware for a VI: it happens with the access or, where the access fails, without; one that must wait asks
for what it waits for, and happens later. A gated tile begins to wake for it (R28). -/
def State.whenHw (s : State) (v : Nat) (name : String) (r : Chk State) (failed : State) : Host.Outcome State Fault Refusal :=
  match r with
  | .ok s1 => .next s1
  | .park (.line k c) => .next (s.askLine (s.viMaster v) k c)
  | .park (.fenced g) => if (s.tile g).gated && !(s.tile g).waking then .next (s.modTile g (fun t => { t with waking := true })) else noUnit name
  | .park _ => noUnit name
  | _ => .next failed

/-! ## Engine commands of a task -/

/-- Commands of a task still queued or in progress: vector, matrix. -/
def State.vCmds (s : State) (t : Task) : List Cmd := (s.tile (s.taskGt t)).vq.filter (fun c => c.wp == t.wp && c.vi == t.vi)
def State.mCmds (s : State) (t : Task) : List Cmd := (s.tile (s.taskGt t)).mq.filter (fun c => c.wp == t.wp && c.vi == t.vi)
def State.cmdsOf (s : State) (t : Task) : List Cmd := s.vCmds t ++ s.mCmds t

/-- The checks of a synchronisation point after its first wait: crust (R139), failed stores (R397), transfers (R161). -/
def syncCheck (s : State) (k : Act) : Act :=
  let st := s.cur.st
  if bits st.crust 56 8 ≠ 0 then
    .trap (s.modCur (fun t => t.modSt (fun x => { x with crust := 0 }))) { code := 0x10, cls := 1, info := st.crust }
  else match s.cur.sch.failedStore with
  | some a => .trap (s.modCur (fun t => t.modSch (fun x => { x with failedStore := none }))) { code := 0x19, cls := 1, addr := dw a }
  | none =>
    if bits st.mverr 40 8 ≠ 0 then
      let c := bits st.mverr 8 8
      .trap (s.modCur (fun t => t.modSt (fun x => { x with mverr := 0 }))) { code := if 0x10 ≤ c ∧ c ≤ 0x12 then 0x12 else 0x11, cls := 1, info := st.mverr }
    else k

/-- Inside a containment domain an instruction of R385's last rows is an illegal operand. -/
def notInDomain (s : State) (k : Act) : Act := if s.cur.depth ≠ 0 then illegalOperand s else k

end Sys2Proof.Machine
end

