-- ==== Sys2Proof/Machine/Operands.lean ====
section
/-! DEFINITION. The operand forms of the encodings: immediates and displacements (R42), memory operands of format M (R207), scope
codes (R44), vector masks (R45), page counts and handles (format C), and V and M registers with their tags (R198, R225). -/

namespace Sys2Proof.Machine

/-- A signed field as a 64-bit value (R42). -/
def immS {n : Nat} (i : BitVec n) : DWord := i.signExtend 64
/-- An unsigned field as a 64-bit value (R42). -/
def immU {n : Nat} (i : BitVec n) : DWord := i.setWidth 64

/-- Address of a format-M operand: wrap(G[base] + disp8 × size, 64) (R42, R207). -/
def memAddr (base : DWord) (disp : BitVec 8) (size : Nat) : DWord := base + immS disp * dw size

/-- Page count of format C: np + 1 (R147). -/
def pagesOf (n : BitVec 3) : Nat := n.toNat + 1

/-- Scope codes of R44: 0 thread, 1 tile, 2 vdie, 3 pkg, 4 dom. -/
def scThread : Nat := 0
def scTile : Nat := 1
def scVdie : Nat := 2
def scPkg : Nat := 3
def scDom : Nat := 4

/-- A V register as an engine command reads it (R198): dead ones are zero and clean. -/
def Task.rdV (t : Task) (n : BitVec 4) : BitVec 2048 := if t.liveV n then t.v[n.toNat] else 0
def Task.poisV (t : Task) (n : BitVec 4) : Bool := t.liveV n && bit t.st.pois (tagV + n.toNat)
def Task.taintV (t : Task) (n : BitVec 4) : Bool := t.liveV n && bit t.st.taint (tagV + n.toNat)

/-- Write a V register with its tags (R198, R200). -/
def Task.wrV (t : Task) (n : BitVec 4) (x : BitVec 2048) (p ta : Bool) : Task :=
  if t.liveV n then
    { t with v := t.v.set n.toNat x
             st := { t.st with pois := setBit t.st.pois (tagV + n.toNat) p, taint := setBit t.st.taint (tagV + n.toNat) (t.det && ta) } }
  else t.modSt (fun y => { y with tstat := setBit y.tstat 17 true })

/-- A read of dead V registers sets DEADREAD (R198). -/
def Task.noteV (t : Task) (ns : List (BitVec 4)) : Task :=
  if ns.all t.liveV then t else t.modSt (fun x => { x with tstat := setBit x.tstat 16 true })

/-- An M register with its tags (R191, R230). -/
def Task.rdM (t : Task) (n : BitVec 2) : BitVec 256 := t.m[n.toNat]
def Task.poisM (t : Task) (n : BitVec 2) : Bool := bit t.st.pois (tagM + n.toNat)
def Task.taintM (t : Task) (n : BitVec 2) : Bool := bit t.st.taint (tagM + n.toNat)
def Task.wrM (t : Task) (n : BitVec 2) (x : BitVec 256) (p ta : Bool) : Task :=
  { t with m := t.m.set n.toNat x
           st := { t.st with pois := setBit t.st.pois (tagM + n.toNat) p, taint := setBit t.st.taint (tagM + n.toNat) (t.det && ta) } }

/-- The mask register that a mask field names (R45): 4 to 7 name M0 to M3; 0 is no mask. -/
def maskReg (m : BitVec 3) : Option (BitVec 2) := if m.getLsbD 2 then some (m.setWidth 2) else none

/-! ## Bytes that engine commands touch (R226, R278) -/

/-- Slice ranges of the pages granted to a command: (global tile, offset, bytes). -/
def State.grantRanges (s : State) (gt : Nat) (c : Cmd) : List (Nat × Nat × Nat) :=
  c.grants.flatMap (fun g =>
    let b := s.cb gt g.1
    (List.range g.2.2).map (fun i => (gt, b.base + ((g.2.1 + i) % b.pages) * 2 ^ b.plog, 2 ^ b.plog)))

/-- Pages that a command still has to ask for when it begins: buffer, side (0 reserve, 1 acquire), count (R144). -/
def Cmd.wish (c : Cmd) : Option (Nat × Nat × Nat) :=
  if c.grants ≠ [] then none
  else match c.instr with
  | .vldc h _ _ => some (h.toNat, 1, 1)
  | .vldcKeep h _ _ => some (h.toNat, 1, 1)
  | .vstc h _ _ => some (h.toNat, 0, 1)
  | .mxdrain _ n h _ _ => if bit c.ga 20 then none else some (h.toNat, 0, pagesOf n)
  | _ => none

/-- The pages that a request of a command takes next: behind the requests queued before it (R143) and those of its task's earlier commands, as far
as the counters already allow them (log entry 74). -/
def State.nextPages (s : State) (gt seq h side n : Nat) : List (Nat × Nat × Nat) :=
  let b := s.cb gt h
  let q := if side = 0 then b.resQ else b.acqQ
  let mine := ((s.tile gt).vq ++ (s.tile gt).mq).find? (fun c => c.seq == seq)
  let older := ((s.tile gt).vq ++ (s.tile gt).mq).filter (fun c => decide (c.seq < seq) && mine.any (fun m => m.wp == c.wp && m.vi == c.vi) &&
    !q.any (fun e => e.1 == .command c.seq))
  let before : Nat := ((q.takeWhile (fun e => e.1 != .command seq)).map (·.2)).sum +
    (older.map (fun c => match c.wish with | some (h', s', n') => if h' = h ∧ s' = side then n' else 0 | none => 0)).sum
  let k := (if side = 0 then b.resv else b.taken) + before
  let top := if side = 0 then b.popped + b.pages else b.pushed
  ((List.range n).filter (fun i => decide (k + i < top))).map (fun i => (gt, b.base + ((k + i) % b.pages) * 2 ^ b.plog, 2 ^ b.plog))

/-- Slice ranges of the pages that a command has been granted, or takes next. -/
def State.pageRanges (s : State) (gt : Nat) (c : Cmd) : List (Nat × Nat × Nat) :=
  s.grantRanges gt c ++ (match c.wish with | some (h, side, n) => s.nextPages gt c.seq h side n | none => [])

/-- Bytes of an unfold tensor (R259). -/
def ufBytes (d0 d1 : DWord) : Nat := bits d1 0 16 * bits d1 16 16 * bits d1 32 16 * tyWidth (bits d0 25 5) / 8

/-- Size of a block image by mode (R275). -/
def imageSize (mode : Nat) : Nat := if mode = 1 then 17600 else if mode = 2 then 83136 else 5256

/-- Slice ranges that a memory command reads or writes (R226, R278); for VGATH and VSCAT the whole slice. The image that an MXFILL
reads is taken at its largest. -/
def State.cmdRanges (s : State) (c : Cmd) : List (Nat × Nat × Nat) :=
  let gt := s.gtOf c.vi c.wp.toNat
  let place (a n : Nat) : List (Nat × Nat × Nat) := [(s.gtOf c.vi a, aOff a, n)]
  match c.instr with
  | .vld i _ _ _ => place (memAddr c.ga i 256).toNat 256
  | .vst i _ _ _ => place (memAddr c.ga i 256).toNat 256
  | .vgath _ _ _ _ => [(s.gtOf c.vi c.ga.toNat, 0, 2 ^ 25)]
  | .vscat _ _ _ _ => [(s.gtOf c.vi c.ga.toNat, 0, 2 ^ 25)]
  | .vldc _ _ _ => s.pageRanges gt c
  | .vldcKeep _ _ _ => s.pageRanges gt c
  | .vstc _ _ _ => s.pageRanges gt c
  | .mxmac _ _ => if bit c.mx.mxa 14 then [(gt, bits c.mx.uf0 0 25, ufBytes c.mx.uf0 c.mx.uf1)] else []
  | .mxdrain _ _ h _ _ =>
    if bit c.ga 20 then [(gt, (s.win gt h.toNat).base + bits c.ga 32 25, 128 * tyWidth (bits c.ga 8 5))] else s.pageRanges gt c
  | .mxspill _ d _ => place c.ga.toNat (imageSize (bits c.mx.zmode (3 * d.toNat) 3))
  | .mxfill _ d _ => place c.ga.toNat (if d = 0 then 83136 else 17600)
  | _ => []

/-- Whether an earlier memory command of the issuing task that has not completed touches one of n bytes at a place (R226 item 2). -/
def State.memBusy (s : State) (l : Loc) (n : Nat) : Bool :=
  match l with
  | .sram gt off => (s.cmdsOf s.cur).any (fun c => (s.cmdRanges c).any (fun r => r.1 == gt && decide (r.2.1 < off + n) && decide (off < r.2.1 + r.2.2)))
  | _ => false

/-- Whether a command writes memory, so that a later release waits for it (R226 item 3). -/
def Cmd.writesMem (c : Cmd) : Bool :=
  match c.instr with
  | .vst _ _ _ _ => true
  | .vscat _ _ _ _ => true
  | .vstc _ _ _ => true
  | .mxdrain _ _ _ _ _ => true
  | .mxspill _ _ _ => true
  | _ => false

/-- Whether a command has memory accesses that FENCE and every strong event after it wait for (R226 item 3, R278, R356, R366). -/
def Cmd.touchesMem (s : State) (c : Cmd) : Bool := c.writesMem || (s.cmdRanges c) != [] ||
  (match c.instr with | .vldc _ _ _ => true | .vldcKeep _ _ _ => true | _ => false)

/-- Whether a command is a strong event that is still to come: an acquire until its page is granted, a release until its page is complete (R363). -/
def Cmd.strong (c : Cmd) : Bool :=
  match c.instr with
  | .vldc _ _ _ => c.grants == []
  | .vldcKeep _ _ _ => c.grants == []
  | .vstc _ _ _ => true
  | _ => false

/-- Whether an outstanding store is the write of a strong event (R363). -/
def Store.strong (x : Store) : Bool := x.rel || x.kind == .release true || x.kind == .release false

/-- Whether a command can set a flag (R76): the vector commands that round or saturate, compare or divide, and drains. -/
def Cmd.setsFlags (c : Cmd) : Bool :=
  match c.instr with
  | .mxdrain _ _ _ _ _ => true
  | .mxcfg _ _ _ => false
  | .mxzero _ _ => false
  | .mxmac _ _ => false
  | .mxchk _ _ _ => false
  | .mxspill _ _ _ => false
  | .mxfill _ _ _ => false
  | .vld _ _ _ _ | .vst _ _ _ _ | .vgath _ _ _ _ | .vscat _ _ _ _ | .vbcast _ _ _ | .vextr _ _ _ _ | .vldc _ _ _ | .vldcKeep _ _ _ | .vstc _ _ _ => false
  | .vand _ _ _ _ _ | .vor _ _ _ _ _ | .vxor _ _ _ _ _ | .vnot _ _ _ _ | .vshl _ _ _ _ _ | .vshr _ _ _ _ _ | .vsra _ _ _ _ _ | .vandS _ _ | .vorS _ _ | .vxorS _ _ => false
  | .vperm _ _ _ _ _ | .vslide _ _ _ _ _ | .vzip _ _ _ _ | .vuzp _ _ _ _ | .vsel _ _ _ _ _ | .vclass _ _ _ _ => false
  | .vadd y _ _ _ _ | .vsub y _ _ _ _ | .vmul y _ _ _ _ | .vfma y _ _ _ _ | .vfms y _ _ _ _ | .vmin y _ _ _ _ | .vmax y _ _ _ _ => decide (16 ≤ y.toNat)
  | .vabs y _ _ _ | .vneg y _ _ _ | .vcmpEq y _ _ _ _ | .vcmpNe y _ _ _ _ | .vcmpLt y _ _ _ _ | .vcmpLe y _ _ _ _ => decide (16 ≤ y.toNat)
  | _ => true

/-- Stores of a task that are outstanding (R207). -/
def State.storesOf (s : State) (key : Nat) : List Store := s.stores.filter (fun x => x.key == key)

/-- A strong event, release or acquire, comes after the task's earlier engine accesses and stores, as after an SC fence (R226 item 3, R356, R366). -/
def releaseWait (s : State) (k : Act) : Act :=
  if (s.cmdsOf s.cur).any (fun c => c.touchesMem s) then .park s (.commands 8)
  else if s.storesOf s.cur.key ≠ [] then .park s (.stores 0)
  else k

/-! ## Accesses of the issuing task -/

/-- Charge crust entries to the issuing task (R138). -/
def State.chargeCur (s : State) (es : List DWord) : State :=
  { s with cur := s.cur.charge es }

/-- Whether an outstanding store touches one of n bytes at a place. -/
def State.storeMeets (s : State) (x : Store) (l : Loc) (n : Nat) : Bool :=
  decide (s.byteNo x.loc < s.byteNo l + n) && decide (s.byteNo l < s.byteNo x.loc + max 8 x.bytes.length)

/-- Whether a strong event of the issuing task is still to come: a queued command, and an outstanding store (R356). -/
def State.strongCmd (s : State) : Bool := (s.cmdsOf s.cur).any Cmd.strong
def State.strongStore (s : State) : Bool := (s.storesOf s.cur.key).any Store.strong

/-- An access waits for the task's earlier commands (R226 item 2) and outstanding stores that touch a byte of it, for a load returns what its task
stored before (R207), and for its earlier strong events (R356). -/
def accessWait (s : State) (l : Loc) (n : Nat) (k : Act) : Act :=
  if s.memBusy l n || s.strongCmd then .park s (.commands 8)
  else if (s.storesOf s.cur.key).any (fun x => s.storeMeets x l n) || s.strongStore then .park s (.stores 0)
  else k

/-- The parts of the home word of a release: the word written or left, the reservation ended, and an overwritten poisoned word logged (R109,
R345). -/
def State.releaseHome (s : State) (w req : Nat) (value : Option DWord) : Wr :=
  let free (x : State) : State := { x with
    resv := (x.resv.map (fun r => if r.addr = w then { r with holder := none, granted := false } else r)).filter (fun r => r.holder.isSome || !r.waiters.isEmpty) }
  match value with
  | none => { s := free s }
  | some d =>
    let bs := toBytes 8 d.toNat
    let cl := List.replicate 8 false
    let note (k : Nat) (x : State) : State := if s.marked k then x.modMd (fun m => { m with overwrites := m.overwrites + 1 }) else x
    match wordLoc w with
    | .sram gt off => { s := free (note (sramKey gt off) (s.put (sramKey gt off) bs cl)) }
    | .hbm mma =>
      let old := dw (ofBytes ((s.hbmFetch mma 8).map (·.1)))
      let r := s.homePut req (some old) mma bs cl
      if r.stop.isSome then r else { r with s := free (note (s.hbmKey mma) r.s) }
    | _ => { s := free s }

/-- Add to the n-bit word at a byte number of this module (R346), unless it is poisoned: the new doubleword is written as a release writes it. -/
def State.addHome (s : State) (byte n amount req : Nat) : Wr :=
  match s.resv.find? (fun r => r.addr == byte / 8 && r.holder.isSome) with
  | some r => { s := s, stop := some (.park (.grant r.addr)) }
  | none =>
    let set_ (old : DWord) : DWord := setBits old (8 * (byte % 8)) n ((bits old (8 * (byte % 8)) n + amount) % 2 ^ n)
    let cl := List.replicate 8 false
    match wordLoc (byte / 8) with
    | .sram gt off =>
      let k := sramKey gt off
      if s.marked k then { s := s } else { s := s.put k (toBytes 8 (set_ (dw (ofBytes ((s.fetch k 8).map (·.1))))).toNat) cl }
    | .hbm mma =>
      let old := dw (ofBytes ((s.hbmFetch mma 8).map (·.1)))
      if s.marked (s.hbmKey mma) then { s := s } else s.homePut req (some old) mma (toBytes 8 (set_ old).toNat) cl
    | _ => { s := s }

/-- The master of an outstanding store's requests. -/
def State.storeMaster (s : State) (x : Store) : Master := ⟨some (.task x.key), s.gtOf x.vi (x.key % 2 ^ 56), (s.vi x.vi).jobtag⟩

/-- What an outstanding store or release does when it is tried: it is performed, or what it waits for. A release comes after every earlier store
and engine access of its task, a saved one too (R226, R345, R378), and waits for a frame that is being moved, where a store came before the move (R101); a store
waits for an earlier one that it meets or that a strong event makes (R356), and at a reserved word (R343). All wait at a fence (R18, R392), and a late one while
the agenda keeps it. -/
def State.tryStore (s : State) (older : List Store) (x : Store) : Wr :=
  let w := s.storeMaster x
  let wait : Wr := { s := s, stop := some (.park (.stores 0)) }
  if x.held || (x.late && !s.agenda.isEmpty) || s.locFenced x.loc then wait
  else match x.kind with
  | .add =>
    if !older.isEmpty || s.locBusy x.loc then wait
    else match x.loc with
    | .peer m mma =>
      if m = s.md.number then s.addHome (s.byteNo x.loc) (8 * x.bytes.length) (ofBytes x.bytes) (tagOf m w.gt s.md.nextWrite)
      else
        { s := s.modMd (fun d => d.post { cls := cREQ, dst := m, kind := kUndo, addr := mma, agent := w.gt, dagent := agentIo (mma / 128), tag := w.tag, req := w.q, size := x.bytes.length, data := BitVec.ofNat 1024 (ofBytes x.bytes) })
          reqs := [s.md.nextSeq.toNat] }
    | l => s.addHome (s.byteNo l) (8 * x.bytes.length) (ofBytes x.bytes) (tagOf s.md.number w.gt s.md.nextWrite)
  | .release writes =>
    let cmds := (s.tile w.gt).vq ++ (s.tile w.gt).mq
    let saved := match s.task? x.key with | some t => t.status != .resident && t.sch.savedMem | none => false
    if !older.isEmpty || saved || s.locBusy x.loc || cmds.any (fun c => c.vi == x.vi && c.vi * 2 ^ 56 + c.wp.toNat == x.key && c.touchesMem s) then wait
    else match x.loc with
    | .peer m mma =>
      if m = s.md.number then s.releaseHome (s.wordKey x.loc) (tagOf m w.gt s.md.nextWrite) (if writes then some (dw (ofBytes x.bytes)) else none)
      else
        let r := (s.releaseHome (s.wordKey x.loc) 0 none).s
        { s := r.modMd (fun d => d.post { cls := cREQ, dst := m, kind := kRelease, addr := mma, agent := w.gt, dagent := agentIo (mma / 128), tag := w.tag, req := w.q
                                          code := if writes then 1 else 0, data := BitVec.ofNat 1024 (ofBytes x.bytes) })
          reqs := [r.md.nextSeq.toNat] }
    | l => s.releaseHome (s.wordKey l) (tagOf s.md.number w.gt s.md.nextWrite) (if writes then some (dw (ofBytes x.bytes)) else none)
  | .write =>
    if older.any (fun y => y.strong || (!y.performed && s.storeMeets y x.loc x.bytes.length)) then wait
    else match s.writeHeld x.key x.loc x.bytes.length with
    | some r => { s := s, stop := some (.park (.grant r)) }
    | none => s.writeLoc w 0 (aVdie x.addr) [] x.loc x.bytes x.marks

/-- What of a performed store's acknowledgements is still awaited (R104, R120, R345). -/
def State.awaits (s : State) (ids reqs : List Nat) : List Nat × List Nat :=
  (ids.filter (fun i => s.md.deltas.any (fun d => d.id == i && !d.acked)), reqs.filter (fun n => s.md.outbox.any (fun p => p.cls == cREQ && p.seq == n)))

/-- A store leaves its instruction (R207): performed and over, performed and awaiting acknowledgements, or outstanding; one that is to be held
(R210) or kept waits whatever it could do. -/
def State.issueStore (s : State) (x : Store) : Wr :=
  let w := s.tryStore (s.storesOf x.key) { x with held := false, late := false }
  match w.stop with
  | some (.park p) =>
    let y := w.s.askFor (s.storeMaster x) p
    { s := { y with stores := y.stores ++ [x] } }
  | some _ => w
  | none => if x.held || x.late then { s := { s with stores := s.stores ++ [x] } } else if w.ids = [] ∧ w.reqs = [] then w else { w with s := { w.s with stores := w.s.stores ++ [{ x with performed := true, ids := w.ids, reqs := w.reqs }] } }

/-- The words that a task has reserved and not released are released unchanged, as by RELN (R343, R376). -/
def State.releaseOf (s : State) (k : Nat) : State :=
  let sent (w : Nat) : Bool := (s.storesOf k).any (fun x => (x.kind == .release true || x.kind == .release false) && s.wordKey x.loc == w)
  ((s.resv.filter (fun r => r.holder == some k && !sent r.addr)).map (·.addr)).foldl (fun x w =>
    (x.issueStore { key := k, vi := k / 2 ^ 56, addr := 0, loc := wordLoc w, bytes := toBytes 8 0, marks := [], kind := .release false }).s) s

/-- A store of the issuing task to a place, its checks passed (R207), `rel` for a release: it parks only where a command of the task touches the bytes or is a
strong event before it (R356), or where 16 stores are outstanding and it would be one more. -/
def storeOut (s : State) (rel : Bool) (a : Nat) (l : Loc) (bs : List Byte) (marks : List Bool) (k : State → Act) : Act :=
  if s.memBusy l bs.length || s.strongCmd then .park s (.commands 8)
  else if s.ownTagBad (s.master s.cur) l && s.frameProtected l then .freeze s 3
  else
    let w := s.issueStore { key := s.cur.key, vi := s.cur.vi, addr := a, loc := l, bytes := bs, marks := marks, held := s.cur.twin.isSome, late := s.defer && !rel, rel := rel }
    match w.stop with
    | some c => chkAct s a c (fun _ => faultAt s 0x04 a)
    | none =>
      if 16 ≤ (s.storesOf s.cur.key).length ∧ s.stores.length < w.s.stores.length ∧ s.cur.twin.isNone = true then .park s (.stores 15)
      else k ((w.s.chargeCur w.crust).countHits (decide (s.stores.length < w.s.stores.length) || s.cur.missed) l bs.length)

/-- One more turn of an outstanding store, the older ones of all tasks standing before it (R207). -/
def State.pushStore (s : State) (older : List Store) (x : Store) : State × List Store :=
  if x.performed then
    let a := s.awaits x.ids x.reqs
    (s, if a.1 = [] ∧ a.2 = [] then older else older ++ [{ x with ids := a.1, reqs := a.2 }])
  else
    let w := s.tryStore (older.filter (fun y => y.key == x.key)) x
    match w.stop with
    | some (.park p) => (w.s.askFor (s.storeMaster x) p, older ++ [x])
    | some _ => (s, older)
    | none =>
      (if w.crust = [] then w.s else w.s.onLines x.key [10] (fun t => t.charge w.crust),
       if w.ids = [] ∧ w.reqs = [] then older else older ++ [{ x with performed := true, ids := w.ids, reqs := w.reqs }])

/-- Outstanding stores go on as far as they can, oldest first. -/
def State.drainStores (s : State) : State :=
  if s.stores = [] then s
  else
    let r := s.stores.foldl (fun (r : State × List Store) x => r.1.pushStore r.2 x) (s, [])
    { r.1 with stores := r.2 }

/-- Write hardware fields of a domain area (R381): bytes at an offset from the area's address. -/
def State.areaPut (s : State) (t : Task) (level off : Nat) (bs : List Byte) (marks : List Bool) : State :=
  let a := (t.hw.cdAddr.toList.getD (level - 1) 0).toNat + off
  match s.check1 ⟨t.vi, true, 0⟩ (s.taskGt t) rAny a with
  | .ok (.sram gt o) => (s.sramWrite 0 (aVdie a) gt [] o bs marks).s
  | .ok (.hbm mma) => s.hbmPut mma bs marks
  | _ => s

/-- Doubleword i of a task's domain area of a level is written by the hardware (R381). -/
def State.domPut (s : State) (t : Task) (level i : Nat) (d : DWord) : State := s.areaPut t level (8 * i) (toBytes 8 d.toNat) (List.replicate 8 false)

/-- Read n bytes for the issuing task as a plain load (R92, R135); the continuation gets bytes with marks. -/
def withLoad (s : State) (a n : Nat) (k : State → List (Byte × Bool) → Act) : Act :=
  chkAct s a (s.check s.cur.who (s.taskGt s.cur) rRD a n) (fun l =>
    accessWait s l n (
    let r := s.readLoc .task 0 (aVdie a) [] l n
    match r.stop with
    | some c => chkAct s a c (fun _ => faultAt s 0x04 a)
    | none => k ((s.chargeCur r.crust).countHits s.cur.missed l n) r.bytes))

/-- Write bytes for the issuing task as a plain store (R92, R135). -/
def withStore (s : State) (a : Nat) (bs : List Byte) (marks : List Bool) (k : State → Act) : Act :=
  chkAct s a (s.check s.cur.who (s.taskGt s.cur) rWR a bs.length) (fun l =>
    storeOut s false a l bs marks k)

/-- The doublewords of bytes read; a poisoned doubleword reads as zero (R109). -/
def loadedDws : Nat → List (Byte × Bool) → List DWord
  | 0, _ => []
  | n + 1, bs => (if (bs.take 8).any (·.2) then 0 else dw (ofBytes ((bs.take 8).map (·.1)))) :: loadedDws n (bs.drop 8)

/-- Read n doublewords of a record, descriptor or table. -/
def withDws (s : State) (a n : Nat) (k : State → List DWord → Act) : Act := withLoad s a (8 * n) (fun s bs => k s (loadedDws n bs))

/-- The window fault for a task access to a window's second range (R148). -/
def secondRange (s : State) (l : Loc) : Bool :=
  match l with
  | .sram gt off => (s.tile gt).inSecond off
  | _ => false

/-- Inside an open domain a store must lie in the range of an OWIN window of the issuing tile (R385). -/
def State.owinOk (s : State) (owin : Nat) (gt off n : Nat) : Bool :=
  match (s.tile gt).winAt off with
  | some w => gt == s.taskGt s.cur && (owin >>> w) % 2 == 1 && (s.tile gt).winAt (off + n - 1) == some w
  | none => false

/-- Doubleword i of the outermost domain area of the issuing task (R381). -/
def State.domWord (s : State) (t : Task) (level i : Nat) : DWord :=
  match s.check1 ⟨t.vi, true, 0⟩ (s.taskGt t) rAny ((t.hw.cdAddr.toList.getD (level - 1) 0).toNat + 8 * i) with
  | .ok (.sram gt off) => dw (ofBytes ((s.fetch (sramKey gt off) 8).map (·.1)))
  | .ok (.hbm mma) => dw (ofBytes ((s.fetch (s.hbmKey mma) 8).map (·.1)))
  | _ => 0

/-- Bytes of a domain area of level 1 with their marks, a doubleword at a time (R381). -/
def State.domBytes (s : State) (t : Task) (off n : Nat) : List (Byte × Bool) :=
  (List.range (n / 8)).flatMap (fun i => match s.check1 ⟨t.vi, true, 0⟩ (s.taskGt t) rAny ((t.hw.cdAddr.toList.getD 0 0).toNat + off + 8 * i) with
  | .ok (.sram gt o) => s.fetch (sramKey gt o) 8
  | .ok (.hbm mma) => s.fetch (s.hbmKey mma) 8
  | _ => List.replicate 8 (0, false))

/-- The output and input windows of the issuing task's nest (R381). -/
def State.owin (s : State) (t : Task) : Nat := if t.depth = 0 then 0 else bits (s.domWord t 1 0) 0 16
def State.iwin (s : State) (t : Task) : Nat := if t.depth = 0 then 0 else bits (s.domWord t 1 0) 32 16

/-- Whether a store of the issuing task to a place is allowed (R385). -/
def storeAllowed (s : State) (l : Loc) (n : Nat) : Bool :=
  s.cur.depth == 0 ||
  match l with
  | .sram gt off => s.owinOk (s.owin s.cur) gt off n
  | _ => false

end Sys2Proof.Machine
end

