-- ==== Sys2Proof/Machine/MoverForm.lean ====
section
/-! DEFINITION. A transfer's description (07_mover.md): the shadow registers' fields (R151), its shape (R152, R153), the 2:4 transforms
(R170 to R172) and the exponent-packed block decoder (R173 to R175). -/

namespace Sys2Proof.Machine

abbrev MvRegs := Vector DWord 11

/-! ## Fields (R151) -/

def mvLen (r : MvRegs) : Nat := bits r[3] 0 32
def mvCnt1 (r : MvRegs) : Nat := bits r[4] 0 16
def mvCnt2 (r : MvRegs) : Nat := bits r[4] 16 16
def mvSstr1 (r : MvRegs) : Int := sval 32 (bits r[5] 0 32)
def mvDstr1 (r : MvRegs) : Int := sval 32 (bits r[5] 32 32)
def mvSstr2 (r : MvRegs) : Int := sval 32 (bits r[6] 0 32)
def mvDstr2 (r : MvRegs) : Int := sval 32 (bits r[6] 32 32)
def mvSh (r : MvRegs) : Nat := bits r[2] 0 32
def mvDh (r : MvRegs) : Nat := bits r[2] 32 32
def mvOpc (r : MvRegs) : Nat := bits r[7] 0 8
def mvEtype (r : MvRegs) : Nat := bits r[7] 8 5
def mvSkind (r : MvRegs) : Nat := bits r[7] 13 2
def mvDkind (r : MvRegs) : Nat := bits r[7] 15 3
def mvSbuf (r : MvRegs) : Nat := bits r[7] 18 5
def mvDbuf (r : MvRegs) : Nat := bits r[7] 23 5
def mvScope (r : MvRegs) : Nat := bits r[7] 28 3
def mvMc (r : MvRegs) : Bool := bit r[7] 31
def mvSrc (r : MvRegs) : Nat := r[0].toNat
def mvDst (r : MvRegs) : Nat := r[1].toNat
def mvBar (r : MvRegs) : Nat := r[8].toNat
def mvCtr (r : MvRegs) : Nat := r[9].toNat

/-- The tiles of a multicast rectangle, rising (R176). -/
def mvTiles (r : MvRegs) : List Nat :=
  let m := r[10]
  (List.range (bits m 11 3 + 1 - bits m 8 3)).flatMap (fun y => (List.range (bits m 4 4 + 1 - bits m 0 4)).map (fun x => (bits m 8 3 + y) * 16 + bits m 0 4 + x))
def mvRectOk (r : MvRegs) : Bool := decide (bits r[10] 0 4 ≤ bits r[10] 4 4) && decide (bits r[10] 8 3 ≤ bits r[10] 11 3)

/-- Dense and compressed unit sizes of a type (R170). -/
def mvDense (r : MvRegs) : Nat := 32 * tyWidth (mvEtype r)
def mvComp (r : MvRegs) : Nat := 16 * tyWidth (mvEtype r) + 32

/-- Types that each operation accepts (R153, R170, R174). -/
def mvTypeOk (r : MvRegs) : Bool :=
  match mvOpc r with
  | 1 => [1, 9, 19, 20, 2, 10, 21, 22, 3, 11, 23].contains (mvEtype r)
  | 2 => [1, 9, 19, 20, 2, 10, 21, 22, 3, 11, 23].contains (mvEtype r)
  | 3 => [19, 20, 17, 18].contains (mvEtype r)
  | _ => true

/-- Source bytes of a transfer (R151, R152). -/
def mvSrcBytes (r : MvRegs) : Nat := if mvOpc r = 3 then mvLen r else mvLen r * mvCnt1 r * mvCnt2 r

/-- Nominal length (R153). -/
def mvNominal (r : MvRegs) : Nat :=
  match mvOpc r with
  | 1 => mvSrcBytes r / mvComp r * mvDense r
  | 2 => mvSrcBytes r / mvDense r * mvComp r
  | 3 => mvCnt1 r * (if tyWidth (mvEtype r) = 8 then 64 else 48)
  | _ => mvSrcBytes r

/-- Number of destinations (R176). -/
def mvDests (r : MvRegs) : Nat := if mvMc r then (mvTiles r).length else 1

/-- Stream sides (R152). -/
def mvSrcStream (r : MvRegs) : Bool := mvSkind r == 2
def mvDstStream (r : MvRegs) : Bool := [2, 3, 4].contains (mvDkind r) || mvOpc r != 0

/-- Address or offset of source byte n, of destination byte n, as R152 walks the runs. -/
def mvSrcAt (r : MvRegs) (n : Nat) : Int :=
  if mvOpc r = 3 then (mvSrc r : Int) + n
  else (mvSrc r : Int) + (n / mvLen r / mvCnt1 r : Nat) * mvSstr2 r + (n / mvLen r % mvCnt1 r : Nat) * mvSstr1 r + (n % mvLen r : Nat)
def mvDstAt (r : MvRegs) (n : Nat) : Int :=
  if mvDstStream r then (mvDst r : Int) + n
  else (mvDst r : Int) + (n / mvLen r / mvCnt1 r : Nat) * mvDstr2 r + (n / mvLen r % mvCnt1 r : Nat) * mvDstr1 r + (n % mvLen r : Nat)

/-- Lowest and highest byte of a side over every run (R156). -/
def mvExtent (base s1 s2 : Int) (len c1 c2 : Nat) : Int × Int :=
  let a := ((c1 : Int) - 1) * s1
  let b := ((c2 : Int) - 1) * s2
  (base + min 0 a + min 0 b, base + max 0 a + max 0 b + len - 1)
def mvSrcExtent (r : MvRegs) : Int × Int :=
  if mvOpc r = 3 then ((mvSrc r : Int), (mvSrc r : Int) + mvLen r - 1) else mvExtent (mvSrc r) (mvSstr1 r) (mvSstr2 r) (mvLen r) (mvCnt1 r) (mvCnt2 r)
def mvDstExtent (r : MvRegs) : Int × Int :=
  if mvDstStream r then ((mvDst r : Int), (mvDst r : Int) + mvNominal r - 1) else mvExtent (mvDst r) (mvDstr1 r) (mvDstr2 r) (mvLen r) (mvCnt1 r) (mvCnt2 r)

/-- The runs of a side, as (first byte, bytes). -/
def mvSrcRuns (r : MvRegs) : List (Int × Nat) :=
  if mvOpc r = 3 then [((mvSrc r : Int), mvLen r)] else (List.range (mvCnt1 r * mvCnt2 r)).map (fun k => (mvSrcAt r (k * mvLen r), mvLen r))
def mvDstRuns (r : MvRegs) : List (Int × Nat) :=
  if mvDstStream r then [((mvDst r : Int), mvNominal r)] else (List.range (mvCnt1 r * mvCnt2 r)).map (fun k => (mvDstAt r (k * mvLen r), mvLen r))

/-- Bytes left in the run of byte n of a side. -/
def mvSrcRest (r : MvRegs) (n : Nat) : Nat := if mvOpc r = 3 then mvLen r - n else mvLen r - n % mvLen r
def mvDstRest (r : MvRegs) (n : Nat) : Nat := if mvDstStream r then mvNominal r - n else mvLen r - n % mvLen r

/-- The shape rules of MVGO's third check (R156), without the rules of R283. -/
def mvShapeOk (r : MvRegs) : Bool :=
  let dst := r[1]
  let coll := mvDkind r == 4
  (if coll then [0x10, 0x11, 0x12, 0x13].contains (mvOpc r) else decide (mvOpc r ≤ 3)) && mvSkind r != 3 && decide (mvDkind r ≤ 4) &&
  decide (1 ≤ mvScope r ∧ mvScope r ≤ 4) && mvLen r != 0 && mvCnt1 r != 0 && mvCnt2 r != 0 &&
  (!mvSrcStream r || (mvSstr1 r == 0 && mvSstr2 r == 0)) && (!mvDstStream r || (mvDstr1 r == 0 && mvDstr2 r == 0)) && mvTypeOk r &&
  (mvOpc r != 3 || mvCnt2 r == 1) && (mvOpc r != 1 || mvSrcBytes r % mvComp r == 0) && (mvOpc r != 2 || mvSrcBytes r % mvDense r == 0) &&
  (!mvMc r || ((mvDkind r == 0 || mvDkind r == 2) && mvRectOk r && (mvDkind r != 0 || bits dst 39 7 == 0))) &&
  (coll || decide (mvNominal r * mvDests r < 2 ^ 40)) && (mvSkind r != 2 || mvSrc r == 0) &&
  (mvDkind r != 2 || (bits dst 52 4 == 0 && bits dst 0 39 == 0)) && (mvDkind r != 3 || bits dst 8 56 == 0) &&
  (!coll || (decide (mvSkind r ≤ 1) && mvCnt1 r == 1 && mvCnt2 r == 1 && r[5] == 0 && r[6] == 0 && mvEtype r == 0 && !mvMc r))

/-- What of a destination is still to be written after n bytes, as (first byte, bytes). -/
def mvDstTail (r : MvRegs) (n : Nat) : List (Int × Nat) :=
  if mvNominal r ≤ n then []
  else if mvDstStream r then [((mvDst r : Int) + n, mvNominal r - n)]
  else (mvDstAt r n, mvLen r - n % mvLen r) :: (List.range (mvCnt1 r * mvCnt2 r - n / mvLen r - 1)).map (fun k => (mvDstAt r ((n / mvLen r + 1 + k) * mvLen r), mvLen r))

/-- The registers of a descriptor in force: its own fields, and BAR, CTR, MCAST, MC and SCOPE of the shadow set (R166, R169). -/
def descRegs (r : MvRegs) (d : List DWord) : MvRegs :=
  #v[nthDw d 0, nthDw d 1, nthDw d 2, dw (bits (nthDw d 3) 0 32), dw (2 ^ 16 + bits (nthDw d 3) 48 16), nthDw d 4, 0,
    dw (bits (nthDw d 5) 0 28 + bits r[7] 28 4 * 2 ^ 28), r[8], r[9], r[10]]

/-! ## Transforms of one unit -/

/-- Bytes with poison marks. -/
abbrev PBytes := List (Byte × Bool)
/-- Output bytes: poison, and whether a faulted PX block gave them. -/
abbrev OBytes := List (Byte × Bool × Bool)

/-- Element i of w bits (a whole number of bytes) with its poison. -/
def elemAt (w : Nat) (bs : PBytes) (i : Nat) : PBytes := (bs.drop (i * (w / 8))).take (w / 8)

/-- EXP24 of one compressed unit (R171): the dense unit, and whether a metadata word was malformed. -/
def expandUnit (w : Nat) (bs : PBytes) : OBytes × Bool :=
  let mb := bs.drop (16 * w)
  let word (g : Nat) : Nat × Bool := let b := mb.getD (g / 2) (0, false); ((b.1.toNat >>> (4 * (g % 2))) % 16, b.2)
  let group (g : Nat) : OBytes :=
    let m := word g
    let i0 := m.1 % 4
    let i1 := m.1 / 4
    (List.range 4).flatMap (fun p =>
      if i1 ≤ i0 then List.replicate (w / 8) (0, m.2, false)
      else if p = i0 then (elemAt w bs (2 * g)).map (fun b => (b.1, b.2 || m.2, false))
      else if p = i1 then (elemAt w bs (2 * g + 1)).map (fun b => (b.1, b.2 || m.2, false))
      else List.replicate (w / 8) (0, m.2, false))
  ((List.range 64).flatMap group, (List.range 64).any (fun g => decide ((word g).1 / 4 ≤ (word g).1 % 4)))

/-- Magnitude key of an element (R172): every NaN above infinity, both zeros equal. -/
def magKey (ty x : Nat) : Nat :=
  if tyIsInt ty then (if tySigned ty then (sval (tyWidth ty) x).natAbs else x)
  else
    let f := fmtOf ty
    match f.read x with
    | .nan _ => 2 ^ f.width
    | _ => x % 2 ^ (f.w + f.p)

/-- The two kept positions of a group, rising (R172). -/
def keptTwo (keys : List Nat) : Nat × Nat :=
  let best (skip : Option Nat) : Nat :=
    ((List.range 4).filter (fun i => some i != skip)).foldl (fun b i => if keys.getD b 0 < keys.getD i 0 ∨ some b = skip then i else b) (if skip = some 0 then 1 else 0)
  let a := best none
  let b := best (some a)
  (min a b, max a b)

/-- CMP24 of one dense unit (R172): the compressed unit, and the groups that had more than two non-zeros. -/
def compactUnit (ty : Nat) (bs : PBytes) : OBytes × Nat :=
  let w := tyWidth ty
  let val (i : Nat) : Nat := ofBytes ((elemAt w bs i).map (·.1))
  let keys (g : Nat) : List Nat := (List.range 4).map (fun p => magKey ty (val (4 * g + p)))
  let pois (g : Nat) : Bool := ((bs.drop (4 * g * (w / 8))).take (w / 2)).any (·.2)
  let els := (List.range 64).flatMap (fun g =>
    let k := keptTwo (keys g)
    (elemAt w bs (4 * g + k.1) ++ elemAt w bs (4 * g + k.2)).map (fun b => (b.1, pois g, false)))
  let nib (g : Nat) : Nat := let k := keptTwo (keys g); k.1 + 4 * k.2
  let md := (List.range 32).map (fun j => (BitVec.ofNat 8 (nib (2 * j) + 16 * nib (2 * j + 1)), pois (2 * j) || pois (2 * j + 1), false))
  (els ++ md, (List.range 64).countP (fun g => decide (2 < (keys g).countP (fun k => k != 0))))

/-- CRC-16/CCITT of R174. -/
def crc16Byte (crc : Nat) (b : Byte) : Nat :=
  (List.range 8).foldl (fun c _ => if 2 ^ 15 ≤ c then ((c * 2) ^^^ 0x1021) % 2 ^ 16 else c * 2) (crc ^^^ (b.toNat * 256))
def crc16 (bs : List Byte) : Nat := bs.foldl crc16Byte 0xFFFF

/-- Outcome of a PX block: the output bytes, and the code of a decode-checksum fault (R175). -/
structure PxOut where
  bytes : OBytes
  code : Option Nat

/-- Format of a PX block: type code of FMT (R173). -/
def pxType (fmt : Nat) : Nat := match fmt with | 0 => 19 | 1 => 20 | 2 => 17 | _ => 18

/-- Escape bytes used before element i. -/
def pxEscBefore (deltas : List Nat) (w i : Nat) : Nat := (deltas.take i).countP (fun d => d == 2 ^ w - 1)

/-- Decode one PX block from its header and payload (R174); a faulted block gives zeros whose places are poisoned (R175). -/
def pxBlock (ety : Nat) (bs : PBytes) : PxOut :=
  let hd := dw (ofBytes ((bs.take 8).map (·.1)))
  let pay := bs.drop 8
  let outW := tyWidth ety
  let size := if outW = 8 then 64 else 48
  let bad (c : Nat) : PxOut := ⟨List.replicate size (0, false, true), some c⟩
  let fmt := bits hd 0 4
  let w := bits hd 16 3
  let ty := pxType fmt
  let f := fmtOf ty
  if bits hd 25 7 ≠ 0 ∨ bits hd 19 5 ≠ 0 ∨ bits hd 4 4 ≠ 0 ∨ 3 < fmt ∨ tyWidth ty ≠ outW ∨ 4 < w then bad 0x11
  else if bit hd 24 then
    if w ≠ 0 ∨ bits hd 8 8 ≠ 0 ∨ bits hd 48 16 ≠ 0 then bad 0x11
    else if bits hd 32 16 ≠ 0xFFFF then bad 0x10
    else ⟨List.replicate size (0, (bs.take 8).any (·.2), false), none⟩
  else
    let n1 := (64 * (1 + f.p) + 7) / 8
    let n2 := (64 * w + 7) / 8
    let run1 := ofBytes ((pay.take n1).map (·.1))
    let run2 := ofBytes (((pay.drop n1).take n2).map (·.1))
    let deltas := if w = 0 then List.replicate 64 0 else (List.range 64).map (fun i => packedGet w i run2)
    let esc := if w = 0 then 0 else pxEscBefore deltas w 64
    if bits hd 48 16 ≠ n1 + n2 + esc then bad 0x11
    else if crc16 (pay.map (·.1)) ≠ bits hd 32 16 then bad 0x10
    else
      let exp (i : Nat) : Nat :=
        if w = 0 then bits hd 8 8
        else if deltas.getD i 0 = 2 ^ w - 1 then ((pay.getD (n1 + n2 + pxEscBefore deltas w i) (0, false)).1).toNat
        else bits hd 8 8 + deltas.getD i 0
      if (List.range 64).any (fun i => decide (2 ^ f.w - 1 < exp i)) then bad 0x11
      else
        let field (i : Nat) : Nat := packedGet (1 + f.p) i run1
        let el (i : Nat) : Nat := (if 2 ^ f.p ≤ field i then 2 ^ (f.w + f.p) else 0) + exp i * 2 ^ f.p + field i % 2 ^ f.p
        let mk (lo n : Nat) : Bool := ((pay.drop (lo / 8)).take ((lo + n + 7) / 8 - lo / 8)).any (·.2)
        let pois (i : Nat) : Bool := (bs.take 8).any (·.2) || mk ((1 + f.p) * i) (1 + f.p) || (w != 0 && mk (8 * n1 + w * i) w) ||
          (w != 0 && deltas.getD i 0 == 2 ^ w - 1 && (pay.getD (n1 + n2 + pxEscBefore deltas w i) (0, false)).2)
        let run := toBytes size (packedJoin outW ((List.range 64).map el))
        ⟨run.zipIdx.map (fun e => (e.1, (List.range 64).any (fun i => decide (i * outW < 8 * (e.2 + 1)) && decide (8 * e.2 < (i + 1) * outW) && pois i), false)), none⟩

/-! ## Status (R160) -/

/-- The status word of a transfer. -/
def Transfer.status (t : Transfer) : DWord :=
  dw (t.id * 2 ^ 48 + min t.trunc 0xFFFF * 2 ^ 32 + min t.crusts.length 255 * 2 ^ 24 + t.code * 2 ^ 8 + (if t.badMeta then 128 else 0) +
    (if t.pois then 64 else 0) + (if t.csum then 32 else 0) + t.state)

/-- Whether a transfer is in flight (R157). -/
def Transfer.inFlight (t : Transfer) : Bool := decide (t.state < 2)

/-- The transfers of the module in flight, as (global tile, transfer). -/
def State.xfersInFlight (s : State) : List (Nat × Transfer) :=
  s.tiles.flatMap (fun x => (x.2.xfers.filter (fun e => e.2.inFlight)).map (fun e => (x.1, e.2)))

/-- Registers of the descriptions that a transfer is bound to: its own, and for a chain those of the descriptor in force and of the one fetched
(R165, R167). -/
def Transfer.forms (t : Transfer) : List MvRegs :=
  if t.isChain then (if t.inForce then [t.regs] else []) ++ (match t.ahead with | some a => if a.code = 0 then [descRegs t.regs a.desc] else [] | none => []) else [t.regs]

/-- Whether a transfer in flight publishes to a stream of a die (R263). -/
def State.publishing (s : State) (die n : Nat) : Bool :=
  s.xfersInFlight.any (fun e => e.1 / 128 == die && e.2.forms.any (fun r => mvDkind r == 3 && mvDst r % 256 == n))

/-- The first error stays (R160). -/
def Transfer.setCode (t : Transfer) (c : Nat) : Transfer := if t.code = 0 then { t with code := c } else t
/-- A stop with a code (R160). -/
def Transfer.halt (t : Transfer) (c : Nat) : Transfer := { t.setCode c with stop := true }

/-- Place of a transfer in the launch order of its tile: how long ago its identifier was given out. -/
def Tile.age (x : Tile) (id : Nat) : Nat := (x.xctr.toNat + 65536 - id % 65536) % 65536

end Sys2Proof.Machine
end

