-- ==== Sys2Proof/Machine/Slice.lean ====
section
/-! DEFINITION. Slice management: ALLOC and FREE (R140, R141, R405, R406), circular buffers (R142 to R147) and window definitions
(R146). -/

namespace Sys2Proof.Machine

/-! ## ALLOC and FREE -/

/-- Whether a granule lies inside a valid buffer or window of the tile, second range included (R140). -/
def Tile.inUse (t : Tile) (i : Nat) : Bool :=
  t.cb.any (fun e => e.2.valid && decide (e.2.base < (i + 1) * 256) && decide (i * 256 < e.2.base + e.2.pages * 2 ^ e.2.plog)) ||
  t.win.any (fun e => e.2.valid && decide (e.2.base < (i + 1) * 256) && decide (i * 256 < e.2.base + 2 * e.2.size))

/-- Granules of a body. -/
def bodyOf (f n : Nat) : List Nat := (List.range n).map (fun i => f + i)

/-- The size and place checks that ALLOC and FREE share: a status, or the first granule and the count (R140). -/
def allocRange (ga gb : Nat) : Nat ⊕ (Nat × Nat) :=
  if gb = 0 ∨ 25165312 < gb then .inl 1
  else
    let f := aOff ga / 256
    let n := (gb + 255) / 256
    if ga % 256 ≠ 0 ∨ f = 0 ∨ 98303 < f + n then .inl 2 else .inr (f, n)

/-- Status that ALLOC returns before it changes anything; 0 when it succeeds (R140). -/
def State.allocStatus (s : State) (gt f n : Nat) : Nat :=
  if (bodyOf f n).any (fun i => (s.gran gt i).state != 0 || (s.gran gt i).crust) then 3
  else if (s.gran gt (f - 1)).state ≠ 0 ∨ (s.gran gt (f + n)).state ≠ 0 then 4 else 0

/-- ALLOC of n granules from f (R140). -/
def State.doAlloc (s : State) (gt f n : Nat) : State :=
  let s1 := (bodyOf f n).foldl (fun x i => x.setGran gt i { state := 1 }) s
  (s1.setGran gt (f - 1) { state := 0, crust := true }).setGran gt (f + n) { state := 0, crust := true }

/-- Status that FREE returns: the first body granule that is wrong decides (R140). -/
def State.freeStatus (s : State) (gt f n : Nat) : Nat :=
  if !(s.gran gt (f - 1)).crust || !(s.gran gt (f + n)).crust then 3
  else match (bodyOf f n).find? (fun i => (s.gran gt i).state == 0 || (s.gran gt i).state == 3 || (s.tile gt).inUse i) with
    | some i => if (s.gran gt i).state = 0 then 4 else if (s.gran gt i).state = 3 then 5 else 6
    | none => 0

/-- FREE of n granules from f (R140). -/
def State.doFree (s : State) (gt f n : Nat) : State :=
  let s1 := (bodyOf f n).foldl (fun x i => x.setGran gt i {}) s
  let lo := f - 1
  let s2 := if f < 2 ∨ (s1.gran gt (f - 2)).state = 0 then s1.setGran gt lo {} else s1
  if (s2.gran gt (f + n + 1)).state = 0 then s2.setGran gt (f + n) {} else s2

/-- Result of an ALLOC or FREE: a status with the new state, or a violation of R405 with its cause. -/
inductive AllocRes where
  | status (n : Nat) (s : State)
  | freeze (cause : Nat)
  deriving DecidableEq, Repr

/-- ALLOC or FREE for a VI at a slice, after the address checks (R140, R141). -/
def State.allocFree (s : State) (v gt vdie : Nat) (isFree : Bool) (ga gb : Nat) : AllocRes :=
  match allocRange ga gb with
  | .inl e => .status e s
  | .inr (f, n) =>
    if (bodyOf f n).any (fun i => !(s.vi v).covers vdie i) then .freeze 1
    else if isFree then
      match s.freeStatus gt f n with
      | 0 => .status 0 ((s.doFree gt f n).modVi v (fun x => { x with granules := x.granules - n }))
      | e => .status e s
    else match s.allocStatus gt f n with
      | 0 => if (s.vi v).quotaGran < (s.vi v).granules + n then .freeze 2
             else .status 0 ((s.doAlloc gt f n).modVi v (fun x => { x with granules := x.granules + n }))
      | e => .status e s

/-- ALLOC and FREE by the issuing task (R140, R141, R385). -/
def allocAct (isFree : Bool) (b a d : BitVec 5) (s : State) : Act :=
  notInDomain s (checkRegs s [a, b] (releaseWait s (
    let ga := (s.cur.rdG a).v.toNat
    let gb := (s.cur.rdG b).v.toNat
    let put (s' : State) (n : Nat) : Act := .next { s' with cur := (s'.cur.noteReads [a, b]).wrG d ⟨dw n, false, true⟩ }
    match s.check1 s.cur.who (s.taskGt s.cur) rRD ga with
    | .ok (.sram gt _) =>
      match s.allocFree s.cur.vi gt (aVdie ga) isFree ga gb with
      | .status n s' => put s' n
      | .freeze c => .freeze s c
    | .ok _ => faultAt s 0x04 ga
    | .trap c => chkAct s ga (.trap c : Chk Unit) (fun _ => faultAt s 0x04 ga)
    | .park p => .park s p
    | .freeze _ =>
      -- the address names no granule of the VI's windows; a size or place status still comes first
      match allocRange ga gb with
      | .inl e => put s e
      | .inr _ => .freeze s 1)))

/-- ALLOC (R140). -/
def execAlloc (b a d : BitVec 5) (q : BitVec 4) (s : State) : Host.Outcome State Fault Refusal :=
  run (.alloc b a d q) q s (allocAct false b a d)

/-- FREE (R140). -/
def execFree (b a d : BitVec 5) (q : BitVec 4) (s : State) : Host.Outcome State Fault Refusal :=
  run (.free b a d q) q s (allocAct true b a d)

/-! ## Buffer counters (R142, R143) -/

/-- Slot of a page number, and its slice offset (R142). -/
def CBuf.slot (b : CBuf) (k : Nat) : Nat := k % b.pages
def CBuf.pageOff (b : CBuf) (k : Nat) : Nat := b.base + b.slot k * 2 ^ b.plog
/-- Free and filled pages (R142). -/
def CBuf.freePages (b : CBuf) : Nat := b.pages - (b.resv - b.popped)
def CBuf.filled (b : CBuf) : Nat := b.pushed - b.taken

/-- PUSHED advances over done pages that start at PUSHED, clearing their done bits (R143 item 2). -/
def CBuf.publish : Nat → CBuf → CBuf
  | 0, b => b
  | fuel + 1, b =>
    if b.pushed < b.resv ∧ b.done.contains (b.slot b.pushed) = true then
      CBuf.publish fuel { b with done := sdel b.done (b.slot b.pushed), pushed := b.pushed + 1 }
    else b

/-- POPPED advances over done pages that start at POPPED (R143 item 4). -/
def CBuf.retire : Nat → CBuf → CBuf
  | 0, b => b
  | fuel + 1, b =>
    if b.popped < b.taken ∧ b.done.contains (b.slot b.popped) = true then
      CBuf.retire fuel { b with done := sdel b.done (b.slot b.popped), popped := b.popped + 1 }
    else b

/-- RESV steps back to a discarded reservation once every later page has been discarded or completed (R145). Pages publish in ring order, and
none may stand past RESV, so the later completed ones go back with it (log entry 27). -/
def CBuf.settleR (b : CBuf) : CBuf :=
  let open_ := (List.range (b.resv - b.pushed)).map (fun i => b.pushed + i)
  match open_.find? (fun k => b.undoR.contains k && open_.all (fun j => decide (j < k) || b.undoR.contains j || b.done.contains (b.slot j))) with
  | some k =>
    let gone := open_.filter (fun j => decide (k ≤ j))
    { b with resv := k, undoR := b.undoR.filter (fun j => !gone.contains j), done := gone.foldl (fun l j => sdel l (b.slot j)) b.done }
  | none => b

/-- TAKEN steps back over discarded acquisitions once every later one has been discarded or released (R387 step 5). -/
def CBuf.settleA (b : CBuf) : CBuf :=
  let open_ := (List.range (b.taken - b.popped)).map (fun i => b.popped + i)
  match open_.find? (fun k => b.undoA.contains k && open_.all (fun j => decide (j < k) || b.undoA.contains j || b.done.contains (b.slot j))) with
  | some k =>
    let gone := open_.filter (fun j => decide (k ≤ j))
    { b with taken := k, undoA := b.undoA.filter (fun j => !gone.contains j), done := gone.foldl (fun l j => sdel l (b.slot j)) b.done }
  | none => b

/-- Note pages of a kind for a task's open level. -/
def CBuf.note (b : CBuf) (key depth kind : Nat) (ks : List Nat) : CBuf :=
  if depth = 0 then b else { b with dom := b.dom ++ ks.map (fun k => (key, depth, kind, k)) }

/-- Mark produced pages done (R143, R145): with a domain open and PROT set, the pages wait for its close. -/
def CBuf.completeP (b : CBuf) (key depth : Nat) (ks : List Nat) : CBuf :=
  let b1 := { b with scal := ks.foldl (fun l k => sdel l (b.slot k)) b.scal }
  if depth ≠ 0 ∧ b.prot = true then b1.note key depth 1 ks
  else (CBuf.publish b.pages { b1 with done := ks.foldl (fun l k => sadd l (b.slot k)) b1.done }).settleR

/-- Mark consumed pages done (R143); inside a domain the release is held (R385). -/
def CBuf.completeC (b : CBuf) (key depth : Nat) (ks : List Nat) : CBuf :=
  if depth ≠ 0 then b.note key depth 3 ks
  else
    let b1 := { b with scal := ks.foldl (fun l k => sdel l (b.slot k)) b.scal }
    (CBuf.retire b.pages { b1 with done := ks.foldl (fun l k => sadd l (b.slot k)) b1.done }).settleA

/-- Pages whose release a domain holds. -/
def CBuf.heldReleases (b : CBuf) : List Nat := (b.dom.filter (fun e => e.2.2.1 == 3)).map (fun e => e.2.2.2)

/-- The pages of a task's domain are published and its held releases performed (R388). -/
def CBuf.commit (b : CBuf) (key : Nat) : CBuf :=
  let mine (kind : Nat) : List Nat := (b.dom.filter (fun e => e.1 == key && e.2.2.1 == kind)).map (fun e => e.2.2.2)
  let b1 := { b with dom := b.dom.filter (fun e => e.1 != key), holds := b.holds.filter (fun h => !(h.1 == key && (mine 3).contains h.2.2.2.1)) }
  (b1.completeP key 0 (mine 1)).completeC key 0 (mine 3)

/-- The pages of an inner level belong to the level around it once it closes. -/
def CBuf.relevel (b : CBuf) (key depth : Nat) : CBuf :=
  { b with dom := b.dom.map (fun e => if e.1 = key ∧ e.2.1 = depth then (e.1, depth - 1, e.2.2) else e) }

/-- Discard what a task did to a buffer since a level opened (R387 step 5). -/
def CBuf.discard (b : CBuf) (key level : Nat) : CBuf :=
  let mine := b.dom.filter (fun e => e.1 == key && decide (level ≤ e.2.1))
  let pages (p : Nat → Bool) : List Nat := (mine.filter (fun e => p e.2.2.1)).map (fun e => e.2.2.2)
  let r := pages (fun k => k == 0 || k == 1)
  let a := pages (fun k => k == 2)
  (({ b with
      dom := b.dom.filter (fun e => !mine.contains e)
      holds := b.holds.filter (fun h => !(h.1 == key && a.contains h.2.2.2.1))
      undoR := r.foldl sadd b.undoR
      undoA := a.foldl sadd b.undoA
      scal := (r ++ a).foldl (fun l k => sdel l (b.slot k)) b.scal } : CBuf).settleR).settleA

/-- Reserve or acquire n pages when the counters allow it and no earlier request waits (R143): the first page number. -/
def CBuf.grant (b : CBuf) (who : Asker) (side n : Nat) (scalar : Bool) : Option (CBuf × Nat) :=
  let q := if side = 0 then b.resQ else b.acqQ
  let first := match q.head? with | none => true | some e => e.1 == who
  let room := if side = 0 then b.freePages else b.filled
  if first && decide (n ≤ room) then
    let k := if side = 0 then b.resv else b.taken
    let sc := if scalar then (List.range n).foldl (fun l i => sadd l (b.slot (k + i))) b.scal else b.scal
    let b1 := if side = 0 then { b with resv := b.resv + n, resQ := b.resQ.filter (fun e => e.1 ≠ who), scal := sc }
      else { b with taken := b.taken + n, acqQ := b.acqQ.filter (fun e => e.1 ≠ who), scal := sc }
    some (b1, k)
  else none

/-- A task, or an engine or mover for it, has reserved (side 0) or acquired (1) on the buffer since CBINIT (R147). -/
def CBuf.used (b : CBuf) (key side : Nat) : CBuf :=
  if side = 0 then { b with reservers := sadd b.reservers key } else { b with acquirers := sadd b.acquirers key }

/-- Join the queue of a side (R143), once. -/
def CBuf.enqueue (b : CBuf) (who : Asker) (side n : Nat) : CBuf :=
  if side = 0 then (if b.resQ.any (fun e => e.1 == who) then b else { b with resQ := b.resQ ++ [(who, n)] })
  else (if b.acqQ.any (fun e => e.1 == who) then b else { b with acqQ := b.acqQ ++ [(who, n)] })

/-- Leave both queues. -/
def CBuf.dequeue (b : CBuf) (who : Asker) : CBuf :=
  { b with resQ := b.resQ.filter (fun e => e.1 ≠ who), acqQ := b.acqQ.filter (fun e => e.1 ≠ who) }

/-- Pages of a side that carry the scalar bit and are not done, oldest first (R147). -/
def CBuf.scalarPages (b : CBuf) (side : Nat) : List Nat :=
  let lo := if side = 0 then b.pushed else b.popped
  let n := if side = 0 then b.resv - b.pushed else b.taken - b.popped
  ((List.range n).map (fun i => lo + i)).filter (fun k => b.scal.contains (b.slot k) && !(side == 1 && b.heldReleases.contains k))

/-! ## Mailboxes (R336, R338, R341) -/

def Mailbox.valid (b : Mailbox) : Bool := bit b.dw0 63
def Mailbox.owner (b : Mailbox) : Nat := bits b.dw0 57 6
def Mailbox.hmode (b : Mailbox) : Bool := bit b.dw0 56
def Mailbox.hprio (b : Mailbox) : Nat := bits b.dw0 54 2
def Mailbox.buf (b : Mailbox) : Nat := bits b.dw0 32 5
def State.mail (s : State) (gt m : Nat) : Mailbox := tget {} (s.tile gt).mbox m
def State.modMail (s : State) (gt m : Nat) (f : Mailbox → Mailbox) : State := s.modTile gt (fun t => { t with mbox := tmod {} t.mbox m f })

/-- Whether a counter has passed a page number. -/
def pagePast (c k : Nat) : Bool := decide (k < c)

/-- Whether a mailbox is usable (R336). -/
def State.mailUsable (s : State) (gt : Nat) (b : Mailbox) : Bool :=
  let c := s.cb gt b.buf
  let ctr := bits b.dw1 0 56
  b.valid && c.valid && c.owner == b.owner && c.plog == 8 && !c.prot && c.sub.isNone &&
  (ctr == 0 || (aRegion ctr == 0 && match s.sramPlace b.owner ctr with
    | .ok (g, off) => g == gt && (s.gran g (off / 256)).state == 2 && ((s.tile g).winAt off).isNone && !(s.tile g).inSecond off
    | _ => false))

/-- Pages whose publication a mailbox has not counted yet are counted (R338 step 4), and popped ones are forgotten. -/
def State.settleMail (s : State) (gt m : Nat) : State :=
  let b := s.mail gt m
  let c := s.cb gt b.buf
  let out (p : Post) : Bool := pagePast c.pushed p.page
  let n := b.posts.countP (fun p => out p && !p.counted)
  let s1 := s.modMail gt m (fun b => { b with posts :=
    (b.posts.map (fun p => { p with counted := p.counted || out p })).filter (fun p => !(p.counted && pagePast c.popped p.page && b.handler != some p.page)) })
  if b.hmode || bits b.dw1 0 56 == 0 then s1
  else (List.range n).foldl (fun x _ => (x.bump b.owner (bits b.dw1 0 56) 0).1) s1

/-- A handler's end (R341): its page is marked done, the counter counts, and the next handler may start. -/
def State.endHandler (s : State) (gt m key : Nat) : State :=
  let b := s.mail gt m
  let s1 := match b.handler with
    | some k => s.modCb gt b.buf (fun c => c.completeC key 0 [k])
    | none => s
  let s2 := if bits b.dw1 0 56 = 0 then s1 else (s1.bump b.owner (bits b.dw1 0 56) 0).1
  s2.modMail gt m (fun b => { b with handler := none, posts := b.posts.filter (fun p => some p.page ≠ b.handler) })

/-- A buffer or window of another VI: the fault is also entered in the event log (R146, R147, R408 KIND 5). -/
def State.foreign (s : State) (code n : Nat) : State :=
  s.logEvent s.cur.vi 5 s.cur.wp.toNat (dw (code * 256 + n))

/-- The checks of a handle by CBACQ and CBREL (R147): VALID, then ownership. -/
def checkHandle (s : State) (h : Nat) (k : CBuf → Act) : Act :=
  let b := s.cb (s.taskGt s.cur) h
  if !b.valid then .trap s { code := 0x09, info := dw h }
  else if b.owner ≠ s.cur.vi then .trap (s.foreign 0x09 h) { code := 0x09, info := dw h }
  else k b

/-- CBACQ (R147): the grant, at once or after a wait in the side's queue; it is an acquire (R363). -/
def cbacq (side : Nat) (n : BitVec 3) (h r : BitVec 5) (s : State) : Act :=
  let gt := s.taskGt s.cur
  let key := s.cur.key
  checkHandle s h.toNat (fun b =>
    let n := pagesOf n
    if side = 0 ∧ s.cur.depth ≠ 0 ∧ b.prot = false then illegalOperand s
    else if b.pages < n then illegalOperand s
    else releaseWait s (
      let give (b' : CBuf) (k : Nat) : Act :=
        let others := if side = 0 then b'.reservers.any (· ≠ key) else b'.acquirers.any (· ≠ key)
        let b2 := (b'.used key side).note key s.cur.depth (if side = 0 then 0 else 2) ((List.range n).map (fun i => k + i))
        let s1 := s.modCb gt h.toNat (fun _ => b2)
        .next { s1 with cur := s1.cur.wrG r ⟨dw (flat s.cur.vdie (gt % 128) (b.pageOff k)), false, others⟩ }
      match b.granted.find? (fun e => e.1 == key && e.2.1 == side) with
      | some e => give { b with granted := b.granted.filter (fun x => x ≠ e) } e.2.2
      | none =>
        match b.grant (.task key) side n true with
        | some (b', k) => give b' k
        | none =>
          if s.cur.hnd then .park s (.pages h.toNat side n)
          else .park (s.modCb gt h.toNat (fun x => x.enqueue (.task key) side n)) (.pages h.toNat side n)))

/-- CBACQ.P (R147). -/
def execCbacqP (n : BitVec 3) (h r : BitVec 5) (q : BitVec 4) (s : State) : Host.Outcome State Fault Refusal :=
  run (.cbacqP n h r q) q s (cbacq 0 n h r)
/-- CBACQ.C (R147). -/
def execCbacqC (n : BitVec 3) (h r : BitVec 5) (q : BitVec 4) (s : State) : Host.Outcome State Fault Refusal :=
  run (.cbacqC n h r q) q s (cbacq 1 n h r)

/-- CBREL (R147): the n oldest scalar pages of the side become done. It is a release, which waits for the task's earlier engine accesses (R226, R356) and stores,
and it never parks: its slot issues it again (log entry 24). -/
def cbrel (side : Nat) (n : BitVec 3) (h : BitVec 5) (s : State) : Act :=
  let gt := s.taskGt s.cur
  checkHandle s h.toNat (fun b =>
    let n := pagesOf n
    if side = 0 ∧ s.cur.depth ≠ 0 ∧ b.prot = false then illegalOperand s
    else if b.pages < n then illegalOperand s
    else
      let ks := (b.scalarPages side).take n
      if ks.length < n then illegalOperand s
      else if (s.cmdsOf s.cur).any (fun c => c.touchesMem s) || s.storesOf s.cur.key != [] then .retry s
      else .next (s.modCb gt h.toNat (fun b => if side = 0 then b.completeP s.cur.key s.cur.depth ks else b.completeC s.cur.key s.cur.depth ks)))

/-- CBREL.P (R147). -/
def execCbrelP (n : BitVec 3) (h : BitVec 5) (q : BitVec 4) (s : State) : Host.Outcome State Fault Refusal :=
  run (.cbrelP n h q) q s (cbrel 0 n h)
/-- CBREL.C (R147). -/
def execCbrelC (n : BitVec 3) (h : BitVec 5) (q : BitVec 4) (s : State) : Host.Outcome State Fault Refusal :=
  run (.cbrelC n h q) q s (cbrel 1 n h)

/-- The item that CBQRY selects (R147). -/
def cbItem (b : CBuf) (vdie tile k : Nat) : DWord :=
  match k with
  | 0 => dw b.freePages
  | 1 => dw b.filled
  | 2 => dw (b.resv % 2 ^ 32)
  | 3 => dw (b.pushed % 2 ^ 32)
  | 4 => dw (b.taken % 2 ^ 32)
  | 5 => dw (b.popped % 2 ^ 32)
  | 6 => dw (2 ^ 63 + b.plog * 512 + b.pages)
  | _ => dw (flat vdie tile b.base)

/-- CBQRY (R147): an invalid handle reads 0. -/
def execCbqry (k : BitVec 3) (h r : BitVec 5) (q : BitVec 4) (s : State) : Host.Outcome State Fault Refusal :=
  run (.cbqry k h r q) q s (fun s =>
    let b := s.cb (s.taskGt s.cur) h.toNat
    if b.valid && b.owner != s.cur.vi then .trap (s.foreign 0x09 h.toNat) { code := 0x09, info := dw h.toNat }
    else .next { s with cur := s.cur.wrG r ⟨if b.valid then cbItem b s.cur.vdie (s.taskGt s.cur % 128) k.toNat else 0, false, true⟩ })

/-- CB_GRANT (R143, R147, R340): the request at the head of a side's queue is granted to the task or the held message that waits for it. -/
def execCbGrant (s : State) : Host.Outcome State Fault Refusal :=
  let b := s.cb s.ev.gt s.ev.id
  let side := s.ev.kind
  match (if side = 0 then b.resQ else b.acqQ).head? with
  | some (.task key, n) =>
    match b.grant (.task key) side n true with
    | some (b', k) =>
      .next ((s.modCb s.ev.gt s.ev.id (fun _ => { b' with granted := b'.granted ++ [(key, side, k)] })).wake
        (fun t p => t.key == key && match p with | .pages _ _ _ => true | _ => false))
    | none => noUnit "CB_GRANT"
  | some (.message n, _) =>
    match b.grant (.message n) side 1 false with
    | some (b', k) =>
      .next { s.modCb s.ev.gt s.ev.id (fun _ => b') with msgs := modWhere (fun g => g.id == n) (fun g => { g with page := some k, reply := some 0 }) s.msgs }
    | none => noUnit "CB_GRANT"
  | _ => noUnit "CB_GRANT"

/-! ## CBINIT (R146) -/

/-- Whether a byte range shares a byte with a valid buffer or window of the tile, but for the one being redefined. -/
def Tile.overlaps (t : Tile) (lo n : Nat) (exceptCb exceptWin : Option Nat) : Bool :=
  t.cb.any (fun e => e.2.valid && some e.1 != exceptCb && decide (e.2.base < lo + n) && decide (lo < e.2.base + e.2.pages * 2 ^ e.2.plog)) ||
  t.win.any (fun e => e.2.valid && some e.1 != exceptWin && decide (e.2.base < lo + n) && decide (lo < e.2.base + 2 * e.2.size))

/-- Whether every granule of a byte range is unwritten or written. -/
def State.rangeReady (s : State) (gt lo n : Nat) : Bool :=
  (List.range ((lo % 256 + n + 255) / 256)).all (fun i => let g := (s.gran gt (lo / 256 + i)).state; g == 1 || g == 2)

/-- Tasks parked on a buffer are readied (R146 step 5). -/
def State.wakeBuffer (s : State) (gt h : Nat) : State :=
  s.wake (fun t p => s.taskGt t == gt && match p with | .pages h' _ _ => h' == h | _ => false)

/-- CBINIT of a circular buffer from its two doublewords (R146); `busy` says that commands, holds or deliveries still use it. -/
def cbinitBuffer (d0 d1 : DWord) (aligned busy : Bool) (s : State) : Act :=
  let gt := s.taskGt s.cur
  let h := bits d0 32 5
  let b := s.cb gt h
  let base := bits d0 0 25
  let plog := bits d1 9 5
  let pages := bits d1 0 9
  if !aligned then illegalOperand s
  else if busy then .park s (.redefine 0 h)
  else if bits d0 38 26 ≠ 0 ∨ bits d0 25 7 ≠ 0 ∨ bits d1 14 50 ≠ 0 then illegalOperand s
  else if b.valid && b.owner != s.cur.vi then .trap (s.foreign 0x09 h) { code := 0x09, info := dw h }
  else if pages = 0 then
    if b.sub.isSome then illegalOperand s else .next ((s.modCb gt h (fun _ => {})).wakeBuffer gt h)
  else if plog < 8 ∨ 16 < plog ∨ pages = 1 ∨ 256 < pages ∨ base % 2 ^ plog ≠ 0 ∨ 0x1800000 < base + pages * 2 ^ plog then illegalOperand s
  else if !s.rangeReady gt base (pages * 2 ^ plog) then illegalOperand s
  else if (s.tile gt).overlaps base (pages * 2 ^ plog) (some h) none then illegalOperand s
  else if b.sub.isSome then illegalOperand s
  else .next ((s.modCb gt h (fun _ => { valid := true, owner := s.cur.vi, prot := bit d0 37, base := base, plog := plog, pages := pages })).wakeBuffer gt h)

/-- CBINIT of a window from its two doublewords (R146). -/
def cbinitWindow (d0 d1 : DWord) (aligned busy : Bool) (s : State) : Act :=
  let gt := s.taskGt s.cur
  let w := bits d0 32 4
  let old := s.win gt w
  let base := bits d0 0 25
  let size := bits d1 0 25
  if !aligned then illegalOperand s
  else if busy then .park s (.redefine 1 w)
  else if bits d0 36 28 ≠ 0 ∨ bits d0 25 7 ≠ 0 ∨ bits d1 25 39 ≠ 0 then illegalOperand s
  else if old.valid && old.owner != s.cur.vi then .trap (s.foreign 0x08 w) { code := 0x08, info := 0 }
  else if size = 0 then .next (s.modWin gt w (fun _ => {}))
  else if base % 256 ≠ 0 ∨ size % 256 ≠ 0 ∨ 0x1800000 < base + 2 * size then illegalOperand s
  else if !s.rangeReady gt base (2 * size) then illegalOperand s
  else if (s.tile gt).overlaps base (2 * size) none (some w) then illegalOperand s
  else .next (s.modWin gt w (fun _ => { valid := true, owner := s.cur.vi, base := base, size := size, front := false }))

end Sys2Proof.Machine
end

