-- ==== Sys2Proof/Machine/Tasks.lean ====
section
/-! DEFINITION. Tasks (12_tasks_and_scheduling.md): launch records and placement (R296 to R299), descriptors (R300), dependence
entries (R332, R333), groups and supersteps (R316 to R318, R335, R437), EXIT (R314), slots and the ready queue (R302 to R306), the
distributors (R308, R309) and work queues (R319, R320). -/

namespace Sys2Proof.Machine

/-! ## Group records -/

/-- A group record (R316). -/
structure Grp where
  arrived : Nat
  members : Nat
  step : Nat
  vop : Nat
  vset : Bool
  scope : Nat
  parity : Nat
  vacc : DWord
  vres : DWord
  deriving DecidableEq, Repr

def grpRead (l : List DWord) : Grp :=
  let d0 := nthDw l 0
  let d1 := nthDw l 1
  ⟨bits d0 32 32, bits d0 0 32, bits d1 32 32, bits d1 6 2, bit d1 5, bits d1 1 3, bits d1 0 1, nthDw l 2, nthDw l 3⟩

def Grp.words (g : Grp) : List DWord :=
  [dw (g.arrived % 2 ^ 32 * 2 ^ 32 + g.members % 2 ^ 32),
   dw (g.step % 2 ^ 32 * 2 ^ 32 + g.vop * 64 + (if g.vset then 32 else 0) + g.scope * 2 + g.parity), g.vacc, g.vres]

/-- check() of R316. -/
def Grp.check (g : Grp) : Grp :=
  if 0 < g.members ∧ g.arrived = g.members then
    { g with vres := if g.vset then g.vacc else 0, arrived := 0, vset := false, vop := 0, vacc := 0, parity := 1 - g.parity, step := (g.step + 1) % 2 ^ 32 }
  else g

/-- The checks of R437 on a group record's address; the place is a slice key. -/
def State.grpCheck (s : State) (w : Who) (gt a : Nat) : Chk Nat :=
  if aRegion a ≠ 0 ∨ a % 32 ≠ 0 then .trap 0x0B
  else match s.check w gt rRD a 32 with
  | .trap c => .trap c
  | .park p => .park p
  | .freeze c => .freeze c
  | .ok (.sram g off) =>
    let st := (s.gran g (off / 256)).state
    if st = 0 ∨ st = 1 then .trap 0x04
    else if st = 3 then .park (.granule (sramKey g off))
    else if ((s.tile g).winAt off).isSome || (s.tile g).inSecond off then .trap 0x08
    else .ok (sramKey g off)
  | .ok _ => .trap 0x0B

/-- Doublewords at a physical number, and storing them. -/
def State.getDws (s : State) (k n : Nat) : List DWord := dwordsOf n ((s.fetch k (8 * n)).map (·.1))
def State.putDws (s : State) (k : Nat) (l : List DWord) : State :=
  s.put k (l.flatMap (fun d => toBytes 8 d.toNat)) (List.replicate (8 * l.length) false)
def State.grp (s : State) (k : Nat) : Grp := grpRead (s.getDws k 4)
def State.setGrp (s : State) (k : Nat) (g : Grp) : State := s.putDws k g.words

/-- Leave a group: MEMBERS falls and the phase may complete (R317). -/
def State.leaveGroup (s : State) (k : Nat) : State :=
  let g := s.grp k
  s.setGrp k ({ g with members := g.members - 1 }).check

/-- Whether a tile lies within a scope of another: tile, vdie (one logical die), package (R44). -/
def inScope (e gt gt' : Nat) : Bool := if e = 1 then gt == gt' else if e = 2 then gt / 128 == gt' / 128 else decide (3 ≤ e)

/-! ## Launch records -/

/-- Fields of a launch record (R296). -/
def recCount (r : List DWord) : Nat := bits (nthDw r 1) 0 32 + 1
def recWpoff (r : List DWord) : Nat := bits (nthDw r 3) 40 12
def recWstride (r : List DWord) : Nat := bits (nthDw r 3) 36 4
def recFrames (r : List DWord) : Nat := bits (nthDw r 3) 32 4 + 1
def recPlace (r : List DWord) : Nat := bits (nthDw r 3) 16 2
def recSup (r : List DWord) : Bool := bit (nthDw r 3) 4
def recBsp (r : List DWord) : Bool := bit (nthDw r 3) 2
def recR (r : List DWord) : Bool := bit (nthDw r 3) 1
def recD (r : List DWord) : Bool := bit (nthDw r 3) 0
def recDep (r : List DWord) : Nat := bits (nthDw r 5) 32 32
def recGrec (r : List DWord) : Nat := bits (nthDw r 6) 0 56
def recCompl (r : List DWord) : Nat := (nthDw r 7).toNat

/-- SR.MODE[15:11] from flags (R189). -/
def modeOf (sup det red bsp hnd : Bool) : DWord :=
  dw ((if sup then 2 ^ 15 else 0) + (if det then 2 ^ 14 else 0) + (if red then 2 ^ 13 else 0) + (if bsp then 2 ^ 12 else 0) + (if hnd then 2 ^ 11 else 0))

/-- The tile set of a launch in position order, as (vdie, tile) (R297). -/
def tileSet (r : List DWord) : List (Nat × Nat) :=
  let d5 := nthDw r 5
  let x0 := bits d5 0 4
  let x1 := bits d5 4 4
  let y0 := bits d5 8 3
  let y1 := bits d5 11 3
  ((List.range 64).filter (fun v => bit (nthDw r 4) v)).flatMap (fun v =>
    (List.range (y1 + 1 - y0)).flatMap (fun y => (List.range (x1 + 1 - x0)).map (fun x => (v, (y0 + y) * 16 + x0 + x))))

/-- Position of task i under hashed and direct placement (R297). -/
def placeOf (r : List DWord) (size i : Nat) : Nat :=
  if recPlace r = 1 then kcgNat (nthDw r 2).toNat i % size else i % size

/-- Global tile of a (vdie, tile) of a VI. -/
def State.gtAt (s : State) (v : Nat) (p : Nat × Nat) : Option Nat := ((s.vi v).ldie p.1).map (fun d => d * 128 + p.2)

/-- WP of frame f on a tile (R298). -/
def frameWp (r : List DWord) (vdie tile f : Nat) : Nat := flat vdie tile ((recWpoff r + f * recWstride r) * 8192)

/-- The checks of R312 that the record alone and the VI decide: the cause code of the first that fails. -/
def recCheck (s : State) (v : Nat) (sup : Bool) (r : List DWord) : Option Nat :=
  let d3 := nthDw r 3
  let d5 := nthDw r 5
  let reserved := bits (nthDw r 0) 56 8 ≠ 0 ∨ bits (nthDw r 1) 32 32 ≠ 0 ∨ bits d3 52 12 ≠ 0 ∨ bits d3 18 6 ≠ 0 ∨ bits d3 14 2 ≠ 0 ∨
    bits d3 5 7 ≠ 0 ∨ bit d3 3 = true ∨ bits d5 14 18 ≠ 0 ∨ bits (nthDw r 6) 56 8 ≠ 0
  if reserved ∨ bit (nthDw r 0) 0 = true ∨ recPlace r = 3 ∨ recWstride r = 0 then some 0x0B
  else if recSup r && !sup then some 0x02
  else if (nthDw r 4 = 0 ∨ (List.range 64).any (fun x => bit (nthDw r 4) x && ((s.vi v).ldie x).isNone) ∨
    bits d5 4 4 < bits d5 0 4 ∨ bits d5 11 3 < bits d5 8 3) then some 0x0B
  else if 0x1800000 < (recWpoff r + (recFrames r - 1) * recWstride r + 1 + (if recR r then 1 else 0)) * 8192 then some 0x0B
  else if recR r && (recWstride r % 2 == 1 || recWpoff r % 2 == 1) then some 0x0B
  else if recD r && (recPlace r == 0 || recSup r) then some 0x0B
  else
    let size := (tileSet r).length
    let crowded := match recPlace r with
      | 0 => decide (size * recFrames r < recCount r)
      | 2 => decide (size * recFrames r < recCount r)
      | _ => decide (size * recFrames r < recCount r) ||
        (List.range size).any (fun p => decide (recFrames r < (List.range (recCount r)).countP (fun i => placeOf r size i == p)))
    if recBsp r && (recGrec r == 0 || recGrec r % 32 != 0 || crowded) then some 0x0B
    else if recGrec r % 32 ≠ 0 ∨ recCompl r % 8 ≠ 0 then some 0x0B
    else none

/-- The next launch identifier of a VI that no launch in the table holds (R312). -/
def nextIdAux (ls : List Launch) : Nat → Nat → Nat
  | 0, n => n
  | fuel + 1, n => if n = 0 ∨ 2 ^ 32 ≤ n then nextIdAux ls fuel 1 else if ls.any (fun l => l.id == n) then nextIdAux ls fuel (n + 1) else n
def Vi.freshId (x : Vi) : Nat := nextIdAux x.launches (x.launches.length + 2) x.nextLaunch

/-- Enter a checked record in the launch table (R301, R312): the identifier, and the state. -/
def State.enterLaunch (s : State) (v addr : Nat) (r : List DWord) : State × Nat :=
  let id := (s.vi v).freshId
  let s1 := if recBsp r then
      match s.grpCheck ⟨v, true, 0⟩ 0 (recGrec r) with
      | .ok k =>
        let one := (List.range 64).countP (fun x => bit (nthDw r 4) x) = 1 ∧ bit (nthDw r 4) (aVdie (recGrec r)) = true
        s.setGrp k { s.grp k with members := recCount r % 2 ^ 32, arrived := 0, vset := false, vop := 0, vacc := 0, scope := if one then 2 else 3 }
      | _ => s
    else s
  (s1.modVi v (fun x => { x with
    launches := x.launches ++ [{ id := id, record := r, addr := addr, dep := recDep r }]
    nextLaunch := if id + 1 = 2 ^ 32 then 1 else id + 1 }), id)

/-- Change a launch of a VI; finished ones leave the table. -/
def State.modLaunch (s : State) (v id : Nat) (f : Launch → Launch) : State :=
  s.modVi v (fun x => { x with launches := modWhere (fun l => l.id == id) f x.launches })

/-- n tasks of a launch have exited or ended: the last one updates COMPL and frees the table entry (R314, R396). -/
def State.launchEnds (s : State) (v id n : Nat) : State :=
  match (s.vi v).launches.find? (fun l => l.id == id) with
  | none => s
  | some l =>
    if l.ended + n < recCount l.record then s.modLaunch v id (fun l => { l with ended := l.ended + n })
    else
      let s1 := s.modVi v (fun x => { x with launches := x.launches.filter (fun l => l.id ≠ id) })
      let c := recCompl l.record
      if c = 0 then s1
      else s1.bumpLaunch v c id

/-! ## The end of a task -/

/-- Pages of a hold generation are released (R253). -/
def State.endHolds (s : State) (gt key : Nat) (op : Option Nat) : State :=
  s.modTile gt (fun t => { t with cb := t.cb.map (fun e =>
    let b := e.2
    let mine := b.holds.filter (fun h => h.1 == key && (match op with | none => true | some o => h.2.1 == o))
    if mine.isEmpty then e
    else
      let ks := mine.flatMap (fun h => (List.range h.2.2.2.2).map (fun i => h.2.2.2.1 + i))
      (e.1, ({ b with holds := b.holds.filter (fun h => !mine.contains h) }).completeC key 0 ks)) })

/-- An ended task leaves its group: at once, once the record is no longer busy, or not at all where R437 refuses the record, since no task is left to
take that fault (log entry 84). -/
def State.leaveOf (s : State) (v gt a : Nat) : State :=
  match s.grpCheck ⟨v, false, 0⟩ gt a with
  | .ok k => s.leaveGroup k
  | .park _ => { s with owedLeaves := s.owedLeaves ++ [(v, gt, a)] }
  | _ => s

/-- Leaves that have waited are tried again, oldest first. -/
def State.settleLeaves (s : State) : State :=
  if s.owedLeaves = [] then s else s.owedLeaves.foldl (fun x e => x.leaveOf e.1 e.2.1 e.2.2) { s with owedLeaves := [] }

/-- The task ends (R314): group left, hold generations ended, claims and reservation released, lines dropped, slot and workspace freed.
A handler's end lets its mailbox (R341) or the next trapped task (R374) go on. -/
def State.endTask (s : State) (k : Nat) : State :=
  match s.task? k with
  | none => s
  | some t =>
    let gt := s.taskGt t
    let s0 := if t.inCache then s.writeLines k [] else s
    let s1 := if t.hw.group = 0 then s0 else s0.leaveOf t.vi gt t.hw.group.toNat
    let s2 := (s1.endHolds gt k none).modTile gt (fun x => { x with
      cb := x.cb.map (fun e => (e.1, e.2.dequeue (.task k))) })
    let s3 := ({ s2.dropTask k with resv := (s2.resv.map (fun r => { r with waiters := r.waiters.filter (· ≠ k) })).filter (fun r => r.holder.isSome || !r.waiters.isEmpty) } : State).releaseOf k
    match t.kind with
    | .launched => s3.launchEnds t.vi (bits t.hw.launch 0 32) 1
    | .spawned => s3
    | .handler m => s3.endHandler gt m k
    | .trapHandler _ => s3.startTrapHandler t.vi gt

/-- EXIT (R314). -/
def execExit (q : BitVec 4) (s : State) : Host.Outcome State Fault Refusal :=
  run (.exit q) q s (fun s =>
    let s0 := s.modCur (fun t => t.modSch (fun x => { x with exiting := true }))
    if s.cmdsOf s.cur ≠ [] then .park s0 (.commands 3)
    else if s.storesOf s.cur.key ≠ [] then .park s0 (.stores 0)
    else syncCheck s (notInDomain s (
      if bit s.cur.hw.rsv 63 then illegalOperand s
      else if s.cur.hw.group = 0 then .left (s.endTask s.cur.key)
      else chkAct s0 s.cur.hw.group.toNat (s.grpCheck s.cur.who (s.taskGt s.cur) s.cur.hw.group.toNat) (fun _ => .left (s.endTask s.cur.key)))))

/-- YIELD (R315): the tail of its own level, and no other effect. -/
def execYield (q : BitVec 4) (s : State) : Host.Outcome State Fault Refusal :=
  run (.yield q) q s (fun s =>
    if s.cur.hnd then fault s 0x0F
    else .left ({ s.advance 4 with cur := { (s.advance 4).cur with snaps := [] } }.ready s.cur.key))

/-- Interposer column and row of the socket bound to a logical die (R315) by the die map (R17). -/
def State.socketOf (s : State) (d : Nat) : Nat := (s.dieEntry d).toNat % 64

/-- Distance of two numbers. -/
def absDiff (a b : Nat) : Nat := if a ≤ b then b - a else a - b

/-- QDIST (R315). -/
def execQdist (a d : BitVec 5) (q : BitVec 4) (s : State) : Host.Outcome State Fault Refusal :=
  run (.qdist a d q) q s (fun s =>
    let x := s.cur.rdG a
    if bits x.v 6 2 ≠ 0 ∨ bits x.v 14 50 ≠ 0 then illegalOperand s
    else
      let v := s.vi s.cur.vi
      let r : DWord := match v.ldie (bits x.v 0 6), v.ldie (bits x.v 8 6) with
        | some i, some j =>
          let m := s.socketOf i
          let n := s.socketOf j
          dw (absDiff (m % 6) (n % 6) + absDiff (m / 6) (n / 6))
        | _, _ => BitVec.allOnes 64
      .next { s with cur := (s.cur.noteReads [a]).wrG d ⟨r, x.p, true⟩ })

/-! ## Launching and spawning -/

/-- LAUNCH (R312). -/
def execLaunch (a d : BitVec 5) (q : BitVec 4) (s : State) : Host.Outcome State Fault Refusal :=
  run (.launch a d q) q s (fun s => notInDomain s (checkRegs s [a] (
    let ga := (s.cur.rdG a).v.toNat
    let v := s.cur.vi
    if ga % 64 ≠ 0 ∨ (aRegion ga ≠ 0 ∧ aRegion ga ≠ 1) then illegalOperand s
    else releaseWait s (withDws s ga 8 (fun s r =>
      match recCheck s v s.cur.sup r with
      | some c => fault s c
      | none =>
        let x := s.vi v
        if x.stop || (recPlace r == 0 && (x.assist / 8) % 2 == 1) then illegalOperand s
        else
          let go : Act :=
            if s.nameTaken v ga then .park s (.recordName ga)
            else if 256 ≤ x.launches.length then .park s .launchTable
            else if x.quotaLaunch ≤ x.launches.length then .freeze s 2
            else
              let e := s.enterLaunch v ga r
              .next { e.1 with cur := (e.1.cur.noteReads [a]).wrG d ⟨dw e.2, false, true⟩ }
          if recBsp r then chkAct s (recGrec r) (s.grpCheck s.cur.who (s.taskGt s.cur) (recGrec r)) (fun _ => go)
          else go)))))

/-- A task descriptor's fields (R300) as a task at instantiation (R299). -/
def spawnTask (v : Nat) (d : List DWord) (seed : DWord) : Task :=
  let d2 := nthDw d 2
  let f := bits d2 32 4
  newTask v (bits (nthDw d 1) 0 56) (bits (nthDw d 0) 0 56) (dw (bits (nthDw d 3) 0 32)) (nthDw d 5) (nthDw d 6) (nthDw d 7)
    (modeOf (bit d2 38) (f % 2 == 1) ((f / 2) % 2 == 1) ((f / 4) % 2 == 1) false)
    { launch := dw (bits (nthDw d 3) 32 32), seed := seed, tindex := dw (bits (nthDw d 3) 0 32), claim := dw (bits d2 36 2 * 2 ^ 16 + bits d2 40 8) } .spawned

/-- The join a task makes at its instantiation with scope code 3 (R316, R437): a failure starts the task trapped at ENTRY, and a busy record parks it
before its first instruction. -/
def State.joinNow (s : State) (t : Task) (group : Nat) : State :=
  let bad (c : Nat) : State := s.takeTrap t.key { code := c, addr := dw group } t.pc.toNat 0
  match s.grpCheck t.who (s.taskGt t) group with
  | .ok k =>
    let g := s.grp k
    if g.members = 0 then (s.setGrp k { g with arrived := 0, vset := false, vop := 0, vacc := 0, scope := 3, members := 1 }).modTask t.key (fun x => x.modHw (fun h => { h with group := dw group }))
    else if g.scope ≠ 3 then bad 0x0B
    else (s.setGrp k { g with members := g.members + 1 }).modTask t.key (fun x => x.modHw (fun h => { h with group := dw group }))
  | .trap c => bad c
  | .freeze c => s.freezeTask t.key c
  | .park p => s.modTask t.key (fun x => { x with status := .parked p, sch := { x.sch with joining := group } })

/-- A task is instantiated and ready, unless its join holds it up. -/
def State.joinAtStart (s : State) (t : Task) (group : Nat) : State :=
  let s0 := (s.addTask t).ready t.key
  if group = 0 then s0 else s0.joinNow t group

/-- A parked task is ready again; one that has still to join tries its join again. -/
def State.readyAgain (s : State) (t : Task) : State :=
  if t.sch.joining = 0 then s.ready t.key
  else ((s.modTask t.key (fun x => x.modSch (fun y => { y with joining := 0 }))).ready t.key).joinNow t t.sch.joining

/-- Whether a workspace range of a tile overlaps an existing or pending task's workspace, or a frame of a running launch (R313). -/
def State.wsTaken (s : State) (gt lo n : Nat) : Bool :=
  let hit (base len : Nat) : Bool := decide (base < lo + n) && decide (lo < base + len)
  s.tasks.any (fun t => s.taskGt t == gt && hit (aOff t.wp.toNat) (if t.redundant then 16384 else 8192)) ||
  (s.tile gt).pend.any (fun p => hit (bits (nthDw p.desc 1) 0 25) (if bits (nthDw p.desc 2) 33 1 = 1 then 16384 else 8192)) ||
  s.vis.any (fun v => v.2.launches.any (fun l => l.dep == 0 &&
    (tileSet l.record).any (fun p => v.2.ldie p.1 == some (gt / 128) && p.2 == gt % 128) &&
    (List.range (recFrames l.record)).any (fun f => hit ((recWpoff l.record + f * recWstride l.record) * 8192) (if recR l.record then 16384 else 8192))))

/-- The checks of SPAWN on its descriptor (R313). -/
def spawnCheck (s : State) (d : List DWord) : Option Nat :=
  let d2 := nthDw d 2
  let wp := bits (nthDw d 1) 0 56
  let red := bits d2 33 1 = 1
  let det := bits d2 32 1 = 1
  if bits (nthDw d 0) 56 8 ≠ 0 ∨ bits (nthDw d 1) 56 8 ≠ 0 ∨ bits d2 48 16 ≠ 0 ∨ bit d2 39 = true ∨ bits (nthDw d 4) 56 8 ≠ 0 ∨ bit (nthDw d 0) 0 = true then some 0x0B
  else if bit d2 38 && !s.cur.sup then some 0x02
  else if wp % 8192 ≠ 0 ∨ aRegion wp ≠ 0 ∨ (wp >>> 25) % 2 ^ 14 ≠ 0 ∨ ((s.vi s.cur.vi).ldie (aVdie wp)).isNone = true ∨ 0x1800000 ≤ aOff wp ∨
    (red ∧ (wp / 8192) % 2 = 1) then some 0x0B
  else if s.wsTaken (s.gtOf s.cur.vi wp) (aOff wp) (if red then 16384 else 8192) then some 0x0B
  else if bits d2 35 1 ≠ 0 ∨ (bits d2 34 1 = 1 ∧ bits (nthDw d 4) 0 56 = 0) then some 0x0B
  else if s.cur.det ∧ (¬ det ∨ bits (nthDw d 4) 0 56 ≠ 0) then some 0x0B
  else if det ∧ bit d2 38 = true then some 0x0B
  else if bits (nthDw d 4) 0 56 % 32 ≠ 0 then some 0x0B
  else none

/-- SPAWN (R313). -/
def execSpawn (a : BitVec 5) (q : BitVec 4) (s : State) : Host.Outcome State Fault Refusal :=
  run (.spawn a q) q s (fun s => notInDomain s (checkRegs s [a] (
    let ga := (s.cur.rdG a).v.toNat
    if ga % 64 ≠ 0 ∨ (aRegion ga ≠ 0 ∧ aRegion ga ≠ 1) then illegalOperand s
    else releaseWait s (withDws s ga 8 (fun s d =>
      match spawnCheck s d with
      | some c => fault s c
      | none =>
        let gt := s.gtOf s.cur.vi (bits (nthDw d 1) 0 56)
        let dep := bits (nthDw d 2) 0 32
        let s1 := { s with cur := s.cur.noteReads [a] }
        if (s.vi s.cur.vi).stop then illegalOperand s
        else if s.nameTaken s.cur.vi ga then .park s (.recordName ga)
        else if 256 ≤ (s.tile gt).pend.length then .park s (.pendingTable gt)
        else if dep = 0 then .next (s1.joinAtStart (spawnTask s.cur.vi d s.cur.hw.seed) (bits (nthDw d 4) 0 56))
        else .next (s1.modTile gt (fun t => { t with pend := t.pend ++ [{ addr := ga, vi := s.cur.vi, desc := d, dep := dep, seed := s.cur.hw.seed }] })))))))

/-! ## Dependence counts (R333) -/

/-- Change the count of the entry of a VI named by an address; an entry whose count reaches zero starts (R301, R333). -/
def State.depend (s : State) (v a k : Nat) (up : Bool) : State :=
  let count (dep : Nat) : Nat × Option Nat :=
    if up then (if 2 ^ 32 - 1 < dep + k then (2 ^ 32 - 1, some 3) else (dep + k, none))
    else (if dep < k then (0, some 2) else (dep - k, none))
  match (s.vi v).launches.find? (fun l => l.dep != 0 && l.addr == a) with
  | some l =>
    let c := count l.dep
    let s1 := s.modLaunch v l.id (fun l => { l with dep := c.1 })
    match c.2 with
    | some e => s1.logEvent v e a (dw k)
    | none => s1
  | none =>
    match s.tiles.find? (fun t => t.2.pend.any (fun p => p.vi == v && p.addr == a)) with
    | none => s.logEvent v 1 a (dw k)
    | some t =>
      match t.2.pend.find? (fun p => p.vi == v && p.addr == a) with
      | none => s.logEvent v 1 a (dw k)
      | some p =>
        let c := count p.dep
        let s1 := match c.2 with
          | some e => s.logEvent v e a (dw k)
          | none => s
        let rest := t.2.pend.filter (fun x => x ≠ p)
        if c.1 = 0 then (s1.modTile t.1 (fun x => { x with pend := rest })).joinAtStart (spawnTask v p.desc p.seed) (bits (nthDw p.desc 4) 0 56)
        else s1.modTile t.1 (fun x => { x with pend := modWhere (fun y => y == p) (fun y => { y with dep := c.1 }) x.pend })

/-- A launch-window slot address (R403): windows 0 to 3, a 64-byte slot below 0xF80. -/
def windowSlot (a : Nat) : Bool :=
  aRegion a == 15 && (a >>> 32) % 2 ^ 20 == 0 && decide (0x20 ≤ (a >>> 16) % 2 ^ 16) && decide ((a >>> 16) % 2 ^ 16 ≤ 0x23) && decide (a % 2 ^ 16 < 0xF80)

/-- The address check that DDEC and DADD share (R333). -/
def dependOk (a : Nat) : Bool := decide (a < 2 ^ 56) && a % 64 == 0 && (aRegion a == 0 || aRegion a == 1 || windowSlot a)

/-- DDEC (R333). -/
def execDdec (e a : BitVec 5) (q : BitVec 4) (s : State) : Host.Outcome State Fault Refusal :=
  run (.ddec e a q) q s (fun s => notInDomain s (checkRegs s [a] (
    let ga := (s.cur.rdG a).v.toNat
    if !dependOk ga then illegalOperand s
    else releaseWait s (.next ({ s with cur := s.cur.noteReads [a] }.depend s.cur.vi ga (e.toNat + 1) false)))))

/-- DADD (R333). -/
def execDadd (a d : BitVec 5) (q : BitVec 4) (s : State) : Host.Outcome State Fault Refusal :=
  run (.dadd a d q) q s (fun s => notInDomain s (checkRegs s [a, d] (
    let ga := (s.cur.rdG a).v.toNat
    let k := (s.cur.rdG d).v.toNat
    if !dependOk ga ∨ 2 ^ 32 ≤ k ∨ k = 0 then illegalOperand s
    else releaseWait s (.next ({ s with cur := s.cur.noteReads [a, d] }.depend s.cur.vi ga k true)))))

/-! ## Groups -/

/-- JOIN (R317). -/
def execJoin (e a : BitVec 5) (q : BitVec 4) (s : State) : Host.Outcome State Fault Refusal :=
  run (.join e a q) q s (fun s => notInDomain s (
    if (s.cur.rdG a).p then faultReg s 0x0D 0 a.toNat
    else if s.cur.det then illegalOperand s
    else
      let ga := (s.cur.rdG a).v.toNat
      let gt := s.taskGt s.cur
      chkAct s ga (s.grpCheck s.cur.who gt ga) (fun k =>
        let g := s.grp k
        if s.cur.hw.group ≠ 0 ∨ inScope e.toNat gt (k / 2 ^ 25) = false then illegalOperand s
        else if g.members ≠ 0 ∧ g.scope ≠ e.toNat then illegalOperand s
        else
          let g1 := if g.members = 0 then { g with arrived := 0, vset := false, vop := 0, vacc := 0, scope := e.toNat } else g
          releaseWait s (.next ((s.setGrp k { g1 with members := g1.members + 1 }).modCur (fun t => (t.noteReads [a]).modHw (fun h => { h with group := dw ga })))))))

/-- LEAVE (R317). -/
def execLeave (q : BitVec 4) (s : State) : Host.Outcome State Fault Refusal :=
  run (.leave q) q s (fun s => notInDomain s (
    if s.cur.det ∨ s.cur.hw.group = 0 then illegalOperand s
    else chkAct s s.cur.hw.group.toNat (s.grpCheck s.cur.who (s.taskGt s.cur) s.cur.hw.group.toNat) (fun k =>
      releaseWait s (.next ((s.leaveGroup k).modCur (fun t => t.modHw (fun h => { h with group := 0 })))))))

/-- A synchronisation point that waits for every engine command of the task (R139) and, being a release, for its outstanding stores (R318, R335). -/
def syncAll (s : State) (k : Act) : Act :=
  if s.cmdsOf s.cur ≠ [] then .park s (.commands 3) else if s.storesOf s.cur.key ≠ [] then .park s (.stores 0) else syncCheck s k

/-- Combine votes (R318): 0 or, 1 and, 2 sum, 3 max. -/
def combineVote (op : Nat) (a b : DWord) : DWord :=
  match op with
  | 0 => a ||| b
  | 1 => a &&& b
  | 2 => a + b
  | _ => if a.ult b then b else a

/-- The arrival word: [1] parity sampled, [0] pending (R193). -/
def arrivalWord (p : Nat) : DWord := dw (p * 2 + 1)

/-- Wait for the phase after an arrival, then `k` runs with the record at hand; a handler takes the fault of R342 instead, with no
arrival made. -/
def awaitPhase (s0 s : State) (k a p : Nat) (fin : State → Grp → Act) : Act :=
  if (s.grp k).parity ≠ p then fin (s.modCur (fun t => t.modHw (fun h => { h with arrival := 0 }))) (s.grp k)
  else if s.cur.hnd then .park s0 (.phase a p) else .park s (.phase a p)

/-- SSTEP (R318). -/
def execSstep (e a d : BitVec 5) (q : BitVec 4) (s : State) : Host.Outcome State Fault Refusal :=
  run (.sstep e a d q) q s (fun s => notInDomain s (checkRegs s [a] (syncAll s (
    let ga := (s.cur.rdG a).v
    let a' := s.cur.hw.group.toNat
    if s.cur.hw.group = 0 then illegalOperand s
    else chkAct s a' (s.grpCheck s.cur.who (s.taskGt s.cur) a') (fun k =>
      let g := s.grp k
      let fin (s : State) (g : Grp) : Act := .next { s with cur := (s.cur.noteReads [a]).wrG d ⟨g.vres, false, false⟩ }
      if bit s.cur.hw.arrival 0 then awaitPhase s s k a' (bits s.cur.hw.arrival 1 1) fin
      else if 0 < g.arrived ∧ (g.vset = false ∨ g.vop ≠ e.toNat) then illegalOperand s
      else
        let g1 := if g.vset then { g with vacc := combineVote e.toNat g.vacc ga } else { g with vacc := ga, vop := e.toNat, vset := true }
        let s1 := (s.setGrp k ({ g1 with arrived := g1.arrived + 1 }).check).modCur (fun t => t.modHw (fun h => { h with arrival := arrivalWord g.parity }))
        awaitPhase s s1 k a' g.parity fin)))))

/-- GBAR (R335). -/
def execGbar (a : BitVec 5) (q : BitVec 4) (s : State) : Host.Outcome State Fault Refusal :=
  run (.gbar a q) q s (fun s => notInDomain s (checkRegs s [a] (syncAll s (
    let ga := (s.cur.rdG a).v.toNat
    let a' := s.cur.hw.group.toNat
    if s.cur.hw.group = 0 ∨ 2 ≤ ga then illegalOperand s
    else chkAct s a' (s.grpCheck s.cur.who (s.taskGt s.cur) a') (fun k =>
      let g := s.grp k
      let fin (s : State) (_ : Grp) : Act := .next { s with cur := s.cur.noteReads [a] }
      if bit s.cur.hw.arrival 0 then awaitPhase s s k a' (1 - ga) fin
      else if g.vset ∨ g.parity = ga then illegalOperand s
      else
        let s1 := (s.setGrp k ({ g with arrived := g.arrived + 1 }).check).modCur (fun t => t.modHw (fun h => { h with arrival := arrivalWord g.parity }))
        awaitPhase s s1 k a' (1 - ga) fin)))))

/-! ## Work queues (R320) -/

/-- The queue that gq names, after its checks; a queue of another VI is a violation (R320, R407). -/
def withQueue (s : State) (gq : DWord) (k : Nat → Nat → WorkQ → Act) : Act :=
  if bits gq 6 2 ≠ 0 ∨ bits gq 14 50 ≠ 0 then illegalOperand s
  else match (s.vi s.cur.vi).ldie (bits gq 8 6) with
  | none => illegalOperand s
  | some d =>
    let w := tget {} (s.die d).wq (bits gq 0 6)
    if !w.valid then illegalOperand s
    else if w.owner ≠ s.cur.vi then .freeze s 5
    else k d (bits gq 0 6) w

def State.setQueue (s : State) (d n : Nat) (w : WorkQ) : State := s.modDie d (fun x => { x with wq := tset {} x.wq n w })

/-- WPUSH (R320). -/
def execWpush (a d : BitVec 5) (q : BitVec 4) (s : State) : Host.Outcome State Fault Refusal :=
  run (.wpush a d q) q s (fun s => notInDomain s (
    if (s.cur.rdG d).p then faultReg s 0x0D 0 d.toNat
    else checkTaint s [d, a] (withQueue s (s.cur.rdG d).v (fun die n w =>
      if w.closed then illegalOperand s
      else releaseWait s (if 2 ^ w.lcap ≤ w.items.length then .park s (.queueFull die n)
      else .next { s.setQueue die n { w with items := w.items ++ [((s.cur.rdG a).v, (s.cur.rdG a).p)] } with cur := s.cur.noteReads [d, a] })))))

/-- WPOP and WPOP.NB (R320). -/
def wpopAct (block : Bool) (e : BitVec 3) (a d : BitVec 5) (s : State) : Act :=
  notInDomain s (checkRegs s [a] (withQueue s (s.cur.rdG a).v (fun die n w =>
    let put (s : State) (x : RegV) (p : Bool) : Act := .next { s with cur := ((s.cur.noteReads [a]).wrG d x).wrP e.toNat p true }
    releaseWait s (match w.items with
    | x :: r => put (s.setQueue die n { w with items := r }) ⟨x.1, x.2, true⟩ true
    | [] => if w.closed then put s ⟨1, false, true⟩ false else if block then .park s (.queueEmpty die n) else put s ⟨0, false, true⟩ false))))

/-- WPOP (R320). -/
def execWpop (e : BitVec 3) (a d : BitVec 5) (q : BitVec 4) (s : State) : Host.Outcome State Fault Refusal :=
  run (.wpop e a d q) q s (wpopAct true e a d)
/-- WPOP.NB (R320). -/
def execWpopNb (e : BitVec 3) (a d : BitVec 5) (q : BitVec 4) (s : State) : Host.Outcome State Fault Refusal :=
  run (.wpopNb e a d q) q s (wpopAct false e a d)

/-- WCLOSE (R320). -/
def execWclose (a : BitVec 5) (q : BitVec 4) (s : State) : Host.Outcome State Fault Refusal :=
  run (.wclose a q) q s (fun s => notInDomain s (checkRegs s [a] (withQueue s (s.cur.rdG a).v (fun die n w => releaseWait s (
    .next ({ s.setQueue die n { w with closed := true } with cur := s.cur.noteReads [a] }.wake
      (fun _ p => match p with | .queueEmpty x y => x == die && y == n | .queueFull x y => x == die && y == n | _ => false)))))))

end Sys2Proof.Machine
end

