-- ==== Sys2Proof/Machine/Control.lean ====
section
/-! DEFINITION. Control space (R399 to R401): the registers of a VI as its supervisor reads and writes them, the entries of the
per-vdie pages, the queues that a store starts (R99, R165, R377, R380, R396), and the finishing of a trap (R376). -/

namespace Sys2Proof.Machine

/-! ## Queues and commands behind registers -/

/-- Result of a control-space write: performed (or refused and recorded), an address fault, or a park. -/
inductive CtrlW where
  | ok (s : State)
  | fault
  | park (p : Park)
  deriving DecidableEq, Repr

/-- REVOKE (R165): up to 16 revocations may be pending. -/
def State.storeRevoke (s : State) (v x : Nat) : CtrlW :=
  if 16 ≤ (s.vi v).revq.length + (if (s.vi v).revoking.isSome then 1 else 0) then .park (.hostQueue 0) else .ok (s.modVi v (fun y => { y with revq := y.revq ++ [x] }))
/-- The page-move queue holds 16 records (R99). -/
def State.storePageMove (s : State) (v x : Nat) : CtrlW :=
  if 16 ≤ (s.vi v).pmq.length then .park (.hostQueue 1) else .ok (s.modVi v (fun y => { y with pmq := y.pmq ++ [x] }))
/-- The pre-emption queue holds 16 requests (R377). -/
def State.storePreempt (s : State) (v x : Nat) : CtrlW :=
  if 16 ≤ (s.vi v).preq.length then .park (.hostQueue 2) else .ok (s.modVi v (fun y => { y with preq := y.preq ++ [x] }))

/-- RESUME (R380): a pre-empted task of the VI becomes ready; nothing is claimed or filled yet. A WP of no pre-empted task changes
nothing. -/
def State.storeResume (s : State) (v wp : Nat) : State :=
  match s.task? (v * 2 ^ 56 + wp % 2 ^ 56) with
  | some t => if t.status = .preempted then (s.modTask t.key s.resumeArea).ready t.key else s
  | none => s

/-- The trap configuration (R373): a value outside its limits is refused with REASON 1; the reserved field is ignored (R10). -/
def trapCfgOk (d : DWord) : Bool :=
  bits d 25 7 == 0 && !bit d 0 && decide (bits d 0 25 < 0x1800000) && bits d 32 25 % 8192 == 0 && decide (bits d 32 25 + 0x2000 ≤ 0x1800000)
def State.storeTrapCfg (s : State) (v : Nat) (d : DWord) (off : Nat) : State :=
  if trapCfgOk d then s.modVi v (fun x => { x with trapcfg := d &&& 0x81FFFFFFFFFFFFFF }) else s.refuse v 1 0 0 off

/-- LCANCEL (R396): every task of the launch that has not been instantiated ends without running. -/
def State.cancelLaunch (s : State) (v id : Nat) : State :=
  match (s.vi v).launches.find? (fun l => l.id == id) with
  | none => s.refuse v 7 0 0 0x88
  | some l =>
    let never := recCount l.record - l.started
    let s1 := s.modLaunch v id (fun l => { l with cancelled := true, waiting := [], held := [], dep := 0, placed := recCount l.record })
    (s1.launchEnds v id never).logEvent v 8 0 (dw (id * 2 ^ 32 + never))

/-- A rectangle register's extent: logical die, and the tiles of x0..x1, y0..y1 (R400). -/
def rectCovers (r : DWord) (tile : Nat) : Bool :=
  bit r 63 && decide (bits r 0 4 ≤ tile % 16) && decide (tile % 16 ≤ bits r 4 4) && decide (bits r 8 3 ≤ tile / 16) && decide (tile / 16 ≤ bits r 11 3)
def rectsOverlap (a b : DWord) : Bool := (List.range 128).any (fun t => rectCovers a t && rectCovers b t)

/-- A rectangle write (R400). -/
def State.storeRect (s : State) (v vdie n : Nat) (d : DWord) (off : Nat) : State :=
  match (s.vi v).ldie vdie with
  | none => s
  | some die =>
    let old := tget 0 (s.die die).rects n
    let d' := d &&& 0x8000000000003FFF
    let stuck := (List.range 128).any (fun t => (rectCovers old t || rectCovers d' t) && ((s.tile (die * 128 + t)).resetting || (s.tile (die * 128 + t)).quarantined))
    if !(s.vi v).rect then s.refuse v 3 vdie 0x11 off
    else if (s.die die).rects.any (fun e => e.1 != n && rectsOverlap e.2 d') then s.refuse v 4 vdie 0x11 off
    else if stuck then s.refuse v 2 vdie 0x11 off
    else s.modDie die (fun x => { x with rects := tset 0 x.rects n d' })

/-- Fields of a stream entry (R263). -/
def stOwner (e : DWord) : Nat := bits e 57 6
def stPlog (e : DWord) : Nat := bits e 52 5
def stSubs (e : DWord) : Nat := bits e 40 8
def stQuota (e : DWord) : Nat := bits e 17 15
/-- A stream entry as it is read: ACTIVE and HELD from the stream's state (R263). -/
def Stream.read (x : Stream) : DWord := setBits (setBits x.entry 32 8 x.subs.length) 0 17 x.pages.length

/-- A stream-entry write (R263, R400). -/
def State.storeStream (s : State) (v vdie n : Nat) (d : DWord) (off : Nat) : State :=
  match (s.vi v).ldie vdie with
  | none => s
  | some die =>
    let x := tget {} (s.die die).streams n
    let d' := d &&& 0xFFF0FF00FFFE0000
    if bit x.entry 63 && stOwner x.entry != v then s.refuse v 3 vdie 0x11 off
    else if bit d 63 && stOwner d != v then s.refuse v 3 vdie 0x11 off
    else if !x.subs.isEmpty || !x.pages.isEmpty || s.publishing die n then s.refuse v 2 vdie 0x11 off
    else if bit d 63 && (decide (stPlog d < 8) || decide (16 < stPlog d) || stSubs d == 0 || decide (128 < stSubs d) || stQuota d == 0 || decide (16384 < stQuota d)) then s.refuse v 1 vdie 0x11 off
    else s.modDie die (fun y => { y with streams := tset {} y.streams n (if bit d 63 then { entry := d' } else {}) })

/-- A work-queue entry as it is read, and its write (R319, R400). -/
def WorkQ.read (w : WorkQ) : DWord :=
  dw ((if w.valid then 2 ^ 63 else 0) + w.owner * 2 ^ 57 + (if w.closed then 2 ^ 56 else 0) + w.items.length * 2 ^ 32 + w.lcap * 2 ^ 16)
def State.storeQueue (s : State) (v vdie n : Nat) (d : DWord) (off : Nat) : State :=
  match (s.vi v).ldie vdie with
  | none => s
  | some die =>
    let w := tget {} (s.die die).wq n
    let valid := bit d 63
    let lcap := bits d 16 4
    let parked := s.tasks.any (fun t => match t.status with | .parked (.queueFull a b) => a == die && b == n | .parked (.queueEmpty a b) => a == die && b == n | _ => false)
    let total : Nat := ((s.die die).wq.filter (fun e => e.2.valid && e.1 != n)).foldl (fun (t : Nat) e => t + 2 ^ e.2.lcap) 0 + 2 ^ lcap
    if w.valid && w.owner != v then s.refuse v 3 vdie 0x11 off
    else if valid && bits d 57 6 != v then s.refuse v 3 vdie 0x11 off
    else if (valid != w.valid || lcap != w.lcap) && (!w.items.isEmpty || parked) then s.refuse v 2 vdie 0x11 off
    else if valid && (lcap == 0 || decide (131072 < total)) then s.refuse v 1 vdie 0x11 off
    else s.modDie die (fun x => { x with wq := tset {} x.wq n (if valid then { w with valid := true, owner := v, closed := bit d 56, lcap := lcap } else {}) })

/-- The field limits of a valid mailbox entry (R336): CTR and HWP are aligned, and CTR, where there is one, and a handler's HWP lie on the mailbox's own
tile. -/
def mailPlaces (vdie tile : Nat) (hmode : Bool) (x : Mailbox) : Bool :=
  let here (a : Nat) : Bool := a / 2 ^ 25 == (vdie % 64 * 128 + tile % 128) * 2 ^ 14
  let ctr := bits x.dw1 0 56
  let hwp := bits x.dw3 0 56
  ctr % 8 == 0 && hwp % 8192 == 0 && (ctr == 0 || here ctr) && (!hmode || here hwp)

/-- A mailbox-entry write: doublewords 1 to 3 first, then 0 (R336, R400). What is written to a reserved field is ignored (R10). -/
def State.storeMailbox (s : State) (v vdie tile m i : Nat) (d : DWord) (off : Nat) : State :=
  match (s.vi v).ldie vdie with
  | none => s
  | some die =>
    let gt := die * 128 + tile
    let x := tget {} (s.tile gt).mbox m
    let held := s.msgs.any (fun g => g.held && g.arrived && g.vi.any (fun u => (s.vi u).ldie (bits g.dest 14 6) == some die) && bits g.dest 7 7 == tile && bits g.dest 0 4 == m)
    let waits := x.posts.any (fun p => !(p.counted && pagePast (s.cb gt x.buf).popped p.page))
    let put (y : Mailbox) : State := s.modTile gt (fun t => { t with mbox := tset {} t.mbox m y })
    if bit x.dw0 63 && bits x.dw0 57 6 != v then s.refuse v 3 vdie 0x10 off
    else if waits || x.handler.isSome || held then s.refuse v 2 vdie 0x10 off
    else match i with
    | 0 =>
      if !bit d 63 then put { x with dw0 := 0 }
      else if bits d 57 6 != v then s.refuse v 3 vdie 0x10 off
      else if !mailPlaces vdie tile (bit d 56) x then s.refuse v 1 vdie 0x10 off
      else put { x with dw0 := d &&& 0xFFC0001F00000000 }
    | 1 => if bit x.dw0 63 then s.refuse v 2 vdie 0x10 off else put { x with dw1 := d &&& 0x00FFFFFFFFFFFFFF }
    | 2 => if bit x.dw0 63 then s.refuse v 2 vdie 0x10 off else put { x with dw2 := d &&& 0x00FFFFFFFFFFFFFF }
    | _ => if bit x.dw0 63 then s.refuse v 2 vdie 0x10 off else put { x with dw3 := d &&& 0x00FFFFFFFFFFFFFF }

/-! ## Reads and writes (R399) -/

/-- A doubleword register of page 0x0000. -/
def Vi.page0 (x : Vi) (off assistMod : Nat) : Option DWord :=
  match off with
  | 0x00 => some x.root1
  | 0x08 => some x.root2
  | 0x10 => some x.htbase
  | 0x18 => some x.htcount
  | 0x20 => some 0
  | 0x28 => some x.revdone
  | 0x30 => some 0
  | 0x38 => some 0
  | 0x40 => some 0
  | 0x48 => some x.trapcfg
  | 0x50 => some (dw x.jobtag)
  | 0x58 => some x.frz0
  | 0x60 => some x.frz1
  | 0x68 => some x.cserr
  | 0x70 => some (dw (assistMod % 16 * 16 + x.assist % 16))
  | 0x78 => some (x.evidx.setWidth 64)
  | 0x80 => some x.evctr
  | 0x88 => some 0
  | _ => none

/-- Read a control-space register (R399): `size` is 8 for LD.D and 4 for LD.NW; none is the address fault. -/
def State.ctrlRead (s : State) (v vdie page off size : Nat) : Option DWord :=
  let x := s.vi v
  let perVdie := page = 0x10 ∨ page = 0x11
  if ¬ perVdie ∧ vdie ≠ 0 then none
  else if size = 8 then
    if page = 0 then x.page0 off s.md.modassist
    else if page = 4 then
      if off < 4096 ∧ off % 8 = 0 then
        let e := tget (0, 0) x.log (off / 16)
        some (if off % 16 = 0 then e.1 else e.2)
      else none
    else if page = 3 then
      if off < 0x100 ∧ off % 8 = 0 then some ((tget 0 s.md.counters (off / 8)).setWidth 64) else none
    else match x.ldie vdie with
      | none => none
      | some die =>
        if page = 0x10 then
          if off % 8 = 0 then
            let m := tget {} (s.tile (die * 128 + off / 512)).mbox ((off / 32) % 16)
            some (match (off / 8) % 4 with | 0 => m.dw0 | 1 => m.dw1 | 2 => m.dw2 | _ => m.dw3)
          else none
        else if page = 0x11 ∧ off % 8 = 0 then
          if off < 0x800 then some (tget {} (s.die die).streams (off / 8)).read
          else if off < 0xA00 then some (tget {} (s.die die).wq ((off - 0x800) / 8)).read
          else if 0x1000 ≤ off ∧ off < 0x1400 then some (tget 0 (s.die die).rects ((off - 0x1000) / 8))
          else none
        else none
  else if off % 4 ≠ 0 then none
  else if page = 1 then (if off < 256 then some ((tget 0 x.ctx (off / 4)).setWidth 64) else none)
  else if page = 2 then (if off < 128 then some ((s.dieEntry (off / 4)).setWidth 64) else none)
  else if 0x100 ≤ page ∧ page ≤ 0x11F then some ((s.home ((page - 0x100) * 16384 + off / 4)).setWidth 64)
  else none

/-- Write a control-space register with ST.D (R399, R401). Writes of read-only registers are ignored (R9). -/
def State.ctrlWrite (s : State) (v vdie page off : Nat) (d : DWord) : CtrlW :=
  let set (f : Vi → Vi) : CtrlW := .ok (s.modVi v f)
  let perVdie := page = 0x10 ∨ page = 0x11
  if ¬ perVdie ∧ vdie ≠ 0 then .fault
  else if page = 0 then
    match off with
    | 0x00 => set (fun x => { x with root1 := d })
    | 0x08 => set (fun x => { x with root2 := d })
    | 0x10 => set (fun x => { x with htbase := d })
    | 0x18 => set (fun x => { x with htcount := d &&& 0xFFFFFFFF })
    | 0x20 => s.storeRevoke v d.toNat
    | 0x30 => s.storePageMove v d.toNat
    | 0x38 => s.storePreempt v d.toNat
    | 0x40 => .ok (s.storeResume v d.toNat)
    | 0x48 => .ok (s.storeTrapCfg v d off)
    | 0x68 => set (fun x => { x with cserr := if bits d 56 8 = 0 then 0 else d &&& 0xFFFF3F00FFFFFFFF })
    | 0x80 => set (fun x => { x with evctr := d })
    | 0x88 => .ok (s.cancelLaunch v (bits d 0 32))
    | _ => if ((s.vi v).page0 off 0).isSome then .ok s else .fault
  else if page = 0x10 then
    if ((s.vi v).ldie vdie).isNone ∨ off % 8 ≠ 0 then .fault
    else .ok (s.storeMailbox v vdie (off / 512) ((off / 32) % 16) ((off / 8) % 4) d off)
  else if page = 0x11 then
    if ((s.vi v).ldie vdie).isNone ∨ off % 8 ≠ 0 then .fault
    else if off < 0x800 then .ok (s.storeStream v vdie (off / 8) d off)
    else if off < 0xA00 then .ok (s.storeQueue v vdie ((off - 0x800) / 8) d off)
    else if 0x1000 ≤ off ∧ off < 0x1400 then .ok (s.storeRect v vdie ((off - 0x1000) / 8) d off)
    else .fault
  else if (s.ctrlRead v vdie page off 8).isSome || (s.ctrlRead v vdie page off 4).isSome then .ok s
  else .fault

/-! ## Finishing a trap (R376, R412) -/

/-- The cause code in a task's trap record. -/
def State.trapCode (s : State) (t : Task) : Nat := bits (s.wsWord (s.taskGt t) (aOff t.wp.toNat) 0x1400).1 0 8

/-- The trapped task of a VI with a WP, frozen ones included (R376, R407). -/
def State.trapped? (s : State) (v wp : Nat) : Option Task :=
  match s.task? (v * 2 ^ 56 + wp) with
  | some t => if t.status = .trapped ∨ t.status = .frozen then some t else none
  | none => none

/-- ERET action 0: every register is taken from the workspace, PC from the record's EPC, and the task is ready (R187, R376). The line of PC is
filled at once, since EPC replaces what it holds. -/
def State.eretResume (s : State) (t : Task) : State :=
  let epc := (s.wsWord (s.taskGt t) (aOff t.wp.toNat) 0x1408).1
  ((s.modTask t.key s.resumeArea).ready t.key).onLines t.key [5] (fun u => u.setPc ((epc &&& 0xFFFFFFFFFFFFFFFE).setWidth 56))

/-- The checks of ERET's action k on a trapped task (R376). -/
def State.eretOk (s : State) (t : Task) (k : Nat) : Bool :=
  let c := s.trapCode t
  !(k == 0 && (c == 0x1A || c == 0x17)) && !(k == 2 && t.depth == 0)

end Sys2Proof.Machine
end

