-- ==== Sys2Proof/Machine/LoadStore.lean ====
section
/-! DEFINITION. Loads and stores (R207, R208). A store is performed as the instruction issues where it can be, and else is outstanding; that other
observers may see a weaker order is out of the model (log entry 8). -/

namespace Sys2Proof.Machine

/-- An address of region 0xF takes part in R399's forms only. -/
def Loc.isCtrl : Loc → Bool
  | .ctrl _ _ _ => true
  | _ => false

/-- How a load extends its bytes (R207). -/
def extend (signed : Bool) (size : Nat) (x : Nat) : DWord := if signed then BitVec.ofInt 64 (sval (8 * size) x) else dw x

/-- A load of R207 or R208; an acquire comes after the task's earlier accesses (R356). `ctrlSize` is 4 or 8 where R399 lets the form read control space,
else 0. -/
def loadAct (acq signed : Bool) (size ctrlSize : Nat) (i : BitVec 8) (b t : BitVec 5) (s : State) : Act :=
  checkRegs s [b] (
    let a := (memAddr (s.cur.rdG b).v i size).toNat
    let gt := s.taskGt s.cur
    chkAct s a (s.check s.cur.who gt rRD a size) (fun l =>
      if a % size ≠ 0 then faultAt s 0x06 a
      else match l with
      | .ctrl vdie page off =>
        if ctrlSize = 0 then faultAt s 0x04 a
        else match s.ctrlRead s.cur.vi vdie page off ctrlSize with
        | none => faultAt s 0x04 a
        | some x => .next { s with cur := (s.cur.noteReads [b]).wrG t ⟨x, false, false⟩ }
      | l =>
        let rest : Act := accessWait s l size (
          let r := s.readLoc .task 0 (aVdie a) [] l size
          match r.stop with
          | some c => chkAct s a c (fun _ => faultAt s 0x04 a)
          | none =>
            let s1 := (s.chargeCur r.crust).countHits s.cur.missed l size
            let pois := r.bytes.any (·.2)
            let v := if pois then 0 else extend signed size (ofBytes (r.bytes.map (·.1)))
            .next { s1 with cur := (s1.cur.noteReads [b]).wrG t ⟨v, pois, false⟩ })
        if acq then releaseWait s rest else rest))

/-- LD.B (R207). -/
def execLdB (i : BitVec 8) (b t : BitVec 5) (q : BitVec 4) (s : State) : Host.Outcome State Fault Refusal := run (.ldB i b t q) q s (loadAct false true 1 0 i b t)
/-- LD.H (R207). -/
def execLdH (i : BitVec 8) (b t : BitVec 5) (q : BitVec 4) (s : State) : Host.Outcome State Fault Refusal := run (.ldH i b t q) q s (loadAct false true 2 0 i b t)
/-- LD.W (R207). -/
def execLdW (i : BitVec 8) (b t : BitVec 5) (q : BitVec 4) (s : State) : Host.Outcome State Fault Refusal := run (.ldW i b t q) q s (loadAct false true 4 0 i b t)
/-- LD.D (R207, R399). -/
def execLdD (i : BitVec 8) (b t : BitVec 5) (q : BitVec 4) (s : State) : Host.Outcome State Fault Refusal := run (.ldD i b t q) q s (loadAct false false 8 8 i b t)
/-- LD.NB (R207). -/
def execLdNb (i : BitVec 8) (b t : BitVec 5) (q : BitVec 4) (s : State) : Host.Outcome State Fault Refusal := run (.ldNb i b t q) q s (loadAct false false 1 0 i b t)
/-- LD.NH (R207). -/
def execLdNh (i : BitVec 8) (b t : BitVec 5) (q : BitVec 4) (s : State) : Host.Outcome State Fault Refusal := run (.ldNh i b t q) q s (loadAct false false 2 0 i b t)
/-- LD.NW (R207, R399). -/
def execLdNw (i : BitVec 8) (b t : BitVec 5) (q : BitVec 4) (s : State) : Host.Outcome State Fault Refusal := run (.ldNw i b t q) q s (loadAct false false 4 4 i b t)

/-- A store inside a domain notes the granule of the output window that it touched (R387). -/
def State.touch (s : State) (l : Loc) : State :=
  if s.cur.depth = 0 then s
  else match l with
  | .sram gt off =>
    match (s.tile gt).redirect true off with
    | .at_ o => s.modCur (fun t => t.modSch (fun x => { x with touched := x.touched ++ [(t.depth, gt * 2 ^ 17 + o / 256)] }))
    | .second _ => s
  | _ => s

/-- Control-space registers whose store starts a revocation, a page move, a pre-emption or a resume, which every earlier access of the task precedes
(R358, R401). -/
def startsAction (page off : Nat) : Bool := page == 0 && [0x20, 0x30, 0x38, 0x40].contains off

/-- A store of R207 or R208, `rel` for a release, which comes after the task's earlier accesses (R356): the address operand is checked for poison and taint, the data for taint (R201, R203). -/
def storeAct (size : Nat) (ctrl rel : Bool) (i : BitVec 8) (b t : BitVec 5) (s : State) : Act :=
  checkRegs s [b] (checkTaint s [t] (
    let a := (memAddr (s.cur.rdG b).v i size).toNat
    let x := s.cur.rdG t
    let gt := s.taskGt s.cur
    chkAct s a (s.check s.cur.who gt rWR a size) (fun l =>
      if a % size ≠ 0 then faultAt s 0x06 a
      else if secondRange s l then faultAt s 0x08 a
      else if !storeAllowed s l size then illegalOperand s
      else match l with
      | .ctrl vdie page off =>
        let go : Act := match s.ctrlWrite s.cur.vi vdie page off x.v with
          | .fault => faultAt s 0x04 a
          | .park p => .park s p
          | .ok s1 => .next { s1 with cur := s1.cur.noteReads [b, t] }
        if !ctrl then faultAt s 0x04 a else if startsAction page off then releaseWait s go else go
      | l =>
        let rest : Act := storeOut s rel a l (toBytes size x.v.toNat) (List.replicate size x.p) (fun s =>
          let s1 := s.touch l
          .next { s1 with cur := s1.cur.noteReads [b, t] })
        if rel then releaseWait s rest else rest)))

/-- ST.B (R207). -/
def execStB (i : BitVec 8) (b t : BitVec 5) (q : BitVec 4) (s : State) : Host.Outcome State Fault Refusal := run (.stB i b t q) q s (storeAct 1 false false i b t)
/-- ST.H (R207). -/
def execStH (i : BitVec 8) (b t : BitVec 5) (q : BitVec 4) (s : State) : Host.Outcome State Fault Refusal := run (.stH i b t q) q s (storeAct 2 false false i b t)
/-- ST.W (R207). -/
def execStW (i : BitVec 8) (b t : BitVec 5) (q : BitVec 4) (s : State) : Host.Outcome State Fault Refusal := run (.stW i b t q) q s (storeAct 4 false false i b t)
/-- ST.D (R207, R399). -/
def execStD (i : BitVec 8) (b t : BitVec 5) (q : BitVec 4) (s : State) : Host.Outcome State Fault Refusal := run (.stD i b t q) q s (storeAct 8 true false i b t)

/-- LD.ACQ (R208): the effect of LD.D, as an acquire at its scope. -/
def execLdAcq (i : BitVec 8) (c : BitVec 3) (b t : BitVec 5) (q : BitVec 4) (s : State) : Host.Outcome State Fault Refusal :=
  run (.ldAcq i c b t q) q s (loadAct true false 8 0 i b t)
/-- ST.REL (R208): the effect of ST.D, as a release at its scope. -/
def execStRel (i : BitVec 8) (c : BitVec 3) (b t : BitVec 5) (q : BitVec 4) (s : State) : Host.Outcome State Fault Refusal :=
  run (.stRel i c b t q) q s (storeAct 8 false true i b t)

end Sys2Proof.Machine
end

