-- ==== Sys2Proof/Machine/Packets.lean ====
section
/-! DEFINITION. What a home does with the packets that have come in (R112, R116, R126): each request of another module is taken up once, and its
answer is recorded, so that a repeat is answered from the record. -/

namespace Sys2Proof.Machine

/-- The packet of module `src` with number `seq` that has come in and that an event serves, of one of these kinds, with the state without it. -/
def State.taken (s : State) (kinds : List Nat) : Option (EvIn × State) :=
  let mine (x : EvIn) : Bool := x.src == s.ev.src && x.seq == s.ev.seq && kinds.contains x.kind
  match s.md.inbox.find? mine with
  | some x => some (x, s.modMd (fun m => { m with inbox := m.inbox.filter (fun y => !mine y) }))
  | none => none

/-- The oldest packet of a flow (R115) that has come in and that no event has taken, if it is of one of these kinds, with the state without it. -/
def State.oldestPacket (s : State) (cls src agent dagent : Nat) (kinds : List Nat) : Option (EvIn × State) :=
  match s.md.inbox.find? (fun x => x.cls == cls && x.src == src && x.gt == agent && x.die == dagent) with
  | some x => if kinds.contains x.kind then some (x, s.modMd (fun m => { m with inbox := m.inbox.erase x })) else none
  | none => none

/-- A request of this module has been answered (R116). -/
def State.finished (s : State) (seq : Nat) : State :=
  s.modMd (fun m => { m with outbox := m.outbox.filter (fun p => !(p.cls == cREQ && p.seq == seq)), unanswered := sdel m.unanswered seq })

/-- The request of this module that a packet answers, which names it in `offset`. -/
def State.asked (s : State) (x : EvIn) : Option Packet := s.md.outbox.find? (fun p => p.cls == cREQ && p.dst == x.src && p.seq == x.offset)

/-- Answer the request of an agent of another module with a number, and record the answer (R116, R349). -/
def State.answer (s : State) (src agent seq : Nat) (p : Packet) : State :=
  s.modMd (fun m => { m.post { p with dst := src, dagent := agent, agent := agentIo (p.addr / 128), re := seq } with
    served := m.served.map (fun r => if r.src = src ∧ r.agent = agent ∧ r.seq = seq then { r with answer := some (p.kind, p.addr, p.data, p.marks, p.code) } else r) })

/-- Refuse a request for now: nothing of it is recorded, so that its sender tries it again (R101). -/
def State.refusePacket (s : State) (x : EvIn) (kind code : Nat) : State :=
  s.modMd (fun m => { m.post { cls := cRSP, dst := x.src, kind := kind, addr := x.addr, agent := agentIo (x.addr / 128), dagent := x.gt, re := x.seq, code := code } with
    served := m.served.filter (fun r => !(r.src == x.src && r.agent == x.gt && r.seq == x.seq)) })

/-- Acknowledge a write of another module, once both parity holders have acknowledged where its granule is protected (R104, R120). -/
def State.acked (s : State) (x : EvIn) (ids : List Nat) : State :=
  match ids.head? with
  | none => s.answer x.src x.gt x.seq { cls := cRSP, dst := x.src, kind := kAck, addr := x.addr }
  | some i => s.modMd (fun m => { m with writers := m.writers ++ [(i, x)] })

/-- A grant that no task waits for any more is released unchanged (R344). -/
def State.returnGrant (s : State) (x : EvIn) (key : Nat) : State :=
  s.modMd (fun m => m.post { cls := cREQ, dst := x.src, kind := kRelease, addr := x.addr, agent := x.die, dagent := x.gt, req := some (.task key) })

end Sys2Proof.Machine
end

