-- ==== Sys2Proof/Machine/Atomics.lean ====
section
/-! DEFINITION. Reservation atomics (R343 to R350): RSV, RELW, RELN, AMO and CAS, with the order of grants at the word's home, and
counter updates inside a containment domain (R386). -/

namespace Sys2Proof.Machine

/-- The checks of R348 that follow the operand checks: a place whose doubleword may be reserved. A line of this module's memory that another holds is
recalled first (R343). -/
def State.atomicCheck (s : State) (ga size : Nat) : Chk Loc :=
  let gt := s.taskGt s.cur
  match s.check s.cur.who gt rAny ga size with
  | .ok (.ctrl _ _ _) => .trap 0x04
  | .ok l =>
    if ga % size ≠ 0 then .trap 0x06
    else match l with
    | .sram g off =>
      let st := (s.gran g (off / 256)).state
      if st = 0 ∨ st = 1 then .trap 0x04
      else if st = 3 then .park (.granule (sramKey g off))
      else if ((s.tile g).winAt off).isSome || (s.tile g).inSecond off then .trap 0x08
      else .ok l
    | .hbm mma =>
      match s.check s.cur.who gt rAT ga size with
      | .ok _ => if s.remoteHeld mma true then .park (.line (lineKey s.md.number mma) 3) else .ok l
      | e => e
    | .peer m mma =>
      match s.check s.cur.who gt rAT ga size with
      | .ok _ =>
        if s.ownTagBad (s.master s.cur) l then .freeze 3
        else if m = s.md.number ∧ s.remoteHeld mma true then .park (.line (lineKey m mma) 3) else .ok l
      | e => e
    | .ctrl _ _ _ => .trap 0x04
  | e => e

/-- The doubleword of a number at its home, and its poison; another module's is what its grant brought. -/
def State.homeWord (s : State) (w : Nat) : DWord × Bool :=
  let here (k : Nat) : DWord × Bool := (dw (ofBytes ((s.fetch k 8).map (·.1))), s.marked k)
  match wordLoc w with
  | .sram gt off => here (sramKey gt off)
  | .hbm mma => here (s.hbmKey mma)
  | _ => match s.resv.find? (fun r => r.addr == w) with
    | some r => (r.value, r.pois)
    | none => (0, false)

/-- The module, if any, that is another one and the home of a place. -/
def State.away (s : State) (l : Loc) : Option (Nat × Nat) := match l with | .peer m mma => if m = s.md.number then none else some (m, mma) | _ => none

/-- The release of a reservation by the issuing task (R345): at once where nothing of the task is outstanding before it, else as an outstanding
store; it does not park. -/
def State.sendRelease (s : State) (l : Loc) (value : Option DWord) : State :=
  (s.issueStore { key := s.cur.key, vi := s.cur.vi, addr := 0, loc := l, bytes := toBytes 8 (value.getD 0).toNat, marks := [], kind := .release value.isSome }).s

/-- Reserve the doubleword at a place for the issuing task (R343): at once when no earlier request waits, else after a wait. The task holds it when
the continuation begins. -/
def reserve (s : State) (l : Loc) (k : State → DWord → Act) : Act :=
  let key := s.cur.key
  let w := s.wordKey l
  let mine (r : Reserv) : Bool := r.addr == w
  let r := (s.resv.find? mine).getD { addr := w, holder := none }
  let first := match r.waiters.head? with | none => true | some x => x == key
  let have_ := if (s.away l).isSome then r.granted && first else true
  if r.holder.isNone && first && have_ then
    let word := s.homeWord w
    let s1 := { s with resv := s.resv.filter (fun x => !mine x) ++ [{ r with holder := some key, waiters := r.waiters.filter (· ≠ key) }] }
    if word.2 then .trap (s1.sendRelease (wordLoc w) none).tick { code := 0x0D, info := Config.trapInfo s1.fresh } else k s1 word.1
  else
    let r1 := if r.waiters.contains key then r else { r with waiters := r.waiters ++ [key] }
    let s1 := { s with resv := s.resv.filter (fun x => !mine x) ++ [r1] }
    let m := s.master s.cur
    let s2 := match s.away l with
      | some p => if r.waiters.contains key then s1 else s1.modMd (fun x => x.post { cls := cREQ, dst := p.1, kind := kReserve, addr := p.2 / 8 * 8, agent := m.gt, dagent := agentIo (p.2 / 128), tag := m.tag, req := m.q })
      | none => s1
    .park s2 (.grant w)

/-- SR.RSV for a held word (R344). -/
def rsvWord (ga : DWord) : DWord := dw (2 ^ 63 + ga.toNat % 2 ^ 56 / 8 * 8)

/-- RSV (R345). -/
def execRsv (a d : BitVec 5) (q : BitVec 4) (s : State) : Host.Outcome State Fault Refusal :=
  run (.rsv a d q) q s (fun s => notInDomain s (
    if bit s.cur.hw.rsv 63 then illegalOperand s
    else checkRegs s [a] (
      let ga := (s.cur.rdG a).v
      chkAct s ga.toNat (s.atomicCheck ga.toNat 8) (fun l => releaseWait s (reserve s l (fun s x =>
        .next { s with cur := ((s.cur.noteReads [a]).wrG d ⟨x, false, true⟩).modHw (fun h => { h with rsv := rsvWord ga }) }))))))

/-- The check of the address that RELW and RELN share (R345). -/
def heldAddr (s : State) (ga : DWord) : Bool := bit s.cur.hw.rsv 63 && bits ga 3 53 == bits s.cur.hw.rsv 3 53 && bits ga 56 8 == 0 && bits ga 0 3 == 0

/-- The word that the issuing task has reserved and not released: the last one, where the release of an earlier one is outstanding. -/
def State.heldWord (s : State) : Option Nat :=
  ((s.resv.filter (fun r => r.holder == some s.cur.key && !(s.storesOf s.cur.key).any (fun x => (x.kind == .release true || x.kind == .release false) && s.wordKey x.loc == r.addr))).getLast?).map (·.addr)

/-- RELW and RELN once their checks have passed (R345): the release is sent, and SR.RSV is 0. -/
def relAct (s : State) (value : Option DWord) (ns : List (BitVec 5)) : Act :=
  let s1 := match s.heldWord with | some w => s.sendRelease (wordLoc w) value | none => s
  .next { s1 with cur := (s1.cur.modHw (fun h => { h with rsv := 0 })).noteReads ns }

/-- RELW (R345): write the word, clear its poison, release. Its address is an operand as any atomic's (R201, R203). -/
def execRelw (b a : BitVec 5) (q : BitVec 4) (s : State) : Host.Outcome State Fault Refusal :=
  run (.relw b a q) q s (fun s => checkRegs s [a] (
    if !heldAddr s (s.cur.rdG a).v then illegalOperand s
    else checkRegs s [b] (relAct s (some (s.cur.rdG b).v) [a, b])))

/-- RELN (R345): release unchanged. -/
def execReln (a : BitVec 5) (q : BitVec 4) (s : State) : Host.Outcome State Fault Refusal :=
  run (.reln a q) q s (fun s => checkRegs s [a] (
    if !heldAddr s (s.cur.rdG a).v then illegalOperand s else relAct s none [a]))

/-- The n-bit operand at ga inside its doubleword, and the doubleword with it replaced. -/
def subWord (ga n : Nat) (x : DWord) : Nat := bits x (8 * (ga % 8)) n
def setSubWord (ga n : Nat) (x : DWord) (v : Nat) : DWord := setBits x (8 * (ga % 8)) n v

/-- Append a counter update to the nest's log (R386): none when the log is full. -/
def State.logUpdate (s : State) (ga : Nat) (w : Bool) (amount : DWord) : Option State :=
  let t := s.cur
  let d := s.domWord t 1 10
  let n := bits d 0 8
  if 16 ≤ n then none
  else some (((s.domPut t 1 (16 + 2 * n) (dw ((if w then 2 ^ 63 else 0) + ga))).domPut t 1 (17 + 2 * n) amount).domPut t 1 10 (setBits d 0 8 (n + 1)))

/-- AMO (R346) with its operation on n-bit patterns; inside a domain only ADD without return is allowed, as a counter update (R385). -/
def amoAct (op : Nat → Nat → Nat → Nat) (isAdd : Bool) (r w : BitVec 1) (b a d : BitVec 5) (s : State) : Act :=
  let n := if w = 1 then 64 else 32
  if s.cur.depth ≠ 0 ∧ (isAdd = false ∨ r = 1) then illegalOperand s
  else if bit s.cur.hw.rsv 63 then illegalOperand s
  else checkRegs s [a, b] (
    let ga := (s.cur.rdG a).v.toNat
    chkAct s ga (s.atomicCheck ga (n / 8)) (fun l => releaseWait s (reserve s l (fun s x =>
      let old := subWord ga n x
      let v := op n old ((s.cur.rdG b).v.toNat % 2 ^ n)
      match (if s.cur.depth = 0 then some s else s.logUpdate ga (decide (n = 32)) (s.cur.rdG b).v) with
      | none => illegalOperand (s.sendRelease (wordLoc (s.wordKey l)) none)
      | some s0 =>
        let s1 := s0.sendRelease (wordLoc (s.wordKey l)) (some (setSubWord ga n x v))
        let t := s1.cur.noteReads [a, b]
        .next { s1 with cur := if r = 1 then t.wrG d ⟨dw old, false, true⟩ else t }))))

/-- Signed comparison of n-bit patterns. -/
def sLt (n x y : Nat) : Bool := decide (sval n x < sval n y)

/-- AMO.ADD (R346). -/
def execAmoAdd (r w : BitVec 1) (b a d : BitVec 5) (q : BitVec 4) (s : State) : Host.Outcome State Fault Refusal :=
  run (.amoAdd r w b a d q) q s (amoAct (fun n x y => (x + y) % 2 ^ n) true r w b a d)
/-- AMO.AND (R346). -/
def execAmoAnd (r w : BitVec 1) (b a d : BitVec 5) (q : BitVec 4) (s : State) : Host.Outcome State Fault Refusal :=
  run (.amoAnd r w b a d q) q s (amoAct (fun _ x y => x &&& y) false r w b a d)
/-- AMO.OR (R346). -/
def execAmoOr (r w : BitVec 1) (b a d : BitVec 5) (q : BitVec 4) (s : State) : Host.Outcome State Fault Refusal :=
  run (.amoOr r w b a d q) q s (amoAct (fun _ x y => x ||| y) false r w b a d)
/-- AMO.XOR (R346). -/
def execAmoXor (r w : BitVec 1) (b a d : BitVec 5) (q : BitVec 4) (s : State) : Host.Outcome State Fault Refusal :=
  run (.amoXor r w b a d q) q s (amoAct (fun _ x y => x ^^^ y) false r w b a d)
/-- AMO.MIN (R346): signed. -/
def execAmoMin (r w : BitVec 1) (b a d : BitVec 5) (q : BitVec 4) (s : State) : Host.Outcome State Fault Refusal :=
  run (.amoMin r w b a d q) q s (amoAct (fun n x y => if sLt n x y then x else y) false r w b a d)
/-- AMO.MAX (R346): signed. -/
def execAmoMax (r w : BitVec 1) (b a d : BitVec 5) (q : BitVec 4) (s : State) : Host.Outcome State Fault Refusal :=
  run (.amoMax r w b a d q) q s (amoAct (fun n x y => if sLt n x y then y else x) false r w b a d)
/-- AMO.MINN (R346): unsigned. -/
def execAmoMinn (r w : BitVec 1) (b a d : BitVec 5) (q : BitVec 4) (s : State) : Host.Outcome State Fault Refusal :=
  run (.amoMinn r w b a d q) q s (amoAct (fun _ x y => if x < y then x else y) false r w b a d)
/-- AMO.MAXN (R346): unsigned. -/
def execAmoMaxn (r w : BitVec 1) (b a d : BitVec 5) (q : BitVec 4) (s : State) : Host.Outcome State Fault Refusal :=
  run (.amoMaxn r w b a d q) q s (amoAct (fun _ x y => if x < y then y else x) false r w b a d)
/-- AMO.SWAP (R346). -/
def execAmoSwap (r w : BitVec 1) (b a d : BitVec 5) (q : BitVec 4) (s : State) : Host.Outcome State Fault Refusal :=
  run (.amoSwap r w b a d q) q s (amoAct (fun _ _ y => y) false r w b a d)

/-- CAS of n bits (R347). -/
def casAct (n : Nat) (b a d : BitVec 5) (s : State) : Act :=
  notInDomain s (
    if bit s.cur.hw.rsv 63 then illegalOperand s
    else checkRegs s [a, b, d] (
      let ga := (s.cur.rdG a).v.toNat
      chkAct s ga (s.atomicCheck ga (n / 8)) (fun l => releaseWait s (reserve s l (fun s x =>
        let old := subWord ga n x
        let s1 := s.sendRelease (wordLoc (s.wordKey l)) (if old = (s.cur.rdG d).v.toNat % 2 ^ n then some (setSubWord ga n x (s.cur.rdG b).v.toNat) else none)
        .next { s1 with cur := (s1.cur.noteReads [a, b, d]).wrG d ⟨dw old, false, true⟩ })))))

/-- CAS.W (R347). -/
def execCasW (b a d : BitVec 5) (q : BitVec 4) (s : State) : Host.Outcome State Fault Refusal := run (.casW b a d q) q s (casAct 32 b a d)
/-- CAS.D (R347). -/
def execCasD (b a d : BitVec 5) (q : BitVec 4) (s : State) : Host.Outcome State Fault Refusal := run (.casD b a d q) q s (casAct 64 b a d)

/-- A release of another module's home for one of its reservers ends its reservation (R343, R349). -/
def State.dropReserv (s : State) (w : Nat) (p : Nat → Bool) : State :=
  let end_ (r : Reserv) : Reserv := { r with holder := r.holder.filter (fun k => !p k), granted := r.granted && !r.holder.any p, waiters := r.waiters.filter (fun k => !p k) }
  { s with resv := (s.resv.map (fun r => if r.addr = w then end_ r else r)).filter (fun r => r.holder.isSome || !r.waiters.isEmpty) }

/-- Tasks that wait at a reserved word are tried again. -/
def State.wakeWord (s : State) (w : Nat) : State := s.wake (fun _ p => p == Park.grant w)

/-- RESERVATION_GRANT (R343, R349): the home of this module at `addr` (a doubleword number) grants to the first waiter, once no other module holds the
line: a task of this module is readied, a requester of another module becomes the holder and is sent the word with its mark. Or the grant of
another module's home, the packet (`src`, `seq`), arrives for the task that asked; one that has withdrawn releases the word unchanged. -/
def execReservationGrant (s : State) : Host.Outcome State Fault Refusal :=
  if s.ev.src ≠ s.md.number then
    match s.taken [kGrant] with
    | none => noUnit "RESERVATION_GRANT"
    | some (x, s1) =>
      let w := 2 ^ 60 + x.src * 2 ^ 40 + x.addr % 2 ^ 40 / 8
      let key := (s.md.outbox.find? (fun p => p.cls == cREQ && p.kind == kReserve && p.seq == x.offset)).bind (fun p => match p.req with | some (.task k) => some k | _ => none)
      let s2 := s1.finished x.offset
      match key, s2.resv.find? (fun r => r.addr == w) with
      | some k, some r =>
        if r.waiters.head? = some k then
          let s3 : State := { s2 with resv := s2.resv.map (fun (y : Reserv) => if y.addr = w then { r with granted := true, value := x.data.setWidth 64, pois := x.value % 2 == 1 } else y) }
          .next (s3.wakeWord w)
        else .next (s2.returnGrant x k)
      | some k, none => .next (s2.returnGrant x k)
      | none, _ => .next s2
  else match s.resv.find? (fun r => r.addr == s.ev.addr) with
  | none => noUnit "RESERVATION_GRANT"
  | some r =>
    match r.holder, r.waiters with
    | none, k :: rest =>
      if k < awayKey then .next (s.wakeWord r.addr)
      else match wordLoc r.addr with
      | .hbm mma =>
        if s.locBusy (.hbm mma) then noUnit "RESERVATION_GRANT"
        else if s.remoteHeld mma true then .next (s.askLine {} (lineKey s.md.number mma) 3)
        else
          let word := s.homeWord r.addr
          let s1 := (s.dropOwn (mma / 128 * 128)).answer (k % 1024) (k / 1024 % 2 ^ 13) (k / 2 ^ 23 % 2 ^ 32) { cls := cRSP, dst := 0, kind := kGrant, addr := mma, data := word.1.setWidth 1024, marks := if word.2 then 1 else 0 }
          .next { s1 with resv := s1.resv.map (fun (y : Reserv) => if y.addr = r.addr then { r with holder := some k, waiters := rest } else y) }
      | _ => noUnit "RESERVATION_GRANT"
    | _, _ => noUnit "RESERVATION_GRANT"

/-- RESERVATION_RELEASE (R343 to R345, R349): the release of another module's reserver, the packet (`src`, `seq`), reaches its home, which writes the word or
not, acknowledges after the parity where there is one (R104), and serves the next; or the hardware releases a word of this module unchanged whose
holder or waiting tasks no longer exist. -/
def execReservationRelease (s : State) : Host.Outcome State Fault Refusal :=
  if s.ev.src ≠ s.md.number then
    match s.taken [kRelease] with
    | none => noUnit "RESERVATION_RELEASE"
    | some (x, s1) =>
      let w := 2 ^ 57 + x.addr % 2 ^ 40 / 8
      let mine (k : Nat) : Bool := decide (awayKey ≤ k) && k % 1024 == x.src && k / 1024 % 2 ^ 13 == x.gt
      match s.resv.find? (fun r => r.addr == w && r.holder.any mine) with
      | none => .next (s1.acked x [])
      | some _ =>
        if s.locBusy (wordLoc w) then .next (s1.refusePacket x kRefuse 0)
        else
        let r := s1.releaseHome w (tagOf x.src x.gt x.seq) (if x.code % 2 = 1 then some (x.data.setWidth 64) else none)
        match r.stop with
        | some (.park p) => .next (s.askFor {} p)
        | some _ => noUnit "RESERVATION_RELEASE"
        | none => .next ((r.s.acked x r.ids).wakeWord w)
  else match s.resv.find? (fun r => r.addr == s.ev.addr) with
  | none => noUnit "RESERVATION_RELEASE"
  | some r =>
    let gone (k : Nat) : Bool := decide (k < awayKey) && (s.task? k).isNone && (s.storesOf k).isEmpty
    if r.holder.any gone || r.waiters.any gone then .next (((match r.holder with | some k => if gone k then s.releaseOf k else s | none => s).dropReserv r.addr (fun k => gone k && r.waiters.contains k)).wakeWord r.addr) else noUnit "RESERVATION_RELEASE"

end Sys2Proof.Machine
end

