-- ==== Sys2Proof/Machine/MoverOps.lean ====
section
/-! DEFINITION. What the mover's instructions and its events share: handles (R163, R164), the bytes a transfer reads and writes (R158),
the windows and buffers it names (R146, R149, R282), and the checks of a transfer's description (R156). -/

namespace Sys2Proof.Machine

/-! ## Handles (R163, R164) -/

/-- Whether a handle entry is valid, from its four doublewords (R164). R163 has MODULE be 0 while DOM is 0, and an entry that breaks this is taken as
one with a reserved field that is not zero (log entry 75). -/
def handleOk (d : List DWord) : Bool :=
  let a := nthDw d 0
  let b := nthDw d 1
  bit a 63 && bits a 50 9 == 0 && (bit a 59 || bits a 40 10 == 0) && bits b 40 24 == 0 && nthDw d 2 == 0 && nthDw d 3 == 0 &&
  bits a 0 8 == 0 && bits b 0 40 != 0 && decide (bits a 0 40 + bits b 0 40 ≤ 2 ^ 40)

/-- Where a handle's entry stands (R163). -/
def State.handleAt (s : State) (v h : Nat) : Nat := ((s.vi v).htbase.toNat + 32 * h) % 2 ^ 40

/-- A handle-table entry as the hardware reads it (R163, R164), a poisoned doubleword as zero (R109). -/
def State.handleEntry (s : State) (v h : Nat) : Option (DWord × DWord) :=
  if (s.vi v).htcount.toNat ≤ h then none
  else
    let d := loadedDws 4 (s.hbmFetch (s.handleAt v h) 32)
    if handleOk d then some (nthDw d 0, nthDw d 1) else none

/-- What reading a handle's entry must wait for (R101, R119). -/
def State.handleWait (s : State) (v h : Nat) : Option Park := if (s.vi v).htcount.toNat ≤ h then none else s.memWait (s.handleAt v h) 32 false

/-- A cached handle of a VI on a tile (R164). -/
def Tile.handle (t : Tile) (v h : Nat) : Option (DWord × DWord) :=
  (t.hcache.find? (fun e => e.1 == v && e.2.1 == h)).map (fun e => (e.2.2.1, e.2.2.2))

def hRd (e : DWord × DWord) : Bool := bit e.1 62
def hWr (e : DWord × DWord) : Bool := bit e.1 61
def hEras (e : DWord × DWord) : Bool := bit e.1 60
def hBase (e : DWord × DWord) : Nat := bits e.1 0 40
def hLen (e : DWord × DWord) : Nat := bits e.2 0 40
/-- The module whose memory a handle names. -/
def State.hModule (s : State) (e : DWord × DWord) : Nat := if bit e.1 59 then bits e.1 40 10 else s.md.number
/-- The place of an offset of a handle: this module's frames directly, a peer's through the domain cache (R164). -/
def hLoc (e : DWord × DWord) (off : Nat) : Loc :=
  if bit e.1 59 then .peer (bits e.1 40 10) (hBase e + off) else .hbm (hBase e + off)

/-! ## Places a transfer names -/

/-- A number for a byte of any memory: slices below 2^40, then each module's HBM. -/
def hbmPlace (m mma : Nat) : Nat := 2 ^ 60 + m * 2 ^ 44 + mma

/-- Global tile of the destination buffer of a transfer, without multicast (R154). -/
def State.dstTile (s : State) (gt : Nat) (t : Transfer) : Nat :=
  if t.regs[1] = 0 then gt else s.gtOf t.vi (mvDst t.regs)

/-- Global tiles that a transfer with DKIND 0 or 2 delivers to (R154, R176). -/
def State.dstTiles (s : State) (gt : Nat) (t : Transfer) : List Nat :=
  if mvMc t.regs then (mvTiles t.regs).map (fun n => (s.gtOf t.vi (mvDst t.regs)) / 128 * 128 + n)
  else if mvDkind t.regs = 2 then [s.dstTile gt t]
  else [s.gtOf t.vi (mvDst t.regs)]

/-- The virtual die of a destination buffer's tile (R154, R176). -/
def Transfer.dstVdie (t : Transfer) : Nat := if mvMc t.regs = false ∧ t.regs[1] = 0 then aVdie t.wp.toNat else aVdie (mvDst t.regs)

/-- Bytes that a transfer reads and writes by address or handle, as (place, bytes) (R158). -/
def State.xferReads (s : State) (t : Transfer) : List (Nat × Nat) :=
  match mvSkind t.regs with
  | 0 => (mvSrcRuns t.regs).map (fun r => (sramKey (s.gtOf t.vi (mvSrc t.regs)) (aOff r.1.toNat), r.2))
  | 1 => (mvSrcRuns t.regs).map (fun r => (hbmPlace (s.hModule t.srcH) (hBase t.srcH + r.1.toNat), r.2))
  | _ => []
def State.xferWrites (s : State) (gt : Nat) (t : Transfer) : List (Nat × Nat) :=
  match mvDkind t.regs with
  | 0 => (s.dstTiles gt t).flatMap (fun d => (mvDstRuns t.regs).map (fun r => (sramKey d (aOff r.1.toNat), r.2)))
  | 1 => (mvDstRuns t.regs).map (fun r => (hbmPlace (s.hModule t.dstH) (hBase t.dstH + r.1.toNat), r.2))
  | 4 =>
    let res := (nthDw t.record 2).toNat
    let w := if mvOpc t.regs = 0x13 then bits (nthDw t.record 0) 0 16 * 8 else bits (nthDw t.record 4) 0 32 * (tyWidth (bits (nthDw t.record 0) 40 5) / 8)
    [(sramKey (s.gtOf t.vi res) (aOff res), w)]
  | _ => []

/-- Whether two lists of ranges share a byte. -/
def rangesMeet (a b : List (Nat × Nat)) : Bool := a.any (fun x => b.any (fun y => decide (x.1 < y.1 + y.2) && decide (y.1 < x.1 + x.2)))

/-- Pages of a buffer side (0 reserve, 1 acquire) as byte ranges: those open, and of the `more` to come as many as the counters allow now (log
entry 74). -/
def State.sidePages (s : State) (g h side : Nat) (opened : List Nat) (more : Nat) : List (Nat × Nat) :=
  let b := s.cb g h
  let k := if side = 0 then b.resv else b.taken
  let top := if side = 0 then b.popped + b.pages else b.pushed
  (opened ++ (List.range (min more (top - k))).map (k + ·)).map (fun k => (sramKey g (b.pageOff k), 2 ^ b.plog))

/-- The pages that a transfer reads, and those it writes. -/
def State.pageReads (s : State) (gt : Nat) (t : Transfer) : List (Nat × Nat) :=
  if mvSkind t.regs = 2 then s.sidePages gt (mvSbuf t.regs) 1 t.srcPage.toList ((mvSrcBytes t.regs - t.read) / 2 ^ (s.cb gt (mvSbuf t.regs)).plog) else []
def State.pageWrites (s : State) (gt : Nat) (t : Transfer) : List (Nat × Nat) :=
  if mvDkind t.regs = 2 then (s.dstTiles gt t).flatMap (fun g => s.sidePages g (mvDbuf t.regs) 0 ((t.dstPages.filter (fun p => p.1 == g)).map (·.2.1))
    ((mvNominal t.regs - t.done) / 2 ^ (s.cb g (mvDbuf t.regs)).plog)) else []

/-- The bytes that a transfer reads and writes, those of buffer pages apart: pages are ordered among themselves by their buffers' counters (R143). -/
structure Foot where
  reads : List (Nat × Nat) := []
  writes : List (Nat × Nat) := []
  pageReads : List (Nat × Nat) := []
  pageWrites : List (Nat × Nat) := []
  deriving DecidableEq, Repr

def Foot.plus (a b : Foot) : Foot := ⟨a.reads ++ b.reads, a.writes ++ b.writes, a.pageReads ++ b.pageReads, a.pageWrites ++ b.pageWrites⟩

/-- The bytes of a transfer, or of a chain's descriptor in force. -/
def State.foot (s : State) (gt : Nat) (t : Transfer) : Foot := ⟨s.xferReads t, s.xferWrites gt t, s.pageReads gt t, s.pageWrites gt t⟩

/-- Whether bytes meet those of an earlier transfer: it reads what that one writes, or writes what that one reads or writes (R158). -/
def Foot.meets (a b : Foot) : Bool :=
  rangesMeet a.reads (b.writes ++ b.pageWrites) || rangesMeet a.pageReads b.writes ||
  rangesMeet a.writes (b.reads ++ b.pageReads ++ b.writes ++ b.pageWrites) || rangesMeet a.pageWrites (b.reads ++ b.writes)

/-- A descriptor's transfer, for the bytes it names. -/
def State.descForm (s : State) (t : Transfer) (d : List DWord) : Transfer :=
  let r := descRegs t.regs d
  let e (h : Nat) : DWord × DWord := (s.handleEntry t.vi h).getD (0, 0)
  { t with regs := r, srcH := e (mvSh r), dstH := e (mvDh r), isChain := false, srcPage := none, dstPages := [], read := 0, done := 0 }

/-- The bytes of the descriptors that a chain has still to fetch, from the one at flat address `a` on, as memory holds them now, and of the fetches
and predicate reads themselves (R158, R167). A chain longer than the fuel shows its first descriptors only (log entry 76). -/
def State.chainFoot (s : State) (gt : Nat) (t : Transfer) : Nat → Option Nat → Foot
  | 0, _ => {}
  | _, none => {}
  | fuel + 1, some a =>
    match s.sramPlace t.vi a with
    | .ok (g, off) =>
      (match (s.tile g).redirect false off with
       | .at_ o =>
         let d := dwordsOf 8 ((s.fetch (sramKey g o) 64).map (·.1))
         let p := bits (nthDw d 7) 0 56
         let own : Foot := { reads := (sramKey g off, 64) :: (if bit (nthDw d 7) 63 then [(sramKey (s.gtOf t.vi p) (aOff p), 4)] else []) }
         (own.plus (s.foot gt (s.descForm t d))).plus (s.chainFoot gt t fuel (if nthDw d 6 = 0 then none else some (nthDw d 6).toNat))
       | .second _ => {})
    | _ => {}

/-- The bytes of a transfer in flight: for a chain, those of the descriptor in force, of the fetched one and of those to come (R158). -/
def State.wholeFoot (s : State) (gt : Nat) (t : Transfer) : Foot :=
  if t.isChain then
    ((if t.inForce then s.foot gt t else {}).plus (match t.ahead with | some a => if a.code = 0 ∧ a.skip = false then s.foot gt (s.descForm t a.desc) else {} | none => {})).plus
      (s.chainFoot gt t 256 t.chain)
  else s.foot gt t

/-- Whether a transfer of tile gt names window w of tile wt as source or destination (R149, R168, R282). -/
def State.xferNamesWin (s : State) (gt : Nat) (t : Transfer) (wt w : Nat) : Bool :=
  let x := s.win wt w
  let r := [(sramKey wt x.base, x.size)]
  (t.detWin == some w && gt == wt) || (x.valid && (!t.isChain || t.inForce) && (rangesMeet (s.xferReads t) r || rangesMeet (s.xferWrites gt t) r))

/-- Whether a transfer of tile gt names buffer h of tile bt (R146). -/
def State.xferNamesCb (s : State) (gt : Nat) (t : Transfer) (bt h : Nat) : Bool :=
  (!t.isChain || t.inForce) && ((mvSkind t.regs == 2 && mvSbuf t.regs == h && gt == bt) || (mvDkind t.regs == 2 && mvDbuf t.regs == h && (s.dstTiles gt t).contains bt))

/-! ## The checks of a transfer's description (R156, R182, R385) -/

/-- What a failed check of a description is: an illegal operand, a fault of an address, a translation to wait for, a handle or a buffer. -/
inductive XferBad where
  | shape
  | domain
  | addr (code a : Nat)
  | wait (p : Park)
  | handle (h : Nat)
  | srcBuf (h : Nat)
  | dstBuf (h : Nat)
  deriving DecidableEq, Repr

/-- One address side: its lowest and its highest byte pass R92 and lie in one slice; bytes in different slices are an address fault (R156, log
entry 75). Whether the VI's windows cover the bytes is found when the transfer touches them (R407). -/
def State.sideOk (s : State) (w : Who) (gt right : Nat) (e : Int × Int) : Option XferBad :=
  let one (a : Int) : XferBad ⊕ Nat :=
    if a < 0 ∨ (2 : Int) ^ 56 ≤ a then .inl (.addr 0x04 (a % 2 ^ 64).toNat)
    else if aRegion a.toNat = 0 then
      match s.sramPlace w.vi a.toNat with
      | .ok p => .inr p.1
      | .trap c => .inl (.addr c a.toNat)
      | _ => .inl (.addr 0x04 a.toNat)
    else match s.check1 w gt right a.toNat with
      | .trap c => .inl (.addr c a.toNat)
      | .park p => .inl (.wait p)
      | _ => .inl (.addr 0x04 a.toNat)
  match one e.1, one e.2 with
  | .inl x, _ => some x
  | _, .inl x => some x
  | .inr g, .inr g' => if g = g' then none else some (.addr 0x04 (e.2 % 2 ^ 64).toNat)

/-- BAR and CTR (R156). -/
def State.wordOk (s : State) (w : Who) (gt a align : Nat) : Option XferBad :=
  if a = 0 then none
  else if a % align ≠ 0 then some (.addr 0x04 a)
  else s.sideOk w gt rWR ((a : Int), (a : Int) + align - 1)

/-- The first of several checks that fails. -/
def firstBad : List (Option XferBad) → Option XferBad
  | [] => none
  | some x :: _ => some x
  | none :: r => firstBad r

/-- The destination rule of an open domain (R182, R385). -/
def State.domainDstOk (s : State) (t : Transfer) (gt : Nat) : Bool :=
  mvBar t.regs == 0 && !mvMc t.regs &&
  (match mvDkind t.regs with
   | 0 =>
     let e := mvDstExtent t.regs
     let g := s.gtOf t.vi (mvDst t.regs)
     (match (s.tile g).winAt (aOff e.1.toNat) with
      | some w => (s.tile g).winAt (aOff e.2.toNat) == some w
      | none => false)
   | 2 => (s.cb (s.dstTile gt t) (mvDbuf t.regs)).prot
   | _ => false)

/-- The checks of R156 from the shape on, for a transfer of tile gt; handle entries stand in the transfer, none where invalid. -/
def State.xferCheck (s : State) (w : Who) (gt : Nat) (t : Transfer) (src dst : Option (DWord × DWord)) : Option XferBad :=
  let r := t.regs
  let inH (e : Option (DWord × DWord)) (right : DWord × DWord → Bool) (x : Int × Int) (h : Nat) : Option XferBad :=
    match e with
    | none => some (.handle h)
    | some y => if right y && decide (0 ≤ x.1) && decide (x.2 < hLen y) then none else some (.handle h)
  if !mvShapeOk r then some .shape
  else if t.depth ≠ 0 ∧ s.domainDstOk t gt = false then some .domain
  else firstBad [
    if mvSkind r = 0 then s.sideOk w gt rRD (mvSrcExtent r) else none,
    if mvDkind r = 0 then firstBad ((if mvMc r then mvTiles r else [bits r[1] 39 7]).map (fun n =>
      let e := mvDstExtent r
      let up : Int := if mvMc r then ((n * 2 ^ 39 : Nat) : Int) else 0
      s.sideOk w gt rWR (e.1 + up, e.2 + up))) else none,
    s.wordOk w gt (mvBar r) 32, s.wordOk w gt (mvCtr r) 8,
    if mvSkind r = 1 then inH src hRd (mvSrcExtent r) (mvSh r) else none,
    if mvDkind r = 1 then inH dst hWr (mvDstExtent r) (mvDh r) else none,
    if mvSkind r = 2 then (let b := s.cb gt (mvSbuf r); if b.valid && b.owner == t.vi then none else some (.srcBuf (mvSbuf r))) else none,
    if mvDkind r = 2 ∧ (s.dstTiles gt t).contains gt = true then (let b := s.cb gt (mvDbuf r); if b.valid && b.owner == t.vi then none else some (.dstBuf (mvDbuf r))) else none,
    if mvDkind r = 2 ∧ r[1] ≠ 0 then s.sideOk w gt rWR ((mvDst r : Int), (mvDst r : Int)) else none]

end Sys2Proof.Machine
end

