-- ==== Sys2Proof/Machine/Mover.lean ====
section
/-! DEFINITION. The mover's instructions (R155, R156, R162, R166 to R169, R182, R285): the shadow set, launching transfers and chains, and
reading a transfer's status. -/

namespace Sys2Proof.Machine

/-- MVSET (R155): reserved fields read as zero (R151). -/
def execMvset (e a : BitVec 5) (q : BitVec 4) (s : State) : Host.Outcome State Fault Refusal :=
  run (.mvset e a q) q s (fun s =>
    let x := s.cur.rdG a
    let n := e.toNat
    .next (s.modCur (fun t => { t.noteReads [a] with mv := {
      regs := t.mv.regs.set! n (x.v &&& mvMask n)
      pois := if x.p then t.mv.pois ||| (1#11 <<< n) else t.mv.pois &&& ~~~(1#11 <<< n)
      taint := if x.t && t.det then t.mv.taint ||| (1#11 <<< n) else t.mv.taint &&& ~~~(1#11 <<< n) } })))

/-- MVGET (R155). -/
def execMvget (e d : BitVec 5) (q : BitVec 4) (s : State) : Host.Outcome State Fault Refusal :=
  run (.mvget e d q) q s (fun s =>
    let m := s.cur.mv
    let n := e.toNat
    .next (s.modCur (fun t => t.wrG d ⟨m.regs.toList.getD n 0, m.pois.getLsbD n, m.taint.getLsbD n⟩)))

/-- Whether the tile's table takes a new transfer (R157). -/
def State.xferRoom (s : State) : Bool :=
  let t := s.tile (s.taskGt s.cur)
  decide (t.xfers.countP (fun e => e.2.inFlight) < 256) && !(tget { state := 2 } t.xfers (t.xctr.toNat % 1024)).inFlight

/-- Shadow fields that a single transfer uses (R156). -/
def mvUsed (r : MvRegs) : List Nat :=
  [0, 1] ++ (if mvSkind r = 1 ∨ mvDkind r = 1 then [2] else []) ++ [3, 4, 5, 6, 7, 8, 9] ++ (if mvMc r then [10] else [])
/-- Shadow fields that a chain uses (R169). -/
def chUsed (r : MvRegs) : List Nat := [7, 8, 9] ++ (if mvMc r then [10] else [])

/-- Poison, then taint, of used shadow fields (R156); the detail is a free value (log entry 9). -/
def checkShadow (s : State) (ns : List Nat) (k : Act) : Act :=
  let m := s.cur.mv
  if ns.any (fun n => m.pois.getLsbD n) then .trap s.tick { code := 0x0D, info := Config.trapInfo s.fresh }
  else if s.cur.det && ns.any (fun n => m.taint.getLsbD n) then .trap s.tick { code := 0x0E, info := Config.trapInfo s.fresh }
  else k

/-- A failed check as a fault of the issuing task (R156). -/
def badXfer (s : State) (b : XferBad) : Act :=
  match b with
  | .shape => illegalOperand s
  | .domain => illegalOperand s
  | .addr c a => chkAct s a (.trap c : Chk Unit) (fun _ => faultAt s c a)
  | .wait p => .park s p
  | .handle h => .trap s { code := 0x0A, info := dw h }
  | .srcBuf h => checkHandle s h (fun _ => fault s 0x09)
  | .dstBuf h => checkHandle s h (fun _ => fault s 0x09)

/-- A handle that a launch names: its entry, none where a fill found it invalid, or the park for its fill (R156, R164). -/
def withEntry (s : State) (h : Nat) (k : Option (DWord × DWord) → Act) : Act :=
  match (s.tile (s.taskGt s.cur)).handle s.cur.vi h with
  | some e => k (some e)
  | none => if s.cur.sch.badHandles.contains h then k none else .park s (.handle h)

/-- A new entry of the transfer table (R157): the state, and the identifier as gd receives it. -/
def State.launchXfer (s : State) (t : Transfer) : State × Nat :=
  let gt := s.taskGt s.cur
  let id := (s.tile gt).xctr.toNat
  (s.modTile gt (fun x => { x with xctr := x.xctr + 1, xfers := tinsert x.xfers (id % 1024) { t with id := id } }), id)

/-- CTR of a transfer launched inside a domain is a counter update of the nest (R385). -/
def logCtr (s : State) (r : MvRegs) (k : State → Act) : Act :=
  if s.cur.depth = 0 ∨ mvCtr r = 0 then k s
  else match s.logUpdate (mvCtr r) false 1 with
    | some s' => k s'
    | none => illegalOperand s

/-- Notes of fills are dropped once the instruction has executed. -/
def State.clearBad (s : State) : State := s.modCur (fun t => t.modSch (fun x => { x with badHandles := [] }))

/-! ## Collective records (R283 to R286) -/

def colTag (d : List DWord) : Nat := bits (nthDw d 0) 48 16
def colType (d : List DWord) : Nat := bits (nthDw d 0) 40 5
def colFmt (d : List DWord) : Nat := bits (nthDw d 0) 36 1
def colSat (d : List DWord) : Bool := bit (nthDw d 0) 35
def colRm (d : List DWord) : Nat := bits (nthDw d 0) 32 3
def colK (d : List DWord) : Nat := bits (nthDw d 0) 0 16
def colRes (d : List DWord) : Nat := (nthDw d 2).toNat
def colKey (d : List DWord) : DWord := nthDw d 3
def colBase (d : List DWord) : Nat := bits (nthDw d 4) 32 32
def colElems (d : List DWord) : Nat := bits (nthDw d 4) 0 32
/-- The modules that a record selects, rising (R284). -/
def colMembers (d : List DWord) : List Nat := (List.range 1024).filter (fun n => bit (nthDw d 1) (32 + n / 32) && bit (nthDw d 1) (n % 32))

/-- Element types that an operation accepts (R283). -/
def colTypeOk (opc fmt ty : Nat) : Bool :=
  match opc with
  | 0x10 => if fmt = 0 then [21, 22, 23, 3, 11, 4, 12].contains ty else [21, 22, 23, 24].contains ty
  | 0x13 => [23, 3, 11].contains ty
  | _ => fmt == 0 && [21, 22, 23, 24, 3, 11, 4, 12].contains ty

/-- Source and result bytes of a collective (R283). -/
def colSrcBytes (opc : Nat) (d : List DWord) : Nat :=
  if opc = 0x13 ∧ colFmt d = 1 then colElems d * 8 else colElems d * (tyWidth (colType d) / 8)
def colResBytes (opc : Nat) (d : List DWord) : Nat := if opc = 0x13 then colK d * 8 else colElems d * (tyWidth (colType d) / 8)

/-- The checks of R285 on a record already read. -/
def State.recordOk (s : State) (r : MvRegs) (d : List DWord) : Bool :=
  let opc := mvOpc r
  let topk := opc == 0x13
  let present := s.md.number :: s.md.present
  mvDst r % 64 == 0 && aRegion (mvDst r) == 0 && bits (nthDw d 0) 45 3 == 0 && bits (nthDw d 0) 37 3 == 0 && bits (nthDw d 0) 16 16 == 0 &&
  nthDw d 5 == 0 && nthDw d 6 == 0 && nthDw d 7 == 0 && colTypeOk opc (colFmt d) (colType d) && decide (colRm d ≤ 5) &&
  (if topk then decide (1 ≤ colK d ∧ colK d ≤ 4096) else colK d == 0) && decide (1 ≤ colElems d ∧ colElems d ≤ 16777216) &&
  mvLen r == colSrcBytes opc d && !(topk && colFmt d == 1 && colBase d != 0) && bits (nthDw d 1) 0 32 != 0 && bits (nthDw d 1) 32 32 != 0 &&
  (colMembers d).contains s.md.number && (colMembers d).all (fun n => present.contains n) &&
  colRes d % (if topk then 8 else tyWidth (colType d) / 8) == 0 &&
  aRegion (colRes d) == 0 && decide (colRes d + colResBytes opc d ≤ 2 ^ 56) &&
  (match s.sramPlace s.cur.vi (colRes d), s.sramPlace s.cur.vi (colRes d + colResBytes opc d - 1) with
   | .ok a, .ok b => a.1 == b.1
   | _, _ => false)

/-- Count one more use of a tag (R286). -/
def State.useTag (s : State) (tag : Nat) : State × Nat :=
  let n := tget 0 s.tagUses tag
  ({ s with tagUses := tset 0 s.tagUses tag ((n + 1) % 65536) }, n)

/-! ## Launches -/

/-- MVGO (R156). -/
def execMvgo (d : BitVec 5) (q : BitVec 4) (s : State) : Host.Outcome State Fault Refusal :=
  run (.mvgo d q) q s (fun s =>
    let r := s.cur.mv.regs
    let gt := s.taskGt s.cur
    if !s.xferRoom then .retry s
    else releaseWait s (
      let src (k : Option (DWord × DWord) → Act) : Act := if mvSkind r = 1 then withEntry s (mvSh r) k else k none
      let dst (k : Option (DWord × DWord) → Act) : Act := if mvDkind r = 1 then withEntry s (mvDh r) k else k none
      src (fun hs => dst (fun hd =>
        let s0 := s.clearBad
        checkShadow s0 (mvUsed r) (
          let t : Transfer := { vi := s.cur.vi, wp := s.cur.wp, regs := r, srcH := hs.getD (0, 0), dstH := hd.getD (0, 0), det := s.cur.det, depth := s.cur.depth }
          match s0.xferCheck s0.cur.who gt t hs hd with
          | some b => badXfer s0 b
          | none =>
            let go (s : State) (t : Transfer) : Act := logCtr s r (fun s =>
              let x := s.launchXfer t
              .next (x.1.modCur (fun u => u.wrG d ⟨dw x.2, false, true⟩)))
            if mvDkind r = 4 then withDws s0 (mvDst r) 8 (fun s d =>
              if !s.recordOk r d then illegalOperand s
              else let u := s.useTag (colTag d); go u.1 { t with record := d, use := u.2 })
            else go s0 t)))))

/-- The window of the issuing tile that holds a chain's first descriptor in deterministic mode (R168). -/
def State.chainWin (s : State) (ga : Nat) : Option Nat :=
  if s.gtOf s.cur.vi ga = s.taskGt s.cur then (s.tile (s.taskGt s.cur)).winAt (aOff ga) else none

/-- MVCHAIN (R169). -/
def execMvchain (a d : BitVec 5) (q : BitVec 4) (s : State) : Host.Outcome State Fault Refusal :=
  run (.mvchain a d q) q s (fun s =>
    let r := s.cur.mv.regs
    let gt := s.taskGt s.cur
    let ga := (s.cur.rdG a).v.toNat
    if !s.xferRoom then .retry s
    else releaseWait s (checkShadow s (chUsed r) (checkRegs s [a] (
      if ¬ (1 ≤ mvScope r ∧ mvScope r ≤ 4) ∨ (mvMc r = true ∧ mvRectOk r = false) then illegalOperand s
      else if s.cur.depth ≠ 0 ∧ (mvBar r ≠ 0 ∨ mvMc r = true) then illegalOperand s
      else
        match firstBad [if ga % 64 ≠ 0 then some (.addr 0x04 ga) else s.sideOk s.cur.who gt rRD ((ga : Int), (ga : Int) + 63),
          s.wordOk s.cur.who gt (mvBar r) 32, s.wordOk s.cur.who gt (mvCtr r) 8] with
        | some b => badXfer s b
        | none =>
          let w := s.chainWin ga
          if s.cur.det && w.isNone then illegalOperand s
          else logCtr s r (fun s =>
            let x := s.launchXfer { vi := s.cur.vi, wp := s.cur.wp, regs := r, isChain := true, chain := some ga, det := s.cur.det, depth := s.cur.depth,
                                    detWin := if s.cur.det then w else none }
            .next (x.1.modCur (fun u => (u.noteReads [a]).wrG d ⟨dw x.2, false, true⟩)))))))

/-! ## Status (R162) -/

/-- The status that an identifier of the issuing task's VI reads. -/
def State.xferStatus (s : State) (id : Nat) : Option Transfer :=
  match (s.tile (s.taskGt s.cur)).xfers.find? (fun e => e.1 == id % 1024) with
  | some e => if e.2.id = id ∧ e.2.vi = s.cur.vi then some e.2 else none
  | none => none

/-- EXPIRED (R162). -/
def expired (id : Nat) : DWord := dw (id * 2 ^ 48 + 16)

/-- The operand check that MVTST and MVWAIT share (R162). -/
def withId (a : BitVec 5) (s : State) (k : Nat → Act) : Act :=
  let x := s.cur.rdG a
  if x.p then faultReg s 0x0D 0 a.toNat
  else if bits x.v 16 48 ≠ 0 then illegalOperand s
  else k (bits x.v 0 16)

/-- MVTST (R162). -/
def execMvtst (a d : BitVec 5) (q : BitVec 4) (s : State) : Host.Outcome State Fault Refusal :=
  run (.mvtst a d q) q s (fun s => withId a s (fun id =>
    let v := match s.xferStatus id with | some t => t.status | none => expired id
    .next (s.modCur (fun t => (t.noteReads [a]).wrG d ⟨v, false, true⟩))))

/-- MVWAIT (R162, R184): returning a completed transfer's status is an acquire (R363). -/
def execMvwait (a d : BitVec 5) (q : BitVec 4) (s : State) : Host.Outcome State Fault Refusal :=
  run (.mvwait a d q) q s (fun s => withId a s (fun id =>
    match s.xferStatus id with
    | none => .next (s.modCur (fun t => (t.noteReads [a]).wrG d ⟨expired id, false, true⟩))
    | some x =>
      if x.inFlight then .park s (.transfer id)
      else releaseWait s (.next (s.modCur (fun t => (t.noteReads [a]).wrG d ⟨x.status, false, false⟩)))))

end Sys2Proof.Machine
end

