-- ==== Sys2Proof/Machine/Barrier.lean ====
section
/-! DEFINITION. Copy barriers (R178 to R180) and WAITC (R334). -/

namespace Sys2Proof.Machine

/-! ## The barrier record (R178, R179) -/

/-- A copy barrier. -/
structure Barrier where
  owed : Nat
  round : Nat
  seats : Nat
  quota : Nat
  lfail : Bool
  lpois : Bool
  fail : Bool
  pois : Bool
  deriving DecidableEq, Repr

def barRead (l : List DWord) : Barrier :=
  let d1 := nthDw l 1
  let d2 := nthDw l 2
  ⟨bits (nthDw l 0) 0 40, bits d1 32 32, bits d1 0 32, bits d2 32 32, bit d2 3, bit d2 2, bit d2 1, bit d2 0⟩

def Barrier.words (b : Barrier) : List DWord :=
  [dw (b.owed % 2 ^ 40), dw (b.round % 2 ^ 32 * 2 ^ 32 + b.seats % 2 ^ 32),
   dw (b.quota % 2 ^ 32 * 2 ^ 32 + (if b.lfail then 8 else 0) + (if b.lpois then 4 else 0) + (if b.fail then 2 else 0) + (if b.pois then 1 else 0)), 0]

/-- close() of R179. -/
def Barrier.close (b : Barrier) : Barrier :=
  if b.seats = 0 ∧ (b.owed = 0 ∨ b.fail = true) then
    { b with lpois := b.pois, lfail := b.fail, pois := false, fail := false, owed := 0, seats := b.quota, round := (b.round + 1) % 2 ^ 32 }
  else b

/-- seat(bytes) of R179; the ticket is the round before. -/
def Barrier.seat (b : Barrier) (n : Nat) : Barrier := ({ b with seats := b.seats - 1, owed := (b.owed + n) % 2 ^ 40 } : Barrier).close

/-- deliver(bytes, stopped, poisoned) of R179. -/
def Barrier.deliver (b : Barrier) (n : Nat) (stopped poisoned : Bool) : Barrier :=
  let b1 := if stopped then { b with fail := true } else { b with owed := (b.owed + 2 ^ 40 - n % 2 ^ 40) % 2 ^ 40 }
  ({ b1 with pois := b1.pois || poisoned } : Barrier).close

/-- Whether round t has completed (R179). -/
def Barrier.passed (b : Barrier) (t : Nat) : Bool := decide ((b.round + 2 ^ 33 - t % 2 ^ 32 - 1) % 2 ^ 32 < 2 ^ 31)

/-- The barrier at a slice key, and storing it. -/
def State.bar (s : State) (k : Nat) : Barrier := barRead (s.getDws k 4)
def State.setBar (s : State) (k : Nat) (b : Barrier) : State := s.putDws k b.words

/-! ## The barrier instructions (R180) -/

/-- The fault rows of R180 from the third on; the place is a slice key. `written` asks for a written granule. -/
def withBarrier (s : State) (e : Nat) (ga : Nat) (written : Bool) (k : Nat → Act) : Act :=
  let gt := s.taskGt s.cur
  if aRegion ga ≠ 0 ∨ ga % 32 ≠ 0 then illegalOperand s
  else chkAct s ga (s.check s.cur.who gt rAny ga 32) (fun l =>
    match l with
    | .sram g off =>
      if ((s.tile g).winAt off).isSome || (s.tile g).inSecond off then faultAt s 0x08 ga
      else
        let st := (s.gran g (off / 256)).state
        if written && (st == 0 || st == 1) then faultAt s 0x04 ga
        else if written && st == 3 then .park s (.granule (sramKey g off))
        else if e ≠ 0 ∧ inScope e gt g = false then illegalOperand s
        else k (sramKey g off)
    | _ => illegalOperand s)

/-- BXINIT (R180). -/
def execBxinit (a d : BitVec 5) (q : BitVec 4) (s : State) : Host.Outcome State Fault Refusal :=
  run (.bxinit a d q) q s (fun s => notInDomain s (checkRegs s [a, d] (
    let ga := (s.cur.rdG a).v.toNat
    let gb := (s.cur.rdG d).v.toNat
    withBarrier s 0 ga false (fun _ =>
      if gb = 0 ∨ 2 ^ 32 ≤ gb then illegalOperand s
      else withStore s ga ((Barrier.words ⟨0, 0, gb, gb, false, false, false, false⟩).flatMap (fun x => toBytes 8 x.toNat)) (List.replicate 32 false)
        (fun s => .next (s.modCur (fun t => t.noteReads [a, d])))))))

/-- BXARV (R180): a release, so the task's earlier engine writes come first. The spec gives the operand range no place among the fault rows; the
four forms check it after them (log entry 78). -/
def execBxarv (e a d : BitVec 5) (q : BitVec 4) (s : State) : Host.Outcome State Fault Refusal :=
  run (.bxarv e a d q) q s (fun s => notInDomain s (checkRegs s [a, d] (
    let ga := (s.cur.rdG a).v.toNat
    let n := (s.cur.rdG d).v.toNat
    withBarrier s e.toNat ga true (fun k =>
      if 2 ^ 40 ≤ n then illegalOperand s
      else releaseWait s (
        let b := s.bar k
        if b.seats = 0 then .park s (.seat ga b.round)
        else match s.writeHeld s.cur.key (.sram (k / 2 ^ 25) (k % 2 ^ 25)) 32 with
        | some r => .park s (.grant r)
        | none => .next ((s.setBar k (b.seat n)).modCur (fun t => (t.noteReads [a, d]).wrG d ⟨dw b.round, false, true⟩)))))))

/-- BXWAIT (R180): the ticket may be tainted. -/
def execBxwait (e a d : BitVec 5) (q : BitVec 4) (s : State) : Host.Outcome State Fault Refusal :=
  run (.bxwait e a d q) q s (fun s =>
    if (s.cur.rdG a).p then faultReg s 0x0D 0 a.toNat
    else if (s.cur.rdG d).p then faultReg s 0x0D 0 d.toNat
    else checkTaint s [a] (syncCheck s (
      let ga := (s.cur.rdG a).v.toNat
      let t := (s.cur.rdG d).v.toNat
      withBarrier s e.toNat ga true (fun k =>
        if 2 ^ 32 ≤ t then illegalOperand s
        else releaseWait s (if (s.bar k).passed t then .next (s.modCur (fun u => u.noteReads [a, d]))
        else .park s (.round ga t))))))

/-- BXTST (R180). -/
def execBxtst (e a d : BitVec 5) (q : BitVec 4) (s : State) : Host.Outcome State Fault Refusal :=
  run (.bxtst e a d q) q s (fun s => checkRegs s [a] (
    let ga := (s.cur.rdG a).v.toNat
    withBarrier s e.toNat ga true (fun k =>
      let b := s.bar k
      let v := dw (b.round * 2 ^ 32 + (if b.lfail then 8 else 0) + (if b.lpois then 4 else 0) + (if b.fail then 2 else 0) + (if b.pois then 1 else 0))
      releaseWait s (.next (s.modCur (fun t => (t.noteReads [a]).wrG d ⟨v, false, true⟩))))))

/-! ## WAITC (R334) -/

/-- Whether a counter word has reached a threshold (R334). -/
def reached (m th : DWord) : Bool := decide ((m - th).toNat < 2 ^ 63)

/-- Whether a scope code contains a word's place (R334). -/
def waitScopeOk (e gt : Nat) (l : Loc) : Bool :=
  match l with
  | .sram g _ => inScope e gt g
  | .hbm _ => decide (3 ≤ e)
  | .peer _ _ => e == 4
  | .ctrl _ _ _ => false

/-- The counter word at a place as WAITC reads it: bytes with marks, or what stops the read. -/
def State.counterWord (s : State) (vdie : Nat) (l : Loc) : Rd := s.readLoc .atomic 0 vdie [] l 8

/-- WAITC (R334). -/
def execWaitc (e a d : BitVec 5) (q : BitVec 4) (s : State) : Host.Outcome State Fault Refusal :=
  run (.waitc e a d q) q s (fun s => checkRegs s [a, d] (syncCheck s (
    let ga := (s.cur.rdG a).v.toNat
    let th := (s.cur.rdG d).v
    let gt := s.taskGt s.cur
    chkAct s ga (s.check s.cur.who gt rRD ga 8) (fun l =>
      if l.isCtrl then faultAt s 0x04 ga
      else if ga % 8 ≠ 0 then faultAt s 0x06 ga
      else
        let window := match l with | .sram g off => ((s.tile g).winAt off).isSome || (s.tile g).inSecond off | _ => false
        if window then faultAt s 0x08 ga
        else if !waitScopeOk e.toNat gt l then illegalOperand s
        else releaseWait s (
          let r := s.counterWord s.cur.vdie l
          match r.stop with
          | some c => chkAct s ga c (fun _ => faultAt s 0x04 ga)
          | none =>
            if r.bytes.any (·.2) then .trap s.tick { code := 0x0D, info := Config.trapInfo s.fresh }
            else if reached (dw (ofBytes (r.bytes.map (·.1)))) th then .next (s.modCur (fun t => t.noteReads [a, d]))
            else .park s (.counter ga th))))))

end Sys2Proof.Machine
end

