-- ==== Sys2Proof/Machine/Cells.lean ====
section
/-! DEFINITION. What a matrix command computes (10_matrix_engine.md): configuration words (R249), operand layouts (R251), the step
(R256), the drain (R273), block images (R275) and the unfold unit's tensor (R258). -/

namespace Sys2Proof.Machine

/-! ## Configuration words (R249) -/

def cfgFa (w : DWord) : Nat := bits w 0 5
def cfgFb (w : DWord) : Nat := bits w 5 5
def cfgSc (w : DWord) : Bool := bit w 10
/-- Window base, 9-bit two's complement. -/
def cfgWb (w : DWord) : Int := sval 9 (bits w 12 9)
/-- Step depth K. -/
def cfgK (w : DWord) : Nat := 32 * (bits w 24 5 + 1)
/-- Whether the configuration makes a block wide: a BF16 pair (R84). -/
def cfgWide (w : DWord) : Bool := cfgFa w == 22
/-- Operand sizes of a step (R251). -/
def cfgSa (w : DWord) : Nat := 4 * cfgK w * tyWidth (cfgFa w)
def cfgSb (w : DWord) : Nat := 4 * cfgK w * tyWidth (cfgFb w)
/-- The grain L of a pair (R84). -/
def cfgL (w : DWord) : Int := tyGrain (cfgFa w) + tyGrain (cfgFb w)

/-- Types that may carry MX scales. -/
def mxScaled (y : Nat) : Bool := [16, 17, 18, 19, 20, 1].contains y

/-- The checks of R249 on the word alone, for block n. -/
def cfgOk (n : Nat) (w : DWord) : Bool :=
  bits w 29 35 == 0 && bits w 21 3 == 0 && !bit w 11 && pairOk (cfgFa w) (cfgFb w) &&
  (!cfgSc w || (mxScaled (cfgFa w) && mxScaled (cfgFb w))) && (cfgSc w || bits w 12 9 == 0) &&
  decide (-254 ≤ cfgWb w ∧ cfgWb w ≤ 223) && (!cfgWide w || n == 0)

/-! ## The step (R256) -/

/-- An operand as read: element i, scale i, and the poison of an element run and of a scale. -/
structure Operand where
  elem : Nat → Nat
  scale : Nat → Nat
  pois : Nat → Nat → Bool
  spois : Nat → Nat → Bool

/-- An operand from its element bytes and scale bytes with marks (R251). -/
def operandOf (w : Nat) (bs : List (Byte × Bool)) (ss : List (Byte × Bool)) : Operand :=
  let n := ofBytes (bs.map (·.1))
  let m := ofBytes (ss.map (·.1))
  let any (l : List (Byte × Bool)) (lo k : Nat) : Bool := ((l.drop lo).take k).any (·.2)
  { elem := fun i => packedGet w i n
    scale := fun i => packedGet 8 i m
    pois := fun i k => any bs (i * w / 8) (((i + k) * w + 7) / 8 - i * w / 8)
    spois := fun i k => any ss i k }

/-- One pair's contribution, or a window fault (R85, R86, R87). -/
def pairStep (cfg : DWord) (x y xs ys : Nat) : StepSum × Bool :=
  let a := elemVal (cfgFa cfg) x
  let b := elemVal (cfgFb cfg) y
  if cfgSc cfg && (xs == 255 || ys == 255) then ({ nan := true }, false)
  else if a.isNan || b.isNan then ({ nan := true }, false)
  else if (a.isInf && b.isZero) || (a.isZero && b.isInf) then ({ nan := true }, false)
  else if a.isInf || b.isInf then (if a.neg != b.neg then { ninf := true } else { pinf := true }, false)
  else match a, b with
  | .fin na ma qa, .fin nb mb qb =>
    let s : Int := if cfgSc cfg then (xs : Int) + (ys : Int) - 254 else 0
    if s < cfgWb cfg ∨ cfgWb cfg + 31 < s then ({}, true)
    else
      let c := contribution (na != nb) ma mb (qa + qb - cfgL cfg + (s - cfgWb cfg)).toNat
      ({ t := c.1, res := c.2 }, false)
  | _, _ => ({}, false)

/-- All of a step's contributions to one cell (R256, R87). -/
def cellStep (cfg : DWord) (a b : Operand) (i j : Nat) : StepSum × Bool :=
  let kk := cfgK cfg
  (List.range kk).foldl (fun (acc : StepSum × Bool) k =>
    let p := pairStep cfg (a.elem (kk * i + k)) (b.elem (kk * j + k)) (a.scale (i * (kk / 32) + k / 32)) (b.scale (j * (kk / 32) + k / 32))
    ({ t := acc.1.t + p.1.t, res := acc.1.res + p.1.res, nan := acc.1.nan || p.1.nan, pinf := acc.1.pinf || p.1.pinf, ninf := acc.1.ninf || p.1.ninf }, acc.2 || p.2)) ({}, false)

/-- Record a fault in a block that has none yet (R269). -/
def Block.recordFault (b : Block) (kind cell : Nat) : Block := if b.fkind = 0 then { b with fkind := kind, fcell := cell } else b

/-- One MXMAC step into a block (R256). -/
def mxStep (blk : Block) (a b : Operand) : Block :=
  let cfg := blk.config
  let kk := cfgK cfg
  let rows := (List.range 32).map (fun i => a.pois (kk * i) kk || (cfgSc cfg && a.spois (i * (kk / 32)) (kk / 32)))
  let cols := (List.range 32).map (fun j => b.pois (kk * j) kk || (cfgSc cfg && b.spois (j * (kk / 32)) (kk / 32)))
  (List.range 1024).foldl (fun (x : Block) c =>
    let old := tget {} x.cells c
    let p := cellStep cfg a b (c / 32) (c % 32)
    let u := if p.2 then (old, false) else updateCell (cfgWide cfg) old p.1
    let pois := u.1.pois || rows.getD (c / 32) false || cols.getD (c % 32) false
    let x1 := { x with cells := tset {} x.cells c { u.1 with pois := pois } }
    if p.2 then x1.recordFault 2 c else if u.2 then x1.recordFault 1 c else x1) blk

/-! ## Checks, drains and images -/

/-- Cells of a block by mode. -/
def cellCount (mode : Nat) : Nat := if mode = 3 then 64 else 1024
def wideMode (mode : Nat) : Bool := mode != 1
def Block.cell (b : Block) (i : Nat) : Cell := tget {} b.cells i

/-- The first corrupt cell (R89). -/
def Block.corrupt (b : Block) : Option Nat :=
  (List.range (cellCount b.mode)).find? (fun i => readCell (wideMode b.mode) (b.cell i) == .corrupt)

/-- The value that MXCHK writes (R271). -/
def Block.check (b : Block) : DWord :=
  let l := List.range (cellCount b.mode)
  let v (i : Nat) : CellVal := readCell (wideMode b.mode) (b.cell i)
  let psn := l.countP (fun i => (b.cell i).pois)
  let spc := l.countP (fun i => match v i with | .nan => true | .inf _ => true | _ => false)
  let nz := l.countP (fun i => match v i with | .finite c => c != 0 | _ => false)
  dw (b.fkind * 2 ^ 54 + b.fcell * 2 ^ 44 + psn * 2 ^ 22 + spc * 2 ^ 11 + nz)

/-- Output of a drain: bytes, marks and flags (R273). -/
def drainOut (b : Block) (ty rm : Nat) (sat : Bool) (rkey rseq : DWord) : List Byte × List Bool × BitVec 7 :=
  let scale := cfgL b.config + (if cfgSc b.config then cfgWb b.config else 0)
  let r : Rnd := ⟨rm, sat, false, srDraw rkey rseq⟩
  let y := (List.range 1024).map (fun i => drainCell ty r i scale (readCell (wideMode b.mode) (b.cell i)))
  let w := tyWidth ty
  let n := 128 * w
  let per := 64 / w
  -- a 64-bit doubleword holds elements of any width from bit 64 d of the run
  let marks := (List.range (n / 8)).map (fun d => (List.range (per + 2)).any (fun e =>
    let i := 64 * d / w + e
    decide (i * w < 64 * (d + 1)) && decide (i < 1024) && (b.cell i).pois))
  (toBytes n (packedJoin w (y.map (·.1))), marks.flatMap (fun m => List.replicate 8 m), (y.map (·.2)).foldl (· ||| ·) fNone)

/-- A block image (R275). -/
def imageOf (b : Block) : List Byte :=
  let n := cellCount b.mode
  let sz := if wideMode b.mode then 80 else 16
  let st := b.fcell * 2 ^ 44 + b.fkind * 16 + b.mode
  toBytes 8 (if b.mode = 3 then 0 else b.config.toNat) ++ toBytes 8 st ++ List.replicate 48 0 ++
  (List.range n).flatMap (fun i => toBytes sz (b.cell i).c.toNat) ++
  (List.range n).map (fun i => (b.cell i).r) ++
  toBytes (n / 8) (packedJoin 1 ((List.range n).map (fun i => if (b.cell i).pois then 1 else 0)))

/-- A block from an image (R275, R277): a marked doubleword poisons every cell it touches. -/
def blockOf (img : List (Byte × Bool)) : Block :=
  let at_ (off n : Nat) : Nat := ofBytes (((img.drop off).take n).map (·.1))
  let mk (off n : Nat) : Bool := ((img.drop off).take n).any (·.2)
  let st := dw (at_ 8 8)
  let mode := bits st 0 3
  let n := cellCount mode
  let sz := if wideMode mode then 80 else 16
  let w := cellWidth (wideMode mode)
  { mode := mode, config := dw (at_ 0 8), fkind := bits st 4 2, fcell := bits st 44 10
    cells := ((List.range n).map (fun i =>
      let p := decide ((at_ (64 + n * sz + n + i / 8) 1 >>> (i % 8)) % 2 = 1) || mk (64 + i * sz) sz || mk (64 + n * sz + i) 1 || mk (64 + n * sz + n + i / 8) 1
      (i, ({ c := BitVec.ofNat 640 (at_ (64 + i * sz) sz % 2 ^ w), r := BitVec.ofNat 8 (at_ (64 + n * sz + i) 1), pois := p } : Cell)))).filter (fun e => e.2 ≠ {}) }

/-! ## The unfold unit (R258, R259) -/

/-- Geometry of an unfold descriptor. -/
structure Geo where
  ty : Nat
  base : Nat
  h : Nat
  w : Nat
  c : Nat
  kh : Nat
  kw : Nat
  sh : Nat
  sw : Nat
  dh : Nat
  dw : Nat
  pt : Nat
  pb : Nat
  pl : Nat
  pr : Nat
  pad : Nat
  deriving DecidableEq, Repr

/-- Read the geometry from doublewords 0 to 2 of the descriptor. -/
def geoOf (d0 d1 d2 : DWord) : Geo :=
  { ty := bits d0 25 5, base := bits d0 0 25, c := bits d1 32 16, w := bits d1 16 16, h := bits d1 0 16
    pad := bits d2 32 16, pr := bits d2 29 3, pl := bits d2 26 3, pb := bits d2 23 3, pt := bits d2 20 3
    dw := bits d2 17 3 + 1, dh := bits d2 14 3 + 1, sw := bits d2 11 3 + 1, sh := bits d2 8 3 + 1, kw := bits d2 4 4, kh := bits d2 0 4 }

/-- Output rows and columns; an Int, since the checks ask whether they are at least 1. -/
def Geo.oh (g : Geo) : Int := ((g.h : Int) + g.pt + g.pb - g.dh * ((g.kh : Int) - 1) - 1) / g.sh + 1
def Geo.ow (g : Geo) : Int := ((g.w : Int) + g.pl + g.pr - g.dw * ((g.kw : Int) - 1) - 1) / g.sw + 1

/-- Where the element at virtual row p and column k comes from: zero, padding, or a tensor element's number (R258). -/
inductive Tap where
  | zero
  | pad
  | elem (n : Nat)
  deriving DecidableEq, Repr

def Geo.tap (g : Geo) (p k : Nat) : Tap :=
  if g.oh * g.ow ≤ (p : Int) ∨ g.kh * g.kw * g.c ≤ k then .zero
  else
    let ow := g.ow.toNat
    let y : Int := ((p / ow * g.sh : Nat) : Int) - g.pt + ((k / (g.c * g.kw) * g.dh : Nat) : Int)
    let x : Int := ((p % ow * g.sw : Nat) : Int) - g.pl + (((k / g.c) % g.kw * g.dw : Nat) : Int)
    if 0 ≤ y ∧ y < g.h ∧ 0 ≤ x ∧ x < g.w then .elem ((y.toNat * g.w + x.toNat) * g.c + k % g.c) else .pad

/-- The checks of UFCFG on its descriptor (R259). -/
def geoOk (d0 d1 d2 d3 : DWord) : Bool :=
  let g := geoOf d0 d1 d2
  let w := tyWidth g.ty
  bits d0 30 34 == 0 && bits d1 48 16 == 0 && bits d2 48 16 == 0 && d3 == 0 && decide (g.pad < 2 ^ w) &&
  g.kh != 0 && g.kw != 0 && [16, 17, 18, 19, 20, 21, 22, 0, 8, 1, 9].contains g.ty && g.c != 0 && g.w != 0 && g.h != 0 &&
  decide (1 ≤ g.oh ∧ 1 ≤ g.ow) && g.c * w % 8 == 0 && g.base * 8 % (g.c * w) == 0 && decide (g.base + g.h * g.w * g.c * w / 8 ≤ 0x1800000)

end Sys2Proof.Machine
end

