-- ==== Sys2Proof/Machine/Lanes.lean ====
section
/-! DEFINITION. What a vector command computes (R219 to R241): lanes of V registers, the values of each operation per active lane,
permutes, reductions, lane cells, top-k and MX block conversion. No state but the operands captured when the command began. -/

namespace Sys2Proof.Machine

/-- A vector command's operands and snapshots. -/
structure VEnv where
  /-- Element type. -/
  ty : Nat
  /-- Masked, and the mask (R222). -/
  masked : Bool := false
  mask : BitVec 256 := 0
  ops : List (BitVec 2048) := []
  /-- Old values of the destinations. -/
  old : List (BitVec 2048) := []
  oldM : BitVec 256 := 0
  ga : DWord := 0
  gb : DWord := 0
  mode : DWord := 0
  rkey : DWord := 0
  rseq : DWord := 0
  /-- Bytes read from memory. -/
  data : List Byte := []
  blk : Block := {}

/-- What a command's completion writes. -/
structure VRes where
  v : List (BitVec 2048) := []
  m : BitVec 256 := 0
  sc : DWord := 0
  fl : BitVec 7 := 0
  blk : Option Block := none
  pois : Bool := false
  /-- A corrupt cell (R89). -/
  bad : Option Nat := none

/-- Lanes of a type (R219). -/
def lanesOf (ty : Nat) : Nat := 2048 / tyWidth ty

/-- Element i of width w of a V register (R219, R64). -/
def lane (w : Nat) (x : BitVec 2048) (i : Nat) : Nat := packedGet w i x.toNat

/-- A V register from elements packed from bit 0. -/
def packV (w : Nat) (l : List Nat) : BitVec 2048 := BitVec.ofNat 2048 (packedJoin w l)

/-- Bytes of a V register (R219). -/
def vBytes (x : BitVec 2048) : List Byte := toBytes 256 x.toNat

def VEnv.w (e : VEnv) : Nat := tyWidth e.ty
def VEnv.n (e : VEnv) : Nat := lanesOf e.ty
def VEnv.op (e : VEnv) (k : Nat) : BitVec 2048 := e.ops.getD k 0
/-- Lane i of operand k. -/
def VEnv.at_ (e : VEnv) (k i : Nat) : Nat := lane e.w (e.op k) i
/-- Active lanes (R222). -/
def VEnv.act (e : VEnv) (i : Nat) : Bool := !e.masked || e.mask.getLsbD i
/-- Rounding of arithmetic: SR.MODE.RM, no saturation, FTZ, and the draws of the snapshot (R77, R80, R227). -/
def VEnv.rnd (e : VEnv) : Rnd := ⟨modeRm e.mode, false, modeFtz e.mode, srDraw e.rkey e.rseq⟩
/-- Signed or unsigned value of an integer lane (R228). -/
def VEnv.int (e : VEnv) (x : Nat) : Int := if tySigned e.ty then sval e.w x else (x : Int)
/-- The active lanes among the first n. -/
def VEnv.actives (e : VEnv) : List Nat := (List.range e.n).filter e.act

/-- A result for each active lane; an inactive lane keeps the destination's (R222). -/
def VEnv.each (e : VEnv) (f : Nat → Flagged Nat) : VRes :=
  let r := (List.range e.n).map (fun i => if e.act i then f i else (lane e.w (e.old.getD 0 0) i, fNone))
  { v := [packV e.w (r.map (·.1))], fl := (r.map (·.2)).foldl (· ||| ·) fNone }

/-- Read a floating lane under FTZ (R77). -/
def VEnv.fv (e : VEnv) (x : Nat) : Flagged FVal := ftzOperand (fmtOf e.ty) (modeFtz e.mode) x

/-- One floating operation on a lane's operands: operands and result under FTZ (R77, R227). -/
def VEnv.flt (e : VEnv) (xs : List Nat) (f : List FVal → Flagged Nat) : Flagged Nat :=
  let o := xs.map e.fv
  let r := ftzResult (fmtOf e.ty) (modeFtz e.mode) (f (o.map (·.1)))
  (r.1, (o.map (·.2)).foldl (· ||| ·) r.2)

def v0 (l : List FVal) : FVal := l.getD 0 (.zero false)
def v1 (l : List FVal) : FVal := l.getD 1 (.zero false)
def v2 (l : List FVal) : FVal := l.getD 2 (.zero false)

/-- A two-operand operation with a floating and an integer rule (R228). -/
def VEnv.arith (e : VEnv) (ff : Nat → FVal → FVal → Flagged Nat) (fi : Int → Int → Int) : VRes :=
  e.each (fun i =>
    let a := e.at_ 0 i
    let b := e.at_ 1 i
    if tyIsInt e.ty then (wrapI e.w (fi (e.int a) (e.int b)), fNone) else e.flt [a, b] (fun l => ff i (v0 l) (v1 l)))

/-- VADD, VSUB and VMUL (R228). -/
def vaddR (e : VEnv) : VRes := e.arith (fun i a b => sumVals (fmtOf e.ty) e.rnd i [a, b]) (fun a b => a + b)
def vsubR (e : VEnv) : VRes := e.arith (fun i a b => sumVals (fmtOf e.ty) e.rnd i [a, b.flip]) (fun a b => a - b)
def vmulR (e : VEnv) : VRes :=
  e.arith (fun i a b =>
    let p := mulVal a b
    let y := sumVals (fmtOf e.ty) e.rnd i [p.1]
    (y.1, y.2 ||| p.2)) (fun a b => a * b)

/-- VFMA and VFMS (R228): the third operand is the old destination. -/
def vfmaR (neg : Bool) (e : VEnv) : VRes :=
  e.each (fun i =>
    let a := e.at_ 0 i
    let b := e.at_ 1 i
    let c := e.at_ 2 i
    if tyIsInt e.ty then (wrapI e.w (if neg then e.int a * e.int b - e.int c else e.int a * e.int b + e.int c), fNone)
    else e.flt [a, b, c] (fun l => fmaVals (fmtOf e.ty) e.rnd i (v0 l) (v1 l) (if neg then (v2 l).flip else v2 l)))

/-- The pattern a floating operand is read as under FTZ. -/
def VEnv.flushed (e : VEnv) (x : Nat) : Nat :=
  if modeFtz e.mode && (fmtOf e.ty).subnormal x then (fmtOf e.ty).zero (decide (2 ^ (e.w - 1) ≤ x)) else x

/-- VMIN and VMAX (R228): the result is an operand, unrounded. -/
def vminR (mx : Bool) (e : VEnv) : VRes :=
  e.each (fun i =>
    let a := e.at_ 0 i
    let b := e.at_ 1 i
    if tyIsInt e.ty then (if (decide (e.int b < e.int a)) != mx then b else a, fNone)
    else e.flt [a, b] (fun l => minMaxNum (fmtOf e.ty) mx (e.flushed a) (e.flushed b) (v0 l) (v1 l)))

/-- VABS and VNEG (R228): the sign bit alone of a floating lane. -/
def vabsR (e : VEnv) : VRes :=
  e.each (fun i =>
    let a := e.at_ 0 i
    if tyIsInt e.ty then (wrapI e.w (if e.int a < 0 then -(e.int a) else e.int a), fNone) else (a % 2 ^ (e.w - 1), fNone))
def vnegR (e : VEnv) : VRes :=
  e.each (fun i =>
    let a := e.at_ 0 i
    if tyIsInt e.ty then (wrapI e.w (-(e.int a)), fNone) else (a ^^^ 2 ^ (e.w - 1), fNone))

/-- VADDS and VSUBS (R228). -/
def vaddsR (neg : Bool) (e : VEnv) : VRes :=
  e.each (fun i => satPat (tySigned e.ty) e.w (if neg then e.int (e.at_ 0 i) - e.int (e.at_ 1 i) else e.int (e.at_ 0 i) + e.int (e.at_ 1 i)))

/-- VDIV (R229). -/
def vdivR (e : VEnv) : VRes :=
  e.each (fun i =>
    let a := e.at_ 0 i
    let b := e.at_ 1 i
    if tyIsInt e.ty then (if tySigned e.ty then wrapI e.w (divI (e.int a) (e.int b) e.w) else divN a b e.w, fNone)
    else e.flt [a, b] (fun l => divVals (fmtOf e.ty) e.rnd i (v0 l) (v1 l)))

/-- A function of one floating lane (R229). -/
def VEnv.func (e : VEnv) (f : Fmt → Rnd → Nat → FVal → Flagged Nat) : VRes :=
  e.each (fun i => e.flt [e.at_ 0 i] (fun l => f (fmtOf e.ty) e.rnd i (v0 l)))

/-- A compare (R230): quiet, and not under FTZ (R77 names arithmetic, functions and VCVT); bits above the lanes are 0. -/
def VEnv.cmp (e : VEnv) (ff : FVal → FVal → Bool) (fi : Int → Int → Bool) : VRes :=
  let r := (List.range 256).map (fun i =>
    if e.n ≤ i then (false, fNone)
    else if e.act i then
      let a := e.at_ 0 i
      let b := e.at_ 1 i
      if tyIsInt e.ty then (fi (e.int a) (e.int b), fNone)
      else
        let x := (fmtOf e.ty).read a
        let y := (fmtOf e.ty).read b
        (ff x y, if x.isSig || y.isSig then fNV else fNone)
    else (e.oldM.getLsbD i, fNone))
  { m := BitVec.ofNat 256 (packedJoin 1 (r.map (fun x => if x.1 then 1 else 0))), fl := (r.map (·.2)).foldl (· ||| ·) fNone }

def ordered (x y : FVal) : Bool := !(x.isNan || y.isNan)
def vcmpEqR (e : VEnv) : VRes := e.cmp (fun x y => ordered x y && cmpVals x y == 0) (fun a b => a == b)
def vcmpNeR (e : VEnv) : VRes := e.cmp (fun x y => !(ordered x y && cmpVals x y == 0)) (fun a b => a != b)
def vcmpLtR (e : VEnv) : VRes := e.cmp (fun x y => ordered x y && decide (cmpVals x y < 0)) (fun a b => decide (a < b))
def vcmpLeR (e : VEnv) : VRes := e.cmp (fun x y => ordered x y && decide (cmpVals x y ≤ 0)) (fun a b => decide (a ≤ b))
def vcmpUnR (e : VEnv) : VRes := e.cmp (fun x y => !ordered x y) (fun _ _ => false)

/-- VSEL (R230): every lane is written; the mask selects. -/
def vselR (e : VEnv) : VRes :=
  { v := [packV e.w ((List.range e.n).map (fun i => if e.mask.getLsbD i then e.at_ 0 i else e.at_ 1 i))] }

/-- The class code of R230. -/
def classOf (f : Fmt) (x : Nat) : Nat :=
  match f.read x with
  | .inf true => 1
  | .inf false => 128
  | .zero true => 8
  | .zero false => 16
  | .nan true => 256
  | .nan false => 512
  | .fin n _ _ => if f.subnormal x then (if n then 4 else 32) else if n then 2 else 64
/-- VCLASS (R230). -/
def vclassR (e : VEnv) : VRes := e.each (fun i => (classOf (fmtOf e.ty) (e.at_ 0 i), fNone))

/-- Bitwise operations and shifts (R231). -/
def VEnv.bitw (e : VEnv) (f : Nat → Nat → Nat) : VRes := e.each (fun i => (f (e.at_ 0 i) (e.at_ 1 i) % 2 ^ e.w, fNone))
def vnotR (e : VEnv) : VRes := e.each (fun i => (2 ^ e.w - 1 - e.at_ 0 i, fNone))
def vshlR (e : VEnv) : VRes := e.bitw (fun a b => a <<< (b % e.w))
def vshrR (e : VEnv) : VRes := e.bitw (fun a b => a >>> (b % e.w))
def vsraR (e : VEnv) : VRes := e.bitw (fun a b => wrapI e.w (sval e.w a / ((2 ^ (b % e.w) : Nat) : Int)))

/-- VLD and VLDC (R232, R234): the register is the bytes read. -/
def vldR (e : VEnv) : VRes := { v := [BitVec.ofNat 2048 (ofBytes e.data)] }
/-- VGATH (R233): the elements gathered, zero above. -/
def vgathR (e : VEnv) : VRes := { v := [BitVec.ofNat 2048 (ofBytes e.data)] }
/-- VBCAST (R233). -/
def vbcastR (e : VEnv) : VRes := { v := [packV e.w (List.replicate e.n (e.ga.toNat % 2 ^ e.w))] }
/-- A lane as a scalar (R233): sign for I, zero for N and FLT. -/
def VEnv.scalar (e : VEnv) (x : Nat) : DWord := if tySigned e.ty then BitVec.ofInt 64 (sval e.w x) else dw x
/-- VEXTR (R233). -/
def vextrR (e : VEnv) : VRes := { sc := e.scalar (e.at_ 0 (e.gb.toNat % e.n)) }

/-- Permutes (R235). -/
def vpermR (e : VEnv) : VRes := e.each (fun i => (e.at_ 0 (e.at_ 1 i % e.n), fNone))
def vslideR (e : VEnv) : VRes := e.each (fun i => (if i + 1 < e.n then e.at_ 0 (i + 1) else e.at_ 1 0, fNone))
def vzipR (e : VEnv) : VRes :=
  let x (j : Nat) : Nat := e.at_ (j % 2) (j / 2)
  { v := [packV e.w ((List.range e.n).map x), packV e.w ((List.range e.n).map (fun i => x (e.n + i)))] }
def vuzpR (e : VEnv) : VRes :=
  let x (j : Nat) : Nat := if j < e.n then e.at_ 0 j else e.at_ 1 (j - e.n)
  { v := [packV e.w ((List.range e.n).map (fun i => x (2 * i))), packV e.w ((List.range e.n).map (fun i => x (2 * i + 1)))] }

/-! ## Reductions (R236) -/

/-- The VRED rule over some lanes, rounded with index j. -/
def VEnv.redOver (e : VEnv) (ls : List Nat) (j : Nat) : Flagged Nat :=
  if tyIsInt e.ty then satPat (tySigned e.ty) e.w (ls.foldl (fun a i => a + e.int (e.at_ 0 i)) 0)
  else if ls.isEmpty then ((fmtOf e.ty).zero false, fNone)
  else sumVals (fmtOf e.ty) e.rnd j (ls.map (fun i => (fmtOf e.ty).read (e.at_ 0 i)))

/-- VRED (R236). -/
def vredV (e : VEnv) : Flagged Nat := e.redOver e.actives 0

/-- VRMIN and VRMAX (R236). -/
def vrminV (mx : Bool) (e : VEnv) : Flagged Nat :=
  let f := fmtOf e.ty
  match e.actives with
  | [] => if tyIsInt e.ty then (wrapI e.w (if mx then intLo (tySigned e.ty) e.w else intHi (tySigned e.ty) e.w), fNone) else (f.inf mx, fNone)
  | i :: r =>
    if tyIsInt e.ty then (r.foldl (fun a k => let b := e.at_ 0 k; if (decide (e.int b < e.int a)) != mx then b else a) (e.at_ 0 i), fNone)
    else
      -- a lone NaN lane is the minimum of NaNs alone; signalling NaNs set NV
      let all := (i :: r).map (e.at_ 0)
      let nums := all.filter (fun x => !(f.read x).isNan)
      let sig := if all.any (fun x => (f.read x).isSig) then fNV else fNone
      match nums with
      | [] => (f.nan, sig)
      | x :: xs => (xs.foldl (fun a b => (minMaxNum f mx a b (f.read a) (f.read b)).1) x, sig)

/-- A reduction's register form: lane 0, every other lane zero. -/
def VEnv.lane0 (e : VEnv) (x : Flagged Nat) : VRes := { v := [packV e.w [x.1]], fl := x.2 }
/-- A reduction's box form. -/
def VEnv.toBox (e : VEnv) (x : Flagged Nat) : VRes := { sc := e.scalar x.1, fl := x.2 }

/-- VSCAN (R236). -/
def vscanR (e : VEnv) : VRes := e.each (fun i => e.redOver (e.actives.filter (· ≤ i)) i)

/-! ## Lane cells (R237) -/

/-- A contribution of one FP32 lane to a lane cell (R84, R86, R87). -/
def laneStep (x : Nat) : StepSum :=
  match (fmtOf 23).read x with
  | .nan _ => { nan := true }
  | .inf n => if n then { ninf := true } else { pinf := true }
  | .zero _ => {}
  | .fin n m q =>
    let c := contribution n m 1 (q + 149).toNat
    { t := c.1, res := c.2 }

/-- The block after VXACC: cleared first when Z is 1 (R237). -/
def vxaccR (z : Bool) (e : VEnv) : VRes :=
  let b0 : Block := if z then { e.blk with mode := 3, fkind := 0, fcell := 0, cells := e.blk.cells.filter (fun c => 64 ≤ c.1) } else e.blk
  let b1 := ((List.range 64).filter e.act).foldl (fun (b : Block) i =>
    let u := updateCell true (tget {} b.cells i) (laneStep (e.at_ 0 i))
    let b' := { b with cells := tset {} b.cells i u.1 }
    if u.2 && b'.fkind == 0 then { b' with fkind := 1, fcell := i } else b') b0
  { blk := some b1 }

/-- VXDRAIN (R237, R89, R90). -/
def vxdrainR (clr hi : Bool) (e : VEnv) : VRes :=
  let first := if e.ty = 24 ∧ hi = true then 32 else 0
  let count := if e.ty = 24 then 32 else 64
  let cell (i : Nat) : Cell := tget {} e.blk.cells (first + i)
  match (List.range count).find? (fun i => readCell true (cell i) == .corrupt) with
  | some i => { bad := some (first + i) }
  | none =>
    let r : Rnd := ⟨modeRm e.mode, modeSat e.mode, false, srDraw e.rkey e.rseq⟩
    let y := (List.range count).map (fun i => drainCell e.ty r (first + i) (-149) (readCell true (cell i)))
    { v := [packV e.w (y.map (·.1))], fl := (y.map (·.2)).foldl (· ||| ·) fNone,
      pois := (List.range count).any (fun i => (cell i).pois)
      blk := if clr then some { e.blk with cells := e.blk.cells.filter (fun c => !(decide (first ≤ c.1) && decide (c.1 < first + count))) } else none }

/-! ## Top-k (R238) -/

/-- The ranking key. -/
def topKey (ty x : Nat) : Nat :=
  if ty = 23 then (if x < 2 ^ 31 then x + 2 ^ 31 else 2 ^ 32 - 1 - x) else if ty = 3 then x ^^^ 2 ^ 31 else x

/-- Whether (x, p) ranks above (y, q). -/
def topAbove (ty : Nat) (a b : Nat × Nat) : Bool :=
  decide (topKey ty b.1 < topKey ty a.1) || (topKey ty a.1 == topKey ty b.1 && decide (a.2 < b.2))

/-- Insert a pair behind every pair that it does not rank above. -/
def topInsert (ty : Nat) (x : Nat × Nat) : List (Nat × Nat) → List (Nat × Nat)
  | [] => [x]
  | y :: r => if topAbove ty x y then x :: y :: r else y :: topInsert ty x r

/-- The 64 highest-ranked of list pairs and candidates, in descending rank; a list pair goes first among equals (R238). -/
def topMerge (ty : Nat) (old cand : List (Nat × Nat)) : List (Nat × Nat) :=
  (cand.foldl (fun l x => topInsert ty x l) (old.foldl (fun l x => topInsert ty x l) [])).take 64

/-- VTOPK (R238): operands are va, vb and the old vd, vd+1. -/
def vtopkR (e : VEnv) : VRes :=
  let pair (v i k : Nat) : Nat × Nat := (lane 32 (e.op v) k, lane 32 (e.op i) k)
  let l := topMerge e.ty ((List.range 64).map (pair 2 3)) (((List.range 64).filter e.act).map (pair 0 1))
  { v := [packV 32 (l.map (·.1)), packV 32 (l.map (·.2))] }

/-! ## MX blocks and conversions (R239, R240) -/

/-- emax(F) of R240. -/
def emaxMx (ty : Nat) : Int :=
  match ty with
  | 16 => 2 | 17 => 2 | 18 => 4 | 19 => 8 | 20 => 15 | _ => 6

/-- One block of VQUANT: the elements, the scale and the flags. -/
def quantBlock (e : VEnv) (blk : Nat) : List Nat × Nat × BitVec 7 :=
  let f := fmtOf 23
  let xs := (List.range 32).map (fun i => lane 32 (e.op 0) (32 * blk + i))
  let vs := xs.map f.read
  if vs.any (fun v => v.isNan || v.isInf) then (List.replicate 32 0, 255, if vs.any FVal.isSig then fNV else fNone)
  else
    let lg := vs.foldl (fun (b : Option Int) v => match v with
      | .fin _ m q => let l := (Nat.log2 m : Int) + q; (match b with | none => some l | some k => some (max k l))
      | _ => b) none
    let x : Int := match lg with | none => -127 | some l => min (max (l - emaxMx e.ty) (-127)) 127
    let r : Rnd := ⟨modeRm e.mode, true, false, srDraw e.rkey e.rseq⟩
    let y := (List.range 32).map (fun i => match vs.getD i (.zero false) with
      | .fin n m q => if e.ty = 1 then toIntRule r (32 * blk + i) true 8 (.fin n m (q - x)) else roundTo (fmtOf e.ty) r (32 * blk + i) n (magDyadic m (q - x))
      | v => if e.ty = 1 then (0, fNone) else ((fmtOf e.ty).zero v.neg, fNone))
    (y.map (·.1), (x + 127).toNat, (y.map (·.2)).foldl (· ||| ·) fNone)

/-- VQUANT (R240). -/
def vquantR (e : VEnv) : VRes :=
  let a := quantBlock e 0
  let b := quantBlock e 1
  { v := [BitVec.ofNat 2048 (packedJoin (tyWidth e.ty) (a.1 ++ b.1) + (a.2.1 + 256 * b.2.1) * 2 ^ (8 * 192))], fl := a.2.2 ||| b.2.2 }

/-- VDEQ (R240): a signalling element sets NV, as in every conversion (R69); a block with scale 0xFF sets none. -/
def vdeqR (e : VEnv) : VRes :=
  let f := fmtOf 23
  let r : Rnd := ⟨modeRm e.mode, modeSat e.mode, false, srDraw e.rkey e.rseq⟩
  let y := (List.range 64).map (fun i =>
    let scale := packedGet 8 (192 + i / 32) (e.op 0).toNat
    if scale = 255 then (f.nan, fNone)
    else match elemVal e.ty (lane (tyWidth e.ty) (e.op 0) i) with
      | .nan sig => (f.nan, if sig then fNV else fNone)
      | .inf n => (f.inf n, fNone)
      | .zero n => (f.zero n, fNone)
      | .fin n m q => roundTo f r i n (magDyadic m (q + (scale : Int) - 127)))
  { v := [packV 32 (y.map (·.1))], fl := (y.map (·.2)).foldl (· ||| ·) fNone }

/-- VCVT (R239): `src` is the minor's type code, e.ty the destination's. -/
def vcvtR (src : Nat) (e : VEnv) : VRes :=
  let n := 2048 / Nat.max (Nat.max (tyWidth src) 8) (Nat.max e.w 8)
  let r : Rnd := ⟨modeRm e.mode, modeSat e.mode, modeFtz e.mode, srDraw e.rkey e.rseq⟩
  let y := (List.range n).map (fun i => if e.act i then convert src e.ty r i (lane (tyWidth src) (e.op 0) i) else (lane e.w (e.old.getD 0 0) i, fNone))
  { v := [packV e.w (y.map (·.1))], fl := (y.map (·.2)).foldl (· ||| ·) fNone }

end Sys2Proof.Machine
end

