-- ==== Sys2Proof/Machine/PageTable.lean ====
section
/-! DEFINITION. The page tables of a VI as a walker reads them (R128, R129), and the places that the hardware itself accesses for a VI. -/

namespace Sys2Proof.Machine

/-! ## Page tables (R128, R129) -/

/-- Whether the fields of an entry that must be zero or aligned are so: a leaf of page size 2^n, or a pointer to a table of size 2^n. -/
def pteOk (e : DWord) (n : Nat) : Bool :=
  bit e 63 && bits e 40 18 == 0 && bits e 0 8 == 0 && bits e 0 40 % 2 ^ n == 0 && (bit e 62 || bits e 58 4 == 0)

/-- A page-table entry as a walker reads it; a poisoned one reads as zero (R109). -/
def State.pte (s : State) (mma : Nat) : DWord :=
  let k := s.hbmKey (mma % 2 ^ 40)
  if s.marked k then 0 else dw (ofBytes ((s.fetch k 8).map (·.1)))

/-- A level of the table: bits of the offset below its index, and the size (log2) of the next level's table; level 3 has none. -/
def pteLevels : List (Nat × Nat) := [(30, 12), (21, 8), (16, 0)]

/-- Walk the remaining levels from a table (R128): the leaf, its page's first offset and its size, the translation fault, or what a read waits for. -/
def State.walkFrom (s : State) (off : Nat) : List (Nat × Nat) → Nat → Chk (DWord × Nat × Nat)
  | [], _ => .trap 0x07
  | (sh, nextSize) :: r, table =>
    let width := if sh = 30 then 10 else if sh = 21 then 9 else 5
    let a := (table + 8 * (off / 2 ^ sh % 2 ^ width)) % 2 ^ 40
    match s.memWait a 8 false with
    | some p => .park p
    | none =>
      let e := s.pte a
      if bit e 62 then (if pteOk e sh then .ok (e, off / 2 ^ sh * 2 ^ sh, 2 ^ sh) else .trap 0x07)
      else if r.isEmpty || !pteOk e nextSize then .trap 0x07
      else s.walkFrom off r (bits e 0 40)

/-- The walk of an offset of a region for a VI (R128). -/
def State.pageWalk (s : State) (v region off : Nat) : Chk (DWord × Nat × Nat) :=
  let x := s.vi v
  s.walkFrom off pteLevels ((if region = 1 then x.root1 else x.root2).toNat % 2 ^ 40 / 8192 * 8192)

/-! ## Places -/

/-- The place of a byte that the hardware accesses for a VI as its supervisor, with a right: a trap where R91, R92, R405 or translation fails, a park
where it must wait (R18, R28, R101). -/
def State.hwLoc (s : State) (v a right : Nat) : Chk Loc :=
  let w : Who := ⟨v, true, 0⟩
  if 2 ^ 56 ≤ a then .trap 0x04
  else if aRegion a = 1 ∨ aRegion a = 2 then
    if (aRegion a = 1 ∧ (a >>> 40) % 2 ^ 12 ≠ 0) ∨ (aRegion a = 2 ∧ ((a >>> 50) % 4 ≠ 0 ∨ ¬ (s.md.number :: s.md.present).contains ((a >>> 40) % 1024))) then .trap 0x04
    else match s.pageWalk v (aRegion a) (a % 2 ^ 40) with
      | .ok (leaf, base, _) =>
        let m := bits leaf 8 32 * 256 + (a % 2 ^ 40 - base)
        if !bit leaf right then .trap 0x07
        else if aRegion a = 1 ∨ (a >>> 40) % 1024 = s.md.number then
          if s.frameBusy (m / 2 ^ 21) then .park (.pageBusy (m / 2 ^ 21)) else .ok (if aRegion a = 1 then .hbm m else .peer s.md.number m)
        else .ok (.peer ((a >>> 40) % 1024) m)
      | .trap c => .trap c
      | .park p => .park p
      | .freeze c => .freeze c
  else match s.check1 w 0 right a with
    | .ok (.ctrl _ _ _) => .trap 0x04
    | c => c

end Sys2Proof.Machine
end

