-- ==== Sys2Proof/Machine/Discard.lean ====
section
/-! DEFINITION. Discarding a containment level (R387): stopping the task, undoing counter updates, messages, output granules and
pages, restoring the checkpoint, and running again or ending with code 0x17. -/

namespace Sys2Proof.Machine

/-- Change every buffer of a tile. -/
def State.modCbs (s : State) (gt : Nat) (f : CBuf → CBuf) : State :=
  s.modTile gt (fun t => { t with cb := t.cb.map (fun e => (e.1, f e.2)) })

/-- Drop a task's commands that have not begun (R387 step 1, R378 step 4); their places in page queues and pages granted go back. -/
def State.dropQueued (s : State) (t : Task) : State :=
  let gt := s.taskGt t
  let gone (c : Cmd) : Bool := c.wp == t.wp && c.vi == t.vi && (c.phase == .queued || c.phase == .waiting)
  let cs := (s.cmdsOf t).filter gone
  let s1 := s.modTile gt (fun x => { x with vq := x.vq.filter (fun c => !gone c), mq := x.mq.filter (fun c => !gone c) })
  cs.foldl (fun x c =>
    let y := x.modCbs gt (fun b => b.dequeue (.command c.seq))
    c.grants.foldl (fun z g => z.modCb gt g.1 (fun b =>
      let ks := (List.range g.2.2).map (g.2.1 + ·)
      ({ b with
        undoA := ks.foldl sadd b.undoA
        scal := ks.foldl (fun l k => sdel l (b.slot k)) b.scal
        dom := b.dom.filter (fun e => !(e.1 == t.key && ks.contains e.2.2.2)) } : CBuf).settleA)) y) s1

/-- The stores that wait in the store comparator, and what the trailing copy is behind, are dropped: they are not committed (R387, R390). -/
def State.dropHeld (s : State) (k : Nat) : State :=
  ({ s with stores := s.stores.filter (fun x => !(x.key == k && x.held)) } : State).modTask k (fun t => { t with red := { t.red with queue := [] } })

/-- Begin the discard of level L (R387 step 1), or report it in host-assisted mode (R409). -/
def State.discardWith (s : State) (k level code : Nat) (host : Bool) : State :=
  match s.task? k with
  | none => s
  | some t =>
    let s1 := (s.dropQueued t).dropHeld k
    if host && ((s.vi t.vi).assist / 4) % 2 == 1 then
      (s1.enterTrap k { code := code, cls := 2 } t.pc.toNat 0 .trapped).hostEvent { kind := 4, vi := t.vi, d1 := t.wp.setWidth 64, d2 := dw level, d3 := dw code }
    else s1.modTask k (fun u => { u with status := .parked (.discard level), snaps := [], sch := { u.sch with again := none, why := none } })

/-- A residue fault inside a domain (R387). -/
def State.discard (s : State) (k level : Nat) : State := s.discardWith k level 0x15 true

/-- Doubleword at an offset of a task's domain area of a level. -/
def State.areaWord (s : State) (t : Task) (level off : Nat) : DWord := s.domWord t level (off / 8)

/-- Restore a task from the checkpoint of a level (R387 step 6): the image is written to the workspace, in a redundant pair to both, and read
from it. -/
def State.restore (s : State) (k level : Nat) : State :=
  match s.task? k with
  | none => s
  | some t =>
    let low := (List.range 128).map (fun i => (8 * i, s.areaWord t level (0x680 + 8 * i)))
    let scope := s.areaWord t level (0x680 + 0x1C0)
    let vs := ((List.range 16).filter (fun n => bit scope (32 + n))).flatMap (fun n =>
      (List.range 32).map (fun i => (0x400 + 256 * n + 8 * i, s.areaWord t level (0xA80 + 256 * n + 8 * i))))
    let gen (op now : Nat) : Nat := match (s.tile (s.taskGt t)).cb.findSome? (fun e => e.2.holds.find? (fun h => h.1 == k && h.2.1 == op)) with
      | some h => h.2.2.1
      | none => now
    let ws := low.filter (fun e => e.1 < 0x380 || 0x3C8 ≤ e.1) ++ vs
    let s0 := (s.storeWords (s.taskGt t) t.vdie (aOff t.wp.toNat) ws).1
    let s1 := if t.redundant then (s0.storeWords (s.taskGt t) t.vdie (aOff t.wp.toNat + 0x2000) ws).1 else s0
    s1.modTask k (fun u =>
      let r0 := hwFrom (fun off => s.areaWord t level (0x680 + off)) (s1.filled { u with absentLines := areaLines })
      let r := { r0 with absentLines := if u.inCache then [] else areaLines }
      { r with
        mx := { r.mx with genA := gen 0 r.mx.genA, genB := gen 1 r.mx.genB, zmode := (List.range 8).foldl (fun z n => if bit r.hw.claim n then setBits z (3 * n) 3 0 else z) r.mx.zmode }
        hw := { r.hw with cdnest := setBits u.hw.cdnest 0 4 level, cdAddr := u.hw.cdAddr }
        twin := r.twin.map (fun w => { w with mx := r.mx, sig := 0, count := 0 })
        snaps := []
        red := { u.red with sig := 0, count := 0, sig3 := none }
        sch := { u.sch with touched := u.sch.touched.filter (fun e => decide (e.1 < level)), glaze := none, reply := none, sending := false, again := none, why := none } })

/-- Undo the counter updates from a mark on, newest first, each by an AMO ADD of the negated amount (R387 step 3). -/
def State.undoLog (s : State) (t : Task) (mark n : Nat) : State :=
  ((List.range (n - mark)).map (fun i => n - 1 - i)).foldl (fun x i =>
    let a := s.domWord t 1 (16 + 2 * i)
    let w := if bit a 63 then 4 else 8
    let amount := (s.domWord t 1 (17 + 2 * i)).toNat % 2 ^ (8 * w)
    match x.hwLoc t.vi (bits a 0 56) rAT with
    | .ok l => (x.issueStore { key := t.key, vi := t.vi, addr := bits a 0 56, loc := l, bytes := toBytes w (2 ^ (8 * w) - amount), marks := [], kind := .add }).s
    | _ => x) s

/-- What the words of a level's counter updates must wait for before they can be undone: a fence, a gated tile, a frame that is being moved, or a page
table's line. -/
def State.undoWait (s : State) (t : Task) (level : Nat) : Option Park :=
  let mark := bits (s.domWord t level 9) 0 8
  (List.range (bits (s.domWord t 1 10) 0 8 - mark)).findSome? (fun i =>
    match s.hwLoc t.vi (bits (s.domWord t 1 (16 + 2 * (mark + i))) 0 56) rAT with
    | .park p => some p
    | _ => none)

/-- Steps 2 to 6 of R387 for a level. -/
def State.discardLevel (s : State) (k level : Nat) : State :=
  match s.task? k with
  | none => s
  | some t =>
    let mark := s.domWord t level 9
    let top := s.domWord t 1 10
    let s1 := s.undoLog t (bits mark 0 8) (bits top 0 8)
    let s2 := s1.domPut t 1 10 (setBits (setBits top 0 8 (bits mark 0 8)) 8 8 (bits mark 8 8))
    let s3 := (t.sch.touched.filter (fun e => decide (level ≤ e.1))).foldl (fun x e => let g := e.2 / 2 ^ 17; let i := e.2 % 2 ^ 17; if (x.gran g i).state = 2 ∨ (x.gran g i).state = 3 then x.setGran g i { state := 1 } else x) s2
    ({ s3 with tiles := s3.tiles.map (fun (e : Nat × Tile) => (e.1, { e.2 with cb := e.2.cb.map (fun (b : Nat × CBuf) => (b.1, b.2.discard k level)) })) }).restore k level

/-- The discard of a level whose commands have completed (R387 steps 2 to 7). `unresolved` carries the signatures of R390. -/
def State.discardNow (s : State) (k level : Nat) (unresolved : Option (List DWord)) : State :=
  match s.task? k with
  | none => s
  | some t =>
    let run := bits (s.domWord t level 9) 56 8 + 1
    let s1 := (s.dropHeld k).discardLevel k level
    if run < 3 ∧ unresolved = none then
      let s2 := s1.domPut t level 9 (setBits (s1.domWord t level 9) 56 8 run)
      (s2.modTask k (fun u => u.setPc ((s.domWord t level 8).setWidth 56))).ready k
    else
      let s2 := (if level = 1 then s1 else s1.discardLevel k 1).modTask k (fun u => { u.modHw (fun h => { h with cdnest := 0 }) with red := {} })
      let pc := match s2.task? k with | some u => u.pc.toNat | none => 0
      let s3 := s2.takeTrap k { code := 0x17, cls := 2 } pc 0
      let s4 := match unresolved with
        | some l => (s3.storeWords (s3.taskGt t) t.vdie (aOff t.wp.toNat) (at8 0x1430 l)).1
        | none => s3
      s4.modTile (s.taskGt t) (fun x => { x with quarantined := true })

/-- Whether the commands of a task have completed, its stores are performed and its transfers since a level opened are over. -/
def State.discardQuiet (s : State) (t : Task) (level : Nat) : Bool :=
  (s.cmdsOf t).isEmpty && (s.storesOf t.key).all (fun x => x.performed || x.kind != .write) && (s.tile (s.taskGt t)).xfers.all (fun e => !(e.2.wp == t.wp && e.2.vi == t.vi && decide (level ≤ e.2.depth) && decide (e.2.state < 2)))

/-- Whether a discard of a level can go on: the task has stopped, and the words of its counter updates can be reached. -/
def State.discardReady (s : State) (t : Task) (level : Nat) : Bool := s.discardQuiet t level && (s.undoWait t level).isNone

/-- A redundancy mismatch of a task at an entry (R389, R390), `trail` being the trailing copy's signature up to and including it: with no domain
open where the entry's instruction issued it traps with code 0x16, and the entry is not committed; with a tie-break run pending that has
not checked SIGC entries the domain is unresolved; else the signatures are saved and the level is discarded for a tie-break run. -/
def State.mismatch (s : State) (t : Task) (e : Twinned) (trail : DWord) : State :=
  if e.depth = 0 then (s.dropHeld t.key).takeTrap t.key { code := 0x16, cls := 2 } t.pc.toNat 0
  else match t.red.tie, t.red.sig3 with
    | some (l, tr, n), none => (s.dropQueued t).discardNow t.key e.depth (some [l, tr, e.sig, dw n])
    | _, _ =>
      let s1 := ((s.domPut t e.depth 11 e.sig).domPut t e.depth 12 trail).domPut t e.depth 13 (dw e.count)
      (s1.modTask t.key (fun u => { u with red := { u.red with tie := some (e.sig, trail, e.count), sig3 := none } })).discardWith t.key e.depth 0x16 true

/-- The entry that a redundant task's comparator is at: the oldest, or the present state of both signatures where the trailing copy has caught up. -/
def Task.entryAt (t : Task) : Twinned := t.red.queue.headD { instr := .nop, pc := t.pc, depth := t.depth, sig := t.red.sig, count := t.red.count }

/-- DOMAIN_DISCARD (R387, R390): the level that the task `key` is being stopped at is discarded and re-executed; with `kind` 1, an error in a core or
in the comparator makes the oldest entry of the redundant task `key` a mismatch, the trailing signature being `value`. Differences that the
copies' registers give are found by the trailing copy's own turns. -/
def execDomainDiscard (s : State) : Host.Outcome State Fault Refusal :=
  match s.task? s.ev.key with
  | none => noUnit "DOMAIN_DISCARD"
  | some t =>
    if s.ev.kind = 1 then
      match t.status with
      | .resident => if t.redundant then .next (s.mismatch t t.entryAt (dw s.ev.value)) else noUnit "DOMAIN_DISCARD"
      | .ready => if t.redundant then .next (s.mismatch t t.entryAt (dw s.ev.value)) else noUnit "DOMAIN_DISCARD"
      | _ => noUnit "DOMAIN_DISCARD"
    else match t.status with
    | .parked (.discard level) => 
      if !s.discardQuiet t level then noUnit "DOMAIN_DISCARD"
      else match s.undoWait t level with
        | some p => s.whenHw t.vi "DOMAIN_DISCARD" (.park p) s
        | none => .next (s.discardNow t.key level none)
    | _ => noUnit "DOMAIN_DISCARD"

end Sys2Proof.Machine
end

