-- ==== Sys2Proof/Machine/Engines.lean ====
section
/-! DEFINITION. Engine commands: what each names and reads (R223, R224, R248), how one issues into its slot's queue (R24, R76, R80),
the order commands begin in (R223, R237, R248), busy granules (R137), page grants (R144, R255), and how results reach the task's
registers wherever its lines are (R223). -/

namespace Sys2Proof.Machine

/-! ## Vector commands -/

/-- Memory side of a vector command (R226). -/
inductive VMem where
  | none
  | load (a : Nat)
  | store (a : Nat)
  | gather (a : Nat)
  | scatter (a : Nat)
  | pageIn (h : Nat) (keep : Bool)
  | pageOut (h : Nat)
  deriving DecidableEq, Repr

/-- Whether an access is one. -/
def VMem.accesses : VMem → Bool
  | .none => false
  | _ => true

/-- A vector command as its entry gives it. -/
structure VForm where
  ty : Nat := 23
  /-- Mask register of a masked form (R222). -/
  msk : Option (BitVec 2) := none
  reads : List (BitVec 4) := []
  dsts : List (BitVec 4) := []
  mdst : Option (BitVec 2) := none
  /-- The inactive lanes of the destination are left as they were (R225). -/
  keeps : Bool := true
  box : Option (BitVec 2) := none
  /-- Checked V operands for poison and taint, and for taint alone (R224). -/
  chk : List (BitVec 4) := []
  chkT : List (BitVec 4) := []
  mem : VMem := .none
  /-- Block named (R237). -/
  z : Option Nat := none
  /-- Resolves its mode to SR when SR.MODE.RM is SR (R80). -/
  rounds : Bool := false
  eff : VEnv → VRes

/-- Whether a type code is a floating one. -/
def tyFlt (y : Nat) : Bool := decide (16 ≤ y)

/-- Forms of R228 to R231, R235 and R236 with two operands or one. -/
def vBin (y m : Nat) (b a d : BitVec 4) (rounds : Bool) (eff : VEnv → VRes) : VForm :=
  { ty := y, msk := maskReg (BitVec.ofNat 3 m), reads := [a, b], dsts := [d], rounds := rounds && tyFlt y, eff := eff }
def vUn (y m : Nat) (a d : BitVec 4) (rounds : Bool) (eff : VEnv → VRes) : VForm :=
  { ty := y, msk := maskReg (BitVec.ofNat 3 m), reads := [a], dsts := [d], rounds := rounds && tyFlt y, eff := eff }
def vCmp (y m : Nat) (b a : BitVec 4) (d : BitVec 2) (eff : VEnv → VRes) : VForm :=
  { ty := y, msk := maskReg (BitVec.ofNat 3 m), reads := [a, b], mdst := some d, eff := eff }
/-- Reductions write lane 0 and zero every other lane, or a box. -/
def vRedR (y m : Nat) (a d : BitVec 4) (rounds : Bool) (f : VEnv → Flagged Nat) : VForm :=
  { vUn y m a d rounds (fun e => e.lane0 (f e)) with keeps := false }
def vRedB (y m : Nat) (b : BitVec 2) (a : BitVec 4) (rounds : Bool) (f : VEnv → Flagged Nat) : VForm :=
  { ty := y, msk := maskReg (BitVec.ofNat 3 m), reads := [a], box := some b, keeps := false, rounds := rounds && tyFlt y, eff := fun e => e.toBox (f e) }

/-- The low register of an even pair. -/
def pairLo (d : BitVec 3) : BitVec 4 := d ++ 0#1
def pairHi (d : BitVec 3) : BitVec 4 := d ++ 1#1

/-- The form of a vector instruction, given its G operand and the SR.VTYPE it takes. -/
def vForm (i : Instr) (ga vtype : DWord) : Option VForm :=
  let vt := bits vtype 0 5
  match i with
  | .vadd y m b a d => some (vBin y.toNat m.toNat b a d true vaddR)
  | .vsub y m b a d => some (vBin y.toNat m.toNat b a d true vsubR)
  | .vmul y m b a d => some (vBin y.toNat m.toNat b a d true vmulR)
  | .vfma y m b a d => some { vBin y.toNat m.toNat b a d true (vfmaR false) with reads := [a, b, d] }
  | .vfms y m b a d => some { vBin y.toNat m.toNat b a d true (vfmaR true) with reads := [a, b, d] }
  | .vmin y m b a d => some (vBin y.toNat m.toNat b a d false (vminR false))
  | .vmax y m b a d => some (vBin y.toNat m.toNat b a d false (vminR true))
  | .vabs y m a d => some (vUn y.toNat m.toNat a d false vabsR)
  | .vneg y m a d => some (vUn y.toNat m.toNat a d false vnegR)
  | .vadds y m b a d => some (vBin y.toNat m.toNat b a d false (vaddsR false))
  | .vsubs y m b a d => some (vBin y.toNat m.toNat b a d false (vaddsR true))
  | .vdiv y m b a d => some (vBin y.toNat m.toNat b a d true vdivR)
  | .vsqrt y m a d => some (vUn y.toNat m.toNat a d true (fun e => e.func sqrtVal))
  | .vrcp y m a d => some (vUn y.toNat m.toNat a d true (fun e => e.func rcpVal))
  | .vrsq y m a d => some (vUn y.toNat m.toNat a d true (fun e => e.func rsqVal))
  | .vexp2 y m a d => some (vUn y.toNat m.toNat a d true (fun e => e.func exp2Val))
  | .vlog2 y m a d => some (vUn y.toNat m.toNat a d true (fun e => e.func log2Val))
  | .vcmpEq y m b a d => some (vCmp y.toNat m.toNat b a d vcmpEqR)
  | .vcmpNe y m b a d => some (vCmp y.toNat m.toNat b a d vcmpNeR)
  | .vcmpLt y m b a d => some (vCmp y.toNat m.toNat b a d vcmpLtR)
  | .vcmpLe y m b a d => some (vCmp y.toNat m.toNat b a d vcmpLeR)
  | .vcmpUn y m b a d => some (vCmp y.toNat m.toNat b a d vcmpUnR)
  | .vsel y m b a d => some { ty := y.toNat, msk := some m, reads := [a, b], dsts := [d], keeps := false, eff := vselR }
  | .vclass y m a d => some (vUn y.toNat m.toNat a d false vclassR)
  | .vand y m b a d => some (vBin y.toNat m.toNat b a d false (fun e => e.bitw (· &&& ·)))
  | .vor y m b a d => some (vBin y.toNat m.toNat b a d false (fun e => e.bitw (· ||| ·)))
  | .vxor y m b a d => some (vBin y.toNat m.toNat b a d false (fun e => e.bitw (· ^^^ ·)))
  | .vnot y m a d => some (vUn y.toNat m.toNat a d false vnotR)
  | .vshl y m b a d => some (vBin y.toNat m.toNat b a d false vshlR)
  | .vshr y m b a d => some (vBin y.toNat m.toNat b a d false vshrR)
  | .vsra y m b a d => some (vBin y.toNat m.toNat b a d false vsraR)
  | .vaddS s d => some (vBin vt 0 s d d true vaddR)
  | .vsubS s d => some (vBin vt 0 s d d true vsubR)
  | .vmulS s d => some (vBin vt 0 s d d true vmulR)
  | .vminS s d => some (vBin vt 0 s d d false (vminR false))
  | .vmaxS s d => some (vBin vt 0 s d d false (vminR true))
  | .vandS s d => some (vBin vt 0 s d d false (fun e => e.bitw (· &&& ·)))
  | .vorS s d => some (vBin vt 0 s d d false (fun e => e.bitw (· ||| ·)))
  | .vxorS s d => some (vBin vt 0 s d d false (fun e => e.bitw (· ^^^ ·)))
  | .vld i _ t _ => some { dsts := [t], mem := .load (memAddr ga i 256).toNat, eff := vldR }
  | .vst i _ t _ => some { reads := [t], chkT := [t], mem := .store (memAddr ga i 256).toNat, eff := fun _ => {} }
  | .vgath b _ d _ => some { ty := vt, reads := [b], dsts := [d], chk := [b], mem := .gather ga.toNat, eff := vgathR }
  | .vscat b _ d _ => some { ty := vt, reads := [b, d], chk := [b], chkT := [d], mem := .scatter ga.toNat, eff := fun _ => {} }
  | .vbcast _ d _ => some { ty := vt, dsts := [d], eff := vbcastR }
  | .vextr _ a d _ => some { ty := vt, reads := [a], box := some d, eff := vextrR }
  | .vperm y m b a d => some (vBin y.toNat m.toNat b a d false vpermR)
  | .vslide y m b a d => some (vBin y.toNat m.toNat b a d false vslideR)
  | .vzip y b a d => some { ty := y.toNat, reads := [a, b], dsts := [pairLo d, pairHi d], eff := vzipR }
  | .vuzp y b a d => some { ty := y.toNat, reads := [a, b], dsts := [pairLo d, pairHi d], eff := vuzpR }
  | .vldc h r _ => some { dsts := [r], mem := .pageIn h.toNat false, eff := vldR }
  | .vldcKeep h r _ => some { dsts := [r], mem := .pageIn h.toNat true, eff := vldR }
  | .vstc h r _ => some { reads := [r], chkT := [r], mem := .pageOut h.toNat, eff := fun _ => {} }
  | .vred y m a d => some (vRedR y.toNat m.toNat a d true vredV)
  | .vredBox y m b a => some (vRedB y.toNat m.toNat b a true vredV)
  | .vrmin y m a d => some (vRedR y.toNat m.toNat a d false (vrminV false))
  | .vrminBox y m b a => some (vRedB y.toNat m.toNat b a false (vrminV false))
  | .vrmax y m a d => some (vRedR y.toNat m.toNat a d false (vrminV true))
  | .vrmaxBox y m b a => some (vRedB y.toNat m.toNat b a false (vrminV true))
  | .vscan y m a d => some (vUn y.toNat m.toNat a d true vscanR)
  | .vxacc m z a d => some { msk := maskReg m, reads := [a], chk := [a], z := some d.toNat, eff := vxaccR (z == 1#1) }
  | .vxdrain y c h a d => some { ty := y.toNat, dsts := [d], z := some a.toNat, rounds := true, eff := vxdrainR (c == 1#1) (h == 1#1) }
  | .vtopk y m b a d => some { ty := y.toNat, msk := maskReg m, reads := [a, b, pairLo d, pairHi d], dsts := [pairLo d, pairHi d], keeps := false, eff := vtopkR }
  | .vquant y a d => some { ty := y.toNat, reads := [a], dsts := [d], rounds := true, eff := vquantR }
  | .vdeq y a d => some { ty := y.toNat, reads := [a], dsts := [d], rounds := true, eff := vdeqR }
  | .vcvt s y m a d => some { vUn y.toNat m.toNat a d true (vcvtR s.toNat) with rounds := !(tyIsInt s.toNat && tyIsInt y.toNat) }
  | _ => none

def Cmd.vform (c : Cmd) : Option VForm := vForm c.instr c.ga c.vtype

/-- V registers that a vector instruction names. -/
def namesV (i : Instr) : List (BitVec 4) :=
  match vForm i 0 23 with
  | some f => f.reads ++ f.dsts
  | none => []

/-- G registers that an engine instruction names. -/
def namesG (i : Instr) : List (BitVec 5) :=
  match i with
  | .vld _ b _ _ => [b]
  | .vst _ b _ _ => [b]
  | .vgath _ a _ _ => [a]
  | .vscat _ a _ _ => [a]
  | .vbcast a _ _ => [a]
  | .vextr b _ _ _ => [b]
  | .mxcfg a _ _ => [a]
  | .mxdrain _ _ _ r _ => [r]
  | .mxspill a _ _ => [a]
  | .mxfill a _ _ => [a]
  | _ => []

/-- The block that a matrix or vector instruction names, given its first G operand (R245). -/
def namesZ (i : Instr) (ga : DWord) : Option Nat :=
  match i with
  | .mxcfg _ d _ => some d.toNat
  | .mxzero d _ => some d.toNat
  | .mxmac d _ => some d.toNat
  | .mxwait d _ => some d.toNat
  | .mxchk _ d _ => some d.toNat
  | .mxdrain _ _ _ _ _ => some (bits ga 0 3)
  | .mxspill _ d _ => some d.toNat
  | .mxfill _ d _ => some d.toNat
  | .vxacc _ _ _ d => some d.toNat
  | .vxdrain _ _ _ a _ => some a.toNat
  | _ => none

/-- The key of a command's task, and the vdie of its tile. -/
def Cmd.key (c : Cmd) : Nat := c.vi * 2 ^ 56 + c.wp.toNat
def Cmd.vdie (c : Cmd) : Nat := aVdie c.wp.toNat

def Cmd.block (c : Cmd) : Option Nat := namesZ c.instr c.ga

/-- Circular buffers that a command names: its own field, or its bindings (R146, R267). -/
def Cmd.handles (c : Cmd) : List Nat :=
  match c.instr with
  | .vldc h _ _ => [h.toNat]
  | .vldcKeep h _ _ => [h.toNat]
  | .vstc h _ _ => [h.toNat]
  | .mxmac _ _ => (if bit c.mx.mxa 14 then [] else [bits c.mx.mxa 0 5]) ++ [bits c.mx.mxb 0 5]
  | .mxdrain _ _ h _ _ => if bit c.ga 20 then [] else [h.toNat]
  | _ => []

/-- Whether a command has window w of a tile as source or destination (R149, R232): by name, or by a range that meets the window's. -/
def State.cmdNamesWin (s : State) (gt w : Nat) (c : Cmd) : Bool :=
  let x := s.win gt w
  (match c.instr with | .mxdrain _ _ h _ _ => bit c.ga 20 && h.toNat == w && s.gtOf c.vi c.wp.toNat == gt | _ => false) ||
  (x.valid && (s.cmdRanges c).any (fun r => r.1 == gt && decide (r.2.1 < x.base + x.size) && decide (x.base < r.2.1 + r.2.2)))

/-- Commands in a slot's queue to an engine (R24). -/
def slotCmds (q : List Cmd) (slot : Nat) : List Cmd := q.filter (fun c => c.slot == slot)

/-- A command of the issuing task with its snapshots (R76, R223, R248). -/
def State.mkCmd (s : State) (i : Instr) (a b : RegV) : Cmd :=
  { instr := i, word := BitVec.ofNat 32 (iwordOf i), seq := s.clock, wp := s.cur.wp, vi := s.cur.vi, slot := s.cur.slot
    ga := a.v, gb := b.v, poisA := a.p, poisB := b.p, taintA := a.t, taintB := b.t
    mode := s.cur.st.mode, vtype := s.cur.st.vtype, rkey := s.cur.st.rkey, rseq := s.cur.st.rseq, mx := s.cur.mx, depth := s.cur.depth }

/-- SR.RSEQ after an instruction that resolves its mode to SR has issued (R80). -/
def Task.bumpSeq (t : Task) (rounds : Bool) (rm : Nat) : Task :=
  if rounds && rm == rmSR then t.modSt (fun x => { x with rseq := (x.rseq + 1) &&& 0xFFFFFFFF }) else t

/-- Enter a vector command in its slot's queue. -/
def State.pushV (s : State) (c : Cmd) : State := { s.modTile (s.taskGt s.cur) (fun t => { t with vq := t.vq ++ [c] }) with clock := s.clock + 1 }
/-- Enter a matrix command in its slot's queue. -/
def State.pushM (s : State) (c : Cmd) : State := { s.modTile (s.taskGt s.cur) (fun t => { t with mq := t.mq ++ [c] }) with clock := s.clock + 1 }

/-- Whether the issuing task's slot has no free entry to the vector engine, and to the matrix engine (R24). -/
def State.vFull (s : State) : Bool := decide (2 ≤ (slotCmds (s.tile (s.taskGt s.cur)).vq s.cur.slot).length)
def State.mFull (s : State) : Bool := decide (2 ≤ (slotCmds (s.tile (s.taskGt s.cur)).mq s.cur.slot).length)

/-- A vector instruction issues: a full queue or a checked operand still to be produced is retried (R24, R224), a memory command waits for the task's
outstanding releases (R356); then the checked
operands, the entry's own checks `own` (first where the entry lists them first), the queue entry, and the state `upd` changes at
issue. -/
def issueV (i : Instr) (gs : List (BitVec 5)) (chkG ownFirst : Bool) (s : State) (upd : State → State) (own : VForm → Act → Act) : Act :=
  let a := match gs with | x :: _ => s.cur.rdG x | [] => {}
  match vForm i a.v s.cur.st.vtype with
  | none => fault s 0x01
  | some f =>
    let late := (s.vCmds s.cur).any (fun c => match c.vform with | some g => g.dsts.any (fun d => (f.chk ++ (if s.cur.det then f.chkT else [])).contains d) | none => false)
    if late || s.vFull then .retry s
    else if f.mem.accesses && s.strongStore then .park s (.stores 0)
    else
      let go : Act :=
        let c := match i with
          | .vextr _ _ _ _ => s.mkCmd i {} a
          | _ => s.mkCmd i a {}
        let s1 := upd (s.pushV c)
        .next { s1 with cur := (s1.cur.noteReads gs).bumpSeq f.rounds (modeRm s.cur.st.mode) }
      let vChecks (k : Act) : Act :=
        match f.chk.find? s.cur.poisV with
        | some n => faultReg s 0x0D 1 n.toNat
        | none =>
          match (f.chk ++ f.chkT).find? (fun n => s.cur.det && s.cur.taintV n) with
          | some n => faultReg s 0x0E 1 n.toNat
          | none => k
      let rest := if ownFirst then own f (vChecks go) else vChecks (own f go)
      if chkG then checkRegs s gs rest else rest

/-- No check of its own. -/
def noCheck (_ : VForm) (k : Act) : Act := k

/-- The view of block n, and setting it (R246). -/
def Task.view (t : Task) (n : Nat) : Nat := bits t.mx.zmode (3 * n) 3
def Task.setView (t : Task) (n mode : Nat) : Task :=
  let wide := n == 0 && t.view 0 == 2
  let z0 := if wide then setBits t.mx.zmode 3 12 0 else t.mx.zmode
  let z1 := setBits z0 (3 * n) 3 mode
  { t with mx := { t.mx with zmode := if mode = 2 then setBits z1 3 12 0x924 else z1 } }
/-- Whether a task holds the claim on a block (R245). -/
def Task.claims (t : Task) (n : Nat) : Bool := bit t.hw.claim n

/-! ## Beginning and completing -/

/-- Fields of a binding word (R252). -/
def bindAlt (m : DWord) : Bool := bit m 14
def bindMode (m : DWord) : Nat := bits m 12 2
def bindPages (m : DWord) : Nat := bits m 8 3 + 1
def bindH (m : DWord) : Nat := bits m 0 5

/-- A page request of an MXMAC (R255): operand, its buffer, pages, and the first page where a hold generation satisfies it. -/
structure PageReq where
  op : Nat
  h : Nat
  n : Nat
  mode : Nat
  held : Option Nat
  deriving DecidableEq, Repr

/-- The requests of an MXMAC, in order (R255). -/
def State.macReqs (s : State) (gt : Nat) (c : Cmd) (cfg : DWord) : List PageReq :=
  let one (op : Nat) (m : DWord) (gen : Nat) : List PageReq :=
    if op = 0 ∧ bindAlt m = true then []
    else
      let held := if bindMode m = 2 then ((s.cb gt (bindH m)).holds.filter (fun h => h.1 == c.key && h.2.1 == op && h.2.2.1 == gen)).map (fun h => h.2.2.2.1) else []
      ⟨op, bindH m, bindPages m, bindMode m, held[0]?⟩ :: (if cfgSc cfg then [⟨op, bindH m, 1, bindMode m, held[1]?⟩] else [])
  one 0 c.mx.mxa c.mx.genA ++ one 1 c.mx.mxb c.mx.genB

/-- The pages of an MXMAC (R251, R255): those it holds or has been granted, and those it would take next. -/
def State.macRanges (s : State) (c : Cmd) : List (Nat × Nat × Nat) :=
  match c.instr with
  | .mxmac d _ =>
    let gt := s.gtOf c.vi c.wp.toNat
    let reqs := s.macReqs gt c (s.blk gt d.toNat).config
    let held := reqs.filterMap (fun r => r.held.map (fun k => (r.h, k, r.n)))
    s.grantRanges gt { c with grants := c.grants ++ held } ++
      ((reqs.filter (fun r => r.held.isNone)).drop c.grants.length).flatMap (fun r => s.nextPages gt c.seq r.h 1 r.n)
  | _ => []

/-- Slice ranges whose bytes a command reads or writes, an MXMAC's pages among them (R248). -/
def State.touchRanges (s : State) (c : Cmd) : List (Nat × Nat × Nat) := s.cmdRanges c ++ s.macRanges c

/-- Whether an earlier command of the other engine, or an outstanding store, of the same task must complete first: one that names the same block, or
touches the same bytes (R226, R237, R248), or a strong event before it; VSTC's release waits for earlier writes, and a strong command for every earlier store
(R226 item 3, R356, R363). -/
def State.crossWait (s : State) (c : Cmd) (other : List Cmd) : Bool :=
  other.any (fun o => o.wp == c.wp && o.vi == c.vi && decide (o.seq < c.seq) &&
    ((c.block.isSome && o.block == c.block) || (o.strong && c.touchesMem s) || (c.strong && c.writesMem && o.writesMem) ||
     (s.touchRanges c).any (fun r => (s.touchRanges o).any (fun q => r.1 == q.1 && decide (r.2.1 < q.2.1 + q.2.2) && decide (q.2.1 < r.2.1 + r.2.2))))) ||
  (s.storesOf (c.vi * 2 ^ 56 + c.wp.toNat)).any (fun x => (c.strong && !x.strong) || !x.performed && (s.touchRanges c).any (fun r => match x.loc with
    | .sram gt off => r.1 == gt && decide (r.2.1 < off + 8) && decide (off < r.2.1 + r.2.2 + 8)
    | _ => false))

/-- Whether a waiting GLAZE of any tile holds a later command that names its window from starting (R149). -/
def State.glazeHeld (s : State) (c : Cmd) : Bool :=
  s.tasks.any (fun t => match t.sch.glaze with
    | some (w, set, _) => !set.contains c.seq && s.cmdNamesWin (s.taskGt t) w c && !(t.wp == c.wp && t.vi == c.vi)
    | none => false)

/-- Make the allocated granules of a range busy for a command (R137); an unwritten one is filled with zero first (R136). -/
def State.markBusy (s : State) (gt : Nat) (ranges : List (Nat × Nat)) : State × List (Nat × Nat) :=
  (ranges.flatMap (fun r => granChunks (r.2 / 256 + 2) r.1 r.2)).foldl (fun x c =>
    match (x.1.tile gt).redirect true c.1 with
    | .second _ => x
    | .at_ o =>
      let i := o / 256
      let g := x.1.gran gt i
      if g.state = 1 then ((x.1.put (sramKey gt (i * 256)) (List.replicate 256 0) (List.replicate 256 false)).setGran gt i { state := 3 }, x.2 ++ [(gt, i)])
      else if g.state = 2 then (x.1.setGran gt i { state := 3 }, x.2 ++ [(gt, i)])
      else x) (s, [])

/-- The granules of a command become written (R137); reads that waited for them go on. -/
def State.clearBusy (s : State) (l : List (Nat × Nat)) : State :=
  (l.foldl (fun x g => if (x.gran g.1 g.2).state = 3 then x.setGran g.1 g.2 { state := 2 } else x) s).wake
    (fun _ p => match p with | .granule a => l.any (fun g => decide (sramKey g.1 (g.2 * 256) ≤ a) && decide (a < sramKey g.1 (g.2 * 256) + 256)) | _ => false)

/-- The task of a command with its registers as its lines hold them, in the register cache or the slice (R195, R223). -/
def State.cmdTask (s : State) (c : Cmd) : Task :=
  match s.task? (c.vi * 2 ^ 56 + c.wp.toNat) with
  | none => {}
  | some t => s.filled t

/-- Workspace lines of V registers and of an M register (R185). -/
def vLines (rs : List (BitVec 4)) : List Nat := rs.flatMap (fun n => [0, 1, 2, 3].map (· + (16 + 4 * n.toNat)))
def mLine (m : BitVec 2) : Nat := 8 + m.toNat / 2

/-- The lines of a task's live V registers are filled for a command that reads them, while the task's lines are in the register cache (R195). -/
def State.fillFor (s : State) (k : Nat) (ls : List Nat) : State :=
  match s.task? k with
  | none => s
  | some t => if t.inCache then s.fillLines k (ls.filter t.cacheLines.contains) else s

/-- Tasks that wait for engine commands look again (R302): those of the command's task, every GLAZE and CBINIT, and SUNSUB of any task of the
tile. -/
def State.wakeAfter (s : State) (gt key : Nat) : State :=
  s.wake (fun t p => match p with
    | .commands _ => t.key == key
    | .block _ => t.key == key
    | .glaze _ => true
    | .redefine _ _ => true
    | .delivery _ => s.taskGt t == gt
    | _ => false)

/-- Ask for pages of a buffer for a command (R143, R255): the grant, or a place in the queue. -/
def State.cmdPages (s : State) (gt h side n seq key : Nat) (keep : Bool) : State × Option Nat :=
  let b := s.cb gt h
  match b.grant (.command seq) side n keep with
  | some (b', k) => (s.modCb gt h (fun _ => b'.used key side), some k)
  | none => (s.modCb gt h (fun b => b.enqueue (.command seq) side n), none)

/-- Fill an empty box with a command's result (R205), or report that it is full. -/
def State.fillBox (s : State) (c : Cmd) : Option State :=
  match c.result with
  | none => some s
  | some (n, v, p, ta) =>
    let t := s.cmdTask c
    let cross := (s.cmdsOf t).any (fun o => o.seq != c.seq && (match o.vform with | some f => f.box == some (BitVec.ofNat 2 n) | none => false) ||
      o.seq != c.seq && (match o.instr with | .mxchk a _ _ => a.toNat == n | _ => false))
    let otherEngine := cross && (match c.instr with
      | .mxchk _ _ _ => (s.vCmds t).any (fun o => match o.vform with | some f => f.box == some (BitVec.ofNat 2 n) | none => false)
      | _ => (s.mCmds t).any (fun o => match o.instr with | .mxchk a _ _ => a.toNat == n | _ => false))
    let old := t.box.toList.getD n {}
    if old.full then (if t.sch.exiting then some s else none)
    else some ((s.onLines c.key [6] (fun u => { u with box := u.box.set! n ⟨v, p, u.det && (ta || otherEngine), true⟩ })).wake
      (fun u q => u.key == c.key && match q with | .box m => m == n | _ => false))

/-- The residue fault of a command (R89, R371): the level open at issue is discarded, or, with no domain open, the task takes an
asynchronous trap; a task that is away takes it when it runs again. -/
def State.residueFault (s : State) (c : Cmd) (blk cell : Nat) : State :=
  let info : DWord := dw (blk * 2 ^ 16 + 3 * 2 ^ 12 + cell)
  match s.task? c.key with
  | none => s
  | some t =>
    let later := s.modTask c.key (fun u => u.modSch (fun x => { x with async := some (0x15, info) }))
    match t.status with
    | .trapped => later
    | .frozen => later
    | .preempted => later
    | _ => if c.depth ≠ 0 then s.discard c.key c.depth else s.takeTrap c.key { code := 0x15, cls := 2, info := info } t.pc.toNat 0

end Sys2Proof.Machine
end

