-- ==== Sys2Proof/Machine/Vector.lean ====
section
/-! DEFINITION. Vector instructions as they issue (R228 to R241): the checks of each entry, then an entry of the slot's vector queue.
What each computes is its form in `vForm`; it takes effect in the rows VECTOR_COMMAND_BEGIN and VECTOR_COMMAND_COMPLETE. -/

namespace Sys2Proof.Machine

/-- A vector instruction of format V (no guard, no G operand). -/
def vPlain (i : Instr) (s : State) : Host.Outcome State Fault Refusal := run0 i s (fun s => issueV i [] false false s id noCheck)

/-- An instruction that takes its type from SR.VTYPE (R220, R221): a code it does not accept is the illegal-instruction fault, before
the guard (R51). -/
def vtyped (i : Instr) (s : State) (k : Host.Outcome State Fault Refusal) : Host.Outcome State Fault Refusal :=
  if acceptsIntFlt (BitVec.ofNat 5 (bits s.cur.st.vtype 0 5)) then k else finish i (fault s 0x01)

/-- Whether n bytes of a slice meet the second range of a valid window (R148, R232). -/
def State.meetsSecond (s : State) (gt off n : Nat) : Bool :=
  (s.tile gt).win.any (fun e => e.2.valid && decide (e.2.base + e.2.size < off + n) && decide (off < e.2.base + 2 * e.2.size))

/-- The checks of VLD and VST on their address (R232). -/
def vAddr (right : Nat) (s : State) (f : VForm) (k : Act) : Act :=
  let a := match f.mem with | .load a => a | .store a => a | _ => 0
  if 2 ^ 56 ≤ a ∨ aRegion a ≠ 0 then faultAt s 0x04 a
  else chkAct s a (s.check s.cur.who (s.taskGt s.cur) right a 256) (fun l =>
    if a % 64 ≠ 0 then faultAt s 0x06 a
    else match l with
    | .sram gt off =>
      if s.meetsSecond gt off 256 then faultAt s 0x08 a
      else if right = rWR ∧ storeAllowed s l 256 = false then illegalOperand s
      else k
    | _ => faultAt s 0x04 a)

/-- The checks of VGATH and VSCAT on ga (R233). -/
def vIndexed (right : Nat) (s : State) (f : VForm) (k : Act) : Act :=
  let a := match f.mem with | .gather a => a | .scatter a => a | _ => 0
  chkAct s a (s.check1 s.cur.who (s.taskGt s.cur) right a) (fun l =>
    if aRegion a ≠ 0 then faultAt s 0x04 a
    else if a % (tyWidth f.ty / 8) ≠ 0 then faultAt s 0x06 a
    else if right = rWR ∧ storeAllowed s l 1 = false then illegalOperand s
    else k)

/-- The checks of VLDC and VSTC on their handle (R234, R385). -/
def vPaged (out : Bool) (s : State) (f : VForm) (k : Act) : Act :=
  let h := match f.mem with | .pageIn h _ => h | .pageOut h => h | _ => 0
  checkHandle s h (fun b =>
    if b.plog ≠ 8 then illegalOperand s
    else if out && s.cur.depth != 0 && !b.prot then illegalOperand s
    else k)

/-- The checks of VXACC and VXDRAIN on their block (R237, R245). -/
def vBlock (fresh : Bool) (s : State) (f : VForm) (k : Act) : Act :=
  let n := f.z.getD 0
  if !s.cur.claims n then illegalOperand s
  else if s.cur.view n = 4 then illegalOperand s
  else if !fresh && s.cur.view n != 3 then illegalOperand s
  else k

/-- VADD.S (R241). -/
def execVaddS (x : BitVec 4) (d : BitVec 4) (s : State) : Host.Outcome State Fault Refusal :=
  vtyped (.vaddS x d) s (vPlain (.vaddS x d) s)
/-- VSUB.S (R241). -/
def execVsubS (x : BitVec 4) (d : BitVec 4) (s : State) : Host.Outcome State Fault Refusal :=
  vtyped (.vsubS x d) s (vPlain (.vsubS x d) s)
/-- VMUL.S (R241). -/
def execVmulS (x : BitVec 4) (d : BitVec 4) (s : State) : Host.Outcome State Fault Refusal :=
  vtyped (.vmulS x d) s (vPlain (.vmulS x d) s)
/-- VMIN.S (R241). -/
def execVminS (x : BitVec 4) (d : BitVec 4) (s : State) : Host.Outcome State Fault Refusal :=
  vtyped (.vminS x d) s (vPlain (.vminS x d) s)
/-- VMAX.S (R241). -/
def execVmaxS (x : BitVec 4) (d : BitVec 4) (s : State) : Host.Outcome State Fault Refusal :=
  vtyped (.vmaxS x d) s (vPlain (.vmaxS x d) s)
/-- VAND.S (R241). -/
def execVandS (x : BitVec 4) (d : BitVec 4) (s : State) : Host.Outcome State Fault Refusal :=
  vtyped (.vandS x d) s (vPlain (.vandS x d) s)
/-- VOR.S (R241). -/
def execVorS (x : BitVec 4) (d : BitVec 4) (s : State) : Host.Outcome State Fault Refusal :=
  vtyped (.vorS x d) s (vPlain (.vorS x d) s)
/-- VXOR.S (R241). -/
def execVxorS (x : BitVec 4) (d : BitVec 4) (s : State) : Host.Outcome State Fault Refusal :=
  vtyped (.vxorS x d) s (vPlain (.vxorS x d) s)
/-- VADD (R228). -/
def execVadd (y : BitVec 5) (m : BitVec 3) (b : BitVec 4) (a : BitVec 4) (d : BitVec 4) (s : State) : Host.Outcome State Fault Refusal :=
  vPlain (.vadd y m b a d) s
/-- VSUB (R228). -/
def execVsub (y : BitVec 5) (m : BitVec 3) (b : BitVec 4) (a : BitVec 4) (d : BitVec 4) (s : State) : Host.Outcome State Fault Refusal :=
  vPlain (.vsub y m b a d) s
/-- VMUL (R228). -/
def execVmul (y : BitVec 5) (m : BitVec 3) (b : BitVec 4) (a : BitVec 4) (d : BitVec 4) (s : State) : Host.Outcome State Fault Refusal :=
  vPlain (.vmul y m b a d) s
/-- VFMA (R228). -/
def execVfma (y : BitVec 5) (m : BitVec 3) (b : BitVec 4) (a : BitVec 4) (d : BitVec 4) (s : State) : Host.Outcome State Fault Refusal :=
  vPlain (.vfma y m b a d) s
/-- VFMS (R228). -/
def execVfms (y : BitVec 5) (m : BitVec 3) (b : BitVec 4) (a : BitVec 4) (d : BitVec 4) (s : State) : Host.Outcome State Fault Refusal :=
  vPlain (.vfms y m b a d) s
/-- VMIN (R228). -/
def execVmin (y : BitVec 5) (m : BitVec 3) (b : BitVec 4) (a : BitVec 4) (d : BitVec 4) (s : State) : Host.Outcome State Fault Refusal :=
  vPlain (.vmin y m b a d) s
/-- VMAX (R228). -/
def execVmax (y : BitVec 5) (m : BitVec 3) (b : BitVec 4) (a : BitVec 4) (d : BitVec 4) (s : State) : Host.Outcome State Fault Refusal :=
  vPlain (.vmax y m b a d) s
/-- VABS (R228). -/
def execVabs (y : BitVec 5) (m : BitVec 3) (a : BitVec 4) (d : BitVec 4) (s : State) : Host.Outcome State Fault Refusal :=
  vPlain (.vabs y m a d) s
/-- VNEG (R228). -/
def execVneg (y : BitVec 5) (m : BitVec 3) (a : BitVec 4) (d : BitVec 4) (s : State) : Host.Outcome State Fault Refusal :=
  vPlain (.vneg y m a d) s
/-- VADDS (R228). -/
def execVadds (y : BitVec 5) (m : BitVec 3) (b : BitVec 4) (a : BitVec 4) (d : BitVec 4) (s : State) : Host.Outcome State Fault Refusal :=
  vPlain (.vadds y m b a d) s
/-- VSUBS (R228). -/
def execVsubs (y : BitVec 5) (m : BitVec 3) (b : BitVec 4) (a : BitVec 4) (d : BitVec 4) (s : State) : Host.Outcome State Fault Refusal :=
  vPlain (.vsubs y m b a d) s
/-- VDIV (R229). -/
def execVdiv (y : BitVec 5) (m : BitVec 3) (b : BitVec 4) (a : BitVec 4) (d : BitVec 4) (s : State) : Host.Outcome State Fault Refusal :=
  vPlain (.vdiv y m b a d) s
/-- VSQRT (R229). -/
def execVsqrt (y : BitVec 5) (m : BitVec 3) (a : BitVec 4) (d : BitVec 4) (s : State) : Host.Outcome State Fault Refusal :=
  vPlain (.vsqrt y m a d) s
/-- VRCP (R229). -/
def execVrcp (y : BitVec 5) (m : BitVec 3) (a : BitVec 4) (d : BitVec 4) (s : State) : Host.Outcome State Fault Refusal :=
  vPlain (.vrcp y m a d) s
/-- VRSQ (R229). -/
def execVrsq (y : BitVec 5) (m : BitVec 3) (a : BitVec 4) (d : BitVec 4) (s : State) : Host.Outcome State Fault Refusal :=
  vPlain (.vrsq y m a d) s
/-- VEXP2 (R229). -/
def execVexp2 (y : BitVec 5) (m : BitVec 3) (a : BitVec 4) (d : BitVec 4) (s : State) : Host.Outcome State Fault Refusal :=
  vPlain (.vexp2 y m a d) s
/-- VLOG2 (R229). -/
def execVlog2 (y : BitVec 5) (m : BitVec 3) (a : BitVec 4) (d : BitVec 4) (s : State) : Host.Outcome State Fault Refusal :=
  vPlain (.vlog2 y m a d) s
/-- VCMP.EQ (R230). -/
def execVcmpEq (y : BitVec 5) (m : BitVec 3) (b : BitVec 4) (a : BitVec 4) (d : BitVec 2) (s : State) : Host.Outcome State Fault Refusal :=
  vPlain (.vcmpEq y m b a d) s
/-- VCMP.NE (R230). -/
def execVcmpNe (y : BitVec 5) (m : BitVec 3) (b : BitVec 4) (a : BitVec 4) (d : BitVec 2) (s : State) : Host.Outcome State Fault Refusal :=
  vPlain (.vcmpNe y m b a d) s
/-- VCMP.LT (R230). -/
def execVcmpLt (y : BitVec 5) (m : BitVec 3) (b : BitVec 4) (a : BitVec 4) (d : BitVec 2) (s : State) : Host.Outcome State Fault Refusal :=
  vPlain (.vcmpLt y m b a d) s
/-- VCMP.LE (R230). -/
def execVcmpLe (y : BitVec 5) (m : BitVec 3) (b : BitVec 4) (a : BitVec 4) (d : BitVec 2) (s : State) : Host.Outcome State Fault Refusal :=
  vPlain (.vcmpLe y m b a d) s
/-- VCMP.UN (R230). -/
def execVcmpUn (y : BitVec 5) (m : BitVec 3) (b : BitVec 4) (a : BitVec 4) (d : BitVec 2) (s : State) : Host.Outcome State Fault Refusal :=
  vPlain (.vcmpUn y m b a d) s
/-- VSEL (R230). -/
def execVsel (y : BitVec 5) (m : BitVec 2) (b : BitVec 4) (a : BitVec 4) (d : BitVec 4) (s : State) : Host.Outcome State Fault Refusal :=
  vPlain (.vsel y m b a d) s
/-- VCLASS (R230). -/
def execVclass (y : BitVec 5) (m : BitVec 3) (a : BitVec 4) (d : BitVec 4) (s : State) : Host.Outcome State Fault Refusal :=
  vPlain (.vclass y m a d) s
/-- VAND (R231). -/
def execVand (y : BitVec 5) (m : BitVec 3) (b : BitVec 4) (a : BitVec 4) (d : BitVec 4) (s : State) : Host.Outcome State Fault Refusal :=
  vPlain (.vand y m b a d) s
/-- VOR (R231). -/
def execVor (y : BitVec 5) (m : BitVec 3) (b : BitVec 4) (a : BitVec 4) (d : BitVec 4) (s : State) : Host.Outcome State Fault Refusal :=
  vPlain (.vor y m b a d) s
/-- VXOR (R231). -/
def execVxor (y : BitVec 5) (m : BitVec 3) (b : BitVec 4) (a : BitVec 4) (d : BitVec 4) (s : State) : Host.Outcome State Fault Refusal :=
  vPlain (.vxor y m b a d) s
/-- VNOT (R231). -/
def execVnot (y : BitVec 5) (m : BitVec 3) (a : BitVec 4) (d : BitVec 4) (s : State) : Host.Outcome State Fault Refusal :=
  vPlain (.vnot y m a d) s
/-- VSHL (R231). -/
def execVshl (y : BitVec 5) (m : BitVec 3) (b : BitVec 4) (a : BitVec 4) (d : BitVec 4) (s : State) : Host.Outcome State Fault Refusal :=
  vPlain (.vshl y m b a d) s
/-- VSHR (R231). -/
def execVshr (y : BitVec 5) (m : BitVec 3) (b : BitVec 4) (a : BitVec 4) (d : BitVec 4) (s : State) : Host.Outcome State Fault Refusal :=
  vPlain (.vshr y m b a d) s
/-- VSRA (R231). -/
def execVsra (y : BitVec 5) (m : BitVec 3) (b : BitVec 4) (a : BitVec 4) (d : BitVec 4) (s : State) : Host.Outcome State Fault Refusal :=
  vPlain (.vsra y m b a d) s
/-- VLD (R232). -/
def execVld (i : BitVec 8) (b : BitVec 5) (t : BitVec 4) (q : BitVec 4) (s : State) : Host.Outcome State Fault Refusal :=
  run (.vld i b t q) q s (fun s => issueV (.vld i b t q) [b] true false s id (vAddr rRD s))
/-- VST (R232). -/
def execVst (i : BitVec 8) (b : BitVec 5) (t : BitVec 4) (q : BitVec 4) (s : State) : Host.Outcome State Fault Refusal :=
  run (.vst i b t q) q s (fun s => issueV (.vst i b t q) [b] true false s id (vAddr rWR s))
/-- VGATH (R233). -/
def execVgath (b : BitVec 4) (a : BitVec 5) (d : BitVec 4) (q : BitVec 4) (s : State) : Host.Outcome State Fault Refusal :=
  vtyped (.vgath b a d q) s (run (.vgath b a d q) q s (fun s => issueV (.vgath b a d q) [a] true false s id (vIndexed rRD s)))
/-- VSCAT (R233). -/
def execVscat (b : BitVec 4) (a : BitVec 5) (d : BitVec 4) (q : BitVec 4) (s : State) : Host.Outcome State Fault Refusal :=
  vtyped (.vscat b a d q) s (run (.vscat b a d q) q s (fun s => issueV (.vscat b a d q) [a] true false s id (vIndexed rWR s)))
/-- VBCAST (R233). -/
def execVbcast (a : BitVec 5) (d : BitVec 4) (q : BitVec 4) (s : State) : Host.Outcome State Fault Refusal :=
  vtyped (.vbcast a d q) s (run (.vbcast a d q) q s (fun s => issueV (.vbcast a d q) [a] false false s id noCheck))
/-- VEXTR (R233). -/
def execVextr (b : BitVec 5) (a : BitVec 4) (d : BitVec 2) (q : BitVec 4) (s : State) : Host.Outcome State Fault Refusal :=
  vtyped (.vextr b a d q) s (run (.vextr b a d q) q s (fun s => issueV (.vextr b a d q) [b] false false s id noCheck))
/-- VPERM (R235). -/
def execVperm (y : BitVec 5) (m : BitVec 3) (b : BitVec 4) (a : BitVec 4) (d : BitVec 4) (s : State) : Host.Outcome State Fault Refusal :=
  vPlain (.vperm y m b a d) s
/-- VSLIDE (R235). -/
def execVslide (y : BitVec 5) (m : BitVec 3) (b : BitVec 4) (a : BitVec 4) (d : BitVec 4) (s : State) : Host.Outcome State Fault Refusal :=
  vPlain (.vslide y m b a d) s
/-- VZIP (R235). -/
def execVzip (y : BitVec 5) (b : BitVec 4) (a : BitVec 4) (d : BitVec 3) (s : State) : Host.Outcome State Fault Refusal :=
  vPlain (.vzip y b a d) s
/-- VUZP (R235). -/
def execVuzp (y : BitVec 5) (b : BitVec 4) (a : BitVec 4) (d : BitVec 3) (s : State) : Host.Outcome State Fault Refusal :=
  vPlain (.vuzp y b a d) s
/-- VLDC (R234). -/
def execVldc (h : BitVec 5) (r : BitVec 4) (q : BitVec 4) (s : State) : Host.Outcome State Fault Refusal :=
  run (.vldc h r q) q s (fun s => issueV (.vldc h r q) [] false true s id (vPaged false s))
/-- VLDC.KEEP (R234). -/
def execVldcKeep (h : BitVec 5) (r : BitVec 4) (q : BitVec 4) (s : State) : Host.Outcome State Fault Refusal :=
  run (.vldcKeep h r q) q s (fun s => issueV (.vldcKeep h r q) [] false true s id (vPaged false s))
/-- VSTC (R234). -/
def execVstc (h : BitVec 5) (r : BitVec 4) (q : BitVec 4) (s : State) : Host.Outcome State Fault Refusal :=
  run (.vstc h r q) q s (fun s => issueV (.vstc h r q) [] false true s id (vPaged true s))
/-- VRED (R236). -/
def execVred (y : BitVec 5) (m : BitVec 3) (a : BitVec 4) (d : BitVec 4) (s : State) : Host.Outcome State Fault Refusal :=
  vPlain (.vred y m a d) s
/-- VRED.BOX (R236). -/
def execVredBox (y : BitVec 5) (m : BitVec 3) (b : BitVec 2) (a : BitVec 4) (s : State) : Host.Outcome State Fault Refusal :=
  vPlain (.vredBox y m b a) s
/-- VRMIN (R236). -/
def execVrmin (y : BitVec 5) (m : BitVec 3) (a : BitVec 4) (d : BitVec 4) (s : State) : Host.Outcome State Fault Refusal :=
  vPlain (.vrmin y m a d) s
/-- VRMIN.BOX (R236). -/
def execVrminBox (y : BitVec 5) (m : BitVec 3) (b : BitVec 2) (a : BitVec 4) (s : State) : Host.Outcome State Fault Refusal :=
  vPlain (.vrminBox y m b a) s
/-- VRMAX (R236). -/
def execVrmax (y : BitVec 5) (m : BitVec 3) (a : BitVec 4) (d : BitVec 4) (s : State) : Host.Outcome State Fault Refusal :=
  vPlain (.vrmax y m a d) s
/-- VRMAX.BOX (R236). -/
def execVrmaxBox (y : BitVec 5) (m : BitVec 3) (b : BitVec 2) (a : BitVec 4) (s : State) : Host.Outcome State Fault Refusal :=
  vPlain (.vrmaxBox y m b a) s
/-- VSCAN (R236). -/
def execVscan (y : BitVec 5) (m : BitVec 3) (a : BitVec 4) (d : BitVec 4) (s : State) : Host.Outcome State Fault Refusal :=
  vPlain (.vscan y m a d) s
/-- VXACC (R237). -/
def execVxacc (m : BitVec 3) (z : BitVec 1) (a : BitVec 4) (d : BitVec 3) (s : State) : Host.Outcome State Fault Refusal :=
  run0 (.vxacc m z a d) s (fun s => issueV (.vxacc m z a d) [] false true s (fun t => if z = 1 then t.modCur (fun u => u.setView d.toNat 3) else t) (vBlock (z == 1#1) s))
/-- VXDRAIN (R237). -/
def execVxdrain (y : BitVec 5) (c : BitVec 1) (h : BitVec 1) (a : BitVec 3) (d : BitVec 4) (s : State) : Host.Outcome State Fault Refusal :=
  run0 (.vxdrain y c h a d) s (fun s => issueV (.vxdrain y c h a d) [] false true s id (vBlock false s))
/-- VTOPK (R238). -/
def execVtopk (y : BitVec 5) (m : BitVec 3) (b : BitVec 4) (a : BitVec 4) (d : BitVec 3) (s : State) : Host.Outcome State Fault Refusal :=
  vPlain (.vtopk y m b a d) s
/-- VQUANT (R240). -/
def execVquant (y : BitVec 5) (a : BitVec 4) (d : BitVec 4) (s : State) : Host.Outcome State Fault Refusal :=
  vPlain (.vquant y a d) s
/-- VDEQ (R240). -/
def execVdeq (y : BitVec 5) (a : BitVec 4) (d : BitVec 4) (s : State) : Host.Outcome State Fault Refusal :=
  vPlain (.vdeq y a d) s
/-- VCVT (R239). -/
def execVcvt (x : BitVec 5) (y : BitVec 5) (m : BitVec 3) (a : BitVec 4) (d : BitVec 4) (s : State) : Host.Outcome State Fault Refusal :=
  vPlain (.vcvt x y m a d) s

end Sys2Proof.Machine
end

