-- ==== Sys2Proof/Machine/VectorRun.lean ====
section
/-! DEFINITION. Vector commands as they begin and complete (R223, R225, R226): operands and pages taken at the beginning, destinations,
tags, flags and crust entries written at completion, and results that wait for a box (R205). -/

namespace Sys2Proof.Machine

/-- The command at the head of a slot's queue (R24). -/
def headCmd (q : List Cmd) (slot : Nat) : Option Cmd := q.find? (fun c => c.slot == slot)

/-- Whether a command is its task's oldest to its engine (R223, R248). -/
def oldest (q : List Cmd) (c : Cmd) : Bool :=
  match q.find? (fun o => o.wp == c.wp && o.vi == c.vi) with
  | some o => o.seq == c.seq
  | none => false

/-- Replace a command in the vector queues, or in the matrix queues, of a tile. -/
def State.setV (s : State) (gt : Nat) (c : Cmd) : State := s.modTile gt (fun t => { t with vq := modWhere (fun o => o.seq == c.seq) (fun _ => c) t.vq })
def State.setM (s : State) (gt : Nat) (c : Cmd) : State := s.modTile gt (fun t => { t with mq := modWhere (fun o => o.seq == c.seq) (fun _ => c) t.mq })

/-- A command leaves its engine: flags and crust entries join the task's (R76, R138), output granules of a domain are noted (R387),
busy granules become written (R137), and waiting tasks look again. -/
def State.retireCmd (s : State) (gt : Nat) (c : Cmd) (flags : BitVec 7) : State :=
  let inWin (g : Nat × Nat) : Bool := g.1 == gt && (s.tile gt).win.any (fun e => e.2.valid && decide (e.2.base ≤ g.2 * 256) && decide (g.2 * 256 < e.2.base + 2 * e.2.size))
  let s1 := s.onLines c.key [5, 10] (fun t => (t.modSt (fun x => { x with fpflags := mergeFlags x.fpflags flags })).charge c.crust)
  let s2 := if c.depth = 0 then s1 else s1.modTask c.key (fun t => t.modSch (fun x => { x with touched := x.touched ++ (c.busy.filter inWin).map (fun g => (c.depth, g.1 * 2 ^ 17 + g.2)) }))
  let s3 := (s2.clearBusy c.busy).modTile gt (fun t => { t with
    vq := t.vq.filter (fun o => o.seq ≠ c.seq), mq := t.mq.filter (fun o => o.seq ≠ c.seq) })
  s3.wakeAfter gt c.key

/-- Slice offsets of the lanes of a gather or scatter (R233). -/
def laneOffs (ga : DWord) (ty : Nat) (idx : BitVec 2048) : List Nat :=
  (List.range (min 64 (lanesOf ty))).map (fun j => (bits ga 0 25 + lane 32 idx j * (tyWidth ty / 8)) % 0x1800000)

/-- What a vector command reads from memory or pages as it begins. -/
def State.vRead (s : State) (gt : Nat) (c : Cmd) (f : VForm) (page : Option Nat) : Rd :=
  let at_ (g off n : Nat) : Rd := s.sramRead .engine 3 c.vdie g [] off n
  match f.mem with
  | .load a => s.sramRead .engine 3 (aVdie a) (s.gtOf c.vi a) [] (aOff a) 256
  | .gather a =>
    (laneOffs (dw a) f.ty ((s.cmdTask c).rdV (f.reads.headD 0))).foldl (fun r o =>
      let x := s.sramRead .engine 3 (aVdie a) (s.gtOf c.vi a) [] o (tyWidth f.ty / 8)
      { bytes := r.bytes ++ x.bytes, crust := r.crust ++ x.crust, stop := if r.stop.isSome then r.stop else x.stop }) {}
  | .pageIn h _ => at_ gt ((s.cb gt h).pageOff (page.getD 0)) 256
  | _ => {}

/-- Destination ranges of a vector command: its tile and (offset, bytes). -/
def State.vDest (s : State) (gt : Nat) (c : Cmd) (f : VForm) (page : Option Nat) : Nat × List (Nat × Nat) :=
  match f.mem with
  | .store a => (s.gtOf c.vi a, [(aOff a, 256)])
  | .scatter a => (s.gtOf c.vi a, (laneOffs (dw a) f.ty ((s.cmdTask c).rdV (f.reads.headD 0))).map (fun o => (o, tyWidth f.ty / 8)))
  | .pageOut h => (gt, [((s.cb gt h).pageOff (page.getD 0), 256)])
  | _ => (gt, [])

/-- The operands of a command as its form takes them. -/
def State.vEnv (s : State) (gt : Nat) (c : Cmd) (f : VForm) (t : Task) : VEnv :=
  { ty := f.ty, masked := f.msk.isSome, mask := c.mask, ops := c.ops, old := f.dsts.map t.rdV, oldM := match f.mdst with | some m => t.rdM m | none => 0
    ga := c.ga, gb := c.gb, mode := c.mode, rkey := c.rkey, rseq := c.rseq, data := c.bytes, blk := s.blk gt (f.z.getD 0) }

/-- A vector command begins (R222, R223): its page first, then its operands and the memory it reads; its destination granules become
busy. One that must wait stays at the head of its queue. -/
def State.beginV (s : State) (gt : Nat) (c : Cmd) (f : VForm) : State :=
  let ask : State × Option (Option Nat) := match f.mem, c.grants with
    | .pageIn h keep, [] => let r := s.cmdPages gt h 1 1 c.seq c.key keep; (r.1, r.2.map some)
    | .pageOut h, [] => let r := s.cmdPages gt h 0 1 c.seq c.key false; (r.1, r.2.map some)
    | _, g :: _ => (s, some (some g.2.1))
    | _, [] => (s, some none)
  match ask.2 with
  | none => ask.1.setV gt { c with phase := .waiting }
  | some page =>
    let h := match f.mem with | .pageIn h _ => h | .pageOut h => h | _ => 0
    let side := match f.mem with | .pageOut _ => 0 | _ => 2
    let s00 := match page, c.grants with | some k, [] => ask.1.modCb gt h (fun b => b.note c.key c.depth side [k]) | _, _ => ask.1
    let s0 := s00.fillFor c.key (vLines f.reads ++ (match f.msk with | some m => [mLine m] | none => []))
    let c0 : Cmd := match page, c.grants with | some k, [] => { c with grants := [(h, k, 1)] } | _, _ => c
    let r := s0.vRead gt c0 f page
    if r.stop.isSome then s0.setV gt { c0 with phase := .waiting }
    else
      let t := s0.cmdTask c
      let d := s0.vDest gt c0 f page
      let b := s0.markBusy d.1 d.2
      let tagged (pv : BitVec 4 → Bool) (pm : BitVec 2 → Bool) : Bool := f.reads.any pv || (match f.msk with | some m => pm m | none => false)
      let c1 : Cmd := { c0 with
        phase := .begun
        ops := f.reads.map t.rdV
        mask := match f.msk with | some m => t.rdM m | none => 0
        pois := c.poisA || c.poisB || tagged t.poisV t.poisM || r.bytes.any (·.2)
        taint := c.taintA || c.taintB || tagged t.taintV t.taintM
        bytes := r.bytes.map (·.1)
        busy := b.2
        crust := r.crust }
      let s1 := (b.1.setV gt c1).onLines c.key [5] (fun u => u.noteV f.reads)
      match (f.eff (s1.vEnv gt c1 f t)).bad with
      | some cell => (s1.retireCmd gt c1 fNone).residueFault c (f.z.getD 0) cell
      | none => s1

/-- The slot whose turn it is, of those an engine can serve: the first after the one served last (R24). -/
def nextSlot (last : Nat) (can : Nat → Bool) : Option Nat := ((List.range 16).map (fun i => (last + 1 + i) % 16)).find? can

/-- The command at the head of a slot's queue if nothing of its task, nor a GLAZE, keeps it from beginning (R149, R223, R237, R248). -/
def State.vCan (s : State) (gt slot : Nat) : Option (Cmd × VForm) :=
  match headCmd (s.tile gt).vq slot with
  | none => none
  | some c =>
    match c.vform with
    | none => none
    | some f =>
      if (c.phase = .queued ∨ c.phase = .waiting) ∧ oldest (s.tile gt).vq c = true ∧ s.crossWait c (s.tile gt).mq = false ∧ s.glazeHeld c = false then some (c, f)
      else none

/-- The slot that the vector engine of a tile serves next (R24): a command that already waits for pages counts once they can be had. -/
def State.vNext (s : State) (gt : Nat) : Option Nat :=
  nextSlot (s.tile gt).vlast (fun n => match s.vCan gt n with | some (c, f) => c.phase == .queued || decide (s.beginV gt c f ≠ s) | none => false)

/-- VECTOR_COMMAND_BEGIN (R24, R223): the command at the head of slot `slot`'s queue on tile `gt` begins, in its task's program order and in the
engine's round of the slots. -/
def execVectorCommandBegin (s : State) : Host.Outcome State Fault Refusal :=
  let gt := s.ev.gt
  match s.vCan gt s.ev.slot with
  | none => noUnit "VECTOR_COMMAND_BEGIN"
  | some (c, f) =>
    if s.vNext gt = some s.ev.slot then .next ((s.beginV gt c f).modTile gt (fun t => { t with vlast := s.ev.slot }))
    else noUnit "VECTOR_COMMAND_BEGIN"

/-- Elements of a scatter, in lane order: offset and bytes. -/
def scatterCells (c : Cmd) (f : VForm) : List (Nat × List Byte) :=
  (laneOffs c.ga f.ty (c.ops.getD 0 0)).zipIdx.map (fun e => (e.1, toBytes (tyWidth f.ty / 8) (lane (tyWidth f.ty) (c.ops.getD 1 0) e.2)))

/-- The memory and pages that a vector command writes (R232 to R234); the crust entries are charged at retirement. -/
def State.vWrite (s : State) (gt : Nat) (c : Cmd) (f : VForm) : State × List DWord :=
  let put (x : State × List DWord) (g v off : Nat) (bs : List Byte) : State × List DWord :=
    let w := x.1.sramWrite 3 v g c.busy off bs (List.replicate bs.length c.pois)
    (w.s, x.2 ++ w.crust)
  match f.mem with
  | .store a => put (s, []) (s.gtOf c.vi a) (aVdie a) (aOff a) (vBytes (c.ops.getD 0 0))
  | .scatter a => (scatterCells c f).foldl (fun x e => put x (s.gtOf c.vi a) (aVdie a) e.1 e.2) (s, [])
  | .pageOut h =>
    let k := match c.grants with | g :: _ => g.2.1 | [] => 0
    let x := put (s, []) gt c.vdie ((s.cb gt h).pageOff k) (vBytes (c.ops.getD 0 0))
    (x.1.modCb gt h (fun b => b.completeP c.key c.depth [k]), x.2)
  | .pageIn h false =>
    let k := match c.grants with | g :: _ => g.2.1 | [] => 0
    (s.modCb gt h (fun b => b.completeC c.key c.depth [k]), [])
  | _ => (s, [])

/-- The registers that a vector command writes, with their tags (R200, R225). -/
def State.vRegs (s : State) (c : Cmd) (f : VForm) (r : VRes) : State :=
  let merge := f.keeps && f.msk.isSome
  let own := 5 :: (match f.mdst with | some m => [mLine m] | none => [])
  let here := match s.task? c.key with | some t => t.inCache | none => false
  -- a write of whole registers needs no fill, and makes their lines present (R195)
  s.onLines c.key (if merge || !here then vLines f.dsts ++ own else own) (fun t0 =>
    let t := { t0 with absentLines := t0.absentLines.filter (fun l => !(vLines (f.dsts.filter t0.liveV)).contains l) }
    let t1 := (f.dsts.zip r.v).foldl (fun u e => u.wrV e.1 e.2 (c.pois || r.pois || (merge && t.poisV e.1)) (c.taint || (merge && t.taintV e.1))) t
    match f.mdst with
    | some m => t1.wrM m r.m (c.pois || (merge && t.poisM m)) (c.taint || (merge && t.taintM m))
    | none => t1)

/-- The block that a vector command writes; leaving wide mode unconfigures Z1 to Z4 (R237). -/
def State.vBlockPut (s : State) (gt : Nat) (f : VForm) (r : VRes) : State :=
  match f.z, r.blk with
  | some n, some b =>
    let wide := n == 0 && (s.blk gt 0).mode == 2 && b.mode == 3
    let s1 := s.modBlk gt n (fun _ => b)
    if wide then [1, 2, 3, 4].foldl (fun x k => x.modBlk gt k (fun _ => {})) s1 else s1
  | _, _ => s

/-- VECTOR_COMMAND_COMPLETE (R223, R225): the command in progress of slot `slot` on tile `gt` writes its destinations. -/
def execVectorCommandComplete (s : State) : Host.Outcome State Fault Refusal :=
  let gt := s.ev.gt
  match headCmd (s.tile gt).vq s.ev.slot with
  | none => noUnit "VECTOR_COMMAND_COMPLETE"
  | some c =>
    match c.vform with
    | none => noUnit "VECTOR_COMMAND_COMPLETE"
    | some f =>
      let d := s.vDest gt c f (c.grants.head?.map (fun g => g.2.1))
      -- a write to a doubleword that another task has reserved waits for the release (R343)
      if c.phase ≠ .begun ∨ d.2.any (fun r => (s.writeHeld c.key (.sram d.1 r.1) r.2).isSome) = true then noUnit "VECTOR_COMMAND_COMPLETE"
      else
        let r := f.eff (s.vEnv gt c f (s.cmdTask c))
        let w := (s.vBlockPut gt f r).vWrite gt c f
        let c1 : Cmd := { c with crust := c.crust ++ w.2, flags := r.fl.setWidth 64, result := f.box.map (fun n => (n.toNat, r.sc, c.pois, c.taint)) }
        let s1 := (w.1.vRegs c f r).setV gt c1
        match s1.fillBox c1 with
        | some s2 => .next (s2.retireCmd gt c1 r.fl)
        | none => .next (s1.setV gt { c1 with phase := .boxWait })

/-- BOX_WRITE (R205): a result of slot `slot` on tile `gt` (kind 0 vector, 1 matrix) that waits for its box fills it. -/
def execBoxWrite (s : State) : Host.Outcome State Fault Refusal :=
  let gt := s.ev.gt
  match headCmd (if s.ev.kind = 0 then (s.tile gt).vq else (s.tile gt).mq) s.ev.slot with
  | none => noUnit "BOX_WRITE"
  | some c =>
    if c.phase ≠ .boxWait then noUnit "BOX_WRITE"
    else match s.fillBox c with
      | some s1 => .next (s1.retireCmd gt c (c.flags.setWidth 7))
      | none => noUnit "BOX_WRITE"

end Sys2Proof.Machine
end

