-- ==== Sys2Proof/Machine/Matrix.lean ====
section
/-! DEFINITION. The matrix engine (10_matrix_engine.md): its instructions as they issue, the bindings and hold generations (R252,
R253), streams' subscriptions (R266, R267), and the commands as they begin and complete (R254 to R279). -/

namespace Sys2Proof.Machine

/-! ## Issue -/

/-- Enter a matrix command in its slot's queue, once the slot has a free entry; one that accesses memory waits for the task's outstanding releases
(R356). -/
def issueM (i : Instr) (gs : List (BitVec 5)) (rounds : Option Nat) (s : State) (upd : State → State) : Act :=
  let c := s.mkCmd i (match gs with | g :: _ => s.cur.rdG g | [] => {}) {}
  let s1 := upd (s.pushM c)
  if c.touchesMem s && s.strongStore then .park s (.stores 0)
  else .next { s1 with cur := (s1.cur.noteReads gs).bumpSeq rounds.isSome (rounds.getD 0) }

/-- A full queue is tried again at the slot's next turn (R24). -/
def withRoom (s : State) (k : Act) : Act := if s.mFull then .retry s else k

/-- The claim on a block, and a view that is not Member (R245). -/
def withClaim (s : State) (n : Nat) (views : List Nat) (k : Act) : Act :=
  if s.cur.claims n && views.contains (s.cur.view n) then k else illegalOperand s

/-- Commands of the issuing task, of either engine, that name a block. -/
def State.blockBusy (s : State) (n : Nat) : Bool := (s.cmdsOf s.cur).any (fun c => c.block == some n)

/-- A block's configuration as the issuing task's program order gives it. -/
def State.cfgAtIssue (s : State) (n : Nat) : DWord :=
  (s.mCmds s.cur).foldl (fun w c => match c.instr with
    | .mxcfg _ d _ => if d.toNat = n then c.ga else w
    | .mxfill _ d _ => if d.toNat = n then c.cfg else w
    | _ => w) (s.blk (s.taskGt s.cur) n).config

/-- The deferred fault of a block's fault record, which it clears (R269); the detail holds the block, FKIND and FCELL. -/
def blockFault (s : State) (n : Nat) (k : Act) : Act :=
  let gt := s.taskGt s.cur
  let b := s.blk gt n
  -- what the block held before the task's first mode-setting command is never read (R246)
  if s.cur.view n = 0 ∨ b.fkind = 0 then k
  else .trap (s.modBlk gt n (fun b => { b with fkind := 0, fcell := 0 }))
    { code := if b.fkind = 1 then 0x13 else 0x14, cls := 1, info := dw (n * 2 ^ 16 + b.fkind * 2 ^ 12 + b.fcell) }

/-- MXCFG (R249). -/
def execMxcfg (a : BitVec 5) (d : BitVec 3) (q : BitVec 4) (s : State) : Host.Outcome State Fault Refusal :=
  run (.mxcfg a d q) q s (fun s => withRoom s (checkRegs s [a] (
    let w := (s.cur.rdG a).v
    withClaim s d.toNat [0, 1, 2, 3] (
      if cfgWide w && !([0, 1, 2, 3, 4].all s.cur.claims) then illegalOperand s
      else if !cfgOk d.toNat w then illegalOperand s
      else issueM (.mxcfg a d q) [a] none s (fun s => { s with cur := s.cur.setView d.toNat (if cfgWide w then 2 else 1) })))))

/-- MXZERO (R250). -/
def execMxzero (d : BitVec 3) (q : BitVec 4) (s : State) : Host.Outcome State Fault Refusal :=
  run (.mxzero d q) q s (fun s => withRoom s (withClaim s d.toNat [1, 2, 3] (issueM (.mxzero d q) [] none s id)))

/-- Fields of a binding (R252). -/
def bindValid (m : DWord) : Bool := bit m 15

/-- The size checks of one buffer operand of MXMAC (R254). -/
def State.macSizeOk (s : State) (m cfg : DWord) (size : Nat) : Bool :=
  let b := s.cb (s.taskGt s.cur) (bindH m)
  bindPages m * 2 ^ b.plog == size && decide (bindPages m + (if cfgSc cfg then 1 else 0) ≤ b.pages) && (!cfgSc cfg || decide (cfgK cfg ≤ 2 ^ b.plog))

/-- The unfold cursor after a step of depth K (R261). -/
def advanceCursor (m : MatState) (k : Nat) : MatState :=
  if bindAlt m.mxa then { m with ufcur := setBits m.ufcur 32 32 ((bits m.ufcur 32 32 + k) % 2 ^ 32) } else m

/-- MXMAC (R254). -/
def execMxmac (d : BitVec 3) (q : BitVec 4) (s : State) : Host.Outcome State Fault Refusal :=
  run (.mxmac d q) q s (fun s => withRoom s (withClaim s d.toNat [1, 2] (
    let m := s.cur.mx
    let cfg := s.cfgAtIssue d.toNat
    let uf := bindAlt m.mxa
    if !bindValid m.mxa || !bindValid m.mxb then illegalOperand s
    else
      let aBuf (k : Act) : Act := if uf then k else checkHandle s (bindH m.mxa) (fun _ => k)
      aBuf (checkHandle s (bindH m.mxb) (fun b =>
        if (!uf && !s.macSizeOk m.mxa cfg (cfgSa cfg)) || !s.macSizeOk m.mxb cfg (cfgSb cfg) then illegalOperand s
        else if uf && (!bit m.uf0 63 || bits m.uf0 25 5 != cfgFa cfg || cfgSc cfg) then illegalOperand s
        else if bindAlt m.mxb && b.sub.isNone then illegalOperand s
        else issueM (.mxmac d q) [] none s (fun s => s.modCur (fun t => { t with mx := advanceCursor t.mx (cfgK cfg) })))))))

/-- MXWAIT (R270), an acquire (R363). -/
def execMxwait (d : BitVec 3) (q : BitVec 4) (s : State) : Host.Outcome State Fault Refusal :=
  run (.mxwait d q) q s (fun s => withClaim s d.toNat [0, 1, 2, 3] (
    if s.blockBusy d.toNat then .park s (.block d.toNat) else releaseWait s (blockFault s d.toNat (.next s))))

/-- MXCHK (R271). -/
def execMxchk (a : BitVec 2) (d : BitVec 3) (q : BitVec 4) (s : State) : Host.Outcome State Fault Refusal :=
  run (.mxchk a d q) q s (fun s => withRoom s (withClaim s d.toNat [1, 2, 3] (issueM (.mxchk a d q) [] none s id)))

/-! ## Bindings (R252, R253, R260, R268) -/

/-- Release the pages of generations that have ended and whose MXMACs have completed (R253). Inside a domain the release is held and the
pages stay named until it takes effect (R385). -/
def State.settleHolds (s : State) (k : Nat) : State :=
  match s.task? k with
  | none => s
  | some t =>
    let gt := s.taskGt t
    let live (op gen : Nat) : Bool := (!t.sch.exiting && gen == (if op = 0 then t.mx.genA else t.mx.genB)) ||
      (s.mCmds t).any (fun c => match c.instr with | .mxmac _ _ => (if op = 0 then c.mx.genA else c.mx.genB) == gen | _ => false) ||
      t.sch.savedGens.any (fun g => (if op = 0 then g.1 else g.2) == gen)
    s.modTile gt (fun x => { x with cb := x.cb.map (fun e =>
      let b := e.2
      let past := b.holds.filter (fun h => h.1 == k && !live h.2.1 h.2.2.1 && !b.heldReleases.contains h.2.2.2.1)
      if past.isEmpty then e
      else
        let ks := past.flatMap (fun h => (List.range h.2.2.2.2).map (fun i => h.2.2.2.1 + i))
        let b1 := if t.depth = 0 then { b with holds := b.holds.filter (fun h => !past.contains h) } else b
        (e.1, b1.completeC k t.depth ks)) })

/-- A binding word (R252). -/
def bindWord (alt : Bool) (mode : Nat) (n : BitVec 3) (h : BitVec 5) : DWord :=
  dw (0x8000 + (if alt then 0x4000 else 0) + mode * 0x1000 + n.toNat * 0x100 + h.toNat)

/-- Bind A, or B, and start a generation (R252, R253). -/
def bindA (w : DWord) (s : State) : State :=
  (s.modCur (fun t => { t with mx := { t.mx with mxa := w, genA := t.mx.genA + 1 } })).settleHolds s.cur.key
def bindB (w : DWord) (s : State) : State :=
  (s.modCur (fun t => { t with mx := { t.mx with mxb := w, genB := t.mx.genB + 1 } })).settleHolds s.cur.key

/-- MXA (R252). -/
def execMxa (n : BitVec 3) (h : BitVec 5) (q : BitVec 4) (s : State) : Host.Outcome State Fault Refusal :=
  run (.mxa n h q) q s (fun s => .next (bindA (bindWord false 0 n h) s))
/-- MXA.KEEP (R252). -/
def execMxaKeep (n : BitVec 3) (h : BitVec 5) (q : BitVec 4) (s : State) : Host.Outcome State Fault Refusal :=
  run (.mxaKeep n h q) q s (fun s => .next (bindA (bindWord false 1 n h) s))
/-- MXA.HOLD (R252). -/
def execMxaHold (n : BitVec 3) (h : BitVec 5) (q : BitVec 4) (s : State) : Host.Outcome State Fault Refusal :=
  run (.mxaHold n h q) q s (fun s => .next (bindA (bindWord false 2 n h) s))
/-- MXB (R252). -/
def execMxb (n : BitVec 3) (h : BitVec 5) (q : BitVec 4) (s : State) : Host.Outcome State Fault Refusal :=
  run (.mxb n h q) q s (fun s => .next (bindB (bindWord false 0 n h) s))
/-- MXB.KEEP (R252). -/
def execMxbKeep (n : BitVec 3) (h : BitVec 5) (q : BitVec 4) (s : State) : Host.Outcome State Fault Refusal :=
  run (.mxbKeep n h q) q s (fun s => .next (bindB (bindWord false 1 n h) s))
/-- MXB.HOLD (R252). -/
def execMxbHold (n : BitVec 3) (h : BitVec 5) (q : BitVec 4) (s : State) : Host.Outcome State Fault Refusal :=
  run (.mxbHold n h q) q s (fun s => .next (bindB (bindWord false 2 n h) s))
/-- MXB.S (R268): e holds PMODE above the page count. -/
def execMxbS (e d : BitVec 5) (q : BitVec 4) (s : State) : Host.Outcome State Fault Refusal :=
  run (.mxbS e d q) q s (fun s => .next (bindB (bindWord true (e.toNat / 8) (e.setWidth 3) d) s))

/-- UFCFG (R259): the descriptor is read with plain loads, so a misaligned one is the misaligned-access fault (log entry 30). -/
def execUfcfg (a : BitVec 5) (q : BitVec 4) (s : State) : Host.Outcome State Fault Refusal :=
  run (.ufcfg a q) q s (fun s => checkRegs s [a] (
    let ga := (s.cur.rdG a).v.toNat
    chkAct s ga (s.check s.cur.who (s.taskGt s.cur) rRD ga 32) fun _ =>
    if ga % 8 ≠ 0 then faultAt s 0x06 ga
    else withDws s ga 4 (fun s d =>
      if geoOk (nthDw d 0) (nthDw d 1) (nthDw d 2) (nthDw d 3) then
        .next (s.modCur (fun t => { t.noteReads [a] with mx := { t.mx with uf0 := setBit (nthDw d 0) 63 true, uf1 := nthDw d 1, uf2 := nthDw d 2 } }))
      else illegalOperand s)))

/-- MXA.UF (R260). -/
def execMxaUf (a : BitVec 5) (q : BitVec 4) (s : State) : Host.Outcome State Fault Refusal :=
  run (.mxaUf a q) q s (fun s => checkRegs s [a] (
    .next (bindA 0xC000 (s.modCur (fun t => { t.noteReads [a] with mx := { t.mx with ufcur := (s.cur.rdG a).v } })))))

/-! ## Subscriptions (R266, R267) -/

/-- The lowest slot that no subscription of a stream holds. -/
def Stream.freeSlot (x : Stream) : Option Nat := (List.range (stSubs x.entry)).find? (fun i => !x.subs.any (fun e => e.1 == i))

/-- SSUB (R266): the distributor's answer comes at once. -/
def execSsub (a d : BitVec 5) (q : BitVec 4) (s : State) : Host.Outcome State Fault Refusal :=
  run (.ssub a d q) q s (fun s => notInDomain s (checkRegs s [a] (
    let ga := (s.cur.rdG a).v
    let gt := s.taskGt s.cur
    let n := bits ga 0 8
    if bits ga 8 56 ≠ 0 then illegalOperand s
    else checkHandle s d.toNat (fun b =>
      let x := tget {} (s.die (gt / 128)).streams n
      if !bit x.entry 63 || stOwner x.entry != s.cur.vi then illegalOperand s
      else if b.plog ≠ stPlog x.entry ∨ b.prot = true ∨ b.sub.isSome = true then illegalOperand s
      else match x.freeSlot with
        | none => illegalOperand s
        | some slot =>
          let s1 := (s.modCb gt d.toNat (fun b => { b with sub := some (n, slot) })).modDie (gt / 128) (fun y => { y with
            streams := tmod {} y.streams n (fun z => { z with subs := z.subs ++ [(slot, gt, d.toNat)] }) })
          .next (s1.modCur (fun t => t.noteReads [a]))))))

/-- SUNSUB (R267): deliveries are single events, so none is in progress when it acts. -/
def execSunsub (d : BitVec 5) (q : BitVec 4) (s : State) : Host.Outcome State Fault Refusal :=
  run (.sunsub d q) q s (fun s => notInDomain s (
    let gt := s.taskGt s.cur
    checkHandle s d.toNat (fun b =>
      match b.sub with
      | none => illegalOperand s
      | some (n, slot) =>
        let bound := (s.tile gt).mq.any (fun c => match c.instr with | .mxmac _ _ => bindAlt c.mx.mxb && bindH c.mx.mxb == d.toNat | _ => false)
        if bound then .park s (.delivery d.toNat)
        else .next ((s.modCb gt d.toNat (fun b => { b.dequeue (.stream n) with sub := none })).modDie (gt / 128) (fun y => { y with
          streams := tmod {} y.streams n (fun z => { z with subs := z.subs.filter (fun e => e.1 != slot) }) })))))

/-! ## Drain, spill and fill -/

/-- Whether an output type is in R272's list. -/
def drainType (y : Nat) : Bool := [0, 1, 2, 3, 4, 8, 9, 10, 11, 12, 16, 17, 18, 19, 20, 21, 22, 23].contains y

/-- The window fault, with an event-log entry for another VI's window (R148, R408). -/
def windowFault (s : State) (w : Nat) : Act :=
  let x := s.win (s.taskGt s.cur) w
  .trap (if x.valid && x.owner != s.cur.vi then s.foreign 0x08 w else s) { code := 0x08 }

/-- MXDRAIN (R272). -/
def execMxdrain (k n : BitVec 3) (h r : BitVec 5) (q : BitVec 4) (s : State) : Host.Outcome State Fault Refusal :=
  run (.mxdrain k n h r q) q s (fun s =>
    let i : Instr := .mxdrain k n h r q
    let g := (s.cur.rdG r).v
    let gt := s.taskGt s.cur
    let blk := bits g 0 3
    let ty := bits g 8 5
    let size := 128 * tyWidth ty
    let rm := resolveRm k.toNat s.cur.st.mode
    if s.blockBusy blk then .retry s
    else withRoom s (checkRegs s [r] (
      if bits g 57 7 ≠ 0 ∨ bits g 21 11 ≠ 0 ∨ bits g 13 4 ≠ 0 ∨ bits g 3 5 ≠ 0 ∨ drainType ty = false then illegalOperand s
      else withClaim s blk [1, 2] (
        if bit g 20 then
          let w := s.win gt h.toNat
          if n ≠ 0 ∨ h.toNat ≥ 16 then fault s 0x01
          else if !w.valid || w.owner != s.cur.vi then windowFault s h.toNat
          else if bits g 32 25 % 256 ≠ 0 ∨ w.size < bits g 32 25 + size then illegalOperand s
          else blockFault s blk (
            if s.cur.depth ≠ 0 ∧ (s.owin s.cur >>> h.toNat) % 2 = 0 then illegalOperand s
            else issueM i [r] (some rm) s id)
        else checkHandle s h.toNat (fun b =>
          if pagesOf n * 2 ^ b.plog ≠ size ∨ b.pages < pagesOf n then illegalOperand s
          else blockFault s blk (
            if s.cur.depth ≠ 0 ∧ b.prot = false then illegalOperand s
            else issueM i [r] (some rm) s id))))))

/-- The address checks that MXSPILL and MXFILL share for an image of n bytes (R276, R277). -/
def imageRange (s : State) (right ga n : Nat) (k : Loc → Act) : Act :=
  chkAct s ga (s.check s.cur.who (s.taskGt s.cur) right ga n) (fun l =>
    match l with
    | .sram gt off => if s.meetsSecond gt off n then faultAt s 0x08 ga else k l
    | _ => faultAt s 0x04 ga)

/-- MXSPILL (R276). -/
def execMxspill (a : BitVec 5) (d : BitVec 3) (q : BitVec 4) (s : State) : Host.Outcome State Fault Refusal :=
  run (.mxspill a d q) q s (fun s =>
    if s.blockBusy d.toNat then .retry s
    else withRoom s (checkRegs s [a] (
      let ga := (s.cur.rdG a).v.toNat
      let n := imageSize (s.cur.view d.toNat)
      withClaim s d.toNat [1, 2, 3] (
        if aRegion ga ≠ 0 ∨ ga % 64 ≠ 0 then illegalOperand s
        else imageRange s rWR ga n (fun l => blockFault s d.toNat (
          if storeAllowed s l n then issueM (.mxspill a d q) [a] none s id else illegalOperand s))))))

/-- The header checks of MXFILL for block n (R277). -/
def fillHeadOk (n : Nat) (h : List DWord) : Bool :=
  let cfg := nthDw h 0
  let st := nthDw h 1
  let mode := bits st 0 3
  bits st 54 10 == 0 && bits st 6 38 == 0 && !bit st 3 && (h.drop 2).all (· == 0) && decide (1 ≤ mode ∧ mode ≤ 3) && bits st 4 2 != 3 &&
  (if mode = 3 then cfg == 0 else cfgOk n cfg && (cfgWide cfg == (mode == 2)))

/-- MXFILL (R277): the header read at issue travels with the command. -/
def execMxfill (a : BitVec 5) (d : BitVec 3) (q : BitVec 4) (s : State) : Host.Outcome State Fault Refusal :=
  run (.mxfill a d q) q s (fun s => withRoom s (if s.strongStore then .park s (.stores 0) else checkRegs s [a] (
    let ga := (s.cur.rdG a).v.toNat
    withDws s ga 8 (fun s h =>
      let mode := bits (nthDw h 1) 0 3
      if aRegion ga ≠ 0 ∨ ga % 64 ≠ 0 then illegalOperand s
      else if !fillHeadOk d.toNat h then illegalOperand s
      else withClaim s d.toNat [0, 1, 2, 3] (
        if mode = 2 ∧ [0, 1, 2, 3, 4].all s.cur.claims = false then illegalOperand s
        else imageRange s rRD ga (imageSize mode) (fun _ =>
          let c := { s.mkCmd (.mxfill a d q) (s.cur.rdG a) {} with cfg := nthDw h 0, bytes := h.flatMap (fun x => toBytes 8 x.toNat) }
          let s1 := s.pushM c
          .next { s1 with cur := (s1.cur.noteReads [a]).setView d.toNat mode }))))))

/-! ## Beginning -/

/-- Ask for the pages still missing, one request after another (R255); the grants so far, and whether all are in. -/
def State.askPages (s : State) (gt : Nat) (c : Cmd) (keep : PageReq → Bool) (side : Nat) : List PageReq → State × Cmd × Bool
  | [] => (s, c, true)
  | r :: rest =>
    let x := s.cmdPages gt r.h side r.n c.seq c.key (keep r)
    match x.2 with
    | none => (x.1, c, false)
    | some k =>
      let kind := if side = 0 then 0 else 2
      (x.1.modCb gt r.h (fun b => b.note c.key c.depth kind ((List.range r.n).map (fun i => k + i)))).askPages gt
        { c with grants := c.grants ++ [(r.h, k, r.n)] } keep side rest

/-- First pages of the requests: held ones, and grants in order. -/
def firstPages : List PageReq → List (Nat × Nat × Nat) → List Nat
  | [], _ => []
  | r :: rest, gs =>
    match r.held with
    | some k => k :: firstPages rest gs
    | none => (match gs with | g :: _ => g.2.1 | [] => 0) :: firstPages rest gs.tail

/-- Read the pages of a grant as one run of bytes (R251). -/
def State.readPages (s : State) (gt vdie h first n : Nat) : Rd :=
  (List.range n).foldl (fun r i =>
    let b := s.cb gt h
    let x := s.sramRead .engine 3 vdie gt [] (b.pageOff (first + i)) (2 ^ b.plog)
    { bytes := r.bytes ++ x.bytes, crust := r.crust ++ x.crust, stop := if r.stop.isSome then r.stop else x.stop }) {}

/-- The unfold unit's reads for one step: 64-byte blocks of the tensor, each once, as (block, bytes) (R262). -/
def State.unfoldRead (s : State) (gt vdie : Nat) (g : Geo) (p k0 kk : Nat) : List (Nat × List (Byte × Bool)) × Rd :=
  let w := tyWidth g.ty
  let taps := (List.range 32).flatMap (fun i => (List.range kk).filterMap (fun k => match g.tap (p + i) (k0 + k) with | .elem n => some n | _ => none))
  let blocks := taps.foldl (fun l n => sadd (sadd l ((g.base + n * w / 8) / 64)) ((g.base + ((n + 1) * w - 1) / 8) / 64)) []
  let hi := g.base + g.h * g.w * g.c * w / 8
  blocks.foldl (fun r b =>
    let lo := max g.base (b * 64)
    let x := s.sramRead .engine 3 vdie gt [] lo (min hi (b * 64 + 64) - lo)
    (r.1 ++ [(b, List.replicate (lo - b * 64) (0, false) ++ x.bytes)],
     { bytes := r.2.bytes, crust := r.2.crust ++ x.crust, stop := if r.2.stop.isSome then r.2.stop else x.stop })) ([], {})

/-- The A operand that the unfold unit forms (R258, R261). -/
def unfoldOperand (g : Geo) (p k0 kk : Nat) (blocks : List (Nat × List (Byte × Bool))) : Operand :=
  let w := tyWidth g.ty
  let byte (a : Nat) : Byte × Bool := (tget [] blocks (a / 64)).getD (a % 64) (0, false)
  let tap (i : Nat) : Tap := g.tap (p + i / kk) (k0 + i % kk)
  { elem := fun i => match tap i with
      | .zero => 0
      | .pad => g.pad % 2 ^ w
      | .elem n => (ofBytes [(byte (g.base + n * w / 8)).1, (byte (g.base + n * w / 8 + 1)).1, (byte (g.base + n * w / 8 + 2)).1] >>> (n * w % 8)) % 2 ^ w
    scale := fun _ => 127
    pois := fun i n => (List.range n).any (fun k => match tap (i + k) with
      | .elem e => (byte (g.base + e * w / 8)).2 || (byte (g.base + ((e + 1) * w - 1) / 8)).2
      | _ => false)
    spois := fun _ _ => false }

/-- MXMAC begins (R255, R256): its pages, its operands, and the step. -/
def State.beginMac (s : State) (gt n : Nat) (c : Cmd) : State :=
  let blk := s.blk gt n
  let cfg := blk.config
  let reqs := s.macReqs gt c cfg
  let want := (reqs.filter (fun r => r.held.isNone)).drop c.grants.length
  let x := s.askPages gt c (fun r => r.mode == 1) 1 want
  let s1 := x.1
  let c1 := x.2.1
  if !x.2.2 then s1.setM gt { c1 with phase := .waiting }
  else
    let firsts := firstPages reqs c1.grants
    let rd (op which : Nat) : Rd :=
      match ((reqs.zip firsts).filter (fun e => e.1.op == op))[which]? with
      | some e => s1.readPages gt c.vdie e.1.h e.2 e.1.n
      | none => {}
    let g := geoOf c.mx.uf0 c.mx.uf1 c.mx.uf2
    let uf := bindAlt c.mx.mxa
    let p := bits c.mx.ufcur 0 32
    let k0 := bits c.mx.ufcur 32 32
    let u := if uf then s1.unfoldRead gt c.vdie g p k0 (cfgK cfg) else ([], {})
    let a0 := rd 0 0
    let a1 := rd 0 1
    let b0 := rd 1 0
    let b1 := rd 1 1
    if u.2.stop.isSome || a0.stop.isSome || a1.stop.isSome || b0.stop.isSome || b1.stop.isSome then s1.setM gt { c1 with phase := .waiting }
    else
      let opA := if uf then unfoldOperand g p k0 (cfgK cfg) u.1 else operandOf (tyWidth (cfgFa cfg)) a0.bytes a1.bytes
      let opB := operandOf (tyWidth (cfgFb cfg)) b0.bytes b1.bytes
      let s2 := ((reqs.zip firsts).filter (fun e => e.1.mode == 2 && e.1.held.isNone)).foldl (fun y e =>
        y.modCb gt e.1.h (fun b => { b with holds := b.holds ++ [(c.key, e.1.op, (if e.1.op = 0 then c.mx.genA else c.mx.genB), e.2, e.1.n)] })) s1
      (s2.modBlk gt n (fun b => mxStep b opA opB)).setM gt { c1 with phase := .begun, crust := a0.crust ++ a1.crust ++ u.2.crust ++ b0.crust ++ b1.crust }

/-- Give block n a mode-setting command's contents (R249, R277): Z1 to Z4 follow Z0 into wide mode and out of it. -/
def State.setBlock (s : State) (gt n : Nat) (b : Block) : State :=
  let old := (s.blk gt n).mode
  let s1 := s.modBlk gt n (fun _ => b)
  if b.mode = 2 then [1, 2, 3, 4].foldl (fun x k => x.modBlk gt k (fun _ => { mode := 4 })) s1
  else if n = 0 ∧ old = 2 then [1, 2, 3, 4].foldl (fun x k => x.modBlk gt k (fun _ => {})) s1
  else s1

/-- Destination of an MXDRAIN: slice ranges of its tile (R273). -/
def State.drainDest (s : State) (gt : Nat) (h : Nat) (c : Cmd) : List (Nat × Nat) :=
  if bit c.ga 20 then [((s.win gt h).base + bits c.ga 32 25, 128 * tyWidth (bits c.ga 8 5))]
  else (s.grantRanges gt c).map (fun r => r.2)

/-- MXDRAIN begins (R273). -/
def State.beginDrain (s : State) (gt : Nat) (k n : BitVec 3) (h : BitVec 5) (c : Cmd) : State :=
  let nb := bits c.ga 0 3
  let blk := s.blk gt nb
  match blk.corrupt with
  | some cell => (s.retireCmd gt c fNone).residueFault c nb cell
  | none =>
    let x := if bit c.ga 20 ∨ c.grants ≠ [] then (s, c, true) else s.askPages gt c (fun _ => false) 0 [⟨0, h.toNat, pagesOf n, 0, none⟩]
    if !x.2.2 then x.1.setM gt { x.2.1 with phase := .waiting }
    else
      let c1 := x.2.1
      let o := drainOut blk (bits c.ga 8 5) (resolveRm k.toNat c.mode) (if bit c.ga 18 then bit c.ga 17 else modeSat c.mode) c.rkey c.rseq
      let b := x.1.markBusy gt (x.1.drainDest gt h.toNat c1)
      let s2 := if bit c.ga 19 then b.1.modBlk gt nb (fun z => { z with cells := [] }) else b.1
      s2.setM gt { c1 with phase := .begun, bytes := o.1, marks := o.2.1, flags := o.2.2.setWidth 64, busy := b.2 }

/-- MXSPILL begins (R276). -/
def State.beginSpill (s : State) (gt n : Nat) (c : Cmd) : State :=
  let blk := s.blk gt n
  match blk.corrupt with
  | some cell => (s.retireCmd gt c fNone).residueFault c n cell
  | none =>
    let img := imageOf blk
    let b := s.markBusy (s.gtOf c.vi c.ga.toNat) [(aOff c.ga.toNat, img.length)]
    b.1.setM gt { c with phase := .begun, bytes := img, marks := List.replicate img.length false, busy := b.2 }

/-- MXFILL begins (R277): the header is the one read at issue. -/
def State.beginFill (s : State) (gt n : Nat) (c : Cmd) : State :=
  let mode := bits (dw (ofBytes ((c.bytes.drop 8).take 8))) 0 3
  let ga := c.ga.toNat
  let r := s.sramRead .engine 3 (aVdie ga) (s.gtOf c.vi ga) [] (aOff ga + 64) (imageSize mode - 64)
  if r.stop.isSome then s.setM gt { c with phase := .waiting }
  else
    let b := blockOf (c.bytes.map (fun x => (x, false)) ++ r.bytes)
    match b.corrupt with
    | some cell => (s.retireCmd gt { c with crust := r.crust } fNone).residueFault c n cell
    | none => (s.setBlock gt n b).setM gt { c with phase := .begun, crust := r.crust }

/-- A matrix command begins. -/
def State.beginM (s : State) (gt : Nat) (c : Cmd) : State :=
  match c.instr with
  | .mxcfg _ d _ => (s.setBlock gt d.toNat { mode := if cfgWide c.ga then 2 else 1, config := c.ga }).setM gt { c with phase := .begun }
  | .mxzero d _ => (s.modBlk gt d.toNat (fun b => { b with cells := [], fkind := 0, fcell := 0 })).setM gt { c with phase := .begun }
  | .mxmac d _ => s.beginMac gt d.toNat c
  | .mxchk a d _ =>
    match (s.blk gt d.toNat).corrupt with
    | some cell => (s.retireCmd gt c fNone).residueFault c d.toNat cell
    | none => s.setM gt { c with phase := .begun, result := some (a.toNat, (s.blk gt d.toNat).check, false, false) }
  | .mxdrain k n h _ _ => s.beginDrain gt k n h c
  | .mxspill _ d _ => s.beginSpill gt d.toNat c
  | .mxfill _ d _ => s.beginFill gt d.toNat c
  | _ => s

/-- The command at the head of a slot's queue if nothing of its task, nor a GLAZE, keeps it from beginning (R149, R237, R248). -/
def State.mCan (s : State) (gt slot : Nat) : Option Cmd :=
  match headCmd (s.tile gt).mq slot with
  | none => none
  | some c =>
    if (c.phase = .queued ∨ c.phase = .waiting) ∧ oldest (s.tile gt).mq c = true ∧ s.crossWait c (s.tile gt).vq = false ∧ s.glazeHeld c = false then some c
    else none

/-- The slot that the matrix engine of a tile serves next (R24, R255): a command that already waits for pages counts once they can be had. -/
def State.mNext (s : State) (gt : Nat) : Option Nat :=
  nextSlot (s.tile gt).mlast (fun n => match s.mCan gt n with | some c => c.phase == .queued || decide (s.beginM gt c ≠ s) | none => false)

/-- MATRIX_COMMAND_BEGIN (R24, R248, R255): the command at the head of slot `slot`'s queue on tile `gt` begins, or asks for its pages, in the
engine's round of the slots. -/
def execMatrixCommandBegin (s : State) : Host.Outcome State Fault Refusal :=
  let gt := s.ev.gt
  match s.mCan gt s.ev.slot with
  | none => noUnit "MATRIX_COMMAND_BEGIN"
  | some c =>
    if s.mNext gt = some s.ev.slot then .next ((s.beginM gt c).modTile gt (fun t => { t with mlast := s.ev.slot }))
    else noUnit "MATRIX_COMMAND_BEGIN"

/-! ## Completing -/

/-- The grants of an MXMAC's stream-mode requests: a hold request took a grant only where its pages are the next grant. -/
def streamGrants : List PageReq → List (Nat × Nat × Nat) → List (Nat × Nat × Nat)
  | [], _ => []
  | r :: rest, gs =>
    match gs with
    | [] => []
    | g :: more =>
      if r.mode = 0 then g :: streamGrants rest more
      else if r.mode = 1 ∨ (g.1 = r.h ∧ r.held = some g.2.1) then streamGrants rest more
      else streamGrants rest gs

/-- Release the pages that an MXMAC took in stream mode (R253). -/
def State.releaseMac (s : State) (gt n : Nat) (c : Cmd) : State :=
  (streamGrants (s.macReqs gt c (s.blk gt n).config) c.grants).foldl (fun y g =>
    y.modCb gt g.1 (fun b => b.completeC c.key c.depth ((List.range g.2.2).map (fun i => g.2.1 + i)))) s

/-- Write a command's bytes: a drain's to its window or pages, a spill's image (R273, R276). -/
def State.mWrite (s : State) (gt : Nat) (c : Cmd) : State × List DWord :=
  match c.instr with
  | .mxdrain _ _ h _ _ =>
    let r := (s.drainDest gt h.toNat c).foldl (fun (x : State × List DWord × Nat) d =>
      let w := x.1.sramWrite 3 c.vdie gt c.busy d.1 ((c.bytes.drop x.2.2).take d.2) ((c.marks.drop x.2.2).take d.2)
      (w.s, x.2.1 ++ w.crust, x.2.2 + d.2)) (s, [], 0)
    ((c.grants.foldl (fun x g => x.modCb gt g.1 (fun b => b.completeP c.key c.depth ((List.range g.2.2).map (fun i => g.2.1 + i)))) r.1), r.2.1)
  | .mxspill _ _ _ =>
    let w := s.sramWrite 3 (aVdie c.ga.toNat) (s.gtOf c.vi c.ga.toNat) c.busy (aOff c.ga.toNat) c.bytes c.marks
    (w.s, w.crust)
  | .mxmac d _ => (s.releaseMac gt d.toNat c, [])
  | _ => (s, [])

/-- Places a completing matrix command writes, for the wait of R343. -/
def State.mDest (s : State) (gt : Nat) (c : Cmd) : List (Nat × Nat × Nat) :=
  match c.instr with
  | .mxdrain _ _ h _ _ => (s.drainDest gt h.toNat c).map (fun d => (gt, d))
  | .mxspill _ _ _ => [(s.gtOf c.vi c.ga.toNat, aOff c.ga.toNat, c.bytes.length)]
  | _ => []

/-- MATRIX_COMMAND_COMPLETE (R248, R253, R274): the command in progress of slot `slot` on tile `gt` completes. -/
def execMatrixCommandComplete (s : State) : Host.Outcome State Fault Refusal :=
  let gt := s.ev.gt
  match headCmd (s.tile gt).mq s.ev.slot with
  | none => noUnit "MATRIX_COMMAND_COMPLETE"
  | some c =>
    if c.phase ≠ .begun ∨ (s.mDest gt c).any (fun r => (s.writeHeld c.key (.sram r.1 r.2.1) r.2.2).isSome) = true then noUnit "MATRIX_COMMAND_COMPLETE"
    else
      let w := s.mWrite gt c
      let c1 := { c with crust := c.crust ++ w.2 }
      let s1 := w.1.setM gt c1
      match s1.fillBox c1 with
      | some s2 => .next ((s2.retireCmd gt c1 (c1.flags.setWidth 7)).settleHolds c.key)
      | none => .next (s1.setM gt { c1 with phase := .boxWait })

end Sys2Proof.Machine
end

