-- ==== Sys2Proof/Machine/Commands.lean ====
section
/-! DEFINITION. Instructions that look at the task's engine commands: scopes (R199), boxes (R206), FENCE (R366), GLAZE (R149, R384) and
CBINIT (R146). -/

namespace Sys2Proof.Machine

/-! ## Scopes (R194, R199) -/

/-- Lines that a live set needs (R194). -/
def footprintOf (live : DWord) : Nat :=
  8 + (List.range 4).countP (fun i => bits live (8 * i) 8 != 0) + 4 * (List.range 16).countP (fun n => bit live (32 + n))

/-- Footprint with which a task asks for a slot; both copies of a redundant task count (R194, R199, R304). -/
def Task.footprint (t : Task) : Nat := (max (footprintOf t.scope) t.sch.foot) * (if t.redundant then 2 else 1)

/-- Whether a command names a register of a mask (R199). -/
def Cmd.namesAny (c : Cmd) (m : DWord) : Bool := (namesG c.instr).any (fun n => bit m n.toNat) || (namesV c.instr).any (fun n => bit m (32 + n.toNat))

/-- The checks and the wait that both scope instructions begin with (R199). -/
def withMask (a : BitVec 5) (s : State) (k : DWord → Act) : Act :=
  checkRegs s [a] (
    let m := (s.cur.rdG a).v
    if bits m 48 16 ≠ 0 then illegalOperand s
    else if (s.cmdsOf s.cur).any (fun c => c.namesAny m) then .park s (.commands 3)
    else k m)

/-- A task with registers opened: the new ones are zero and clean (R199), and a line none of whose registers was live needs no fill. -/
def Task.openRegs (t : Task) (m : DWord) : Task :=
  let grow := m &&& ~~~t.scope
  { t with
    scope := t.scope ||| m
    g := Vector.ofFn (fun i => if bit grow i.val then 0 else t.g[i])
    v := Vector.ofFn (fun i => if bit grow (32 + i.val) then 0 else t.v[i])
    st := { t.st with pois := t.st.pois &&& ~~~grow, taint := t.st.taint &&& ~~~grow }
    sch := { t.sch with foot := 0 }
    absentLines := t.absentLines.filter (fun l => !(if l < 4 then bits t.scope (8 * l) 8 == 0 && bits grow (8 * l) 8 != 0
      else decide (16 ≤ l) && bit grow (32 + (l - 16) / 4))) }

/-- SCOPE.OPEN (R199): a larger footprint is asked for by leaving the slot. -/
def execScopeOpen (a : BitVec 5) (q : BitVec 4) (s : State) : Host.Outcome State Fault Refusal :=
  run (.scopeOpen a q) q s (fun s => withMask a s (fun m =>
    let new := footprintOf (s.cur.scope ||| m)
    if footprintOf s.cur.scope < new ∧ s.cur.sch.foot < new then
      .park (if s.cur.hnd then s else s.modCur (fun t => t.modSch (fun x => { x with foot := new }))) .footprint
    else .next (s.modCur (fun t => t.openRegs m))))

/-- SCOPE.CLOSE (R199). -/
def execScopeClose (a : BitVec 5) (q : BitVec 4) (s : State) : Host.Outcome State Fault Refusal :=
  run (.scopeClose a q) q s (fun s => withMask a s (fun m =>
    .next (s.modCur (fun t => { t with scope := t.scope &&& ~~~m }))))

/-! ## Boxes (R206) -/

/-- MBR (R206). -/
def execMbr (a : BitVec 2) (d : BitVec 5) (q : BitVec 4) (s : State) : Host.Outcome State Fault Refusal :=
  run (.mbr a d q) q s (fun s =>
    let b := s.cur.box[a.toNat]
    if b.full then .next (s.modCur (fun t => { t.wrG d ⟨b.value, b.pois, b.taint⟩ with box := t.box.set a.toNat { b with full := false } }))
    else .park s (.box a.toNat))

/-- MBW (R206). -/
def execMbw (a : BitVec 5) (d : BitVec 2) (q : BitVec 4) (s : State) : Host.Outcome State Fault Refusal :=
  run (.mbw a d q) q s (fun s =>
    let x := s.cur.rdG a
    if (s.cur.box[d.toNat]).full then illegalOperand s
    else .next (s.modCur (fun t => { t.noteReads [a] with box := t.box.set d.toNat ⟨x.v, x.p, x.t, true⟩ })))

/-! ## FENCE (R366) -/

/-- The wait of FENCE: the task's engine memory commands and its stores; its loads are performed as they issue. -/
def fenceAct (s : State) : Act :=
  releaseWait s (.next s)

/-- FENCE (R366). -/
def execFence (c : BitVec 3) (q : BitVec 4) (s : State) : Host.Outcome State Fault Refusal := run (.fence c q) q s fenceAct
/-- FENCE.SC (R366). -/
def execFenceSc (c : BitVec 3) (q : BitVec 4) (s : State) : Host.Outcome State Fault Refusal := run (.fenceSc c q) q s fenceAct

/-! ## GLAZE (R149) -/

/-- Whether an open nest of a task of the tile preserves a window (R384). -/
def State.preserves (s : State) (gt w : Nat) : Bool := s.tasks.any (fun t => s.taskGt t == gt && t.depth != 0 && (s.iwin t >>> w) % 2 == 1)

/-- Commands of any task, on any tile, that name a window (R149). -/
def State.winCmds (s : State) (gt w : Nat) : List Cmd := (s.tiles.flatMap (fun e => e.2.vq ++ e.2.mq)).filter (s.cmdNamesWin gt w)

/-- Transfers in flight that name a window of a tile (R149, R168, R282). -/
def State.winXfers (s : State) (gt w : Nat) : List (Nat × Transfer) := s.xfersInFlight.filter (fun e => s.xferNamesWin e.1 e.2 gt w)

/-- Swap the halves of a window: one event (R149, R365). -/
def State.swapWin (s : State) (gt w : Nat) : State := s.modWin gt w (fun x => { x with front := !x.front })

/-- GLAZE (R149). -/
def execGlaze (e : BitVec 5) (a : BitVec 4) (q : BitVec 4) (s : State) : Host.Outcome State Fault Refusal :=
  run (.glaze e a q) q s (fun s => notInDomain s (
    let gt := s.taskGt s.cur
    let w := a.toNat
    let x := s.win gt w
    if !x.valid || x.owner != s.cur.vi then windowFault s w
    else if s.preserves gt w then .park s (.preserved w)
    else
      let cmds := s.winCmds gt w
      let xs := (s.winXfers gt w).map (fun e => (e.1, e.2.id))
      let set := match s.cur.sch.glaze with | some (_, l) => l | none => (cmds.map (·.seq), xs)
      if s.cmdsOf s.cur ≠ [] ∨ s.storesOf s.cur.key ≠ [] ∨ cmds.any (fun c => set.1.contains c.seq) = true ∨ xs.any (fun e => set.2.contains e) = true then
        .park (s.modCur (fun t => t.modSch (fun y => { y with glaze := some (w, set) }))) (.glaze w)
      else .next ((s.swapWin gt w).modCur (fun t => t.modSch (fun y => { y with glaze := none })))))

/-! ## CBINIT (R146) -/

/-- CBINIT of a buffer (R146). -/
def execCbinitBuffer (a : BitVec 5) (q : BitVec 4) (s : State) : Host.Outcome State Fault Refusal :=
  run (.cbinitBuffer a q) q s (fun s => notInDomain s (checkRegs s [a] (
    let ga := (s.cur.rdG a).v.toNat
    releaseWait s (withDws s ga 2 (fun s d =>
      let gt := s.taskGt s.cur
      let h := bits (nthDw d 0) 32 5
      let busy := ((s.tile gt).vq ++ (s.tile gt).mq).any (fun c => c.handles.contains h) || !(s.cb gt h).holds.isEmpty || s.xfersInFlight.any (fun e => s.xferNamesCb e.1 e.2 gt h)
      (cbinitBuffer (nthDw d 0) (nthDw d 1) (ga % 8 == 0) busy s).after (fun s => s.modCur (fun t => t.noteReads [a])))))))

/-- CBINIT of a window (R146). -/
def execCbinitWindow (a : BitVec 5) (q : BitVec 4) (s : State) : Host.Outcome State Fault Refusal :=
  run (.cbinitWindow a q) q s (fun s => notInDomain s (checkRegs s [a] (
    let ga := (s.cur.rdG a).v.toNat
    releaseWait s (withDws s ga 2 (fun s d =>
      let gt := s.taskGt s.cur
      let w := bits (nthDw d 0) 32 4
      (cbinitWindow (nthDw d 0) (nthDw d 1) (ga % 8 == 0) (!(s.winCmds gt w).isEmpty || !(s.winXfers gt w).isEmpty) s).after (fun s => s.modCur (fun t => t.noteReads [a])))))))

end Sys2Proof.Machine
end

