-- ==== Sys2Proof/Machine/MoverRun.lean ====
section
/-! DEFINITION. The mover at work (R157 to R160, R164, R165, R167, R174 to R177): transfers begin in id order, take turns of 64 bytes, and
complete; chains fetch their descriptors; handles are filled and revoked; stream pages are delivered (R264, R265). -/

namespace Sys2Proof.Machine

/-! ## The transfer table at work -/

/-- Put an entry back. -/
def State.xPut (s : State) (gt : Nat) (t : Transfer) : State := s.modTile gt (fun x => { x with xfers := tinsert x.xfers (t.id % 1024) t })
/-- The transfer in flight with an identifier. -/
def State.xfer? (s : State) (gt id : Nat) : Option Transfer :=
  match (s.tile gt).xfers.find? (fun e => e.1 == id % 1024) with
  | some e => if e.2.id = id ∧ e.2.inFlight = true then some e.2 else none
  | none => none

/-- Insert by age, oldest first. -/
def ageInsert (x : Tile) (t : Transfer) : List Transfer → List Transfer
  | [] => [t]
  | u :: r => if x.age u.id < x.age t.id then t :: u :: r else u :: ageInsert x t r
/-- Transfers of a tile in flight, in launch order (R158). -/
def State.inOrder (s : State) (gt : Nat) : List Transfer :=
  let x := s.tile gt
  (x.xfers.filter (fun e => e.2.inFlight)).foldl (fun l e => ageInsert x e.2 l) []

def Transfer.key (t : Transfer) : Nat := t.vi * 2 ^ 56 + t.wp.toNat
/-- Who asks for pages on a transfer's behalf. -/
def Transfer.asker (t : Transfer) (gt : Nat) : Asker := .transfer (gt * 2 ^ 16 + t.id)

/-- Whether an open nest preserves a handle of a VI (R384). -/
def State.handlePreserved (s : State) (v h : Nat) : Bool :=
  s.tasks.any (fun t => t.vi == v && t.depth != 0 && ([s.domWord t 1 1, s.domWord t 1 2].any (fun d => bits d 0 32 == h || bits d 32 32 == h)))

/-- Whether a waiting GLAZE holds a transfer from starting (R149). -/
def State.xferGlazed (s : State) (gt : Nat) (t : Transfer) : Bool :=
  s.tasks.any (fun u => match u.sch.glaze with
    | some (w, _, l) => s.xferNamesWin gt t (s.taskGt u) w && !l.contains (gt, t.id)
    | none => false)

/-- Whether bytes meet those of a transfer of the tile launched before t (R158). -/
def State.xferConflict (s : State) (gt : Nat) (t : Transfer) (f : Foot) : Bool :=
  (s.inOrder gt).any (fun u => decide ((s.tile gt).age t.id < (s.tile gt).age u.id) && f.meets (s.wholeFoot gt u))

/-- Whether a transfer, or the descriptor in force, must wait before it begins to move data (R149, R158, R384). -/
def State.xferHeld (s : State) (gt : Nat) (t : Transfer) : Bool :=
  s.xferConflict gt t (s.foot gt t) ||
  (mvDkind t.regs == 1 && s.handlePreserved t.vi (mvDh t.regs)) || s.xferGlazed gt t

/-- What a transfer finds wrong as it begins to move data: buffers and streams (R160). -/
def State.xferStart (s : State) (gt : Nat) (t : Transfer) : State × Transfer :=
  let r := t.regs
  let bad (g h total : Nat) : Bool := let b := s.cb g h; !b.valid || b.owner != t.vi || total % 2 ^ b.plog != 0
  if mvSkind r = 2 ∧ bad gt (mvSbuf r) (mvSrcBytes r) = true then (s, t.halt 0x05)
  else if mvDkind r = 2 ∧ (s.dstTiles gt t).any (fun g => bad g (mvDbuf r) (mvNominal r)) = true then (s, t.halt 0x04)
  else if mvDkind r = 3 then
    let n := mvDst r % 256
    let x := tget {} (s.die (gt / 128)).streams n
    if !bit x.entry 63 || stOwner x.entry != t.vi then (s, t.halt 0x0C)
    else (s, t)
  else (s, t)

/-! ## Chains (R166 to R168) -/

/-- The code of R160 for a failed check of a descriptor. -/
def chainCode (b : XferBad) : Nat :=
  match b with
  | .shape => 0x01
  | .domain => 0x01
  | .addr _ _ => 0x02
  | .wait _ => 0x02
  | .handle _ => 0x03
  | .srcBuf _ => 0x05
  | .dstBuf _ => 0x04

/-- How the slices answer a request of a transfer for n bytes at a flat address (R91, R92, R405); a fenced or gated tile lets it wait. -/
def State.reach (s : State) (t : Transfer) (a n : Nat) : Chk Loc := s.check ⟨t.vi, true, t.key⟩ 0 rAny a n

/-- Read n bytes of a chain at a flat address: the bytes with marks, or a code of R160; none while a granule is busy or the tile refuses for now. -/
def State.chainRead (s : State) (gt : Nat) (t : Transfer) (a n align : Nat) : Option (List (Byte × Bool) × List DWord ⊕ Nat) :=
  if a % align ≠ 0 ∨ aRegion a ≠ 0 then some (.inr 0x02)
  else match s.reach t a n with
  | .trap _ => some (.inr 0x02)
  | .freeze _ => some (.inr 0x06)
  | .park _ => none
  | .ok _ =>
    let g := s.gtOf t.vi a
    let off := aOff a
    let inWin := match t.detWin with
      | some x => g == gt && (s.tile g).winAt off == some x && (s.tile g).winAt (off + n - 1) == some x
      | none => true
    if !inWin then some (.inr 0x08)
    else if (s.tile g).inSecond off then some (.inr 0x09)
    else
      let r := s.sramRead .engine 2 (aVdie a) g [] off n
      if r.stop.isSome then none else some (.inl (r.bytes, r.crust))

/-- The handle entries that a descriptor names. -/
def descHandles (r : Vector DWord 11) : List Nat := (if mvSkind r = 1 then [mvSh r] else []) ++ (if mvDkind r = 1 then [mvDh r] else [])

/-- Fetch and check the next descriptor, with its predicate word (R166, R167): a park while a granule is busy, or a handle's entry must be waited
for. -/
def State.fetchDesc (s : State) (gt : Nat) (t : Transfer) : Chk Transfer :=
  match t.chain with
  | none => .ok { t with ahead := none }
  | some a =>
    let fail (t : Transfer) (c : Nat) : Chk Transfer := .ok { t with ahead := some { code := c }, chain := none }
    match s.chainRead gt t a 64 64 with
    | none => .park (.granule 0)
    | some (.inr c) => fail t c
    | some (.inl (bs, cr)) =>
      let d := dwordsOf 8 (bs.map (·.1))
      let t1 := { t with crusts := t.crusts ++ cr }
      if bs.any (·.2) then fail t1 0x0B
      else
        let r := descRegs t.regs d
        let x : Transfer := { t with regs := r }
        let entry (h : Nat) : Option (DWord × DWord) := s.handleEntry t.vi h
        match (descHandles r).findSome? (s.handleWait t.vi) with
        | some p => .park p
        | none =>
        let reserved := bits (nthDw d 3) 32 16 ≠ 0 ∨ bits (nthDw d 5) 28 4 ≠ 0 ∨ bits (nthDw d 7) 56 7 ≠ 0 ∨ mvDkind r = 4
        let code := if reserved then some 0x01 else (s.xferCheck ⟨t.vi, false, t.key⟩ gt x (entry (mvSh r)) (entry (mvDh r))).map chainCode
        let next := if nthDw d 6 = 0 then none else some (nthDw d 6).toNat
        match code with
        | some c => fail t1 c
        | none =>
          let got : Ahead := { desc := d, srcH := (entry (mvSh r)).getD (0, 0), dstH := (entry (mvDh r)).getD (0, 0) }
          if !bit (nthDw d 7) 63 then .ok { t1 with ahead := some got, chain := next }
          else match s.chainRead gt t (bits (nthDw d 7) 0 56) 4 4 with
            | none => .park (.granule 0)
            | some (.inr c) => fail t1 c
            | some (.inl (ps, cr2)) =>
              let t2 := { t1 with crusts := t1.crusts ++ cr2 }
              if ps.any (·.2) then fail t2 0x0B
              else .ok { t2 with ahead := some { got with skip := decide (ofBytes (ps.map (·.1)) = bits (nthDw d 5) 32 32) }, chain := next }

/-- TRANSFER_BEGIN (R158): the oldest queued transfer of tile `gt` begins; a chain fetches its first descriptor. -/
def execTransferBegin (s : State) : Host.Outcome State Fault Refusal :=
  let gt := s.ev.gt
  let l := s.inOrder gt
  match l.find? (fun t => t.state == 0) with
  | none => noUnit "TRANSFER_BEGIN"
  | some t =>
    if 8 ≤ l.countP (fun u => u.state == 1) then noUnit "TRANSFER_BEGIN"
    else if t.isChain then
      if s.xferConflict gt t (s.wholeFoot gt t) then noUnit "TRANSFER_BEGIN"
      else match s.fetchDesc gt { t with state := 1 } with
      | .ok t1 => .next (s.xPut gt t1)
      | .park p => s.whenHw t.vi "TRANSFER_BEGIN" (.park p) s
      | _ => noUnit "TRANSFER_BEGIN"
    else if s.xferHeld gt t then noUnit "TRANSFER_BEGIN"
    else
      let x := s.xferStart gt { t with state := 1 }
      .next (x.1.xPut gt x.2)

/-- A chain stopped by a violation freezes as a master of KIND 2: a handle under cause 3, an address outside the VI's windows under cause 1
(R407). -/
def State.freezeXfer (s : State) (gt : Nat) (t : Transfer) (code : Nat) : State :=
  let ident := dw (t.id * 2 ^ 13 + aVdie t.wp.toNat * 2 ^ 7 + gt % 128)
  if code = 0x03 then s.recordFreeze t.vi 2 3 ident else if code = 0x06 then s.recordFreeze t.vi 2 1 ident else s

/-- CHAIN_DESCRIPTOR_FETCH (R167): chain `id` of tile `gt` goes on. A fetched descriptor comes into force and, once nothing holds it, begins
to move data, which fetches the next one; a skipped one fetches the next one; a failed one stops the chain. A fetched descriptor counts as failed
or skipped when its turn comes, after the one before it has completed (log entry 76). -/
def execChainDescriptorFetch (s : State) : Host.Outcome State Fault Refusal :=
  let gt := s.ev.gt
  let no : Host.Outcome State Fault Refusal := noUnit "CHAIN_DESCRIPTOR_FETCH"
  match s.xfer? gt s.ev.id with
  | none => no
  | some t =>
    let put (t : Transfer) : Host.Outcome State Fault Refusal := .next (s.xPut gt t)
    let fetch (s : State) (t : Transfer) : Host.Outcome State Fault Refusal :=
      match s.fetchDesc gt t with
      | .ok t1 => .next (s.xPut gt t1)
      | .park p => s.whenHw t.vi "CHAIN_DESCRIPTOR_FETCH" (.park p) s
      | _ => no
    if !t.isChain || t.state != 1 || t.stop then no
    else if t.inForce then
      if t.began || s.xferHeld gt t then no
      else
        let x := s.xferStart gt { t with began := true }
        fetch x.1 x.2
    else match t.ahead with
      | none => no
      | some a =>
        if a.code ≠ 0 then .next ((s.freezeXfer gt t a.code).xPut gt { t.halt a.code with ahead := none })
        else if a.skip then fetch s { t with ahead := none }
        else
          put { t with regs := descRegs t.regs a.desc, srcH := a.srcH, dstH := a.dstH, ahead := none, inForce := true, began := false,
                       read := 0, done := 0, inp := [], out := [], blocks := 0, badGran := none }

/-! ## A turn (R158) -/

/-- Where a turn's half ended: it went on, it waits, or (a stop is noted in the transfer). -/
structure Half where
  s : State
  t : Transfer
  waits : Bool := false

/-- A frame of this module that is being moved (R101). -/
def State.placeBusy (s : State) (l : Loc) (n : Nat) : Bool :=
  match l with
  | .hbm mma => (List.range (n / 2 ^ 21 + 2)).any (fun i => decide (i * 2 ^ 21 < mma % 2 ^ 21 + n) && s.frameBusy (mma / 2 ^ 21 + i))
  | .peer m mma => m == s.md.number && (List.range (n / 2 ^ 21 + 2)).any (fun i => decide (i * 2 ^ 21 < mma % 2 ^ 21 + n) && s.frameBusy (mma / 2 ^ 21 + i))
  | _ => false

/-- A request of a transfer goes on, waits, or stops it: one outside the VI's windows freezes it (R407), and one whose die binding is gone fails
(R19). -/
def State.served (s : State) (gt : Nat) (t : Transfer) (c : Chk Loc) (k : Half) : Half :=
  match c with
  | .ok _ => k
  | .park _ => ⟨s, t, true⟩
  | .freeze _ => ⟨s.freezeXfer gt t 0x06, t.halt 0x06, false⟩
  | .trap _ => ⟨s, t.halt 0x06, false⟩

/-- The first answer of several that is not a place. -/
def firstOff (l : List (Chk Loc)) : Chk Loc :=
  (l.find? (fun c => match c with | .ok _ => false | _ => true)).getD (.ok (.sram 0 0))

/-- A transfer as the master of a request (R112, R130). -/
def State.xMaster (s : State) (gt : Nat) (t : Transfer) : Master := ⟨some (.transfer t.id), gt, (s.vi t.vi).jobtag⟩

/-- A transfer that must wait for memory, and asks for a missing line (R117, R122). -/
def State.xWait (s : State) (gt : Nat) (t : Transfer) (c : Chk Unit) : Half :=
  match c with
  | .park (.line k w) => ⟨s.askLine (s.xMaster gt t) k w, { t with missed := true }, true⟩
  | _ => ⟨s, t, true⟩

/-- A transfer that a peer's home, or this module's, turns away (R130, R407). -/
def State.refuseXfer (s : State) (gt : Nat) (t : Transfer) : State :=
  (s.recordFreeze t.vi 2 3 (dw (t.id * 2 ^ 13 + aVdie t.wp.toNat * 2 ^ 7 + gt % 128))).xPut gt (t.halt 0x06)

/-- Read up to 64 bytes of the source. -/
def State.mvRead (s : State) (gt : Nat) (t : Transfer) : Half :=
  let r := t.regs
  let n := min 64 (min (mvSrcRest r t.read) (mvSrcBytes r - t.read))
  let took (s : State) (x : Rd) (n : Nat) : Half := ⟨s, { t with inp := t.inp ++ x.bytes, read := t.read + n, crusts := t.crusts ++ x.crust }, false⟩
  match mvSkind r with
  | 0 =>
    let a := (mvSrcAt r t.read).toNat
    let g := s.gtOf t.vi a
    let off := aOff a
    s.served gt t (s.reach t a n) (
      if (s.tile g).inSecond off || (s.tile g).inSecond (off + n - 1) then ⟨s, t.halt 0x09, false⟩
      else
        let x := s.sramRead .engine 2 (aVdie a) g t.busy off n
        if x.stop.isSome then ⟨s, t, true⟩ else took s x n)
  | 1 =>
    let a := (mvSrcAt r t.read).toNat
    let l := hLoc t.srcH a
    -- a turn's bytes stay in one 64-byte granule
    let n := min n (64 - (hBase t.srcH + a) % 64)
    if s.placeBusy l n then ⟨s, t, true⟩
    else
      let x := s.readLoc .engine 2 0 [] l n
      match x.stop with
      | some c => s.xWait gt t c
      | none => let h := took (s.countHits t.missed l n) x n; { h with t := { h.t with missed := false } }
  | _ =>
    let h := mvSbuf r
    let b := s.cb gt h
    let page : State × Option Nat := match t.srcPage with
      | some k => (s, some k)
      | none => match b.grant (t.asker gt) 1 1 false with
        | some (b', k) => (s.modCb gt h (fun _ => (b'.used t.key 1).note t.key t.depth 2 [k]), some k)
        | none => (s.modCb gt h (fun b => b.enqueue (t.asker gt) 1 1), none)
    match page.2 with
    | none => ⟨page.1, t, true⟩
    | some k =>
      let size := 2 ^ b.plog
      let n := min n (size - t.read % size)
      let off := b.pageOff k + t.read % size
      page.1.served gt { t with srcPage := some k } (page.1.reach t (flat (aVdie t.wp.toNat) (gt % 128) off) n) (
        let x := page.1.sramRead .engine 2 (aVdie t.wp.toNat) gt t.busy off n
        if x.stop.isSome then ⟨page.1, { t with srcPage := some k }, true⟩
        else
          let full := (t.read + n) % size == 0
          let s1 := if full then page.1.modCb gt h (fun b => b.completeC t.key t.depth [k]) else page.1
          let y := took s1 x n
          { y with t := { y.t with srcPage := if full then none else some k } })

/-- Bytes of the PX block at the head of what has been read: its header's, and with the header there its payload's too. -/
def Transfer.pxNeed (t : Transfer) : Nat := if t.inp.length < 8 then 8 else 8 + bits (dw (ofBytes ((t.inp.take 8).map (·.1)))) 48 16

/-- Whether the next PX block would pass byte LEN (R174). -/
def Transfer.pxOver (t : Transfer) : Bool :=
  mvOpc t.regs == 3 && decide (t.blocks < mvCnt1 t.regs) && decide (mvLen t.regs < t.read - t.inp.length + t.pxNeed)

/-- Decode the whole PX blocks that have been read (R174, R175). -/
def pxTake : Nat → Transfer → Transfer
  | 0, t => t
  | fuel + 1, t =>
    if mvCnt1 t.regs ≤ t.blocks then { t with inp := [] }
    else if t.pxOver then t
    else
      let need := t.pxNeed
      if t.inp.length < need then t
      else
        let o := pxBlock (mvEtype t.regs) (t.inp.take need)
        let t1 := { t with inp := t.inp.drop need, out := t.out ++ o.bytes, blocks := t.blocks + 1 }
        pxTake fuel (match o.code with | some c => { t1.setCode c with csum := true } | none => t1)

/-- Transform what has been read (R153). -/
def mvTransform (t : Transfer) : Transfer :=
  let r := t.regs
  match mvOpc r with
  | 1 =>
    if mvComp r ≤ t.inp.length then
      let o := expandUnit (tyWidth (mvEtype r)) (t.inp.take (mvComp r))
      { t with inp := t.inp.drop (mvComp r), out := t.out ++ o.1, badMeta := t.badMeta || o.2 }
    else t
  | 2 =>
    if mvDense r ≤ t.inp.length then
      let o := compactUnit (mvEtype r) (t.inp.take (mvDense r))
      { t with inp := t.inp.drop (mvDense r), out := t.out ++ o.1, trunc := t.trunc + o.2 }
    else t
  | 3 => pxTake 10 t
  | _ => { t with inp := [], out := t.out ++ t.inp.map (fun b => (b.1, b.2, false)) }

/-- Poison the doublewords of 64-byte granules of a place (R175). -/
def State.poisonGran (s : State) (l : Loc) : State :=
  let mark (k : Nat) : State := { s with poison := (List.range 8).foldl (fun p i => sadd p (k / 64 * 8 + i)) s.poison }
  match l with
  | .sram g off =>
    (match (s.tile g).redirect true off with
     | .at_ o => if 2 ≤ (s.gran g (o / 256)).state.toNat then mark (sramKey g o) else s
     | .second _ => s)
  | .hbm mma => mark (s.hbmKey mma)
  | .peer m mma =>
    if m = s.md.number then mark (s.hbmKey mma)
    else s.modMd (fun x => { x with dcache := tmod {} x.dcache (lineKey m mma) (fun y => { y with marks := y.marks ||| ((255#16) <<< (mma % 128 / 64 * 8)) }) })
  | .ctrl _ _ _ => s

/-- Move a place by bytes. -/
def Loc.plus (l : Loc) (n : Nat) : Loc :=
  match l with
  | .sram g off => .sram g (off + n)
  | .hbm a => .hbm (a + n)
  | .peer m a => .peer m (a + n)
  | .ctrl v p o => .ctrl v p o

/-- Number of a place's byte, for telling its 64-byte granules apart. -/
def Loc.num (l : Loc) : Nat := match l with | .sram _ off => off | .hbm a => a | .peer _ a => a | .ctrl _ _ o => o

/-- The granule that last took a faulted byte after a run of bytes at a place, given the one before. -/
def lastBad (l : Loc) (bs : OBytes) (old : Option Nat) : Option Nat :=
  (bs.zipIdx.filter (fun e => e.1.2.2)).foldl (fun _ e => some ((l.num + e.2) / 64)) old

/-- After a write of bytes at a place: poison the granules that took faulted bytes (R175). -/
def State.faultMarks (s : State) (l : Loc) (bs : OBytes) (old : Option Nat) : State :=
  (List.range bs.length).foldl (fun x i =>
    let g := (l.num + i) / 64
    if old = some g ∨ ((bs.getD i (0, false, false)).2.2) = true then x.poisonGran (l.plus i) else x) s

/-- Note a granule of an output window that a transfer of a domain wrote (R387). -/
def State.touchAt (s : State) (t : Transfer) (g off : Nat) : State :=
  if t.depth = 0 then s
  else match (s.tile g).redirect true off with
    | .at_ o => s.modTask t.key (fun u => u.modSch (fun x => { x with touched := x.touched ++ [(t.depth, g * 2 ^ 17 + o / 256)] }))
    | .second _ => s

/-- Bytes a store may free in a die's page store (R264): 4 MiB less what is held. -/
def Die.storeUsed (d : Die) : Nat := d.streams.foldl (fun n e => n + e.2.pages.length * 2 ^ stPlog e.2.entry) 0

/-- Publish bytes to a stream (R177, R264): none while the store has no room. -/
def State.publish (s : State) (die n key : Nat) (bs : List (Byte × Bool)) : Option State :=
  let d := s.die die
  let x := tget {} d.streams n
  let size := 2 ^ stPlog x.entry
  if stQuota x.entry ≤ x.pages.length ∨ 4194304 < d.storeUsed + size then none
  else
    let part := x.part ++ bs.map (·.1)
    let marks := x.partMarks ++ bs.map (·.2)
    let y := if size ≤ part.length then
        { x with pages := x.pages ++ [(key, part.take size, marks.take size, [])], part := part.drop size, partMarks := marks.drop size }
      else { x with part := part, partMarks := marks }
    some (s.modDie die (fun d => { d with streams := tset {} d.streams n y }))

/-- Reserve the open page of every destination buffer (R154): the pages so far, and whether all are there. -/
def State.openPages (s : State) (t : Transfer) (gt : Nat) : List Nat → State × Transfer × Bool
  | [] => (s, t, true)
  | g :: rest =>
    if t.dstPages.any (fun p => p.1 == g) then s.openPages t gt rest
    else
      let h := mvDbuf t.regs
      match (s.cb g h).grant (t.asker gt) 0 1 false with
      | none => (s.modCb g h (fun b => b.enqueue (t.asker gt) 0 1), t, false)
      | some (b, k) => (s.modCb g h (fun _ => (b.used t.key 0).note t.key t.depth 0 [k])).openPages { t with dstPages := t.dstPages ++ [(g, k, false)] } gt rest

/-- Granules of n bytes of a slice that have taken their last byte, as `rest` says of a granule still to be written (R137). -/
def State.writtenOut (s : State) (g off n : Nat) (rest : Nat → Bool) : List (Nat × Nat) :=
  (granChunks (n / 256 + 2) off n).filterMap (fun c =>
    if rest (c.1 / 256) then none else match (s.tile g).redirect true c.1 with | .at_ o => some (g, o / 256) | .second _ => none)

/-- Write n bytes of a slice for a transfer (R135, R137): their granules are busy from the first byte of the transfer to the last one, which
`rest` tells. The state, the crust entries and the granules now busy. -/
def State.mvPut (s : State) (busy : List (Nat × Nat)) (vdie g off : Nat) (bs : List Byte) (marks : List Bool) (rest : Nat → Bool) : State × List DWord × List (Nat × Nat) :=
  let new := (granChunks (bs.length / 256 + 2) off bs.length).filter (fun c => match (s.tile g).redirect true c.1 with | .at_ o => !busy.contains (g, o / 256) | .second _ => false)
  let m := s.markBusy g new
  let own := busy ++ m.2
  let w := m.1.sramWrite 2 vdie g own off bs marks
  let out := (w.s.writtenOut g off bs.length rest).filter own.contains
  (w.s.clearBusy out, w.crust, own.filter (fun x => !out.contains x))

/-- A full page is marked done; one with a byte of a faulted block is poisoned whole (R154, R175). -/
def State.closePage (s : State) (t : Transfer) (p : Nat × Nat × Bool) : State :=
  let h := mvDbuf t.regs
  let b := s.cb p.1 h
  let s1 := if p.2.2 then (List.range (2 ^ b.plog / 64)).foldl (fun x i => x.poisonGran (.sram p.1 (b.pageOff p.2.1 + 64 * i))) s else s
  s1.modCb p.1 h (fun b => b.completeP t.key t.depth [p.2.1])

/-- Write up to 64 bytes of the output. -/
def State.mvWrite (s : State) (gt : Nat) (t : Transfer) : Half :=
  let r := t.regs
  let n := min 64 (min t.out.length (mvDstRest r t.done))
  let fin (s : State) (t : Transfer) (n : Nat) : Half :=
    let bs := t.out.take n
    ⟨s, { t with done := t.done + n, out := t.out.drop n, pois := t.pois || bs.any (fun b => b.2.1 || b.2.2) }, false⟩
  let bytes (n : Nat) : List Byte := (t.out.take n).map (·.1)
  let marks (n : Nat) : List Bool := (t.out.take n).map (fun b => b.2.1 || b.2.2)
  match mvDkind r with
  | 0 =>
    let a := (mvDstAt r t.done).toNat
    let off := aOff a
    let tiles := s.dstTiles gt t
    s.served gt t (firstOff (tiles.map (fun g => s.reach t (flat (aVdie a) (g % 128) off) n))) (
      if tiles.any (fun g => (s.tile g).inSecond off || (s.tile g).inSecond (off + n - 1)) then ⟨s, t.halt 0x09, false⟩
      else if tiles.any (fun g => (s.writeHeld (2 ^ 63) (.sram g off) n).isSome) then ⟨s, t, true⟩
      else
        let tail := mvDstTail r (t.done + n)
        let rest (i : Nat) : Bool := tail.any (fun x => decide (aOff x.1.toNat / 256 ≤ i) && decide (i ≤ (aOff x.1.toNat + x.2 - 1) / 256))
        let x := tiles.foldl (fun (y : State × List DWord × List (Nat × Nat)) g =>
          let w := y.1.mvPut y.2.2 (aVdie a) g off (bytes n) (marks n) rest
          ((w.1.faultMarks (.sram g off) (t.out.take n) t.badGran).touchAt t g off |>.touchAt t g (off + n - 1), y.2.1 ++ w.2.1, w.2.2)) (s, [], t.busy)
        fin x.1 { t with crusts := t.crusts ++ x.2.1, busy := x.2.2, badGran := lastBad (.sram 0 off) (t.out.take n) t.badGran } n)
  | 1 =>
    let a := (mvDstAt r t.done).toNat
    let l := hLoc t.dstH a
    let n := min n (64 - (hBase t.dstH + a) % 64)
    -- a line of another module whose stores go through lies in a protected frame (R120)
    let prot := s.frameProtected l || (match l with | .peer m mma => s.md.through.contains (lineKey m mma) | _ => false)
    if s.placeBusy l n || (s.writeHeld (2 ^ 63) l n).isSome then ⟨s, t, true⟩
    else if prot && !hEras t.dstH then ⟨s, t.halt 0x07, false⟩
    else if s.frameProtected l && s.ownTagBad (s.xMaster gt t) l then ⟨s.refuseXfer gt t, t.halt 0x06, false⟩
    else
      let w := s.writeLoc (s.xMaster gt t) 2 0 [] l (bytes n) (marks n)
      match w.stop with
      | some c => s.xWait gt t c
      | none => fin ((w.s.faultMarks l (t.out.take n) t.badGran).countHits (t.missed || w.reqs != []) l n)
          { t with badGran := lastBad l (t.out.take n) t.badGran, missed := false, ids := t.ids ++ w.ids, reqs := t.reqs ++ w.reqs } n
  | 2 =>
    let tiles := s.dstTiles gt t
    let x := s.openPages t gt tiles
    let t1 := x.2.1
    if !x.2.2 then ⟨x.1, t1, true⟩
    else
      let size (g : Nat) : Nat := 2 ^ (x.1.cb g (mvDbuf r)).plog
      let n := t1.dstPages.foldl (fun m p => min m (size p.1 - t.done % size p.1)) n
      let bad := (t.out.take n).any (fun b => b.2.2)
      let off (s : State) (p : Nat × Nat × Bool) : Nat := (s.cb p.1 (mvDbuf r)).pageOff p.2.1 + t.done % size p.1
      x.1.served gt t1 (firstOff (t1.dstPages.map (fun p => x.1.reach t (flat t.dstVdie (p.1 % 128) (off x.1 p)) n))) (
        let y := t1.dstPages.foldl (fun (y : State × Transfer × List (Nat × Nat × Bool)) p =>
          let o := off y.1 p
          let w := y.1.mvPut y.2.1.busy t.dstVdie p.1 o (bytes n) (marks n) (fun i => decide (o + n < (i + 1) * 256))
          let t2 := { y.2.1 with crusts := y.2.1.crusts ++ w.2.1, busy := w.2.2 }
          let p' := (p.1, p.2.1, p.2.2 || bad)
          if (t.done + n) % size p.1 = 0 then (w.1.closePage t1 p', t2, y.2.2) else (w.1, t2, y.2.2 ++ [p'])) (x.1, t1, [])
        fin y.1 { y.2.1 with dstPages := y.2.2 } n)
  | _ =>
    match s.publish (gt / 128) (mvDst r % 256) t.key ((t.out.take n).map (fun b => (b.1, b.2.1 || b.2.2))) with
    | none => ⟨s, t, true⟩
    | some s1 => fin s1 t n

/-- Whether all of a transfer's, or a descriptor's, bytes are delivered (R159). -/
def Transfer.atEnd (t : Transfer) : Bool :=
  if mvDkind t.regs = 4 then decide (colResBytes (mvOpc t.regs) t.record ≤ t.done) else (!t.isChain || (t.inForce && t.began)) && decide (mvSrcBytes t.regs ≤ t.read) && t.out.isEmpty && decide (mvNominal t.regs ≤ t.done)

/-- Whether a transfer takes part in the mover's rounds. -/
def Transfer.moves (t : Transfer) : Bool :=
  t.state == 1 && !t.stop && mvDkind t.regs != 4 && (!t.isChain || (t.inForce && t.began)) && !t.atEnd

/-- The next transfer in the round after the one served last (R158). -/
def State.nextTurn (s : State) (gt : Nat) : Option Transfer :=
  let x := s.tile gt
  let l := (s.inOrder gt).filter Transfer.moves
  match l.find? (fun t => decide (x.age t.id < x.age x.xlast)) with
  | some t => some t
  | none => l.head?

/-- One turn of a transfer: what waits to be written goes first, else 64 bytes are read, transformed and written. -/
def State.mvTurn (s : State) (gt : Nat) (t : Transfer) : State :=
  let done (h : Half) : State := h.s.xPut gt h.t
  if !t.out.isEmpty then done (s.mvWrite gt t)
  else if t.pxOver then s.xPut gt (t.halt 0x12)
  else if mvSrcBytes t.regs ≤ t.read then s.xPut gt (mvTransform t)
  else
    let a := s.mvRead gt t
    if a.waits || a.t.stop then done a
    else
      let b := mvTransform a.t
      if b.stop || b.out.isEmpty then a.s.xPut gt b else done (a.s.mvWrite gt b)

/-- MOVER_TURN (R158): the mover of tile `gt` serves its next transfer. -/
def execMoverTurn (s : State) : Host.Outcome State Fault Refusal :=
  match s.nextTurn s.ev.gt with
  | none => noUnit "MOVER_TURN"
  | some t => .next ((s.mvTurn s.ev.gt t).modTile s.ev.gt (fun x => { x with xlast := t.id }))

/-! ## Completion (R159 to R161) -/

/-- SR.MVERR after one more failed transfer (R161). -/
def addMverr (x : DWord) (id code : Nat) : DWord :=
  if bits x 40 8 = 0 then dw (id * 2 ^ 48 + 2 ^ 40 + code * 2 ^ 8) else if bits x 40 8 = 255 then x else setBits x 40 8 (bits x 40 8 + 1)

/-- Pages that a stopped transfer leaves open (R160): the destination's are filled with poison, which the status and the crust entries show as for
any write, and marked done; the source's is marked done. -/
def State.closeStopped (s : State) (gt : Nat) (t : Transfer) : State × Transfer :=
  let h := mvDbuf t.regs
  let r := t.dstPages.foldl (fun (x : State × Transfer) p =>
    let b := x.1.cb p.1 h
    let size := 2 ^ b.plog
    let at_ := t.done % size
    let w := x.1.sramWrite 2 t.dstVdie p.1 t.busy (b.pageOff p.2.1 + at_) (List.replicate (size - at_) 0) (List.replicate (size - at_) true)
    (w.s.closePage t p, { x.2 with pois := true, crusts := x.2.crusts ++ w.crust })) (s, t)
  let s1 := r.1
  let s2 := match t.srcPage with
    | some k => s1.modCb gt (mvSbuf t.regs) (fun b => b.completeC t.key t.depth [k])
    | none => s1
  (s2.tiles.foldl (fun x e => x.modTile e.1 (fun y => { y with cb := y.cb.map (fun c => (c.1, c.2.dequeue (t.asker gt))) })) s2, r.2)

/-- Bytes delivered to the copy barrier (R159, R176). -/
def Transfer.delivered (t : Transfer) : Nat := if mvDkind t.regs = 4 then t.done else t.done * mvDests t.regs

/-- Update the barrier and record code 0x0A where it cannot be (R159). -/
def State.barUpdate (s : State) (w : WordAt) (n : Nat) (stopped : Bool) (t : Transfer) : State × Transfer :=
  match w with
  | .at_ k => (s.setBar k ((s.bar k).deliver n stopped t.pois), t)
  | .refused => (s, t.setCode 0x0A)
  | _ => (s, t)

/-- The steps of R159 for a finished transfer or chain. A completion word outside the VI's windows stops and freezes the transfer (R407). -/
def State.completeXfer (s : State) (gt : Nat) (t0 : Transfer) : State :=
  let wc := s.wordAt t0.vi gt (mvCtr t0.regs) 8
  let wb := s.wordAt t0.vi gt (mvBar t0.regs) 32
  let out := wc == .outside || wb == .outside
  let x0 := if t0.stop then s.closeStopped gt t0 else (s, t0)
  let t := if out then x0.2.halt 0x06 else x0.2
  let s2 := (if out then x0.1.freezeXfer gt t 0x06 else x0.1).clearBusy t.busy
  let t1 : Transfer := { t with state := if t.stop then 3 else 2, dstPages := [], srcPage := none, inp := [], out := [], busy := [] }
  let err := t.code ≠ 0 ∧ t.code ≠ 0x0A
  let s3 := if t.crusts = [] ∧ ¬ err then s2 else s2.onLines t.key [10] (fun u => (u.modSt (fun x => { x with mverr := if err then addMverr x.mverr t.id t.code else x.mverr })).charge t.crusts)
  let c : State × Transfer := match wc with
    | .at_ k => (s3.putDws k [(s3.getDws k 1).headD 0 + 1], t1)
    | .refused => (s3, t1.setCode 0x0A)
    | _ => (s3, t1)
  let b := c.1.barUpdate wb (if t.isChain ∧ ¬ t.inForce then 0 else t.delivered) t.stop c.2
  ((b.1.xPut gt b.2).modTile gt (fun x => { x with lastBusy := x.cycle.toNat })).wake (fun u p => match p with
    | .glaze _ => true
    | .redefine _ _ => true
    | .transfer id => s.taskGt u == gt && id == t.id
    | _ => false)

/-- A descriptor of a chain has delivered its bytes and another follows (R167, R169). -/
def State.nextDesc (s : State) (gt : Nat) (t : Transfer) : State :=
  let w := s.wordAt t.vi gt (mvBar t.regs) 32
  if w = .outside then (s.freezeXfer gt t 0x06).xPut gt (t.halt 0x06)
  else
    let b := (s.clearBusy t.busy).barUpdate w t.delivered false t
    b.1.xPut gt { b.2 with inForce := false, began := false, busy := [] }

/-- TRANSFER_COMPLETION (R159, R164, R282): transfer `id` of tile `gt` has performed its last write, or has stopped, and its writes have been
acknowledged. -/
def execTransferCompletion (s : State) : Host.Outcome State Fault Refusal :=
  let gt := s.ev.gt
  match s.xfer? gt s.ev.id with
  | none => noUnit "TRANSFER_COMPLETION"
  | some t =>
    let wait := s.wordAt t.vi gt (mvCtr t.regs) 8 == .busy || s.wordAt t.vi gt (mvBar t.regs) 32 == .busy || s.awaits t.ids t.reqs != ([], [])
    let done := t.state == 1 && (t.stop || t.atEnd || (t.isChain && !t.inForce && t.ahead.isNone && t.chain.isNone))
    if !done || wait then noUnit "TRANSFER_COMPLETION"
    else if t.isChain && !t.stop && t.inForce && t.ahead.isSome then .next (s.nextDesc gt t)
    else .next (s.completeXfer gt t)

/-! ## Handles (R164, R165) -/

/-- HANDLE_CACHE_FILL (R164): entry `index` of VI `vi` is read for tile `gt`; an invalid one is not cached, and the waiting tasks learn it. -/
def execHandleCacheFill (s : State) : Host.Outcome State Fault Refusal :=
  let gt := s.ev.gt
  let v := s.ev.vi
  let h := s.ev.index
  let waits (t : Task) (p : Park) : Bool := t.vi == v && s.taskGt t == gt && match p with | .handle x => x == h | _ => false
  match s.handleWait v h with
  | some p => s.whenHw v "HANDLE_CACHE_FILL" (.park p) s
  | none =>
  match s.handleEntry v h with
  | some e =>
    .next ((s.modTile gt (fun t => { t with hcache := (if 64 ≤ t.hcache.length then t.hcache.drop 1 else t.hcache) ++ [(v, h, e.1, e.2)] })).wake waits)
  | none =>
    let ks := (s.tasks.filter (fun t => match t.status with | .parked p => waits t p | _ => false)).map Task.key
    .next ((ks.foldl (fun x k => x.modTask k (fun t => t.modSch (fun y => { y with badHandles := sadd y.badHandles h }))) s).wake waits)

/-- Whether a transfer, or a chain's fetched descriptor, passed its handle check with a handle of a VI (R165). -/
def Transfer.uses (t : Transfer) (v h : Nat) : Bool :=
  t.inFlight && t.vi == v && t.forms.any (fun r => (mvSkind r == 1 && mvSh r == h) || (mvDkind r == 1 && mvDh r == h))

/-- REVOKE (R165 step 1): the oldest pending revocation of VI `vi` clears its entry and drops it from every handle cache. -/
def execRevoke (s : State) : Host.Outcome State Fault Refusal :=
  let v := s.ev.vi
  let x := s.vi v
  match x.revoking, x.revq with
  | none, h :: rest =>
    let mma := s.handleAt v h
    match (if h < x.htcount.toNat then s.memWait mma 8 true else none) with
    | some p => s.whenHw v "REVOKE" (.park p) s
    | none =>
    let d := dw (ofBytes ((s.hbmFetch mma 8).map (·.1)))
    let s1 := if h < x.htcount.toNat then (s.homePut (tagOf s.md.number (agentIo (mma / 128)) s.md.nextWrite) none mma (toBytes 8 (setBit d 63 false).toNat) (List.replicate 8 (s.marked (s.hbmKey mma)))).s else s
    let s2 := { s1 with tiles := s1.tiles.map (fun (e : Nat × Tile) => (e.1, { e.2 with hcache := e.2.hcache.filter (fun c => !(c.1 == v && c.2.1 == h)) })) }
    .next ((s2.modVi v (fun y => { y with revq := rest, revoking := some h })).wake (fun t p => t.vi == v && match p with | .hostQueue 0 => true | _ => false))
  | _, _ => noUnit "REVOKE"

/-- REVOCATION_DONE (R165 steps 2 and 3): no transfer of VI `vi` uses the revoked handle any more. -/
def execRevocationDone (s : State) : Host.Outcome State Fault Refusal :=
  let v := s.ev.vi
  match (s.vi v).revoking with
  | none => noUnit "REVOCATION_DONE"
  | some h =>
    if s.xfersInFlight.any (fun e => e.2.uses v h) then noUnit "REVOCATION_DONE"
    else .next (s.modVi v (fun y => { y with revoking := none, revdone := y.revdone + 1 }))

/-! ## Streams (R264, R265) -/

/-- Pages that every slot has received leave the store (R264). -/
def Stream.retire (x : Stream) : Stream :=
  { x with pages := x.pages.filter (fun p => !(List.range (stSubs x.entry)).all (fun i => p.2.2.2.contains i)) }

/-- STREAM_DELIVERY (R265), with its crust entries charged to the task whose transfer completed the page (R138, log entry 77): the first stored page
of stream `id` of die `die` that slot `slot` has not received goes into its buffer. -/
def execStreamDelivery (s : State) : Host.Outcome State Fault Refusal :=
  let no : Host.Outcome State Fault Refusal := noUnit "STREAM_DELIVERY"
  let die := s.ev.die
  let x := tget {} (s.die die).streams s.ev.id
  match x.subs.find? (fun e => e.1 == s.ev.slot), firstIdx (fun p => !p.2.2.2.contains s.ev.slot) x.pages with
  | some (_, gt, h), some i =>
    match x.pages[i]?, (s.cb gt h).grant (.stream s.ev.id) 0 1 false with
    | some p, some (b, k) =>
      let off := b.pageOff k
      if (s.writeHeld (2 ^ 63) (.sram gt off) p.2.1.length).isSome || s.fencedTile gt || (s.tile gt).gated then no
      else
        let w := (s.modCb gt h (fun _ => b)).sramWrite 3 ((s.vi (stOwner x.entry)).vdieOf (gt / 128)) gt [] off p.2.1 p.2.2.1
        let s0 := if w.crust = [] then w.s else w.s.onLines p.1 [10] (fun t => t.charge w.crust)
        let s1 := s0.modCb gt h (fun b => b.completeP 0 0 [k])
        let y := { x with pages := x.pages.set i (p.1, p.2.1, p.2.2.1, sadd p.2.2.2 s.ev.slot) }
        .next (s1.modDie die (fun d => { d with streams := tset {} d.streams s.ev.id y.retire }))
    | some _, none =>
      -- the request keeps its place in the buffer's queue (R143)
      if (s.cb gt h).resQ.any (fun e => e.1 == .stream s.ev.id) then no else .next (s.modCb gt h (fun b => b.enqueue (.stream s.ev.id) 0 1))
    | none, _ => no
  | _, _ => no

end Sys2Proof.Machine
end

