-- ==== Sys2Proof/Machine/Collectives.lean ====
section
/-! DEFINITION. Collectives (R283 to R293): the shares that a module gives and takes, their combination, the ready and commit notices, and
the result. -/

namespace Sys2Proof.Machine

/-! ## Shares -/

/-- Kinds of share: a wide cell (R288), a block's pre-pass code, a quantised value with its tag (R289), a raw element (R291), a pair of
TOPK and the number of pairs that a member gives (R292). -/
def shCell : Nat := 0
def shCode : Nat := 1
def shQuant : Nat := 2
def shRaw : Nat := 3
def shPair : Nat := 4
def shCount : Nat := 5

/-- What a combination needs of the record. -/
structure ColCfg where
  opc : Nat
  ty : Nat
  fmt : Nat
  sat : Bool
  rm : Nat
  k : Nat
  key : DWord
  base : Nat
  n : Nat
  deriving DecidableEq, Repr

def colCfg (opc : Nat) (d : List DWord) : ColCfg := ⟨opc, colType d, colFmt d, colSat d, colRm d, colK d, colKey d, colBase d, colElems d⟩

/-- Grain exponent of a type's wide cells (R288). -/
def ColCfg.scale (c : ColCfg) : Int := if tyIsInt c.ty then 0 else -149

/-- Element i of a source. -/
def ColCfg.elem (c : ColCfg) (src : List Byte) (i : Nat) : Nat := let w := tyWidth c.ty / 8; ofBytes ((src.drop (w * i)).take w)

/-- The cell that an element enters (R86, R288). -/
def ColCfg.cellOf (c : ColCfg) (x : Nat) : Cell :=
  let zero : Cell := {}
  match elemVal c.ty x with
  | .zero _ => zero
  | .nan _ => (updateCell true zero { nan := true }).1
  | .inf neg => (updateCell true zero { pinf := !neg, ninf := neg }).1
  | .fin neg m e => let k := contribution neg m 1 (e - c.scale).toNat; (updateCell true zero { t := k.1, res := k.2 }).1

/-- A cell's 88 bytes on the wire (R288), and back. -/
def cellWire (x : Cell) : BitVec 704 := BitVec.ofNat 704 (x.r.toNat * 2 ^ 640 + x.c.toNat)
def wireCell (w : BitVec 704) : Cell := { c := w.setWidth 640, r := (w >>> 640).setWidth 8 }

/-- floor_log2 of a block's largest finite non-zero element plus 1,100, and whether it holds a NaN or an infinity (R289). -/
def ColCfg.blockCode (c : ColCfg) (src : List Byte) (b : Nat) : Nat × Bool :=
  (List.range (min 256 (c.n - 256 * b))).foldl (fun (r : Nat × Bool) i =>
    match elemVal c.ty (c.elem src (256 * b + i)) with
    | .zero _ => r
    | .fin _ m e => (max r.1 ((Nat.log2 m : Int) + e + 1100).toNat, r.2)
    | _ => (r.1, true)) (0, false)

def codeWire (x : Nat × Bool) : BitVec 704 := BitVec.ofNat 704 (x.1 + if x.2 then 65536 else 0)
def wireCode (w : BitVec 704) : Nat × Bool := (w.toNat % 65536, w.getLsbD 16)

/-- log2 of Q for a block's combined code (R289). -/
def quantum (eb : Nat) : Int := if eb = 0 then 0 else (eb : Int) - 1100 - 51

/-- The quantised value and tag of an element (R289). -/
def ColCfg.quant (c : ColCfg) (x : Nat) (lq : Int) : Int × Nat :=
  match elemVal c.ty x with
  | .zero _ => (0, 0)
  | .nan _ => (0, 1)
  | .inf neg => (0, if neg then 3 else 2)
  | .fin neg m e => ((roundInt ⟨0, false, false, fun _ => 0⟩ 0 neg (magDyadic m (e - lq))).1, 0)

def quantWire (x : Int × Nat) : BitVec 704 := BitVec.ofNat 704 (wrapI 64 x.1 + x.2 * 2 ^ 64)
def wireQuant (w : BitVec 704) : Int × Nat := (sval 64 w.toNat, (w.toNat >>> 64) % 256)

/-- The pairs that a member gives to TOPK: its own K highest-ranked (R292). -/
def ColCfg.pairs (c : ColCfg) (src : List Byte) : List (Nat × Nat) :=
  let word (i : Nat) : Nat := ofBytes ((src.drop (4 * i)).take 4)
  let l := (List.range c.n).map (fun i => if c.fmt = 1 then (word i, word (c.n + i)) else (word i, (c.base + i) % 2 ^ 32))
  (l.foldl (fun l x => topInsert c.ty x l) []).take c.k

/-- The empty pair of R238. -/
def emptyPair (ty : Nat) : Nat × Nat := (if ty = 23 then 0xFFFFFFFF else if ty = 3 then 0x80000000 else 0, 0xFFFFFFFF)

/-! ## Combination -/

/-- Combine two cells (R87, R288); none for a corrupt one (R89). -/
def combineCells (a b : Cell) : Option Cell :=
  let r : Option Cell := match readCell true b with
    | .corrupt => none
    | .nan => some (updateCell true a { nan := true }).1
    | .inf neg => some (updateCell true a { pinf := !neg, ninf := neg }).1
    | .finite v => some (updateCell true a { t := v, res := b.r.toNat }).1
  match r with
  | some x => if readCell true x = .corrupt then none else some x
  | none => none

def combineAll (l : List Cell) : Option Cell := l.foldl (fun r x => match r with | some a => combineCells a x | none => none) (some {})

/-- The tag of two elements' tags (R87, R289). -/
def tagJoin (a b : Nat) : Nat := if a = 0 then b else if b = 0 ∨ a = b then a else 1

/-- The final rounding's parameters (R72, R290): element i draws from KEY and BASEIDX + i. -/
def ColCfg.rnd (c : ColCfg) : Rnd := ⟨c.rm, c.sat, false, fun i => kcgNat c.key.toNat ((c.base + i) % 2 ^ 32) >>> 32⟩

/-- The result of an element whose quantised values have this sum and tag (R289). -/
def ColCfg.quantResult (c : ColCfg) (i : Nat) (lq : Int) (x : Int × Nat) : Nat :=
  let f := fmtOf c.ty
  match x.2 with
  | 0 => if x.1 = 0 then 0 else (roundTo f c.rnd i (decide (x.1 < 0)) (magDyadic x.1.natAbs lq)).1
  | 1 => f.nan
  | t => (toFloatRule f c.rnd i (.inf (t == 3))).1

/-- MIN and MAX of raw elements (R291). -/
def ColCfg.extreme (c : ColCfg) (l : List Nat) : Nat :=
  let wantMax := c.opc == 0x12
  if tyIsInt c.ty then
    let v (x : Nat) : Int := if tySigned c.ty then sval (tyWidth c.ty) x else (x : Int)
    l.tail.foldl (fun a b => if wantMax then (if v a < v b then b else a) else (if v b < v a then b else a)) (l.headD 0)
  else
    let f := fmtOf c.ty
    let r := l.tail.foldl (fun a b => (minMaxNum f wantMax a b (f.read a) (f.read b)).1) (l.headD 0)
    if (f.read r).isNan then f.nan else r

/-- How a block of a sum travels, from its combined code (R289): as cells, as zero, or quantised. -/
inductive BlockForm where
  | cells
  | zero
  | quant (lq : Int)
  deriving DecidableEq, Repr

def ColCfg.form (c : ColCfg) (x : Nat × Bool) : BlockForm :=
  if x.2 && c.ty != 24 then .cells else if !x.2 && x.1 == 0 then .zero else .quant (quantum x.1)

/-- What combining gives: a share is missing, a combined cell is corrupt (R89), or the result. -/
inductive Combined (α : Type) where
  | missing
  | corrupt
  | ok (x : α)
  deriving DecidableEq, Repr

/-- Combine the shares of one element, of a kind (R288, R289, R291). -/
def ColCfg.combine (c : ColCfg) (kind : Nat) (l : List (BitVec 704)) : Combined (BitVec 704) :=
  if kind = shCell then match combineAll (l.map wireCell) with | some x => .ok (cellWire x) | none => .corrupt
  else if kind = shCode then .ok (codeWire ((l.map wireCode).foldl (fun a x => (max a.1 x.1, a.2 || x.2)) (0, false)))
  else if kind = shQuant then .ok (quantWire ((l.map wireQuant).foldl (fun a x => (a.1 + x.1, tagJoin a.2 x.2)) (0, 0)))
  else .ok (BitVec.ofNat 704 (c.extreme (l.map (·.toNat))))

/-- The K highest-ranked of some pairs (R238, R292). -/
def ColCfg.best (c : ColCfg) (l : List (Nat × Nat)) : List (Nat × Nat) := (l.foldl (fun r p => topInsert c.ty p r) []).take c.k

/-! ## Phases (R287 step 2) -/

/-- The members of a set in the row and in the column of a module (R110, R284), and the member of a row that has the share with index i: the
set's columns take them in turn. -/
def selMembers (sel : DWord) : List Nat := colMembers [0, sel]
def rowMates (sel : DWord) (m : Nat) : List Nat := (selMembers sel).filter (fun n => n / 32 == m / 32)
def colMates (sel : DWord) (m : Nat) : List Nat := (selMembers sel).filter (fun n => n % 32 == m % 32)
def shareOwner (sel : DWord) (m i : Nat) : Nat := let r := rowMates sel m; r.getD (i % r.length) m

/-- The share of a phase, kind and index that a member has given. Phase 0: its source's, for the row phase; phase 1: the owner's combination of its
row, for the column phase; phase 2: the owner's combination of its column, which is final, for the row gather. -/
def Coll.share (c : Coll) (m ph kind i : Nat) : Option (BitVec 704) :=
  (c.shares.find? (fun e => e.1 == m && e.2.1 == 8 * ph + kind && e.2.2.1 == i)).map (·.2.2.2)

/-- The shares of several members, once all are there. -/
def Coll.all (c : Coll) (ms : List Nat) (ph kind i : Nat) : Option (List (BitVec 704)) :=
  let l := ms.filterMap (fun m => c.share m ph kind i)
  if l.length = ms.length then some l else none

/-- The pairs that a member has given in a phase (R292), and those of several members, once all are there. -/
def Coll.pairsOf (c : Coll) (m ph : Nat) : Option (List (Nat × Nat)) :=
  match c.share m ph shCount 0 with
  | none => none
  | some n =>
    let ps := (List.range n.toNat).filterMap (fun i => c.share m ph shPair i)
    if ps.length = n.toNat then some (ps.map (fun w => (w.toNat % 2 ^ 32, (w.toNat >>> 32) % 2 ^ 32))) else none
def Coll.allPairs (c : Coll) (ms : List Nat) (ph : Nat) : Option (List (Nat × Nat)) :=
  ms.foldl (fun r m => match r, c.pairsOf m ph with | some l, some x => some (l ++ x) | _, _ => none) (some [])

/-- Members whose shares a phase combines, and members that it sends to. -/
def Coll.from_ (c : Coll) (me ph : Nat) : List Nat := if ph = 1 then rowMates c.sel me else colMates c.sel me
def Coll.to_ (c : Coll) (me ph i : Nat) : List Nat :=
  (if ph = 0 then [shareOwner c.sel me i] else if ph = 1 then colMates c.sel me else rowMates c.sel me).filter (· ≠ me)

/-- The combined code of block b, and the form of the block of element i, once it is final; a CXW sum is carried as cells throughout (R288, R289). -/
def Coll.formOf (x : Coll) (c : ColCfg) (me i : Nat) : Option BlockForm :=
  if c.fmt = 0 then some .cells else (x.share (shareOwner x.sel me (i / 256)) 2 shCode (i / 256)).map (fun w => c.form (wireCode w))

/-- The elements of a pass that travel, each with its kind, index and this module's own share: pass 0 the codes of the blocks, pass 1 the elements. -/
def Coll.items (x : Coll) (c : ColCfg) (me pass : Nat) : List (Nat × Nat × BitVec 704) :=
  if c.opc = 0x13 then []
  else if pass = 0 then
    if c.opc = 0x10 ∧ c.fmt = 1 then (List.range ((c.n + 255) / 256)).map (fun b => (shCode, b, codeWire (c.blockCode x.source b))) else []
  else (List.range c.n).filterMap (fun i =>
    let e := c.elem x.source i
    if c.opc ≠ 0x10 then some (shRaw, i, BitVec.ofNat 704 e)
    else match x.formOf c me i with
      | some .cells => some (shCell, i, cellWire (c.cellOf e))
      | some (.quant lq) => some (shQuant, i, quantWire (c.quant e lq))
      | _ => none)

/-- What this module can now give in a phase of a pass and has not given: (kind, index, wire bytes). -/
def Coll.gives (x : Coll) (c : ColCfg) (me pass ph : Nat) : List (Nat × Nat × Combined (BitVec 704)) :=
  ((x.items c me pass).filter (fun e => (x.share me ph e.1 e.2.1).isNone && (ph == 0 || shareOwner x.sel me e.2.1 == me))).map (fun e =>
    (e.1, e.2.1, if ph = 0 then .ok e.2.2 else match x.all (x.from_ me ph) (ph - 1) e.1 e.2.1 with | some l => c.combine e.1 l | none => .missing))

/-- The list of TOPK that this module can now give in a phase and has not given. Its lists have one owner in each row. -/
def Coll.givesPairs (x : Coll) (c : ColCfg) (me ph : Nat) : List (Nat × Nat × Combined (BitVec 704)) :=
  if c.opc ≠ 0x13 ∨ (x.share me ph shCount 0).isSome = true ∨ (ph ≠ 0 ∧ shareOwner x.sel me 0 ≠ me) then []
  else match (if ph = 0 then some (c.pairs x.source) else (x.allPairs (x.from_ me ph) (ph - 1)).map c.best) with
    | none => []
    | some ps => (shCount, 0, .ok (BitVec.ofNat 704 ps.length)) :: ps.zipIdx.map (fun e => (shPair, e.2, .ok (BitVec.ofNat 704 (e.1.1 + e.1.2 * 2 ^ 32))))

/-- The final value of an element of a SUM, MIN or MAX at the member that writes it (R287 step 4). -/
def Coll.element (x : Coll) (c : ColCfg) (me i : Nat) : Combined Nat :=
  let final (kind : Nat) (f : BitVec 704 → Nat) : Combined Nat := match x.share (shareOwner x.sel me i) 2 kind i with | some w => .ok (f w) | none => .missing
  if c.opc ≠ 0x10 then final shRaw (·.toNat)
  else match x.formOf c me i with
    | none => .missing
    | some .zero => .ok 0
    | some .cells => final shCell (fun w => (drainCell c.ty c.rnd i c.scale (readCell true (wireCell w))).1)
    | some (.quant lq) => final shQuant (fun w => c.quantResult i lq (wireQuant w))

/-- The result's bytes. -/
def Coll.result (x : Coll) (c : ColCfg) (me : Nat) : Combined (List Byte) :=
  if c.opc = 0x13 then
    match x.pairsOf (shareOwner x.sel me 0) 2 with
    | none => .missing
    | some l => .ok ((l ++ List.replicate (c.k - l.length) (emptyPair c.ty)).flatMap (fun p => toBytes 4 p.1 ++ toBytes 4 p.2))
  else
    (List.range c.n).foldl (fun r i => match r, x.element c me i with
      | .ok l, .ok v => .ok (l ++ toBytes (tyWidth c.ty / 8) v)
      | _, _ => .missing) (.ok [])

/-! ## Collectives of the module -/

/-- The collective that an event names: job tag, tag, use and member set (R286). -/
def EvIn.isColl (e : EvIn) (c : Coll) : Bool := c.job == e.size && c.tag == e.id && c.use == e.seq && c.sel == dw e.value
def State.coll? (s : State) : Option Coll := s.colls.find? s.ev.isColl
def Coll.same (a b : Coll) : Bool := a.job == b.job && a.tag == b.tag && a.use == b.use && a.sel == b.sel
def Coll.sameUse (a b : Coll) : Bool := a.job == b.job && a.tag == b.tag && a.use == b.use
/-- A collective that is over on this module, kept so that what still comes in for it meets it. -/
def Coll.isOver (c : Coll) : Bool := c.written || c.failed.isSome
/-- Put a collective back. A new use of a tag drops those that are over. -/
def State.putColl (s : State) (c : Coll) : State :=
  { s with colls := s.colls.filter (fun d => !(d.same c) && !(d.isOver && d.job == c.job && d.tag == c.tag && d.use != c.use)) ++ [c] }

/-- The coordinator: the lowest-numbered member that is not declared lost (R287 step 3). -/
def Coll.coordinator (c : Coll) : Nat := ((selMembers c.sel).filter (fun m => !c.lost.contains m)).headD 0

/-- The collective of a transfer, not yet begun (R286). -/
def State.collOf (s : State) (t : Transfer) : Coll := { job := (s.vi t.vi).jobtag, tag := colTag t.record, use := t.use, sel := nthDw t.record 1 }

/-- The own transfers of a collective (R286): there is to be one. -/
def State.colXfers (s : State) (c : Coll) : List (Nat × Transfer) := s.xfersInFlight.filter (fun e => mvDkind e.2.regs == 4 && !e.2.stop && (s.collOf e.2).same c)
def State.colXfer (s : State) (c : Coll) : Option (Nat × Transfer) :=
  match c.xfer with
  | some (gt, id) => (s.xfer? gt id).map (fun t => (gt, t))
  | none => none

/-- What every member must give alike (R286): OPC, ITYPE, SAT, RM, K and KEY, and but for TOPK also FMT and NELEM; ROWS and COLS match by
the member set. -/
def colHead (opc : Nat) (d : List DWord) : Nat :=
  let n := if opc = 0x13 then 0 else colFmt d * 2 ^ 25 + colElems d
  n + (opc + colType d * 2 ^ 8 + (if colSat d then 2 ^ 13 else 0) + colRm d * 2 ^ 14 + colK d * 2 ^ 17 + (colKey d).toNat * 2 ^ 33) * 2 ^ 26

/-- A packet between collective engines carries the four values that match a collective (R286), and its data: for a share the wire bytes, the
index, the phase and kind, and what the member gives for the common fields. -/
def Coll.packet (c : Coll) (dst kind : Nat) (wire : BitVec 704) (index head code : Nat) : Packet :=
  let a := agentIo (c.tag % 4)
  { cls := cCOL, dst := dst, kind := kind, addr := c.tag * 65536 + c.use, agent := a, dagent := a, tag := c.job, code := code
    data := BitVec.ofNat 1024 (wire.toNat + (index + (head + c.sel.toNat * 2 ^ 128) * 2 ^ 32) * 2 ^ 704) }
def EvIn.coll (x : EvIn) : Coll := { job := x.index, tag := x.addr / 65536, use := x.addr % 65536, sel := dw (x.data.toNat >>> 864) }

/-- Send to every other member. -/
def State.colSend (s : State) (c : Coll) (kind code : Nat) : State :=
  ((selMembers c.sel).filter (· ≠ s.md.number)).foldl (fun x m => x.modMd (fun y => y.post (c.packet m kind 0 0 0 code))) s

/-- Fail a collective on this module (R293): its transfers stop, and the failure is kept; `tell` says it to the other members. -/
def State.failColl (s : State) (c : Coll) (code : Nat) (tell : Bool) : State :=
  let s1 := (s.colXfers c).foldl (fun x e => x.xPut e.1 (e.2.halt code)) s
  (if tell then s1.colSend c kAbort code else s1).putColl { c with failed := some code, shares := [], source := [] }

/-- Fail a collective by the residue check of a combined cell, which is reported (R89, R293). -/
def State.failResidue (s : State) (c : Coll) : State := (s.failColl c 0x06 true).modMd (fun m => { m with colReports := m.colReports + 1 })

/-- Fail a collective by a violation of its master (R407 KIND 3). -/
def State.freezeColl (s : State) (v : Nat) (c : Coll) (cause : Nat) : State := (s.recordFreeze v 3 cause (dw c.tag)).failColl c 0x06 true

/-- Give shares of a pass and phase: they are noted as this module's and sent on; none when a combined cell is corrupt. -/
def State.giveStep (s : State) (c : Coll) (cfg : ColCfg) (head pass ph : Nat) : Option (State × Coll) :=
  let me := s.md.number
  let l := c.gives cfg me pass ph ++ (if pass = 0 then c.givesPairs cfg me ph else [])
  if l.any (fun e => e.2.2 == .corrupt) then none
  else
    let ok := l.filterMap (fun e => match e.2.2 with | .ok w => some (e.1, e.2.1, w) | _ => none)
    some (ok.foldl (fun x e => (c.to_ me ph e.2.1).foldl (fun y m => y.modMd (fun d => d.post (c.packet m kShare e.2.2 e.2.1 head (8 * ph + e.1)))) x) s,
      { c with shares := c.shares ++ ok.map (fun e => (me, 8 * ph + e.1, e.2.1, e.2.2)) })

/-- Give what can be given now, phase after phase, the pre-pass first (R287, R289). -/
def State.giveShares (s : State) (c : Coll) : State :=
  match s.colXfer c with
  | none => s.putColl c
  | some (_, t) =>
    let cfg := colCfg (mvOpc t.regs) t.record
    let r := [(0, 0), (0, 1), (0, 2), (1, 0), (1, 1), (1, 2)].foldl (fun (r : Option (State × Coll)) p => match r with
      | some (x, d) => x.giveStep d cfg (colHead (mvOpc t.regs) t.record) p.1 p.2
      | none => none) (some (s, c))
    match r with
    | some (x, d) => x.putColl d
    | none => s.failResidue c

/-- Whether members give different common fields (R286). -/
def Coll.disagrees (c : Coll) : Bool := c.heads.any (fun e => c.heads.any (fun f => e.2 != f.2))

/-- A transfer of a collective, or one that comes in for it, gives another member set for the same use (R286): the members that it shares with an
own transfer disagree. -/
def State.rivals (s : State) (c : Coll) : List Coll := s.colls.filter (fun d => d.sameUse c && d.sel != c.sel && d.xfer.isSome && !d.isOver)

/-! ## Events -/

/-- The oldest packet of member `src` for the engine of tag `id`, if it is of one of these kinds. -/
def State.colPacket (s : State) (kinds : List Nat) : Option (EvIn × State) := s.oldestPacket cCOL s.ev.src (agentIo (s.ev.id % 4)) (agentIo (s.ev.id % 4)) kinds

/-- The collective that a packet is for, as this module knows it. -/
def State.collFor (s : State) (x : EvIn) : Coll := (s.colls.find? (fun c => c.same x.coll)).getD x.coll

/-- Read the whole source of a collective's transfer (R287 step 1), as an engine read (R135, R436): the bytes, what it waits for, or the cause of
a freeze (R407), 0 for a fault of R92. -/
def State.colSource (s : State) (gt : Nat) (t : Transfer) : (List Byte × State × Transfer) ⊕ (State ⊕ Nat) :=
  let n := mvLen t.regs
  if mvSkind t.regs = 0 then
    let a := mvSrc t.regs
    match s.reach t a n with
    | .ok _ =>
      let x := s.sramRead .engine 2 (aVdie a) (s.gtOf t.vi a) [] (aOff a) n
      if x.stop.isSome then .inr (.inl s) else .inl (x.bytes.map (·.1), s, { t with read := n, crusts := t.crusts ++ x.crust })
    | .park _ => .inr (.inl s)
    | .freeze c => .inr (.inr c)
    | .trap _ => .inr (.inr 0)
  else
    let l := hLoc t.srcH (mvSrc t.regs)
    if s.placeBusy l n then .inr (.inl s)
    else if s.ownTagBad (s.xMaster gt t) l then .inr (.inr 3)
    else
      let x := s.readLoc .engine 2 0 [] l n
      match x.stop with
      | some c => let h := s.xWait gt t c; .inr (.inl (h.s.xPut gt h.t))
      | none => .inl (x.bytes.map (·.1), s.countHits t.missed l n, { t with read := n, missed := false })

/-- The own transfer of tile `gt` with identifier `index`, begun and not yet read. -/
def State.colReadable (s : State) (gt id : Nat) : Option Transfer :=
  match s.xfer? gt id with
  | some t => if t.state = 1 ∧ t.stop = false ∧ mvDkind t.regs = 4 ∧ s.colls.any (fun c => c.xfer == some (gt, id)) = false then some t else none
  | none => none

/-- The engine takes an own transfer whose source it has read (R287 step 1): a collective that has failed stops it; one that another own transfer
has been given for, or that another member contradicts, fails (R293). -/
def State.enterColl (s : State) (gt : Nat) (t : Transfer) (bs : List Byte) : State :=
  let new := s.collOf t
  let c0 := (s.colls.find? (fun c => c.same new)).getD new
  let c := { c0 with xfer := some (gt, t.id), source := bs, heads := c0.heads ++ [(s.md.number, colHead (mvOpc t.regs) t.record)] }
  match c0.failed with
  | some code => s.failColl c0 code false
  | none =>
    if c0.xfer.isSome || c.disagrees || !(s.rivals c).isEmpty then s.failColl c 0x13 true
    else if s.colls.any (fun d => d.sameUse c && d.sel != c.sel && d.heads.any (fun e => (selMembers c.sel).contains e.1)) then s.failColl c 0x13 true
    else s.giveShares c

/-- A share comes in (R287): one given twice, or one that contradicts another member, fails the collective, and so does a corrupt cell (R293). -/
def State.takeShare (s : State) (x : EvIn) : State :=
  let c := s.collFor x
  let d := x.data.toNat
  let i := (d >>> 704) % 2 ^ 32
  let wire := BitVec.ofNat 704 d
  let head := (d >>> 736) % 2 ^ 128
  let heads := if c.heads.contains (x.src, head) then c.heads else c.heads ++ [(x.src, head)]
  let c1 := { c with heads := heads, shares := c.shares ++ [(x.src, x.code, i, wire)] }
  if c.isOver || c.commit || !(selMembers c.sel).contains x.src || !(selMembers c.sel).contains s.md.number then s
  else if (c.share x.src (x.code / 8) (x.code % 8) i).isSome || c1.disagrees then s.failColl c1 0x13 true
  else if !(s.rivals c).isEmpty then
    (s.rivals c).foldl (fun y r => if (selMembers r.sel).contains x.src then y.failColl r 0x13 true else y) (s.failColl c1 0x13 true)
  else if x.code % 8 = shCell ∧ readCell true (wireCell wire) = .corrupt then s.failResidue c1
  else s.giveShares c1

/-- COL_EXCHANGE (R287): with `src` this module, the engine reads the source of transfer `index` of tile `gt` and gives its shares; else the
next share of member `src` to the engine of tag `id` is taken, combined and passed on. -/
def execColExchange (s : State) : Host.Outcome State Fault Refusal :=
  let e := s.ev
  if e.src = s.md.number then
    match s.colReadable e.gt e.index with
    | none => noUnit "COL_EXCHANGE"
    | some t =>
      match s.colSource e.gt t with
      | .inr (.inl s1) => .next s1
      | .inr (.inr 0) => .next (s.failColl (s.collOf t) 0x06 true)
      | .inr (.inr cause) => .next (s.freezeColl t.vi (s.collOf t) cause)
      | .inl (bs, s1, t1) => .next ((s1.xPut e.gt t1).enterColl e.gt t1 bs)
  else
    match s.colPacket [kShare] with
    | none => noUnit "COL_EXCHANGE"
    | some (x, s1) => .next (s1.takeShare x)

/-- The result of a collective whose own source has been read. -/
def State.colResult (s : State) (c : Coll) : Combined (List Byte) :=
  match s.colXfer c with
  | some (_, t) => c.result (colCfg (mvOpc t.regs) t.record) s.md.number
  | none => .missing

/-- A ready notice reaches the coordinator; with the last one it sends commit and holds it (R287 step 3). -/
def State.takeReady (s : State) (c : Coll) (m : Nat) : State :=
  let c1 := { c with ready := sadd c.ready m }
  if c.isOver || c.commit then s
  else if (selMembers c.sel).all (fun n => c1.ready.contains n) then (s.colSend c kCommit 0).putColl { c1 with commit := true } else s.putColl c1

/-- COLLECTIVE_READY (R287 step 3): with `src` this module, its engine holds the final values and notifies the coordinator, unless the result
lies outside the VI's windows (R407); else the next ready notice of member `src` is taken. -/
def execCollectiveReady (s : State) : Host.Outcome State Fault Refusal :=
  if s.ev.src = s.md.number then
    match s.coll? with
    | none => noUnit "COLLECTIVE_READY"
    | some c =>
      if c.commit || c.isOver || c.ready.contains s.md.number then noUnit "COLLECTIVE_READY"
      else match s.colResult c, s.colXfer c with
        | .ok bs, some (_, t) =>
          (match s.reach t (colRes t.record) bs.length with
           | .freeze cause => .next (s.freezeColl t.vi c cause)
           | .trap _ => .next (s.failColl c 0x06 true)
           | _ =>
             if c.coordinator = s.md.number then .next (s.takeReady c s.md.number)
             else .next ((s.modMd (fun m => m.post (c.packet c.coordinator kReady 0 0 0 0))).putColl { c with ready := sadd c.ready s.md.number }))
        | _, _ => noUnit "COLLECTIVE_READY"
  else
    match s.colPacket [kReady] with
    | none => noUnit "COLLECTIVE_READY"
    | some (x, s1) => .next (s1.takeReady (s1.collFor x) x.src)

/-- Write the next bytes of a result, up to 64 (R135, R137, R287 step 5): its granules are busy meanwhile. -/
def State.colWrite (s : State) (c : Coll) (gt : Nat) (t : Transfer) (bs : List Byte) : Option State :=
  let res := colRes t.record
  let a := res + t.done
  let n := min 64 (bs.length - t.done)
  let g := s.gtOf t.vi a
  match s.reach t a n with
  | .ok _ =>
    if (s.writeHeld (2 ^ 63) (.sram g (aOff a)) n).isSome then none
    else
      let w := s.mvPut t.busy (aVdie a) g (aOff a) ((bs.drop t.done).take n) (List.replicate n false) (fun i => decide ((i + 1) * 256 < aOff res + bs.length ∧ aOff a + n < (i + 1) * 256))
      some ((w.1.xPut gt { t with done := t.done + n, crusts := t.crusts ++ w.2.1, busy := w.2.2 }).putColl { c with written := t.done + n == bs.length })
  | _ => none

/-- COLLECTIVE_COMMIT (R287 steps 3 to 5): with `src` this module, it holds commit, rounds, and writes the next bytes of its result at RES; else
commit comes in from member `src`, and is sent on once to every other member. -/
def execCollectiveCommit (s : State) : Host.Outcome State Fault Refusal :=
  let no : Host.Outcome State Fault Refusal := noUnit "COLLECTIVE_COMMIT"
  if s.ev.src = s.md.number then
    match s.coll? with
    | none => no
    | some c =>
      match s.colXfer c, s.colResult c with
      | some (gt, t), .ok bs => if !c.commit || c.isOver then no else match s.colWrite c gt t bs with | some s1 => .next s1 | none => no
      | _, _ => no
  else
    match s.colPacket [kCommit] with
    | none => no
    | some (x, s1) =>
      let c := s1.collFor x
      if c.commit || c.isOver then .next s1 else .next ((s1.colSend c kCommit 0).putColl { c with commit := true })

/-- COLLECTIVE_ABORT (R287, R293): with `src` this module, which is the coordinator, member `index` is declared lost before the commit point, and
every member is told; else an abort comes in from member `src`. -/
def execCollectiveAbort (s : State) : Host.Outcome State Fault Refusal :=
  let no : Host.Outcome State Fault Refusal := noUnit "COLLECTIVE_ABORT"
  if s.ev.src = s.md.number then
    match s.coll? with
    | none => no
    | some c =>
      if c.commit || c.isOver || c.coordinator != s.md.number || !(selMembers c.sel).contains s.ev.index || s.ev.index == s.md.number then no
      else .next (s.failColl { c with lost := sadd c.lost s.ev.index } 0x06 true)
  else
    match s.colPacket [kAbort] with
    | none => no
    | some (x, s1) =>
      let c := s1.collFor x
      if c.commit || c.isOver then .next s1 else .next (s1.failColl c x.code false)

/-- The coordinator that has taken over decides once it knows (R287 step 3): commit when it or a survivor holds it, abort when every survivor has
answered and none does. -/
def State.decideColl (s : State) (c : Coll) : State :=
  let others := (selMembers c.sel).filter (fun m => m != s.md.number && !c.lost.contains m)
  if c.isOver then s
  else if c.answers.any (·.2) || c.commit then (s.colSend c kCommit 0).putColl { c with commit := true }
  else if others.all (fun m => c.answers.any (fun a => a.1 == m)) then s.failColl c 0x06 true else s.putColl c

/-- COORDINATOR_TAKEOVER (R287 step 3): with `src` this module, member `index`, the coordinator, is declared lost; if this module is now the
coordinator it asks every survivor whether it holds commit. Else the next question or answer of member `src` is taken. -/
def execCoordinatorTakeover (s : State) : Host.Outcome State Fault Refusal :=
  let no : Host.Outcome State Fault Refusal := noUnit "COORDINATOR_TAKEOVER"
  if s.ev.src = s.md.number then
    match s.coll? with
    | none => no
    | some c =>
      let c1 := { c with lost := sadd c.lost s.ev.index }
      if c.coordinator ≠ s.ev.index ∨ s.ev.index = s.md.number ∨ c.failed.isSome = true then no
      else if c1.coordinator ≠ s.md.number then .next (s.putColl c1)
      else .next ((s.colSend c1 kQuery 0).decideColl c1)
  else
    match s.colPacket [kQuery, kAnswer] with
    | none => no
    | some (x, s1) =>
      let c := s1.collFor x
      if x.kind = kQuery then
        let c1 := { c with lost := (selMembers c.sel).filter (fun m => decide (m < x.src)) }
        .next ((s1.modMd (fun m => m.post (c.packet x.src kAnswer 0 0 0 (if c.commit || c.written then 1 else 0)))).putColl c1)
      else .next (s1.decideColl { c with answers := c.answers ++ [(x.src, x.code == 1)] })

end Sys2Proof.Machine
end

