-- ==== Sys2Proof/Machine/Messages.lean ====
section
/-! DEFINITION. Messages between tasks (R337 to R341): MSEND, arrival at a mailbox, the reply, deterministic delivery, and handlers. -/

namespace Sys2Proof.Machine

/-! ## Sending (R337, R339) -/

/-- The reserved bits of a destination are zero, and MODULE is 0 unless DOM is set (R339). -/
def destOk (d : DWord) : Bool := bits d 52 12 == 0 && bits d 50 1 == 0 && bits d 20 20 == 0 && bits d 4 3 == 0 && (bit d 51 || bits d 40 10 == 0)
/-- The module that a destination names. -/
def State.destModule (s : State) (d : DWord) : Nat := if bit d 51 then bits d 40 10 else s.md.number

/-- Doubleword 72 of a message's page (R337). -/
def State.senderWord (s : State) (t : Task) : DWord := dw (s.md.number * 2 ^ 40 + t.vdie * 2 ^ 14 + s.taskGt t % 128 * 2 ^ 7)

/-- The message that the issuing task sends (R337, R340). -/
def State.newMsg (s : State) (dest : DWord) (payload : List Byte) (marks : List Bool) (seq : Nat) : Msg :=
  let t := s.cur
  let gk := match s.grpCheck t.who (s.taskGt t) t.hw.group.toNat with | .ok k => k | _ => 0
  { id := s.clock, num := s.clock, src := s.md.number, key := t.key, tile := s.taskGt t, sender := s.senderWord t, vi := some t.vi, dest := dest, payload := payload, marks := marks,
    seq := seq, tindex := bits t.hw.tindex 0 32, seed := t.hw.seed, det := t.det, held := t.det && t.bsp, group := gk, phase := (s.grp gk).step }

/-- A message as a packet of class MSG (R112), with the domain job tag of the sender's VI. -/
def Msg.packet (g : Msg) (dst tag : Nat) : Packet :=
  let b (x : Bool) : Nat := if x then 1 else 0
  { cls := cMSG, dst := dst, kind := kMsg, agent := g.tile, dagent := bits g.dest 7 13, addr := g.key * 2 ^ 20 + bits g.dest 0 20, tag := tag, re := g.num, marks := putMarks 0 0 g.marks
    data := BitVec.ofNat 1024 (ofBytes g.payload + (g.seq + (g.tindex + (g.seed.toNat + (b g.det + (b g.held + (bits g.sender 14 6 + (g.phase + g.group * 2 ^ 64)
      * 2 ^ 6) * 2) * 2) * 2 ^ 64) * 2 ^ 32) * 2 ^ 32) * 2 ^ 512) }

/-- Send a message of the issuing task (R338, R339): it is on its way to a mailbox of this module, or leaves in class MSG. -/
def State.sendMsg (s : State) (dest : DWord) (payload : List Byte) (marks : List Bool) (seq : Nat) : State :=
  let m := s.destModule dest
  let g := s.newMsg dest payload marks seq
  let s1 : State := { s with clock := s.clock + 1, cur := s.cur.modSch (fun x => { x with sentId := g.num }) }
  if m = s.md.number then { s1 with msgs := s1.msgs ++ [g] } else s1.modMd (fun x => x.post (g.packet m (s.vi s.cur.vi).jobtag))

/-- The reply of an MSEND takes effect (R339). -/
def msendDone (d : BitVec 5) (st : Nat) (s : State) : Act :=
  .next (s.modCur (fun t =>
    (({ t with hw := { t.hw with mseq := if st = 0 then dw ((bits t.hw.mseq 0 32 + 1) % 2 ^ 32) else t.hw.mseq }
               sch := { t.sch with reply := none, sending := false } } : Task)).wrG d ⟨dw st, false, true⟩))

/-- A message sent from inside a domain is appended to the held messages of the nest (R386). -/
def msendHeld (dest : DWord) (d : BitVec 5) (bs : List (Byte × Bool)) (s : State) : Act :=
  let w := s.domWord s.cur 1 10
  let n := bits w 8 8
  if 16 ≤ n then illegalOperand s
  else
    let tail := toBytes 8 dest.toNat ++ toBytes 8 (bits s.cur.hw.mseq 0 32)
    let all := bs.map (·.1) ++ tail
    let marks := bs.map (·.2) ++ List.replicate 16 false
    let s1 := (List.range 10).foldl (fun x i => x.areaPut s.cur 1 (0x180 + 80 * n + 8 * i) ((all.drop (8 * i)).take 8) ((marks.drop (8 * i)).take 8)) s
    msendDone d 0 (s1.domPut s.cur 1 10 (setBits w 8 8 (n + 1)))

/-- MSEND (R339). -/
def execMsend (a d : BitVec 5) (q : BitVec 4) (s : State) : Host.Outcome State Fault Refusal :=
  run (.msend a d q) q s (fun s =>
    match s.cur.sch.reply with
    | some st => msendDone d st s
    | none =>
      if s.cur.sch.sending then .park s .reply
      else checkRegs s [a, d] (
        let ga := (s.cur.rdG a).v.toNat
        let gd := (s.cur.rdG d).v
        if !destOk gd then illegalOperand s
        else if ga % 64 ≠ 0 ∨ (aRegion ga ≠ 0 ∧ aRegion ga ≠ 1) then illegalOperand s
        else releaseWait s (withLoad s ga 64 (fun s1 bs =>
          if !(s.md.number :: s.md.present).contains (s.destModule gd) then faultAt s 0x04 ga
          else
            let s2 := s1.modCur (fun t => t.noteReads [a, d])
            if s.cur.depth ≠ 0 then msendHeld gd d bs s2
            else .park ((s2.sendMsg gd (bs.map (·.1)) (bs.map (·.2)) (bits s.cur.hw.mseq 0 32)).modCur (fun t => t.modSch (fun x => { x with sending := true }))) .reply))))

/-! ## Arrival (R338, R340) -/

/-- The mailbox that a message reaches: the tile and the mailbox number, once the matched VI binds the vdie. -/
def State.mailOf (s : State) (g : Msg) : Option (Nat × Nat) :=
  match g.vi with
  | none => none
  | some v => ((s.vi v).ldie (bits g.dest 14 6)).map (fun d => (d * 128 + bits g.dest 7 7, bits g.dest 0 4))

/-- The page of a message (R337). -/
def Msg.page256 (g : Msg) : List Byte × List Bool :=
  (g.payload ++ toBytes 8 (g.seq * 2 ^ 32 + g.tindex) ++ toBytes 8 g.sender.toNat ++ List.replicate 176 0, g.marks ++ List.replicate 192 false)

/-- Write a message into a page and mark it done (R338 steps 2 and 3, R340 item 3). -/
def State.placeMsg (s : State) (gt m k : Nat) (g : Msg) : State :=
  let b := s.mail gt m
  let c := s.cb gt b.buf
  let w := s.sramWrite 2 (bits g.dest 14 6) gt [] (c.pageOff k) g.page256.1 g.page256.2
  -- the entries are the sender's (R138)
  let s1 := if w.crust = [] ∨ g.src ≠ s.md.number then w.s else w.s.onLines g.key [10] (fun t => t.charge w.crust)
  (s1.modCb gt b.buf (fun c => c.completeP g.key 0 [k])).modMail gt m (fun b => { b with posts := b.posts ++ [⟨k, g.det, g.seed, g.tindex, g.seq, false⟩] })

/-- Change a message; put back what is left of it. -/
def State.modMsg (s : State) (id : Nat) (f : Msg → Msg) : State := { s with msgs := modWhere (fun g => g.id == id) f s.msgs }

/-- A message reaches its mailbox: the first row of R338 that holds. -/
def State.arrive (s : State) (g : Msg) : State :=
  let answer (s : State) (st : Nat) : State := s.modMsg g.id (fun g => { g with arrived := true, held := false, reply := some st })
  match g.vi, s.mailOf g with
  | some v, some (gt, m) =>
    let b := s.mail gt m
    if !s.mailUsable gt b || b.owner != v then answer s 2
    else
      let c := s.cb gt b.buf
      match c.grant (.message g.id) 0 1 false with
      | some (c', k) =>
        let s1 := s.modCb gt b.buf (fun _ => c')
        if g.held then s1.modMsg g.id (fun g => { g with arrived := true, page := some k, reply := some 0 })
        else ((answer s1 0).placeMsg gt m k g).settleMail gt m
      | none =>
        if g.held then (s.modCb gt b.buf (fun c => c.enqueue (.message g.id) 0 1)).modMsg g.id (fun g => { g with arrived := true })
        else answer s 1
  | _, _ => answer s 2

/-- The VI that a message from another module matches (R338). -/
def State.matchedVi (s : State) (tag : Nat) : Option Nat :=
  if tag = 0 then none else (s.vis.find? (fun v => v.2.enable && v.2.jobtag == tag)).map (·.1)

/-- A message from another module, as `Msg.packet` lays it out. -/
def State.peerMsg (s : State) (x : EvIn) : Msg :=
  let d := x.data.toNat >>> 512
  let f (lo n : Nat) : Nat := (d >>> lo) % 2 ^ n
  { id := s.clock, num := x.offset, src := x.src, key := x.addr / 2 ^ 20, tile := x.gt, sender := dw (x.src * 2 ^ 40 + f 130 6 * 2 ^ 14 + x.gt % 128 * 2 ^ 7)
    vi := s.matchedVi x.index, dest := dw (x.addr % 2 ^ 20), payload := toBytes 64 (x.data.toNat % 2 ^ 512), marks := (List.range 64).map (fun i => x.value.testBit (i / 8))
    seq := f 0 32, tindex := f 32 32, seed := dw (f 64 64), det := f 128 1 == 1, held := f 129 1 == 1, phase := f 136 64, group := f 200 64 + (x.src + 1) * 2 ^ 64 }

/-- Whether the tile of a message's mailbox cannot take a request now: it is power-gated or fenced (R18, R28, R392). -/
def State.mailAway (s : State) (g : Msg) : Bool :=
  match s.mailOf g with
  | some (gt, _) => s.fencedTile gt || (s.tile gt).gated
  | none => false

/-- MESSAGE_ARRIVAL (R338): with `kind` 0 message `id` of this module, behind the earlier ones from the same tile to the same tile (R30), or the next
message of tile `gt` of module `src` to tile `die` (R115), reaches its mailbox; with `kind` 1 mailbox `id` of tile `gt` counts pages that have
been published since. -/
def execMessageArrival (s : State) : Host.Outcome State Fault Refusal :=
  let e := s.ev
  if e.kind = 1 then .next (s.settleMail e.gt e.id)
  else if e.src ≠ s.md.number then
    match s.oldestPacket cMSG e.src e.gt e.die [kMsg] with
    | none => noUnit "MESSAGE_ARRIVAL"
    | some (x, s1) =>
      let g := s1.peerMsg x
      if s.mailAway g then noUnit "MESSAGE_ARRIVAL"
      else .next (({ s1 with msgs := s1.msgs ++ [g], clock := s1.clock + 1 } : State).arrive g)
  else match s.msgs.find? (fun g => g.id == e.id && !g.arrived) with
  | none => noUnit "MESSAGE_ARRIVAL"
  | some g =>
    let tileOf (g : Msg) : Option Nat := (s.mailOf g).map (·.1)
    if s.mailAway g || s.msgs.any (fun h => decide (h.id < g.id) && !h.arrived && h.src == g.src && h.tile == g.tile && tileOf h == tileOf g) then noUnit "MESSAGE_ARRIVAL"
    else .next (s.arrive g)

/-- The status of a reply reaches a task that waits for it (R339); one that no task awaits is dropped. -/
def State.takeReply (s : State) (key num st : Nat) : State :=
  let awaits := match s.task? key with
    | some t => t.sch.sending && t.sch.sentId == num
    | none => false
  if awaits then
    (s.modTask key (fun t => t.modSch (fun x => { x with reply := some st }))).wake (fun t p => t.key == key && (p == .reply || p == .heldSends))
  else s

/-- MSEND_REPLY (R339): the reply of message `id` arrives, or leaves for the sender's module; with `src` another module, the next reply of its tile
`gt` to tile `die` comes in. -/
def execMsendReply (s : State) : Host.Outcome State Fault Refusal :=
  let e := s.ev
  if e.src ≠ s.md.number then
    match s.oldestPacket cMSG e.src e.gt e.die [kReply] with
    | some (x, s1) => .next (s1.takeReply x.addr x.offset x.code)
    | none => noUnit "MSEND_REPLY"
  else match s.msgs.find? (fun g => g.id == e.id && g.reply.isSome && !g.replied) with
  | none => noUnit "MSEND_REPLY"
  | some g =>
    let st := g.reply.getD 0
    let s1 := if g.held then s.modMsg g.id (fun g => { g with replied := true }) else { s with msgs := s.msgs.filter (fun h => h.id ≠ g.id) }
    if g.src = s.md.number then .next (s1.takeReply g.key g.num st)
    else .next (s1.modMd (fun m => m.post { cls := cMSG, dst := g.src, kind := kReply, addr := g.key, agent := bits g.dest 7 13, dagent := g.tile, re := g.num, code := st }))

/-- Insert a message in ascending order of (sender task index, SEQ) (R340 item 3). -/
def msgInsert (g : Msg) : List Msg → List Msg
  | [] => [g]
  | h :: r => if g.tindex < h.tindex ∨ (g.tindex = h.tindex ∧ g.seq < h.seq) then g :: h :: r else h :: msgInsert g r

/-- The messages held at a mailbox for a phase of a group. -/
def State.heldBatch (s : State) (gt m group phase : Nat) : List Msg :=
  s.msgs.filter (fun g => g.held && g.arrived && g.group == group && g.phase == phase && s.mailOf g == some (gt, m))

/-- Numbers in rising order. -/
def sortNat (l : List Nat) : List Nat := l.foldl sadd []

/-- HELD_MESSAGE_BATCH (R340 item 3): the phase `seq` of the group at key `addr` has completed, and the messages held for it at mailbox `id` of
tile `gt` are placed and published. -/
def execHeldMessageBatch (s : State) : Host.Outcome State Fault Refusal :=
  let e := s.ev
  let l := s.heldBatch e.gt e.id e.addr e.seq
  if l.isEmpty || l.any (fun g => g.page.isNone) || l.any (fun g => g.src == s.md.number && (s.grp g.group).step == g.phase) then noUnit "HELD_MESSAGE_BATCH"
  else
    let ks := sortNat (l.filterMap (fun g => g.page))
    let order := l.foldl (fun r g => msgInsert g r) []
    let s1 := (order.zip ks).foldl (fun x e' => x.placeMsg e.gt e.id e'.2 e'.1) s
    let s2 : State := { s1 with msgs := (s1.msgs.map (fun g => if l.any (fun h => h.id == g.id) then { g with held := false } else g)).filter (fun g => g.held || !g.replied) }
    .next (s2.settleMail e.gt e.id)

/-! ## Handlers (R341) -/

/-- The handler task of a message in mailbox m of a tile. -/
def State.handlerTask (s : State) (gt m : Nat) (b : Mailbox) (p : Post) : Task :=
  let c := s.cb gt b.buf
  let page := flat ((s.vi b.owner).vdieOf (gt / 128)) (gt % 128) (c.pageOff p.page)
  newTask b.owner (bits b.dw3 0 56) (bits b.dw2 0 56) (dw m) (dw page) (dw p.tindex) (dw p.seq)
    (modeOf false p.det false false true) { seed := p.seed, tindex := dw p.tindex, claim := dw (b.hprio * 2 ^ 16) } (.handler m)

/-- HANDLER_START (R341): the next published message of mailbox `id` of tile `gt` starts its handler, which acquires the page; a page that
another consumer has taken is never handled. -/
def execHandlerStart (s : State) : Host.Outcome State Fault Refusal :=
  let gt := s.ev.gt
  let m := s.ev.id
  let b := s.mail gt m
  let c := s.cb gt b.buf
  if !b.hmode || b.handler.isSome then noUnit "HANDLER_START"
  else match b.posts.find? (fun p => pagePast c.pushed p.page) with
  | none => noUnit "HANDLER_START"
  | some p =>
    if pagePast c.taken p.page then .next (s.modMail gt m (fun b => { b with posts := b.posts.filter (fun x => x.page ≠ p.page) }))
    else
      let h := s.handlerTask gt m b p
      if c.taken ≠ p.page ∨ (s.task? h.key).isSome = true then noUnit "HANDLER_START"
      else match c.grant (.message (2 ^ 32 + m)) 1 1 false with
      | none => noUnit "HANDLER_START"
      | some (c', k) =>
        .next ((((s.modCb gt b.buf (fun _ => c')).modMail gt m (fun b => { b with handler := some k })).addTask h).ready h.key)

end Sys2Proof.Machine
end

