-- ==== Sys2Proof/Machine/System.lean ====
section
/-! DEFINITION. The system instructions: status registers (R418, R419), TLBINV (R132, R420), TRAP (R375), ERET (R376), and the fault of an
encoding that is not an instruction (R49, R371). -/

namespace Sys2Proof.Machine

/-! ## Status registers (R418, R419) -/

/-- The value that RDSR reads of register e of the issuing task. -/
def State.readSr (s : State) (e : Nat) : DWord :=
  let t := s.cur
  let gt := s.taskGt t
  let wp := t.wp.toNat
  match e with
  | 0 => t.st.mode
  | 1 => t.st.fpflags
  | 2 => t.st.tstat
  | 3 => t.st.pois
  | 4 => t.st.taint
  | 5 => t.st.rkey
  | 6 => t.st.rseq
  | 7 => t.st.crust
  | 8 => t.st.mverr
  | 9 => t.st.vtype
  | 10 => t.scope
  | 11 => t.mx.zmode
  | 12 => t.mx.mxa
  | 13 => t.mx.mxb
  | 14 => t.mx.ufcur
  | 15 => dw (t.slot % 16 * 2 ^ 16 + bits t.hw.frame 8 4 * 2 ^ 8)
  | 16 => t.hw.launch
  | 17 => t.hw.seed
  | 18 => t.hw.tindex
  | 19 => t.hw.group
  | 20 => dw (aTile wp)
  | 21 => dw (aVdie wp)
  | 22 => t.wp.setWidth 64
  | 23 => (s.tile gt).cycle
  | 24 => (s.wsWord gt (aOff wp) 0x1400).1
  | 25 => (s.wsWord gt (aOff wp) 0x1408).1
  | 26 => t.hw.mseq
  | 27 => t.hw.rsv
  | _ => t.hw.cdnest

/-- The wait of RDSR and WRSR: engine commands that can set a flag (R76), vector commands for the tags (R224). -/
def srWait (s : State) (e : Nat) (k : Act) : Act :=
  if e = 1 ∧ (s.cmdsOf s.cur).any Cmd.setsFlags = true then .park s (.commands 4)
  else if (e = 3 ∨ e = 4) ∧ s.vCmds s.cur ≠ [] then .park s (.commands 1)
  else k

/-- RDSR (R419). -/
def execRdsr (e d : BitVec 5) (q : BitVec 4) (s : State) : Host.Outcome State Fault Refusal :=
  run (.rdsr e d q) q s (fun s => srWait s e.toNat (
    .next (s.modCur (fun t => t.wrG d ⟨s.readSr e.toNat, false, e == 15 || e == 16 || e == 23⟩))))

/-- Replace the writable bits of a register (R10, R418). -/
def masked (old x mask : DWord) : DWord := (old &&& ~~~mask) ||| (x &&& mask)

/-- The writable bits of register e (R418, with the fields of R74, R75, R138, R161, R189 to R191, R221); 0 for none. -/
def srMask (e : Nat) : DWord :=
  match e with
  | 0 => 0x1F
  | 1 => 0x7F
  | 2 => 0x300FF
  | 3 => 0x000FFFFFFFFFFFFF
  | 4 => 0x0FFFFFFFFFFFFFFF
  | 5 => BitVec.allOnes 64
  | 6 => 0xFFFFFFFF
  | 7 => 0xFFFFFFFFFFFFFF00
  | 8 => 0xFFFFFF000000FF00
  | 9 => 0x1F
  | _ => 0

/-- A status word after WRSR of register e. SR.TSTAT's write clears the taint of every predicate; outside deterministic mode no taint tag is set
(R202, log entry 71). -/
def Status.writeSr (st : Status) (e : Nat) (x : DWord) : Status :=
  let w (old : DWord) : DWord := masked old x (srMask e)
  match e with
  | 0 => { st with mode := w st.mode }
  | 1 => { st with fpflags := w st.fpflags }
  | 2 => { st with tstat := w st.tstat, taint := setBits st.taint tagP 8 0 }
  | 3 => { st with pois := w st.pois }
  | 4 => { st with taint := if bit st.mode 14 then w st.taint else 0 }
  | 5 => { st with rkey := w st.rkey }
  | 6 => { st with rseq := w st.rseq }
  | 7 => { st with crust := w st.crust }
  | 8 => { st with mverr := w st.mverr }
  | 9 => { st with vtype := w st.vtype }
  | _ => st

/-- WRSR (R419): of SR.POIS and SR.TAINT it is for the supervisor alone, whatever its guard (R51, R52, R191). -/
def execWrsr (e a : BitVec 5) (q : BitVec 4) (s : State) : Host.Outcome State Fault Refusal :=
  (if e == 3 || e == 4 then runSup else run) (.wrsr e a q) q s (fun s =>
    if srMask e.toNat = 0 then illegalOperand s
    else checkRegs s [a] (
      let x := (s.cur.rdG a).v
      if e = 0 ∧ 6 ≤ bits x 0 3 then illegalOperand s
      else srWait s e.toNat (.next (s.modCur (fun t => (t.noteReads [a]).modSt (fun st => st.writeSr e.toNat x))))))

/-! ## TLBINV (R132, R420) -/

/-- Whether a run of offsets of a region is named by TLBINV's operand and k. -/
def tlbNames (k ga region base size : Nat) : Bool :=
  k == 2 || (region == aRegion ga && (k == 1 || (decide (base ≤ ga % 2 ^ 40) && decide (ga % 2 ^ 40 < base + size))))

/-- Whether a walk in flight is for a page that TLBINV names: a walk's page is known by the offset that asked for it. -/
def Walk.named (w : Walk) (v k ga : Nat) : Bool :=
  w.vi == v && tlbNames k ga w.region (w.offset / 2 ^ 16 * 2 ^ 16) (2 ^ 16)

/-- Whether an outstanding store or release of a VI was translated through a page that TLBINV names: the page of an entry still cached, or else the
smallest page (R127). -/
def State.storeNamed (s : State) (x : Store) (v k ga : Nat) : Bool :=
  let off := x.addr % 2 ^ 40
  let region := aRegion x.addr
  let named (e : TlbEntry) : Bool := e.vi == v && tlbNames k ga e.region e.base e.size && e.region == region && decide (e.base ≤ off) && decide (off < e.base + e.size)
  x.vi == v && match x.loc with
    | .sram _ _ | .ctrl _ _ _ => false
    | _ => x.kind != .write || tlbNames k ga region (off / 2 ^ 16 * 2 ^ 16) (2 ^ 16) || s.tiles.any (fun p => p.2.tlb.any named)

/-- Whether requests of a VI that were translated earlier are still under way: a store is outstanding, a task waits for a line, a moving frame or a granted word
of memory behind a translation, or for a named walk, or has been readied and has not executed again yet (R132, R420). -/
def State.undrained (s : State) (v k ga : Nat) : Bool :=
  s.tasks.any (fun t => t.vi == v && t.inCache && match t.sch.why with
    | some (.line _ _) => true
    | some (.pageBusy _) => true
    | some (.grant a) => decide (2 ^ 37 ≤ a)
    | _ => false) ||
  s.stores.any (fun x => s.storeNamed x v k ga) || s.md.walks.any (fun w => w.named v k ga && w.result.isNone && w.dropped)

/-- TLBINV (R420): it drops the entries once the requests translated before have completed; a walk in flight is not cached. -/
def execTlbinv (e a : BitVec 5) (q : BitVec 4) (s : State) : Host.Outcome State Fault Refusal :=
  runSup (.tlbinv e a q) q s (fun s => notInDomain s (checkRegs s [a] (
    let ga := (s.cur.rdG a).v.toNat
    let k := e.toNat
    let v := s.cur.vi
    if (k = 2 ∧ ga ≠ 0) ∨ (k ≠ 2 ∧ (2 ^ 56 ≤ ga ∨ (aRegion ga ≠ 1 ∧ aRegion ga ≠ 2))) then illegalOperand s
    else releaseWait s (
      let s1 := s.modMd (fun m => { m with walks := m.walks.map (fun w => if w.named v k ga && w.result.isNone then { w with dropped := true } else w) })
      if s1.undrained v k ga then .park s1 (.requests k ga)
      else
        let s2 := { s1 with tiles := s1.tiles.map (fun (e : Nat × Tile) => (e.1, { e.2 with tlb := e.2.tlb.filter (fun x => !(x.vi == v && tlbNames k ga x.region x.base x.size)) })) }
        .next (s2.modCur (fun t => t.noteReads [a]))))))

/-! ## TRAP, ERET and illegal instructions -/

/-- TRAP (R375): a software trap that is precise after the instruction. -/
def execTrap (e a : BitVec 5) (q : BitVec 4) (s : State) : Host.Outcome State Fault Refusal :=
  run (.trap e a q) q s (fun s =>
    let x := s.cur.rdG a
    .trap (s.modCur (fun t => t.noteReads [a]))
      { code := 0x18, after := true, addr := x.v, info := dw (e.toNat + (if x.p then 2 ^ 8 else 0) + (if x.t then 2 ^ 9 else 0)) })

/-- Finish a task's trap with action k (R376): resume, end, or discard the innermost domain. -/
def State.finishTrap (s : State) (t : Task) (k : Nat) : State :=
  match k with
  | 0 => s.eretResume t
  | 1 => (if t.depth = 0 then s else s.discardLevel t.key 1).endTask t.key
  | _ => s.discardWith t.key t.depth 0x15 false

/-- ERET (R376). -/
def execEret (e a : BitVec 5) (q : BitVec 4) (s : State) : Host.Outcome State Fault Refusal :=
  runSup (.eret e a q) q s (fun s => checkRegs s [a] (
    match s.trapped? s.cur.vi (s.cur.rdG a).v.toNat with
    | none => illegalOperand s
    | some t =>
      if !s.eretOk t e.toNat then illegalOperand s
      else releaseWait s (.next ((s.modCur (fun u => u.noteReads [a])).finishTrap t e.toNat))))

/-- ILLEGAL_INSTRUCTION (R49, R50, R371): the bytes at PC are no instruction. `value` holds the word as fetched, from which IWORD is taken. -/
def execIllegalInstruction (s : State) : Host.Outcome State Fault Refusal :=
  .next (s.takeTrap s.cur.key { code := 0x01 } s.cur.pc.toNat s.ev.value)

end Sys2Proof.Machine
end

