-- ==== Sys2Proof/Machine/Domains.lean ====
section
/-! DEFINITION. Containment domains (R381 to R388): CDOPEN, CDCLOSE, and redundant execution's signatures with the tie-break comparison
(R389, R390). Discarding is in Discard.lean. -/

namespace Sys2Proof.Machine

/-! ## CDOPEN (R383) -/

/-- The checks of a region 0x0 area: one slice, away from the task's own workspace, written granules, no window range. -/
def areaOk (s : State) (ga gt off : Nat) (k : Act) : Act :=
  let wp := s.cur.wp.toNat
  if ga % 64 ≠ 0 ∨ off + 0x1A80 > 2 ^ 25 ∨ (wp / 2 ^ 25 = ga / 2 ^ 25 ∧ ga < wp + 0x4000 ∧ wp < ga + 0x1A80) then illegalOperand s
  else
    let gs := (List.range (0x1A80 / 256 + 2)).map (fun i => (off / 256 + i, (s.gran gt (off / 256 + i)).state)) |>.filter (fun e => decide (e.1 * 256 < off + 0x1A80))
    if gs.any (fun e => e.2 == 0 || e.2 == 1) then faultAt s 0x04 ga
    else if gs.any (fun e => ((s.tile gt).winAt (e.1 * 256)).isSome || (s.tile gt).inSecond (e.1 * 256)) then faultAt s 0x08 ga
    else match gs.find? (fun e => e.2 == 3) with
      | some e => .park s (.granule (sramKey gt (e.1 * 256)))
      | none => k

/-- The handles that a record names as preserved inputs (R381). -/
def inputHandles (d : List DWord) : List Nat :=
  ([bits (nthDw d 1) 0 32, bits (nthDw d 1) 32 32, bits (nthDw d 2) 0 32, bits (nthDw d 2) 32 32]).filter (· ≠ 0xFFFFFFFF)

/-- The input handles must be valid and have RD (R383): each is found in the tile's handle cache, or waited for. -/
def withInputs (s : State) : List Nat → Act → Act
  | [], k => k
  | h :: r, k => withEntry s h (fun e => match e with
    | some x => if hRd x then withInputs s r k else .trap s.clearBad { code := 0x0A, info := dw h }
    | none => .trap s.clearBad { code := 0x0A, info := dw h })

/-- The bytes of the checkpoint as (offset in the area, bytes), with the crust entries of reading them: the low lines of the workspace, then the
live V registers (R381). -/
def State.checkpoint (s : State) (t : Task) : List (Nat × List Byte) × List DWord :=
  let part (area off n : Nat) : (Nat × List Byte) × List DWord :=
    let r := s.sramRead .fill 1 t.vdie (s.taskGt t) [] (aOff t.wp.toNat + off) n
    ((area, r.bytes.map (·.1)), r.crust)
  let l := part 0x680 0 0x400 :: ((List.range 16).filter (fun n => bit t.scope (32 + n))).map (fun n => part (0xA80 + 256 * n) (0x400 + 256 * n) 256)
  (l.map (·.1), l.flatMap (·.2))

/-- Store runs of bytes of an area as plain writes of the task; the first that cannot be written stops it. -/
def storeArea (s0 : State) (ga : Nat) : State → List (Nat × List Byte) → (State → Act) → Act
  | s, [], k => k s
  | s, (off, bs) :: r, k =>
    match s.check1 s.cur.who (s.taskGt s.cur) rWR (ga + off) with
    | .ok l =>
      let w := s.issueStore { key := s.cur.key, vi := s.cur.vi, addr := ga + off, loc := l, bytes := bs, marks := bs.map (fun _ => false) }
      (match w.stop with
       | some c => chkAct s0 ga c (fun _ => faultAt s0 0x04 ga)
       | none => storeArea s0 ga (w.s.chargeCur w.crust) r k)
    | .trap c => faultAt s0 c ga
    | .park p => .park s0 p
    | .freeze c => .freeze s0 c

/-- A run of bytes of an area in its 64-byte pieces, so that translated pages need not be contiguous. -/
def areaPieces (r : Nat × List Byte) : List (Nat × List Byte) :=
  (List.range (r.2.length / 64)).map (fun i => (r.1 + 64 * i, (r.2.drop (64 * i)).take 64))

/-- Views of claimed blocks become 0 (R246, R383). -/
def Task.zeroViews (t : Task) : Task :=
  { t with mx := { t.mx with zmode := (List.range 8).foldl (fun z n => if bit t.hw.claim n then setBits z (3 * n) 3 0 else z) t.mx.zmode } }

/-- A task's transfers still in flight, from a level on. -/
def State.xfersOf (s : State) (t : Task) (level : Nat) : List Transfer :=
  ((s.tile (s.taskGt t)).xfers.map (·.2)).filter (fun x => x.wp == t.wp && x.vi == t.vi && x.inFlight && decide (level ≤ x.depth))

/-- The effect of CDOPEN once its checks have passed (R383). -/
def openDomain (ga : Nat) (s : State) : Act :=
  if s.cmdsOf s.cur ≠ [] then .park s (.commands 3)
  else match s.xfersOf s.cur 0 with
  | x :: _ => .park s (.transfer x.id)
  | [] =>
    let d := s.cur.depth
    let s1 := s.writeBack s.cur.key
    let marks := if d = 0 then 0 else bits (s.domWord s.cur 1 10) 0 16
    let hw : List DWord := [(s.cur.pc + 4).setWidth 64, dw marks, 0, 0, 0, 0, 0, 0]
    let cp := s1.checkpoint s.cur
    storeArea s ga (s1.chargeCur cp.2) (((0x40, hw.flatMap (fun x => toBytes 8 x.toNat)) :: cp.1).flatMap areaPieces) (fun s2 =>
      .next (s2.modCur (fun t => { t.zeroViews with
        hw := { t.hw with cdnest := setBits t.hw.cdnest 0 4 (d + 1), cdAddr := t.hw.cdAddr.set! d (dw ga) }
        red := { t.red with sig := 0, count := 0 } })))

/-- CDOPEN (R383). -/
def execCdopen (a : BitVec 5) (q : BitVec 4) (s : State) : Host.Outcome State Fault Refusal :=
  run (.cdopen a q) q s (fun s => checkRegs s [a] (
    let ga := (s.cur.rdG a).v.toNat
    let depth := s.cur.depth
    if depth = 8 ∨ bit s.cur.hw.rsv 63 = true ∨ s.cur.hnd = true then illegalOperand s
    else chkAct s ga (s.check s.cur.who (s.taskGt s.cur) rWR ga 0x1A80) (fun l =>
      if aRegion ga ≠ 0 ∧ aRegion ga ≠ 1 then faultAt s 0x04 ga else
      let rest : Act := withDws s ga 8 (fun s1 d =>
        let d0 := nthDw d 0
        if bits d0 48 16 ≠ 0 ∨ bits d0 19 13 ≠ 0 ∨ [3, 4, 5, 6, 7].any (fun i => nthDw d i != 0) = true then illegalOperand s
        else if depth ≠ 0 then
          if nthDw d 0 ≠ 0 ∨ nthDw d 1 ≠ 0 ∨ nthDw d 2 ≠ 0 then illegalOperand s
          else openDomain ga (s1.modCur (fun t => t.noteReads [a]))
        else
          let gt := s.taskGt s.cur
          let named := (List.range 16).filter (fun n => bit d0 n || bit d0 (32 + n))
          if bits d0 16 3 = 0 ∨ 3 < bits d0 16 3 ∨ (bits d0 0 16) &&& (bits d0 32 16) ≠ 0 then illegalOperand s
          else match named.find? (fun n => !(s.win gt n).valid || (s.win gt n).owner != s.cur.vi) with
            | some n => windowFault s n
            | none => withInputs s1 (inputHandles d) (openDomain ga (s1.clearBad.modCur (fun t => t.noteReads [a]))))
      match l with
      | .sram gt off => areaOk s ga gt off rest
      | _ => if ga % 64 ≠ 0 then illegalOperand s else rest)))

/-! ## CDCLOSE (R388) -/

/-- Swap the output windows one after another, each as a GLAZE of its own (R149, R388): the state and, when one must wait, its park. -/
def closeWins (s : State) : List Nat → State × Option Park
  | [] => (s.modCur (fun t => t.modSch (fun y => { y with swaps := [], glaze := none })), none)
  | w :: r =>
    let gt := s.taskGt s.cur
    if s.preserves gt w then
      (s.modCur (fun t => t.modSch (fun y => { y with swaps := w :: r, glaze := none })), some (.preserved w))
    else
      let cmds := s.winCmds gt w
      let xs := (s.winXfers gt w).map (fun e => (e.1, e.2.id))
      let set := match s.cur.sch.glaze with | some (_, l) => l | none => (cmds.map (·.seq), xs)
      if cmds.any (fun c => set.1.contains c.seq) || xs.any (fun e => set.2.contains e) then
        (s.modCur (fun t => t.modSch (fun y => { y with swaps := w :: r, glaze := some (w, set) })), some (.glaze w))
      else closeWins ((s.swapWin gt w).modCur (fun t => t.modSch (fun y => { y with glaze := none }))) r

/-- The protected pages of a task's domain are published and its held releases performed, in every buffer (R145, R388). -/
def State.commitPages (s : State) (key : Nat) : State :=
  { s with tiles := s.tiles.map (fun (e : Nat × Tile) => (e.1, { e.2 with cb := e.2.cb.map (fun (b : Nat × CBuf) => (b.1, b.2.commit key)) })) }

/-- The pages, and the granules that stores touched, pass from an inner level to the one around it. -/
def State.relevel (s : State) (key depth : Nat) : State :=
  { s with tiles := s.tiles.map (fun (e : Nat × Tile) => (e.1, { e.2 with cb := e.2.cb.map (fun (b : Nat × CBuf) => (b.1, b.2.relevel key depth)) })) }.modTask key
    (fun t => t.modSch (fun x => { x with touched := x.touched.map (fun (e : Nat × Nat) => if e.1 = depth then (depth - 1, e.2) else e) }))

/-- Send the held messages one after another, then give their count of refusals to gd (R388). -/
def sendHeld (d : BitVec 5) (s : State) : Act :=
  let n := bits (s.domWord s.cur 1 10) 8 8
  match s.cur.sch.closing with
  | none => illegalOperand s
  | some (i, bad) =>
    let next (i bad : Nat) (s : State) : Act :=
      if n ≤ i then .next (s.modCur (fun t => (t.modSch (fun x => { x with closing := none, reply := none, sending := false })).wrG d ⟨dw bad, false, true⟩))
      else
        let base := 0x180 + 80 * i
        let b := s.domBytes s.cur base 64
        let w (k : Nat) : DWord := dw (ofBytes ((s.domBytes s.cur (base + 64 + 8 * k) 8).map (·.1)))
        .park ((s.sendMsg (w 0) (b.map (·.1)) (b.map (·.2)) (w 1).toNat).modCur (fun t => t.modSch (fun x => { x with closing := some (i, bad), sending := true, reply := none }))) .heldSends
    match s.cur.sch.reply with
    | some st => next (i + 1) (if st = 0 then bad else bad + 1) s
    | none => if s.cur.sch.sending then .park s .heldSends else next i bad s

/-- The outermost close once its windows are swapped: pages published, releases performed, the nest closed (R388). -/
def closeNest (d : BitVec 5) (s : State) : Act :=
  let s1 := s.commitPages s.cur.key
  sendHeld d (s1.modCur (fun t => ({ t with hw := { t.hw with cdnest := 0 }, red := {} } : Task).modSch (fun x => { x with closing := some (0, 0), touched := [] })))

/-- Swap windows, then close. -/
def closeOutput (d : BitVec 5) (ws : List Nat) (s : State) : Act :=
  match closeWins s ws with
  | (s1, some p) => .park s1 p
  | (s1, none) => closeNest d s1

/-- CDCLOSE (R388). -/
def execCdclose (d : BitVec 5) (q : BitVec 4) (s : State) : Host.Outcome State Fault Refusal :=
  run (.cdclose d q) q s (fun s =>
    if s.cur.sch.closing.isSome then sendHeld d s
    else if s.cur.sch.swaps ≠ [] then closeOutput d s.cur.sch.swaps s
    else syncAll s (
      let depth := s.cur.depth
      if depth = 0 then illegalOperand s
      else match s.xfersOf s.cur depth with
      | x :: _ => .park s (.transfer x.id)
      | [] =>
        if s.cur.red.tie.isSome && s.cur.red.sig3.isSome then .park s .drained
        else if 1 < depth then
          .next ((s.relevel s.cur.key depth).modCur (fun t => (t.modHw (fun h => { h with cdnest := setBits h.cdnest 0 4 (depth - 1) })).wrG d ⟨0, false, true⟩))
        else closeOutput d ((List.range 16).filter (fun n => (s.owin s.cur >>> n) % 2 == 1)) s))

/-! ## Redundant execution (R389, R390) -/

/-- TIE_BREAK_COMPARISON (R390 item 3): the tie-break run of task `key` has checked SIGC entries; its signature agrees with one of the two,
whose partner erred and is reported, or with neither. -/
def execTieBreakComparison (s : State) : Host.Outcome State Fault Refusal :=
  match s.task? s.ev.key with
  | none => noUnit "TIE_BREAK_COMPARISON"
  | some t =>
    match t.red.tie, t.red.sig3 with
    | some (l, tr, n), some x =>
      let resolved (slot : Nat) : State :=
        ((s.modTask t.key (fun u => { u with red := { u.red with tie := none, sig3 := none } })).modMd (fun m => { m with suspects := sadd m.suspects (32 * s.taskGt t + slot) })).wake
          (fun u p => u.key == t.key && p == .drained)
      if x = l then .next (resolved (t.slot + 8))
      else if x = tr then .next (resolved t.slot)
      else .next (s.discardNow t.key t.depth (some [l, tr, x, dw n]))
    | _, _ => noUnit "TIE_BREAK_COMPARISON"

end Sys2Proof.Machine
end

