-- ==== Sys2Proof/Machine/Flow.lean ====
section
/-! DEFINITION. Control flow by prepared targets (R321 to R331): preparing targets, compares into predicates, predicate logic,
transfers, and IINV. -/

namespace Sys2Proof.Machine

/-- The n bytes at x from the tile's instruction cache, with the moment they were read: two lines only where both are of one moment (R329). -/
def State.cachedCode (s : State) (t : Task) (x n : Nat) : Option (Nat × List Byte) :=
  let line (y : Nat) : Option (Nat × Nat × List Byte) := (s.tile (s.taskGt t)).icache.find? (fun e => e.1 == t.vi * 2 ^ 56 + y % 2 ^ 56)
  let a := x / 64 * 64
  match line a with
  | none => none
  | some e =>
    if x + n ≤ a + 64 then some (e.2.1, (e.2.2.drop (x - a)).take n)
    else match line (a + 64) with
      | some f => if f.2.1 = e.2.1 then some (e.2.1, ((e.2.2 ++ f.2.2).drop (x - a)).take n) else none
      | none => none

/-- The snapshot of target n becomes the bytes at x (R328). -/
def Task.setSnap (t : Task) (n x : Nat) (bs : List Byte) : Task := { t with snaps := (n, x, bs) :: t.snaps.filter (fun e => e.1 ≠ n) }

/-- Prepare target N with address x (R323): its old snapshot is dropped and the fetch of a new one begins (row SNAPSHOT_FETCH), which the instruction
cache serves at once if it holds the 64 bytes (R328). -/
def State.prepare (s : State) (n : BitVec 3) (x : BitVec 56) : State :=
  let t : Task := { s.cur with
    t := s.cur.t.set n.toNat (x.setWidth 64)
    st := { s.cur.st with tstat := setBit s.cur.st.tstat (8 + n.toNat) true }
    snaps := s.cur.snaps.filter (fun e => e.1 ≠ n.toNat) }
  { s with cur := match s.cachedCode s.cur x.toNat 64 with | some (_, bs) => t.setSnap n.toNat x.toNat bs | none => t }

/-- BPREP (R323): x = PC + sign_extend(imm20, 20) × 2. -/
def execBprep (i : BitVec 20) (d : BitVec 3) (s : State) : Host.Outcome State Fault Refusal :=
  run0 (.bprep i d) s (fun s => .next (s.prepare d (s.cur.pc + i.signExtend 56 * 2)))

/-- BPREPR (R323): x = ga[55:0]. -/
def execBprepr (a : BitVec 5) (d : BitVec 3) (q : BitVec 4) (s : State) : Host.Outcome State Fault Refusal :=
  run (.bprepr a d q) q s (fun s => checkRegs s [a] (
    let x := (s.cur.rdG a).v
    if 2 ^ 56 ≤ x.toNat ∨ x.getLsbD 0 = true then illegalOperand s
    else .next ({ s with cur := s.cur.noteReads [a] }.prepare d (x.setWidth 56))))

/-- A compare of ga and gb into predicate d: poison traps, taint is kept on the predicate (R324). -/
def cmpInto (b a : BitVec 5) (d : BitVec 3) (f : DWord → DWord → Bool) (s : State) : Act :=
  let x := s.cur.rdG a
  let y := s.cur.rdG b
  if x.p then faultReg s 0x0D 0 a.toNat
  else if y.p then faultReg s 0x0D 0 b.toNat
  else .next { s with cur := (s.cur.noteReads [a, b]).wrP d.toNat (f x.v y.v) (x.t || y.t) }

/-- CMP.EQ (R324). -/
def execCmpEq (b a : BitVec 5) (d : BitVec 3) (q : BitVec 4) (s : State) : Host.Outcome State Fault Refusal :=
  run (.cmpEq b a d q) q s (cmpInto b a d (fun x y => x == y))
/-- CMP.NE (R324). -/
def execCmpNe (b a : BitVec 5) (d : BitVec 3) (q : BitVec 4) (s : State) : Host.Outcome State Fault Refusal :=
  run (.cmpNe b a d q) q s (cmpInto b a d (fun x y => x != y))
/-- CMP.LT (R324): signed. -/
def execCmpLt (b a : BitVec 5) (d : BitVec 3) (q : BitVec 4) (s : State) : Host.Outcome State Fault Refusal :=
  run (.cmpLt b a d q) q s (cmpInto b a d (fun x y => x.slt y))
/-- CMP.GE (R324): signed. -/
def execCmpGe (b a : BitVec 5) (d : BitVec 3) (q : BitVec 4) (s : State) : Host.Outcome State Fault Refusal :=
  run (.cmpGe b a d q) q s (cmpInto b a d (fun x y => !x.slt y))
/-- CMP.LTN (R324): unsigned. -/
def execCmpLtn (b a : BitVec 5) (d : BitVec 3) (q : BitVec 4) (s : State) : Host.Outcome State Fault Refusal :=
  run (.cmpLtn b a d q) q s (cmpInto b a d (fun x y => x.ult y))
/-- CMP.GEN (R324): unsigned. -/
def execCmpGen (b a : BitVec 5) (d : BitVec 3) (q : BitVec 4) (s : State) : Host.Outcome State Fault Refusal :=
  run (.cmpGen b a d q) q s (cmpInto b a d (fun x y => !x.ult y))

/-- PAND (R325). -/
def execPand (b a d : BitVec 3) (q : BitVec 4) (s : State) : Host.Outcome State Fault Refusal :=
  run (.pand b a d q) q s (fun s => .next { s with cur := s.cur.wrP d.toNat (s.cur.rdP a.toNat && s.cur.rdP b.toNat) (s.cur.taintP a.toNat || s.cur.taintP b.toNat) })
/-- POR (R325). -/
def execPor (b a d : BitVec 3) (q : BitVec 4) (s : State) : Host.Outcome State Fault Refusal :=
  run (.por b a d q) q s (fun s => .next { s with cur := s.cur.wrP d.toNat (s.cur.rdP a.toNat || s.cur.rdP b.toNat) (s.cur.taintP a.toNat || s.cur.taintP b.toNat) })
/-- PNOT (R325). -/
def execPnot (a d : BitVec 3) (q : BitVec 4) (s : State) : Host.Outcome State Fault Refusal :=
  run (.pnot a d q) q s (fun s => .next { s with cur := s.cur.wrP d.toNat (!s.cur.rdP a.toNat) (s.cur.taintP a.toNat) })

/-- Target address of Tn (R321). -/
def Task.target (t : Task) (n : BitVec 3) : BitVec 56 := (t.t[n.toNat] &&& 0x00FFFFFFFFFFFFFE).setWidth 56
/-- Whether Tn is prepared (R190). -/
def Task.prepared (t : Task) (n : BitVec 3) : Bool := bit t.st.tstat (8 + n.toNat)
/-- A transfer that takes effect: through an unprepared target it is the unprepared-target fault (R326). -/
def transfer (s : State) (n : BitVec 3) (k : BitVec 56 → Act) : Act :=
  if s.cur.prepared n then k (s.cur.target n) else fault s 0x0C

/-- BR (R326). -/
def execBr (a : BitVec 3) (q : BitVec 4) (s : State) : Host.Outcome State Fault Refusal :=
  run (.br a q) q s (fun s => transfer s a (fun x => .jump s x))

/-- BR.P (R326). -/
def execBrP (a d : BitVec 3) (q : BitVec 4) (s : State) : Host.Outcome State Fault Refusal :=
  run (.brP a d q) q s (fun s =>
    if s.cur.det && s.cur.taintP d.toNat then faultReg s 0x0E 3 d.toNat
    else if s.cur.rdP d.toNat then transfer s a (fun x => .jump s x) else .next s)

/-- BR.NP (R326). -/
def execBrNp (a d : BitVec 3) (q : BitVec 4) (s : State) : Host.Outcome State Fault Refusal :=
  run (.brNp a d q) q s (fun s =>
    if s.cur.det && s.cur.taintP d.toNat then faultReg s 0x0E 3 d.toNat
    else if s.cur.rdP d.toNat then .next s else transfer s a (fun x => .jump s x))

/-- BRL (R326): the link register takes the address of the next instruction, with clear tags. -/
def execBrl (a : BitVec 3) (d : BitVec 5) (q : BitVec 4) (s : State) : Host.Outcome State Fault Refusal :=
  run (.brl a d q) q s (fun s => transfer s a (fun x =>
    .jump { s with cur := s.cur.wrG d ⟨(s.cur.pc + 4).setWidth 64, false, false⟩ } x))

/-- BRDEC (R326): decrement, then transfer while the counter is not zero; its tags are kept. -/
def execBrdec (a : BitVec 3) (d : BitVec 5) (q : BitVec 4) (s : State) : Host.Outcome State Fault Refusal :=
  run (.brdec a d q) q s (fun s =>
    let x := s.cur.rdG d
    checkRegs s [d] (
      let c := x.v - 1
      let t := { s with cur := (s.cur.noteReads [d]).wrG d ⟨c, x.p, x.t⟩ }
      if c = 0 then .next t else transfer s a (fun y => .jump t y)))

/-- IINV (R330): once the task's own stores have completed, the tile's instruction-cache lines and every snapshot of every task on the tile are
discarded. -/
def execIinv (q : BitVec 4) (s : State) : Host.Outcome State Fault Refusal :=
  run (.iinv q) q s (fun s =>
    if s.storesOf s.cur.key ≠ [] then .park s (.stores 0) else
    let gt := s.taskGt s.cur
    let s1 := s.modTile gt (fun t => { t with icache := [] })
    .next { s1 with
      cur := { s1.cur with snaps := [] }
      others := modWhere (fun t => s.taskGt t == gt) (fun t => { t with snaps := [] }) s1.others })

/-- n halfwords of code from an address, if all can be fetched from memory now (R323, R329). -/
def State.codeLine (s : State) (t : Task) (x : Nat) : Nat → Option (List Byte)
  | 0 => some []
  | n + 1 =>
    match s.check t.who (s.taskGt t) rEX x 2 with
    | .ok l =>
      let r := s.readLoc .fetch 0 0 [] l 2
      if r.stop.isSome then none else (s.codeLine t (x + 2) n).map (fun bs => r.bytes.map (·.1) ++ bs)
    | _ => none

/-- A line read at moment m enters the instruction cache of 1,024 lines, where the oldest gives way (R328, log entry 73). -/
def State.cacheCode (s : State) (t : Task) (x m : Nat) (bs : List Byte) : State :=
  s.modTile (s.taskGt t) (fun c => { c with icache := (t.vi * 2 ^ 56 + x, m, bs) :: (c.icache.filter (fun e => e.1 ≠ t.vi * 2 ^ 56 + x)).take 1023 })

/-- SNAPSHOT_FETCH (R328): the fetch that a BPREP began completes for target `index` of task `key`. One that would fault does nothing. -/
def execSnapshotFetch (s : State) : Host.Outcome State Fault Refusal :=
  match s.task? s.ev.key with
  | none => noUnit "SNAPSHOT_FETCH"
  | some t =>
    let n := s.ev.index % 8
    let x := (t.target (BitVec.ofNat 3 n)).toNat
    if t.status ≠ .resident ∨ t.prepared (BitVec.ofNat 3 n) = false then noUnit "SNAPSHOT_FETCH"
    else match s.codeLine t x 32 with
      | some bs => .next (s.modTask t.key (fun u => u.setSnap n x bs))
      | none => .next s

/-- CODE_FETCH (R328, R329): the line of task `key`'s next instruction arrives in the instruction cache, with the next line, read at the same
moment, for an instruction that reaches into it; the task parked on it is readied. -/
def execCodeFetch (s : State) : Host.Outcome State Fault Refusal :=
  match s.task? s.ev.key with
  | none => noUnit "CODE_FETCH"
  | some t =>
    if t.status ≠ .parked .code then noUnit "CODE_FETCH"
    else
      let x := t.pc.toNat / 64 * 64
      let m := s.clock
      let get (y : Nat) (z : State) : State := match s.codeLine t y 32 with
        | some bs => z.cacheCode t y m bs
        | none => z
      let s1 := get x s
      let s2 := if t.pc.toNat % 64 = 62 then get ((x + 64) % 2 ^ 56) s1 else s1
      .next ({ s2 with clock := m + 1 }.ready t.key)

end Sys2Proof.Machine
end

