-- ==== Sys2Proof/Machine/Lines.lean ====
section
/-! DEFINITION. What an instruction needs in the register cache before it issues (R195), its guard (R39), and which instructions are for the
supervisor alone (R47, R52, R191). -/

namespace Sys2Proof.Machine

/-- The G registers that an instruction reads or writes, and its guard field (R39, R185): MOV.S with d == s touches none (R37). -/
def gUse (i : Instr) : List (BitVec 5) × BitVec 4 :=
  match i with
  | .movS s d => (if s = d then [] else [s, d], 0)
  | .addS s d | .subS s d | .andS s d | .orS s d | .xorS s d | .shlS s d | .shrS s d => ([s, d], 0)
  | .add b a d q | .sub b a d q | .and b a d q | .or b a d q | .xor b a d q | .andn b a d q | .orn b a d q | .xnor b a d q | .shl b a d q
  | .shr b a d q | .sra b a d q | .ror b a d q | .min b a d q | .max b a d q | .minn b a d q | .maxn b a d q | .mul b a d q | .mulh b a d q
  | .mulhn b a d q | .div b a d q | .divn b a d q | .rem b a d q | .remn b a d q | .shadd1 b a d q | .shadd2 b a d q | .shadd3 b a d q
  | .shadd4 b a d q | .mksa b a d q | .alloc b a d q | .free b a d q | .casW b a d q | .casD b a d q => ([b, a, d], q)
  | .mov a d q | .clz a d q | .ctz a d q | .popc a d q | .brev a d q | .bswap a d q | .rsv a d q | .launch a d q | .qdist a d q | .dadd a d q
  | .msend a d q | .wpush a d q | .mvchain a d q | .mvtst a d q | .mvwait a d q | .bxinit a d q => ([a, d], q)
  | .sext _ a d q | .zext _ a d q | .sstep _ a d q | .waitc _ a d q | .wpop _ a d q | .wpopNb _ a d q | .bxarv _ a d q | .bxwait _ a d q
  | .bxtst _ a d q => ([a, d], q)
  | .addi _ s d | .andi _ s d | .ori _ s d | .xori _ s d | .shli _ s d | .shri _ s d | .srai _ s d | .muli _ s d => ([s, d], 0)
  | .li _ d | .lix _ d | .lpc _ d => ([d], 0)
  | .ldB _ b t q | .ldH _ b t q | .ldW _ b t q | .ldD _ b t q | .ldNb _ b t q | .ldNh _ b t q | .ldNw _ b t q | .stB _ b t q | .stH _ b t q
  | .stW _ b t q | .stD _ b t q => ([b, t], q)
  | .ldAcq _ _ b t q | .stRel _ _ b t q => ([b, t], q)
  | .scopeOpen a q | .scopeClose a q | .reln a q | .spawn a q | .gbar a q | .wclose a q | .ufcfg a q | .mxaUf a q | .cbinitBuffer a q
  | .cbinitWindow a q | .cdopen a q => ([a], q)
  | .mbr _ d q | .brl _ d q | .brdec _ d q | .mvget _ d q | .rdsr _ d q => ([d], q)
  | .mbw a _ q | .bprepr a _ q | .vbcast a _ q | .mxcfg a _ q | .ssub a _ q | .mxspill a _ q | .mxfill a _ q => ([a], q)
  | .relw b a q => ([b, a], q)
  | .amoAdd _ _ b a d q | .amoAnd _ _ b a d q | .amoOr _ _ b a d q | .amoXor _ _ b a d q | .amoMin _ _ b a d q | .amoMax _ _ b a d q
  | .amoMinn _ _ b a d q | .amoMaxn _ _ b a d q | .amoSwap _ _ b a d q => ([b, a, d], q)
  | .fence _ q | .fenceSc _ q | .br _ q | .mxzero _ q | .mxmac _ q | .mxwait _ q | .sunsub _ q => ([], q)
  | .cmpEq b a _ q | .cmpNe b a _ q | .cmpLt b a _ q | .cmpGe b a _ q | .cmpLtn b a _ q | .cmpGen b a _ q => ([b, a], q)
  | .pand _ _ _ q | .por _ _ _ q => ([], q)
  | .pnot _ _ q | .brP _ _ q | .brNp _ _ q | .vldc _ _ q | .vldcKeep _ _ q | .vstc _ _ q | .mxchk _ _ q | .mxa _ _ q | .mxaKeep _ _ q
  | .mxaHold _ _ q | .mxb _ _ q | .mxbKeep _ _ q | .mxbHold _ _ q | .mxbS _ _ q | .cbrelP _ _ q | .cbrelC _ _ q | .glaze _ _ q => ([], q)
  | .iinv q | .exit q | .yield q | .leave q => ([], q)
  | .join _ a q | .ddec _ a q | .mvset _ a q | .wrsr _ a q | .tlbinv _ a q | .trap _ a q | .eret _ a q => ([a], q)
  | .vld _ b _ q | .vst _ b _ q => ([b], q)
  | .vgath _ a _ q | .vscat _ a _ q => ([a], q)
  | .vextr b _ _ q => ([b], q)
  | .mxdrain _ _ _ r q => ([r], q)
  | .mvgo d q | .cdclose d q => ([d], q)
  | .cbacqP _ _ r q | .cbacqC _ _ r q | .cbqry _ _ r q => ([r], q)
  | _ => ([], 0)

/-- Lines other than those of G registers that an instruction reads or partly writes: T0-T7 (4), the boxes (6), SR.CRUST and SR.MVERR with the
first shadow registers (10), the other shadow registers (11). The status words and the live set are there while a task holds a slot (log entry
72). -/
def otherLines (i : Instr) : List Nat :=
  match i with
  | .bprep _ _ | .bprepr _ _ _ | .br _ _ | .brP _ _ _ | .brNp _ _ _ | .brl _ _ _ | .brdec _ _ _ => [4]
  | .mbr _ _ _ | .mbw _ _ _ => [6]
  | .rdsr e _ _ | .wrsr e _ _ => if e = 7 ∨ e = 8 then [10] else []
  | .bxwait _ _ _ _ | .gbar _ _ | .sstep _ _ _ _ | .waitc _ _ _ _ | .cdclose _ _ | .exit _ => [10]
  | .mvset e _ _ | .mvget e _ _ => [if e < 6 then 10 else 11]
  | .mvgo _ _ | .mvchain _ _ _ => [10, 11]
  | _ => []

/-- Groups of G registers that SCOPE.OPEN extends, so that it writes a part of their lines (R195, R199). -/
def Task.grownLines (t : Task) (i : Instr) : List Nat :=
  match i with
  | .scopeOpen a _ =>
    let m := (t.rdG a).v
    (List.range 4).filter (fun l => bits t.scope (8 * l) 8 != 0 && bits (m &&& ~~~t.scope) (8 * l) 8 != 0)
  | _ => []

/-- The lines that an instruction reads or partly writes (R195): dead registers need none (R198). -/
def Task.linesOf (t : Task) (i : Instr) : List Nat :=
  ((gUse i).1.filter t.liveG).map (fun n => n.toNat / 8) ++ otherLines i ++ t.grownLines i

/-- Forms for the supervisor alone (R52, R191). -/
def supOnly (i : Instr) : Bool :=
  match i with
  | .tlbinv _ _ _ | .eret _ _ _ => true
  | .wrsr e _ _ => e == 3 || e == 4
  | _ => false

/-- The absent line for which an instruction parks before it takes effect (R51 step 5, R195); a privilege fault and a false or tainted guard come
first (R51). -/
def State.lineWait (s : State) (i : Instr) : Option Nat :=
  let q := (gUse i).2
  if (supOnly i && !s.cur.sup) || s.cur.guardTainted q || !s.cur.guard q then none
  else (s.cur.linesOf i).find? s.cur.absentLines.contains

end Sys2Proof.Machine
end

