-- ==== Sys2Proof/Machine/Turn.lean ====
section
/-! DEFINITION. A turn of a slot: the code fetch of R329 from snapshots, the instruction cache and memory (R328), the tile's cycle
counter (R23), and how a program's first instruction is placed (log entry 6). -/

namespace Sys2Proof.Machine

/-- A result of fetching bytes. -/
inductive Fetched where
  | bytes (bs : List Byte)
  | fault
  | park (p : Park)
  | freeze (cause : Nat)
  deriving DecidableEq, Repr

/-- The n bytes at x of one instruction from one held copy (R328, R329): an own snapshot that covers them all, else the instruction cache, whose two
lines must be of one moment where the bytes lie in two. -/
def State.heldCode (s : State) (t : Task) (x n : Nat) : Option (List Byte) :=
  match t.snaps.find? (fun e => decide (e.2.1 ≤ x) && decide (x + n ≤ e.2.1 + e.2.2.length)) with
  | some e => some ((e.2.2.drop (x - e.2.1)).take n)
  | none => (s.cachedCode t x n).map (·.2)

/-- What stops a fetch of n bytes at x (R92, R329): its checks; memory that is not there yet stops only a fetch that no held copy serves. -/
def State.fetchCheck (s : State) (t : Task) (x n : Nat) : Option Fetched :=
  match s.check t.who (s.taskGt t) rEX x n with
  | .trap _ => some .fault
  | .park p => some (.park p)
  | .freeze c => some (.freeze c)
  | .ok l =>
    match (s.readLoc .fetch 0 0 [] l n).stop with
    | some (.park _) => none
    | some _ => some .fault
    | none => none

/-- What a task whose code is held nowhere waits for: the memory behind x, else the fetch itself (R329). -/
def State.codeWait (s : State) (t : Task) (x n : Nat) : Park :=
  match s.check t.who (s.taskGt t) rEX x n with
  | .ok l => match (s.readLoc .fetch 0 0 [] l n).stop with
    | some (.park p) => p
    | _ => .code
  | _ => .code

/-- Fetch the instruction at PC: one halfword, or two when bit 0 of the first is 1 (R32, R33), all from one held copy; without one the task parks on
the code (R327, R329). -/
def State.fetchInstr (s : State) (t : Task) : Fetched :=
  let x := t.pc.toNat
  match s.fetchCheck t x 2 with
  | some e => e
  | none =>
    match s.heldCode t x 2 with
    | none => .park (s.codeWait t x 2)
    | some bs =>
      if (bs.headD 0).getLsbD 0 then
        match s.fetchCheck t ((x + 2) % 2 ^ 56) 2 with
        | some e => e
        | none => match s.heldCode t x 4 with
          | none => .park (s.codeWait t ((x + 2) % 2 ^ 56) 2)
          | some cs => .bytes cs
      else .bytes bs

/-- The instruction word at a task's PC, as R50 captures it; 0 where it cannot be fetched now. -/
def State.wordAtPc (s : State) (t : Task) : Nat :=
  match t.sch.again with
  | some i => iwordOf i
  | none =>
    let x := t.pc.toNat
    let get (n : Nat) : Option (List Byte) := if (s.fetchCheck t x 2).isSome then none else match s.heldCode t x n with | some bs => some bs | none => s.codeLine t x (n / 2)
    match get 2 with
    | some bs => if (bs.headD 0).getLsbD 0 then (match get 4 with | some cs => ofBytes cs | none => 0) else ofBytes bs
    | none => 0

/-- A delivered walk serves each of its tasks for one execution (R131, R420). -/
def Walk.serve (w : Walk) (key : Nat) : Option Walk :=
  if w.result.isNone || !w.wps.contains key then some w
  else if !w.used.contains key then some { w with used := w.used ++ [key] }
  else
    let l := w.wps.filter (· ≠ key)
    if l = [] then none else some { w with wps := l, used := w.used.filter (· ≠ key) }

/-- The tile's cycle counter moves to the next cycle of the slot and past it (R23); delivered walks are used up; free values are new ones. -/
def State.slotTurn (s0 : State) : State :=
  let s := s0.tick
  let s1 := s.modTile (s.taskGt s.cur) (fun t => { t with cycle := t.cycle + dw ((s.cur.slot + 16 - t.cycle.toNat % 16) % 16 + 1), lastBusy := t.cycle.toNat })
  if s.md.walks = [] then s1 else s1.modMd (fun m => { m with walks := m.walks.filterMap (fun w => w.serve s.cur.key) })

/-- An asynchronous fault stands before the task's next instruction (R371): the state after it. -/
def State.beforeIssue (s : State) : Option State :=
  match s.cur.sch.async with
  | none => none
  | some (code, info) =>
    let s1 := s.modCur (fun t => t.modSch (fun x => { x with async := none }))
    some (if s.cur.depth ≠ 0 then s1.discardWith s.cur.key s.cur.depth code true
      else s1.takeTrap s.cur.key { code := code, cls := 2, info := info } s.cur.pc.toNat 0)

/-- A task that waits for a register-cache line before instruction i takes effect (R195): it keeps the instruction (R61). -/
def State.linePark (s : State) (i : Instr) (l : Nat) : State :=
  { s with cur := { s.cur with status := .parked (.regLine l), snaps := [], sch := { s.cur.sch with again := some i, why := some (.regLine l) } }, stalled := false }

/-- The instruction that a readied task executes again is taken up (R61), and once it has executed what it waited for is over. -/
def State.takeAgain (s : State) : State := s.modCur (fun t => t.modSch (fun x => { x with again := none }))
def State.waitOver (s : State) : State := if s.cur.status = .resident ∧ s.stalled = false then s.modCur (fun t => t.modSch (fun x => { x with why := none })) else s

/-- The address of a request that recovery failed and that the next instruction waits for, and its remote-failure fault (R397). -/
def State.failedHere (s : State) : Option Nat := s.cur.sch.failedAccess
def State.failAccess (s : State) (i : Instr) (a : Nat) : State :=
  ({ s with stalled := false }.modCur (fun t => t.modSch (fun x => { x with failedAccess := none }))).raise i { code := 0x19, addr := dw a }

/-- A cycle in which nothing happens. -/
def State.idle (s : State) : State := { s with stalled := false, clock := s.clock + 1 }

/-- The fetch fault of R33, reported at the first halfword. -/
def State.fetchFault (s : State) : State := s.takeTrap s.cur.key { code := 0x03, addr := s.cur.pc.setWidth 64 } s.cur.pc.toNat 0

/-- A fetch that waits parks the task at its instruction, and its snapshots go (R61, R329). -/
def State.fetchPark (s : State) (p : Park) : State :=
  { s.noteWait p with cur := { s.cur with status := .parked p, snaps := [], sch := { s.cur.sch with why := some p } } }

/-- The inputs of ILLEGAL_INSTRUCTION: the word as fetched. -/
def State.illegalIn (s : State) (w : BitVec 32) (long : Nat) : State := { s with ev := { value := w.toNat, size := long } }

/-- Where `withFetchWord` places an instruction and its task: slice offsets of tile 0 of virtual die 0 (log entry 6). -/
def placeOff : Nat := 0x1000
def placeWp : Nat := 0x4000

/-- Store bytes as code at an offset of tile 0, in granules made written. -/
def State.placeCode (s : State) (off : Nat) (bs : List Byte) : State :=
  ((s.setGran 0 (off / 256) { state := 2 }).setGran 0 ((off + bs.length - 1) / 256) { state := 2 }).put (sramKey 0 off) bs (bs.map (fun _ => false))

/-- VI 0 as a host sets it up before it launches: enabled, virtual die 0 bound to logical die 0, one window over all granules. -/
def placeVi (v : Vi) : Vi :=
  { v with enable := true, ctx := tset 0 v.ctx 0 0x80000000#32, sramWin := tset 0 v.sramWin 0 (dw (2 ^ 63 + 98303 * 2 ^ 24)) }

/-- The instruction-cache line of the placed code: its two halfwords, then zeros. -/
def placeLine (bs : List Byte) : Nat × Nat × List Byte := (placeOff, 0, bs ++ List.replicate (64 - bs.length) 0)

/-- The state with a word placed as the next instruction of a resident task that nothing holds up (log entry 6). -/
def State.placed (s : State) (_nbits w : Nat) : State :=
  let t : Task := { s.cur with
    status := .resident, vi := 0, wp := BitVec.ofNat 56 placeWp, pc := BitVec.ofNat 56 placeOff, snaps := [], absentLines := []
    sch := { s.cur.sch with started := true, async := none, failedAccess := none, again := none, why := none } }
  let s1 : State := { s with cur := t, agenda := [], stalled := false, md := { s.md with booted := true, dieMap := tset 0 s.md.dieMap 0 0x80000000, retiring := [] }, vis := tmod {} s.vis 0 placeVi }
  (s1.modTile 0 (fun x => { x with icache := [placeLine (toBytes 4 w)], win := [], resetting := false, gated := false })).placeCode placeOff (toBytes 4 w)

end Sys2Proof.Machine
end

