-- ==== Sys2Proof/Machine/Translation.lean ====
section
/-! DEFINITION. Translation walks (R131, R409), and the accesses that the hardware makes for itself to records and completion
areas of a VI (R99, R377). -/

namespace Sys2Proof.Machine

/-! ## Readings -/

/-- A walk's reading, once it can be read. -/
def Chk.reading {α : Type} : Chk α → Option (Option α)
  | .ok x => some (some x)
  | .park _ => none
  | _ => some none

/-- Page size (log2) of the leaf in HLEAF for an offset; the level it stands for is a free value (log entry 10). -/
def hostLeafShift (e : DWord) (off : Nat) : Nat := match Config.hostLeafLevel e off with | 1 => 30 | 2 => 21 | _ => 16

/-- The reading that a leaf in HLEAF gives for an offset (R412): a leaf that fails R129 is the translation fault. -/
def hostLeaf (e : DWord) (off : Nat) : Option (DWord × Nat × Nat) :=
  let n := hostLeafShift e off
  if bit e 62 && pteOk e n then some (e, off / 2 ^ n * 2 ^ n, 2 ^ n) else none

/-! ## Walks (R131) -/

/-- The walks' order numbers are 16 bits (R411). -/
def State.newTag (s : State) : Nat := s.md.nextTag % 65536

/-- Whether a walk is in flight for a page (R131): same VI, region and 64 KiB page. -/
def Walk.serves (w : Walk) (v region off : Nat) : Bool :=
  w.vi == v && w.region == region && w.offset / 2 ^ 16 == off / 2 ^ 16 && w.result.isNone && !w.dropped

/-- A miss of the task `key` for the page of a park key: it joins the walk in flight for the same page, or starts one (R131), or, in
host-assisted mode, is posted to the host (R409). -/
def State.startWalk (s : State) (key page : Nat) : State :=
  let off := page % 2 ^ 24 * 2 ^ 16
  let region := page / 2 ^ 24 % 4
  let v := page / 2 ^ 26
  if s.md.walks.any (fun w => w.serves v region off) then
    s.modMd (fun m => { m with walks := modWhere (fun w => w.serves v region off) (fun (w : Walk) => { w with wps := w.wps ++ [key] }) m.walks })
  else
    let host : Bool := (s.vi v).assist / 2 % 2 == 1
    let w : Walk := { tag := s.newTag, vi := v, region := region, offset := off, wps := [key], host := host, read := if host then none else (s.pageWalk v region off).reading }
    let s1 := s.modMd (fun m => { m with walks := m.walks ++ [w], nextTag := (m.nextTag + 1) % 65536 })
    if host then s1.hostEvent { kind := 3, vi := v, d1 := dw (region * 2 ^ 52 + off), d2 := dw w.tag } else s1

/-- Whether the walker of a page is free: eight walkers on each of four I/O dies, chosen by page number mod 32 (R131). -/
def State.walkerFree (s : State) (page : Nat) : Bool := !s.md.walks.any (fun w => !w.host && w.result.isNone && w.offset / 2 ^ 16 % 32 == page % 32)

/-- Whether a task waits for a page's walk and is in none yet. -/
def State.walkWanted (s : State) (t : Task) : Option Nat :=
  match t.status with
  | .parked (.walk page) => if s.md.walks.any (fun w => w.result.isNone && w.wps.contains t.key) then none else some page
  | _ => none

/-- TRANSLATION_WALK (R131): the miss of task `key` goes to a walker, which reads the page table, or to the host. A table whose memory must be recalled
first is asked for. -/
def execTranslationWalk (s : State) : Host.Outcome State Fault Refusal :=
  match s.task? s.ev.key with
  | none => noUnit "TRANSLATION_WALK"
  | some t =>
    match s.walkWanted t with
    | none => noUnit "TRANSLATION_WALK"
    | some page =>
      let joins := s.md.walks.any (fun w => w.serves (page / 2 ^ 26) (page / 2 ^ 24 % 4) (page % 2 ^ 24 * 2 ^ 16))
      if joins || (s.vi (page / 2 ^ 26)).assist / 2 % 2 == 1 then .next (s.startWalk t.key page)
      else if !s.walkerFree page then noUnit "TRANSLATION_WALK"
      else match s.pageWalk (page / 2 ^ 26) (page / 2 ^ 24 % 4) (page % 2 ^ 24 * 2 ^ 16) with
        | .park (.line k c) => .next (s.askLine {} k c)
        | .park _ => noUnit "TRANSLATION_WALK"
        | _ => .next (s.startWalk t.key page)

/-- Insert an entry in a tile's translation cache of 256 entries (R131). Which entry of a full cache gives way the spec does not say: here it is the oldest
(log entry 81, DESIGN CHOICE). -/
def Tile.cacheLeaf (t : Tile) (e : TlbEntry) : Tile :=
  let l := t.tlb.filter (fun x => !(x.vi == e.vi && x.region == e.region && x.base == e.base && x.size == e.size))
  { t with tlb := (if 256 ≤ l.length then l.drop 1 else l) ++ [e] }

/-- A walk returns its reading to the tasks that wait for it: a leaf is cached by their tiles unless TLBINV dropped it (R131, R420). -/
def State.deliverWalk (s : State) (w : Walk) (r : Option (DWord × Nat × Nat)) : State :=
  let keep := match r with | some _ => w.dropped | none => true
  let rest := s.md.walks.filter (fun x => x.tag ≠ w.tag)
  let s1 := s.modMd (fun m => { m with walks := if keep then rest ++ [{ w with result := some r }] else rest })
  let s2 := match r with
    | some (leaf, base, size) =>
      if w.dropped then s1
      else (s1.tasks.filter (fun (t : Task) => w.wps.contains t.key)).foldl (fun x t => x.modTile (x.taskGt t) (fun y => y.cacheLeaf ⟨w.vi, w.region, base, size, leaf⟩)) s1
    | none => s1
  s2.wake (fun t p => (w.wps.contains t.key && match p with | .walk _ => true | _ => false) || match p with | .requests _ _ => true | _ => false)

/-- WALK_COMPLETE (R131): the walk with tag `id` returns its leaf or the translation fault. -/
def execWalkComplete (s : State) : Host.Outcome State Fault Refusal :=
  match s.md.walks.find? (fun w => w.tag == s.ev.id && w.result.isNone) with
  | some w => match w.read with
    | some r => .next (s.deliverWalk w r)
    | none => noUnit "WALK_COMPLETE"
  | none => noUnit "WALK_COMPLETE"

/-- A write of a walk tag to HWALK completes that walk with the leaf in HLEAF; a tag that no waiting walk bears is ignored (R412). -/
def State.hostWalk (s : State) (tag : Nat) : State :=
  match s.md.walks.find? (fun w => w.host && w.tag == tag % 65536 && w.result.isNone) with
  | some w => s.deliverWalk w (hostLeaf s.md.hleaf w.offset)
  | none => s

/-- HWALK (R412): the host writes the walk tag `id`. -/
def execHwalk (s : State) : Host.Outcome State Fault Refusal := .next (s.hostWalk s.ev.id)

/-! ## Accesses of the hardware for a VI -/

/-- The place of a run of bytes: its first byte's, when its last byte's is good too (R92). -/
def State.hwRun (s : State) (v a n right : Nat) : Option Loc :=
  match s.hwLoc v a right, s.hwLoc v (a + n - 1) right with
  | .ok l, .ok _ => some l
  | _, _ => none

/-- Doublewords that the hardware reads for a VI: a trap where they cannot be read or are poisoned, a park where the read must wait. -/
def State.hwRead (s : State) (v a : Nat) : Nat → Chk (List DWord)
  | 0 => .ok []
  | n + 1 =>
    match s.hwLoc v a rRD with
    | .ok l =>
      let r := s.readLoc .fill 0 0 [] l 8
      match r.stop with
      | some (.park p) => .park p
      | some _ => .trap 0x04
      | none =>
        if r.bytes.any (·.2) then .trap 0x0D
        else match s.hwRead v (a + 8) n with
          | .ok ds => .ok (dw (ofBytes (r.bytes.map (·.1))) :: ds)
          | e => e
    | .trap c => .trap c
    | .park p => .park p
    | .freeze c => .freeze c

/-- Doublewords that can be read now, if they can. -/
def State.hwNow (s : State) (v a n : Nat) : Option (List DWord) := match s.hwRead v a n with | .ok l => some l | _ => none

/-- Doublewords that the hardware writes for a VI: a trap where they cannot be written, a park where the write must wait (R18, R28, R101, R119, R343). -/
def State.hwWrite (s : State) (v a : Nat) : List DWord → Chk State
  | [] => .ok s
  | d :: ds =>
    match s.hwLoc v a rWR with
    | .ok p =>
      match s.writeHeld (2 ^ 63) p 8 with
      | some r => .park (.grant r)
      | none =>
        let w := s.writeLoc (s.viMaster v) 0 0 [] p (toBytes 8 d.toNat) (List.replicate 8 false)
        match w.stop with
        | some (.park q) => .park q
        | some _ => .trap 0x04
        | none => if w.crust ≠ [] then .trap 0x04 else w.s.hwWrite v (a + 8) ds
    | .trap c => .trap c
    | .park p => .park p
    | .freeze c => .freeze c

/-- A status at STAT and one more at STAT + 8 (R100, R377), as one: a trap where they cannot be written. A STAT that is not 8-byte aligned, and a
poisoned doubleword at STAT + 8, to which 1 would have to be added, are taken for an area that cannot be written (log entry 82, DESIGN CHOICE). -/
def State.hwStatus (s : State) (v a st : Nat) : Chk State :=
  if a % 8 ≠ 0 then .trap 0x06
  else match s.hwRead v (a + 8) 1 with
    | .ok l => s.hwWrite v a [dw st, l.headD 0 + 1]
    | .trap c => .trap c
    | .park p => .park p
    | .freeze c => .freeze c

/-- What an access of the hardware to a long run of bytes of a VI must wait for, in the 64 KiB blocks that no page and no frame divides. -/
def State.runWait (s : State) (v a n : Nat) (write : Bool) : Option Park :=
  (List.range (n / 2 ^ 16 + 2)).findSome? (fun i =>
    let block := (a / 2 ^ 16 + i) * 2 ^ 16
    let lo := max a block
    let hi := min (a + n) (block + 2 ^ 16)
    if hi ≤ lo then none
    else match s.hwLoc v lo (if write then rWR else rRD) with
      | .park p => some p
      | .ok (.hbm m) => s.memWait m (hi - lo) write
      | _ => none)

end Sys2Proof.Machine
end

