-- ==== Sys2Proof/Machine/Preempt.lean ====
section
/-! DEFINITION. Pre-emption and resumption (R377 to R380), with the save area, and the start of trap handlers (R374). -/

namespace Sys2Proof.Machine

/-! ## Long runs of bytes, in 64-byte pieces so that translated pages need not be contiguous -/

/-- Write bytes at an address for a VI. -/
def State.hwPut (s : State) (v : Nat) : Nat → Nat → List Byte → State
  | 0, _, _ => s
  | _, _, [] => s
  | fuel + 1, a, bs =>
    let s1 := match s.hwLoc v a rWR with
      | .ok l => (s.writeLoc (s.viMaster v) 0 0 [] l (bs.take 64) (List.replicate (bs.take 64).length false)).s
      | _ => s
    s1.hwPut v fuel (a + 64) (bs.drop 64)

/-- Read n bytes at an address for a VI, with their marks; a piece that cannot be read gives zeros. -/
def State.hwGet (s : State) (v : Nat) : Nat → Nat → Nat → List (Byte × Bool)
  | 0, _, _ => []
  | fuel + 1, a, n =>
    if n = 0 then [] else
    let m := min 64 n
    let b := match s.hwLoc v a rRD with
      | .ok l => (s.readLoc .fill 0 0 [] l m).bytes
      | _ => []
    (if b.length = m then b else List.replicate m (0, false)) ++ s.hwGet v fuel (a + 64) (n - m)

/-! ## The save area (R379) -/

def saveBytes : Nat := 141376

/-- Whether SAVE is a place for a save area of a task (R379). -/
def State.saveOk (s : State) (v a wp len : Nat) : Bool :=
  a % 64 == 0 && (s.hwRun v a saveBytes rWR).isSome &&
  (aRegion a == 1 ||
   (aRegion a == 0 && a / 2 ^ 25 == (a + saveBytes - 1) / 2 ^ 25 && !(decide (a < wp + len) && decide (wp < a + saveBytes)) &&
    (List.range (saveBytes / 256 + 2)).all (fun i => decide (a + saveBytes ≤ a / 256 * 256 + 256 * i) || (s.gran (s.gtOf v a) (aOff a / 256 + i)).state != 0)))

/-- A saved command's sixteen doublewords (R379). The first G operand stands in doubleword 3. -/
def Cmd.save (c : Cmd) : List DWord :=
  let second := match c.instr with | .vextr _ _ _ _ => true | _ => false
  let f := (if c.poisA then 2 ^ 10 else 0) + (if c.poisB then 2 ^ 11 else 0) + (if c.taintA then 2 ^ 12 else 0) + (if c.taintB then 2 ^ 13 else 0)
  [dw (c.rseq.toNat % 2 ^ 32 * 2 ^ 32 + c.word.toNat), c.rkey, dw (c.mode.toNat % 32 + c.vtype.toNat % 32 * 32 + f),
   if second then c.gb else c.ga, if second then 0 else c.gb, c.mx.mxa, c.mx.mxb, c.mx.ufcur, c.mx.zmode, c.mx.uf0, c.mx.uf1, c.mx.uf2, 0, 0, 0, 0]

/-- A command from its sixteen doublewords, for a task, with the binding generations of its issue (R279); an MXFILL reads its header again. -/
def State.restoreCmd (s : State) (t : Task) (gens : Nat × Nat) (d : List DWord) : Option Cmd :=
  match decode (toBytes 4 (bits (nthDw d 0) 0 32)) with
  | .ok i _ =>
    let f := nthDw d 2
    let second := match i with | .vextr _ _ _ _ => true | _ => false
    let h := match i with | .mxfill _ _ _ => (s.hwNow t.vi (nthDw d 3).toNat 8).getD [] | _ => []
    some { instr := i, word := (nthDw d 0).setWidth 32, wp := t.wp, vi := t.vi, slot := t.slot, depth := t.depth
           ga := if second then 0 else nthDw d 3, gb := if second then nthDw d 3 else nthDw d 4
           poisA := bit f 10, poisB := bit f 11, taintA := bit f 12, taintB := bit f 13
           mode := (t.st.mode &&& ~~~0x1F#64) ||| (f &&& 0x1F), vtype := (f >>> 5) &&& 0x1F, rkey := nthDw d 1, rseq := nthDw d 0 >>> 32
           mx := { genA := gens.1, genB := gens.2, mxa := nthDw d 5, mxb := nthDw d 6, ufcur := nthDw d 7, zmode := nthDw d 8, uf0 := nthDw d 9, uf1 := nthDw d 10, uf2 := nthDw d 11 }
           cfg := nthDw h 0, bytes := h.flatMap (fun x => toBytes 8 x.toNat) }
  | _ => none

/-- Claimed blocks that have contents: an actual mode of 1, 2 or 3 (R378 step 5). -/
def State.savedBlocks (s : State) (t : Task) : List Nat :=
  (List.range 8).filter (fun n => t.claims n && (let m := (s.blk (s.taskGt t) n).mode; m == 1 || m == 2 || m == 3))

/-- Write a task's commands that have not begun, and its blocks, to a save area (R378 steps 4 and 5). -/
def State.saveTask (s : State) (t : Task) (a : Nat) : State :=
  let gt := s.taskGt t
  let insert (c : Cmd) (l : List Cmd) : List Cmd := (l.filter (fun x => decide (x.seq < c.seq))) ++ [c] ++ l.filter (fun x => decide (c.seq < x.seq))
  let cs := ((s.cmdsOf t).filter (fun c => c.phase == .queued || c.phase == .waiting)).foldl (fun l c => insert c l) []
  let bs := s.savedBlocks t
  let mask := bs.foldl (fun m n => m + 2 ^ n) 0
  let head : List DWord := [dw (cs.length + mask * 256), t.wp.setWidth 64, 0, 0, 0, 0, 0, 0]
  let cmds := cs.flatMap Cmd.save ++ List.replicate (16 * (4 - cs.length)) 0
  let s1 := s.hwPut t.vi 16 a ((head ++ cmds).flatMap (fun x => toBytes 8 x.toNat))
  let s2 := s1.modTask t.key (fun u => u.modSch (fun x => { x with savedGens := cs.map (fun c => (c.mx.genA, c.mx.genB)), savedMem := cs.any (fun c => c.touchesMem s) }))
  (bs.foldl (fun x n => let img := imageOf (x.blk gt n); x.hwPut t.vi (img.length / 64 + 2) (a + 576 + 17600 * n) img) s2).dropQueued t

/-! ## PREEMPTION (R377, R378) -/

/-- Steps 4 to 6 of R378 for a task that has stopped. -/
def State.preemptTask (s : State) (t : Task) (a : Nat) : State :=
  let gt := s.taskGt t
  let bad := (s.savedBlocks t).find? (fun n => (s.blk gt n).corrupt.isSome)
  let word := s.wordAtPc t
  let s1 := (s.saveTask t a).modTask t.key (fun u => { u with hw := { u.hw with claim := setBits u.hw.claim 8 8 0 } })
  let s2 := s1.enterTrap t.key { code := 0x1B, cls := 3 } t.pc.toNat word .preempted
  let s3 := (s2.storeWords gt t.vdie (aOff t.wp.toNat) [(0x1428, dw a)]).1
  let s4 := s3.modTask t.key (fun u => u.modSch (fun x => { x with
    saved := true, reply := none, sending := false, foot := 0
    async := match bad with | some n => some (0x15, dw (n * 2 ^ 16 + 3 * 2 ^ 12 + ((s.blk gt n).corrupt.getD 0))) | none => x.async }))
  { s4 with resv := s4.resv.map (fun r => { r with waiters := r.waiters.filter (· ≠ t.key) }) }

/-- The status of R377 that a request's doublewords give before anything is done; 0 where the task is to be pre-empted. -/
def State.preemptStatus (s : State) (v : Nat) (d : List DWord) : Nat :=
  let wp := bits (nthDw d 0) 0 56
  let t := s.task? (v * 2 ^ 56 + wp)
  let len := match t with | some u => if u.redundant then 16384 else 8192 | none => 8192
  if bits (nthDw d 0) 56 8 ≠ 0 ∨ nthDw d 3 ≠ 0 ∨ s.saveOk v (nthDw d 1).toNat wp len = false then 1
  else match t with
    | none => 2
    | some u => if u.hnd || u.status == .trapped || u.status == .frozen || u.status == .preempted then 3 else 0

/-- PREEMPTION (R377, R378): the oldest request of VI `vi` is served once the commands of its task that have begun have completed, once a trailing
copy has caught up, and once memory that it needs is there. -/
def execPreemption (s : State) : Host.Outcome State Fault Refusal :=
  let v := s.ev.vi
  match (s.vi v).preq with
  | [] => noUnit "PREEMPTION"
  | r :: rest =>
    let s0 := (s.modVi v (fun x => { x with preq := rest })).wake (fun t p => t.vi == v && p == Park.hostQueue 2)
    match (if r % 32 ≠ 0 then .trap 0x06 else s.hwRead v r 4) with
    | .ok d =>
      let save := (nthDw d 1).toNat
      match s.runWait v save saveBytes true with
      | some p => s.whenHw v "PREEMPTION" (.park p) s
      | none =>
        let st := s.preemptStatus v d
        let stat (x : State) : Host.Outcome State Fault Refusal := s.whenHw v "PREEMPTION" (x.hwStatus v (nthDw d 2).toNat st) x
        if st ≠ 0 then stat s0
        else match s0.task? (v * 2 ^ 56 + bits (nthDw d 0) 0 56) with
          | none => stat s0
          | some t =>
            let discarding := match t.status with | .parked (.discard _) => true | _ => false
            if discarding || !t.caughtUp || (s.cmdsOf t).any (fun c => c.phase == .begun) then noUnit "PREEMPTION"
            else stat (s0.preemptTask t save)
    | .park p => s.whenHw v "PREEMPTION" (.park p) s
    | _ => .next (s0.refuse v 6 0 0 0x38)

/-- A store that parks its task when the queue behind its register is full (R99, R165, R377). -/
def State.queued (s : State) (w : CtrlW) : State :=
  match w with
  | .ok s1 => s1
  | .fault => s
  | .park p => s.modTask s.ev.key (fun t => { t with status := .parked p, snaps := [], sch := { t.sch with why := some p } })

/-- PREEMPTION_QUEUE_STORE (R377): a supervisor of VI `vi` stores `value` to the pre-emption queue register; a full queue parks the task `key`. -/
def execPreemptionQueueStore (s : State) : Host.Outcome State Fault Refusal := .next (s.queued (s.storePreempt s.ev.vi s.ev.value))

/-- RESUME (R380): a supervisor of VI `vi` stores the WP `value` to the resume register. -/
def execResume (s : State) : Host.Outcome State Fault Refusal := .next (s.storeResume s.ev.vi s.ev.value)

/-- At the admission of a resumed task its blocks are filled from its save area and its commands enter its queues (R380 steps 2 and 3). -/
def State.fillSaved (s : State) (key : Nat) : State :=
  match s.task? key with
  | none => s
  | some t =>
    if !t.sch.saved then s
    else
      let gt := s.taskGt t
      let a := (s.wsWord gt (aOff t.wp.toNat) 0x1428).1.toNat
      let h := dwordsOf 72 ((s.hwGet t.vi 9 a 576).map (·.1))
      let blocks := (List.range 8).filter (fun n => bit (nthDw h 0) (8 + n) && t.claims n)
      let s1 := blocks.foldl (fun x n => x.modBlk gt n (fun _ => blockOf (s.hwGet t.vi 1300 (a + 576 + 17600 * n) (if n = 0 then 83136 else 17600)))) s
      let cs := (List.range (min 4 (bits (nthDw h 0) 0 4))).filterMap (fun i => s.restoreCmd t (t.sch.savedGens.getD i (t.mx.genA, t.mx.genB)) ((h.drop (8 + 16 * i)).take 16))
      let s2 := cs.foldl (fun x c =>
        let c' := { c with seq := x.clock }
        let y : State := { x with clock := x.clock + 1 }
        if (vForm c.instr c.ga c.vtype).isSome then y.modTile gt (fun z => { z with vq := z.vq ++ [c'] }) else y.modTile gt (fun z => { z with mq := z.mq ++ [c'] })) s1
      s2.modTask key (fun u => u.modSch (fun x => { x with saved := false, savedGens := [], savedMem := false }))

/-! ## Trap handlers -/

/-- TRAP_HANDLER_START (R374 step 4): a handler starts for the next trapped task of VI `vi` on tile `gt`. -/
def execTrapHandlerStart (s : State) : Host.Outcome State Fault Refusal :=
  let v := s.ev.vi
  let gt := s.ev.gt
  if bit (s.vi v).trapcfg 63 || s.handlerRuns v gt || (s.nextTrapped v gt).isNone then noUnit "TRAP_HANDLER_START"
  else .next (s.startTrapHandler v gt)

end Sys2Proof.Machine
end

