-- ==== Sys2Proof/Machine/Scheduler.lean ====
section
/-! DEFINITION. The scheduler: when a parked task becomes ready (R61, R302), admission to slots (R304), ageing and rotation (R305, R306),
register-cache fills (R195), the distributors' placement and instantiation (R297 to R299, R308, R309, R396), and the clocks, gating and
waking of tiles and dies (R27 to R29, R310, R416). -/

namespace Sys2Proof.Machine

/-! ## Park conditions (R302) -/

/-- Whether what a master asked for with `askLine` is there, the line in the domain cache in the state asked for (R118), or no other holder of a
line of this module's own memory (R119); or no request or transaction for it is under way any more, so that it is to ask again. -/
def State.lineHere (s : State) (key code : Nat) : Bool :=
  let st := (tget {} s.md.dcache key).state
  if 2 ≤ code then !s.remoteHeld (keyMma key) (code == 3) || (s.dirOf (keyMma key)).serving.isNone
  else (if code = 1 then decide (2 ≤ st) && decide (st ≤ 3) else decide (1 ≤ st)) || !s.asking (keyModule key) (keyMma key)

/-- Whether a waiter for a reserved word is next: no holder, and first of the waiters or no reserver itself (R343). -/
def State.grantHere (s : State) (key addr : Nat) : Bool :=
  match s.resv.find? (fun r => r.addr == addr) with
  | none => true
  | some r => r.holder.isNone && (!r.waiters.contains key || (r.waiters.head? == some key && (r.granted || decide (addr < 2 ^ 60))))

/-- Whether a park condition holds (R302). A condition on a place that cannot be read any more holds: the instruction then runs and
meets the fault. -/
def State.parkHolds (s : State) (t : Task) (p : Park) : Bool :=
  let gt := s.taskGt t
  match p with
  | .box n => (t.box.toList.getD n {}).full
  | .pages h side _ => (s.cb gt h).granted.any (fun e => e.1 == t.key && e.2.1 == side)
  | .commands mask => (mask % 2 == 0 || (s.vCmds t).isEmpty) && (mask / 2 % 2 == 0 || (s.mCmds t).isEmpty) && (mask / 4 % 2 == 0 || !(s.cmdsOf t).any Cmd.setsFlags) && (mask / 8 == 0 || !(s.cmdsOf t).any (fun c => c.touchesMem s))
  | .block n => !(s.cmdsOf t).any (fun c => c.block == some n)
  | .glaze w =>
    match t.sch.glaze with
    | some (_, cs, xs) => (s.cmdsOf t).isEmpty && (s.storesOf t.key).isEmpty && !(s.winCmds gt w).any (fun c => cs.contains c.seq) && !(s.winXfers gt w).any (fun e => xs.contains (e.1, e.2.id))
    | none => true
  | .redefine kind n =>
    if kind = 0 then !((s.tile gt).vq ++ (s.tile gt).mq).any (fun c => c.handles.contains n) && (s.cb gt n).holds.isEmpty && !s.xfersInFlight.any (fun e => s.xferNamesCb e.1 e.2 gt n)
    else (s.winCmds gt n).isEmpty && (s.winXfers gt n).isEmpty
  | .counter a th => match s.hwRead t.vi a 1 with | .ok (x :: _) => reached x th | .park _ => false | _ => true
  | .round a ticket => match s.hwRead t.vi a 4 with | .ok l => (barRead l).passed ticket | .park _ => false | _ => true
  | .seat a round => match s.hwRead t.vi a 4 with | .ok l => (barRead l).seats != 0 || (barRead l).round != round | .park _ => false | _ => true
  | .phase a parity => match s.hwRead t.vi a 4 with | .ok l => (grpRead l).parity != parity | .park _ => false | _ => true
  | .transfer id => !(s.tile gt).xfers.any (fun e => e.2.id == id && e.2.inFlight)
  | .handle h => t.sch.badHandles.contains h || (s.tile gt).hcache.any (fun e => e.1 == t.vi && e.2.1 == h)
  | .grant a => s.grantHere t.key a
  | .granule k => (s.gran (k / 2 ^ 25) (k % 2 ^ 25 / 256)).state != 3
  | .pageBusy f => !s.frameBusy f
  | .fenced g => !s.fencedTile g && !(s.tile g).gated
  | .walk page => match s.translate t.who gt (page / 2 ^ 24 % 4) (page % 2 ^ 24 * 2 ^ 16) rAny with | .park _ => false | _ => true
  | .line k w => s.lineHere k w
  | .launchTable => decide ((s.vi t.vi).launches.length < 256)
  | .pendingTable g => decide ((s.tile g).pend.length < 256)
  | .recordName a => !s.nameTaken t.vi a
  | .queueFull d n => let w := tget {} (s.die d).wq n; w.closed || decide (w.items.length < 2 ^ w.lcap)
  | .queueEmpty d n => let w := tget {} (s.die d).wq n; w.closed || !w.items.isEmpty
  | .reply => t.sch.reply.isSome || !t.sch.sending
  | .heldSends => t.sch.reply.isSome || !t.sch.sending
  | .regLine l => !t.absentLines.contains l
  | .code => true
  | .footprint => true
  | .stores most => decide ((s.storesOf t.key).length ≤ most)
  | .hostQueue kind =>
    let x := s.vi t.vi
    decide ((if kind = 0 then x.revq.length + (if x.revoking.isSome then 1 else 0) else if kind = 1 then x.pmq.length else x.preq.length) < 16)
  | .delivery h => !(s.tile gt).mq.any (fun c => match c.instr with | .mxmac _ _ => bindAlt c.mx.mxb && bindH c.mx.mxb == h | _ => false)
  | .drained => !(t.red.tie.isSome && t.red.sig3.isSome)
  | .requests k ga => !({ s with others := s.tasks.filter (fun u => u.key ≠ t.key), cur := {} } : State).undrained t.vi k ga
  | .comparator whole => if whole then t.caughtUp else t.red.room
  | .preserved w => !s.preserves gt w
  | .discard _ => false

/-- TASK_READY (R61, R302): the park condition of task `key` holds. -/
def execTaskReady (s : State) : Host.Outcome State Fault Refusal :=
  match s.task? s.ev.key with
  | none => noUnit "TASK_READY"
  | some t =>
    match t.status with
    | .parked p => if s.parkHolds t p then .next (s.readyAgain t) else noUnit "TASK_READY"
    | _ => noUnit "TASK_READY"

/-! ## Slots (R304) -/

/-- Tasks of a tile, and those that hold slots. -/
def State.tileTasks (s : State) (gt : Nat) : List Task := s.tasks.filter (fun t => s.taskGt t == gt)
def State.residents (s : State) (gt : Nat) : List Task := (s.tileTasks gt).filter (fun t => t.status == .resident)
/-- Whether a task holds a slot: a redundant one holds slots i and i + 8 (R304). -/
def Task.holdsSlot (t : Task) (n : Nat) : Bool := t.slot == n || (t.redundant && t.slot + 8 == n)
def State.slotFree (s : State) (gt n : Nat) : Bool := !(s.residents gt).any (fun t => t.holdsSlot n)

/-- Conditions 1 and 2 of R304: the footprint fits, and no other task holds a claimed block. -/
def State.fits (s : State) (gt : Nat) (t : Task) : Bool :=
  decide (t.footprint + ((s.residents gt).map Task.footprint).sum ≤ 512) &&
  !(s.tileTasks gt).any (fun u => u.key != t.key && bits u.hw.claim 8 8 &&& bits t.hw.claim 0 8 != 0)

/-- Eligibility for slot n (R304). -/
def State.eligible (s : State) (gt n : Nat) (t : Task) : Bool :=
  s.fits gt t && (!t.redundant || (decide (n < 8) && s.slotFree gt (n + 8)))

/-- Insert in queue order. -/
def orderInsert (t : Task) : List Task → List Task
  | [] => [t]
  | u :: r => if t.sch.order < u.sch.order then t :: u :: r else u :: orderInsert t r

/-- The ready queue of a tile, levels 3 down to 0, each in FIFO order (R302, R304). -/
def State.readyQueue (s : State) (gt : Nat) : List Task :=
  let q := (s.tileTasks gt).filter (fun t => t.status == .ready)
  [3, 2, 1, 0].flatMap (fun l => (q.filter (fun t => t.sch.level == l)).foldl (fun r t => orderInsert t r) [])

/-- The task that slot n of a tile admits, if any (R304, R306). -/
def State.admitted (s : State) (gt n : Nat) : Option Task :=
  match (s.readyQueue gt).find? (s.eligible gt n) with
  | some t => match (s.tile gt).waitHead with
    | some k => if t.key = k then some t else none
    | none => some t
  | none => none

/-- A task takes a slot: its claims are held, and what pre-emption saved comes back (R304, R380). The status words and the scope record, which
the scheduler itself needs, are filled here if they are absent (log entry 72). -/
def State.seat (s : State) (t : Task) (gt n : Nat) : State :=
  let now := (s.tile gt).cycle.toNat
  let s1 := (s.modTask t.key (fun u => { u with
    status := .resident, slot := n
    hw := { u.hw with claim := setBits u.hw.claim 8 8 (bits u.hw.claim 0 8) }
    sch := { u.sch with resident := now, started := true } })).modTile gt (fun x => { x with waitHead := if x.waitHead = some t.key then none else x.waitHead, lastBusy := now })
  ((s1.fillLines t.key [5, 7]).fillSaved t.key).select t.key

/-- Whether outstanding stores of a pre-empted task must be performed before it resumes (R370): those, and releases that no saved command precedes. -/
def State.unstored (s : State) (t : Task) : Bool := t.sch.saved && (s.storesOf t.key).any (fun x => !x.performed && (x.kind == .write || !t.sch.savedMem))

/-- TASK_ADMISSION (R304): at the turn of the empty slot `slot` of tile `gt`, the first eligible ready task is admitted, and it issues next. -/
def execTaskAdmission (s : State) : Host.Outcome State Fault Refusal :=
  let gt := s.ev.gt
  let n := s.ev.slot
  if 16 ≤ n ∨ s.slotFree gt n = false ∨ (s.tile gt).quarantined = true ∨ (s.tile gt).gated = true then noUnit "TASK_ADMISSION"
  else match s.admitted gt n with
    | some t =>
      -- stores of the task, or a save area that must be waited for, hold the admission up
      if s.unstored t then noUnit "TASK_ADMISSION"
      else (match (if t.sch.saved then s.runWait t.vi (s.wsWord gt (aOff t.wp.toNat) 0x1428).1.toNat saveBytes false else none) with
       | some p => s.whenHw t.vi "TASK_ADMISSION" (.park p) s
       | none => .next (s.seat t gt n))
    | none => noUnit "TASK_ADMISSION"

/-- Cycles that a task has stood at its level. -/
def State.waited (s : State) (t : Task) : Nat := (s.tile (s.taskGt t)).cycle.toNat - t.sch.since

/-- READY_AGING (R305): task `key` has been ready for 65,536 cycles at its level. -/
def execReadyAging (s : State) : Host.Outcome State Fault Refusal :=
  match s.task? s.ev.key with
  | none => noUnit "READY_AGING"
  | some t =>
    if t.status = .ready ∧ t.sch.level < 3 ∧ 65536 ≤ s.waited t then
      .next { s.modTask t.key (fun u => u.modSch (fun x => { x with level := x.level + 1, order := s.clock, since := x.since + 65536 })) with clock := s.clock + 1 }
    else noUnit "READY_AGING"

/-- Of two tasks, the one to rotate out: lower PRIO, then longer in its slot (R306). -/
def rotateFirst (a b : Task) : Task := if a.prio < b.prio ∨ (a.prio = b.prio ∧ a.sch.resident ≤ b.sch.resident) then a else b

/-- The task that a rotation takes out of its slot (R306). -/
def State.rotated (s : State) (gt : Nat) : Option Task :=
  ((s.residents gt).filter (fun t => decide (65536 ≤ (s.tile gt).cycle.toNat - t.sch.resident) && !t.hnd && t.depth == 0)).foldl
    (fun (b : Option Task) t => match b with | none => some t | some u => some (rotateFirst u t)) none

/-- The head of level 3 of a tile's ready queue, if it is eligible (R304, R306): a redundant task for some pair of slots. -/
def State.eligibleHead (s : State) (gt : Nat) : Option Task :=
  match (s.readyQueue gt).head? with
  | some h => if h.sch.level = 3 ∧ s.fits gt h = true ∧ (h.redundant = false ∨ (List.range 8).any (fun i => s.slotFree gt (i + 8)) = true) then some h else none
  | none => none

/-- Since when the head of level 3 of each tile has been eligible (R306). -/
def State.noteHeads (s : State) : State :=
  s.tiles.foldl (fun x e =>
    let now := (s.eligibleHead e.1).map (fun h => match e.2.headSince with
      | some p => if p.1 = h.key then p else (h.key, e.2.cycle.toNat)
      | none => (h.key, e.2.cycle.toNat))
    if now = e.2.headSince then x else x.modTile e.1 (fun t => { t with headSince := now })) s

/-- ROTATION (R306): the head of level 3 of tile `gt` has been eligible and not admitted for 65,536 cycles; a resident task makes room. -/
def execRotation (s : State) : Host.Outcome State Fault Refusal :=
  let gt := s.ev.gt
  match s.eligibleHead gt, s.rotated gt, (s.tile gt).headSince with
  | some h, some t, some (k, c) =>
    if k = h.key ∧ 65536 ≤ (s.tile gt).cycle.toNat - c ∧ (s.tile gt).waitHead = none then
      .next (((s.modTask t.key (fun u => { u with snaps := [] })).ready t.key).modTile gt (fun x => { x with waitHead := some h.key }))
    else noUnit "ROTATION"
  | _, _, _ => noUnit "ROTATION"

/-- REGISTER_CACHE_FILL (R187, R195): the workspace line that task `key` waits for arrives, taken from the slice as it stands now, and the task is
readied. Lines of tasks that hold no slot make room for it. -/
def execRegisterCacheFill (s : State) : Host.Outcome State Fault Refusal :=
  match s.task? s.ev.key with
  | none => noUnit "REGISTER_CACHE_FILL"
  | some t =>
    match t.status with
    | .parked (.regLine l) => .next ((s.fillLines t.key [l]).ready t.key)
    | _ => noUnit "REGISTER_CACHE_FILL"

/-! ## Placement and instantiation (R297, R298, R308, R309, R396) -/

/-- Whether a tile's die is gated: all its tiles are (R310). -/
def State.dieGated (s : State) (d : Nat) : Bool := (List.range 128).all (fun i => (s.tile (d * 128 + i)).gated)

/-- Whether a logical die is bound to a socket (R17, R19). -/
def State.dieBound (s : State) (d : Nat) : Bool := s.dieValid d && !s.md.retiring.any (fun e => e.1 == d)

/-- Why a placed task is held (R396): 0 it is not, 1 its tile is quarantined or failed, 2 its die or binding is gone. -/
def State.heldCause (s : State) (v : Nat) (p : Nat × Nat) : Nat :=
  match s.gtAt v p with
  | none => 2
  | some gt => if (s.tile gt).quarantined || (s.tile gt).failed then 1 else 0

/-- Whether the workspace of a frame is free: no task uses a byte of it (R298). -/
def State.frameFree (s : State) (gt off n : Nat) : Bool :=
  !(s.tileTasks gt).any (fun t => decide (aOff t.wp.toNat < off + n) && decide (off < aOff t.wp.toNat + (if t.redundant then 16384 else 8192)))

/-- The frame that the next task of a position uses, and its slice offset (R298). -/
def Launch.nextFrame (l : Launch) (p : Nat) : Nat := tget 0 l.perTile p % recFrames l.record
def Launch.frameOff (l : Launch) (p : Nat) : Nat := (recWpoff l.record + l.nextFrame p * recWstride l.record) * 8192
def Launch.frameLen (l : Launch) : Nat := if recR l.record then 16384 else 8192

/-- Whether a position can take a task in a free frame at once (R309). -/
def State.canTake (s : State) (v : Nat) (l : Launch) (p : Nat) (vt : Nat × Nat) : Bool :=
  s.heldCause v vt == 0 && !l.waiting.any (fun e => e.2 == p) &&
  match s.gtAt v vt with | some gt => s.frameFree gt (l.frameOff p) l.frameLen | none => false

/-- Cost of a tile, then the tasks resident on its die, for the choice of R309. -/
def State.tileCost (s : State) (gt : Nat) : Nat :=
  64 * ((s.tileTasks gt).filter (fun t => t.status == .ready)).length + 16 * (s.residents gt).length +
  (if s.dieGated (gt / 128) then 100000 else if (s.tile gt).gated then 3750 else 0)
def State.dieResidents (s : State) (d : Nat) : Nat := s.tasks.countP (fun t => t.status == .resident && s.taskGt t / 128 == d)

/-- Free placement (R309): the position of lowest cost; ties to the die with more resident tasks, then to the lowest position. -/
def State.freePlace (s : State) (v : Nat) (l : Launch) : Option Nat :=
  let ts := tileSet l.record
  let better (a b : Nat × Nat × Nat) : Nat × Nat × Nat := if b.2.1 < a.2.1 ∨ (b.2.1 = a.2.1 ∧ a.2.2 < b.2.2) then b else a
  (((List.range ts.length).filter (fun p => s.canTake v l p (ts.getD p (0, 0)))).foldl (fun (b : Option (Nat × Nat × Nat)) p =>
    let gt := (s.gtAt v (ts.getD p (0, 0))).getD 0
    let x := (p, s.tileCost gt, s.dieResidents (gt / 128))
    match b with | none => some x | some y => some (better y x)) none).map (·.1)

/-- Tasks of a launch become held: recorded in the VI's event log, and for a vacancy or a die loss in the host event queue (R396, R408,
R411). -/
def State.noteHeld (s : State) (v id n cause : Nat) (p : Nat × Nat) : State :=
  let s1 := s.logEvent v 4 (flat p.1 p.2 0) (dw (id * 2 ^ 32 + n))
  if cause = 2 then s1.hostEvent { kind := 6, vi := v, d1 := dw id, d2 := dw n, d3 := dw p.1 } else s1

/-- LEAD_DISTRIBUTOR_PLACEMENT (R308): the next task of launch `id` of VI `vi`, in index order, is placed (R297, R309) and handed to its die's
distributor, or held (R396). -/
def execLeadDistributorPlacement (s : State) : Host.Outcome State Fault Refusal :=
  let v := s.ev.vi
  match (s.vi v).launches.find? (fun l => l.id == s.ev.id) with
  | none => noUnit "LEAD_DISTRIBUTOR_PLACEMENT"
  | some l =>
    let ts := tileSet l.record
    if l.dep ≠ 0 ∨ l.cancelled = true ∨ recCount l.record ≤ l.placed then noUnit "LEAD_DISTRIBUTOR_PLACEMENT"
    else match (if recPlace l.record = 0 then s.freePlace v l else some (placeOf l.record ts.length l.placed)) with
      | none => noUnit "LEAD_DISTRIBUTOR_PLACEMENT"
      | some p =>
        let vt := ts.getD p (0, 0)
        let c := s.heldCause v vt
        let s1 := s.modLaunch v l.id (fun x => { x with
          placed := x.placed + 1
          waiting := if c = 0 then x.waiting ++ [(x.placed, p)] else x.waiting
          held := if c = 0 then x.held else x.held ++ [(x.placed, p)] })
        .next (if c = 0 then s1 else s1.noteHeld v l.id 1 c vt)

/-- A launched task at its instantiation (R299). -/
def launchTask (v : Nat) (l : Launch) (i wp frame : Nat) : Task :=
  let r := l.record
  newTask v wp (bits (nthDw r 0) 0 56) (dw i) (dw (recCount r)) (nthDw r 2) (nthDw r 6) (modeOf (recSup r) (recD r) (recR r) (recBsp r) false)
    { frame := dw (frame * 256), launch := dw l.id, seed := nthDw r 2, tindex := dw i, group := if recBsp r then dw (recGrec r) else 0
      claim := dw (bits (nthDw r 3) 12 2 * 2 ^ 16 + bits (nthDw r 3) 24 8) } .launched

/-- TASK_INSTANTIATION (R298, R299, R316): the distributor instantiates the first waiting task of position `index` of launch `id` of VI `vi`
once its frame is free and its tile is awake. -/
def execTaskInstantiation (s : State) : Host.Outcome State Fault Refusal :=
  let v := s.ev.vi
  let p := s.ev.index
  match (s.vi v).launches.find? (fun l => l.id == s.ev.id) with
  | none => noUnit "TASK_INSTANTIATION"
  | some l =>
    let vt := (tileSet l.record).getD p (0, 0)
    match l.waiting.find? (fun e => e.2 == p), s.gtAt v vt with
    | some e, some gt =>
      if s.heldCause v vt ≠ 0 ∨ (s.tile gt).gated = true ∨ s.frameFree gt (l.frameOff p) l.frameLen = false then noUnit "TASK_INSTANTIATION"
      else
        let t := launchTask v l e.1 (frameWp l.record vt.1 vt.2 (l.nextFrame p)) (l.nextFrame p)
        let s1 := s.modLaunch v l.id (fun x => { x with waiting := x.waiting.filter (· ≠ e), started := x.started + 1, perTile := tset 0 x.perTile p (tget 0 x.perTile p + 1) })
        .next (s1.joinAtStart t (if recBsp l.record then 0 else recGrec l.record))
    | _, _ => noUnit "TASK_INSTANTIATION"

/-! ## Clocks, gating and power (R27 to R29, R310, R416) -/

/-- Whether a tile holds no task and no engine or mover work (R310). -/
def State.tileIdle (s : State) (gt : Nat) : Bool :=
  let x := s.tile gt
  (s.tileTasks gt).isEmpty && x.vq.isEmpty && x.mq.isEmpty && x.xfers.all (fun e => !e.2.inFlight)

/-- Whether something waits for a gated tile: a task's request, a placed task, or a message (R28). -/
def State.asksTile (s : State) (gt : Nat) : Bool :=
  s.tasks.any (fun t => t.status == .parked (.fenced gt)) || !(s.tile gt).pend.isEmpty ||
  s.vis.any (fun e => e.2.launches.any (fun l => l.waiting.any (fun w => s.gtAt e.1 ((tileSet l.record).getD w.2 (0, 0)) == some gt))) ||
  (s.msgs ++ (s.md.inbox.filter (fun x => x.kind == kMsg)).map s.peerMsg).any (fun m => m.reply.isNone && m.vi.any (fun v => s.gtOf v (flat (bits m.dest 14 6) (bits m.dest 7 7) 0) == gt)) ||
  s.owedBumps.any (fun b => s.gtOf b.1 b.2.1 == gt) || s.owedLeaves.any (fun b => s.gtOf b.1 b.2.2 == gt) ||
  s.xfersInFlight.any (fun e => (s.dstTiles e.1 e.2).contains gt || (mvSkind e.2.regs == 0 && s.gtOf e.2.vi (mvSrc e.2.regs) == gt) ||
    ([mvBar e.2.regs, mvCtr e.2.regs] ++ e.2.chain.toList).any (fun a => a != 0 && s.gtOf e.2.vi a == gt)) ||
  s.dies.any (fun e => e.1 == gt / 128 && e.2.streams.any (fun x => x.2.subs.any (fun u => u.2.1 == gt && x.2.pages.any (fun p => !p.2.2.2.contains u.1))))

/-- TILE_POWER_GATING (R310): the idle interval passes on tile `gt` with no task, no engine or mover work and no request, and its cycle count moves
on by it. -/
def execTilePowerGating (s : State) : Host.Outcome State Fault Refusal :=
  let x := s.tile s.ev.gt
  if s.tileIdle s.ev.gt = true ∧ x.gated = false ∧ s.asksTile s.ev.gt = false then
    .next (s.modTile s.ev.gt (fun y => { y with gated := true, waking := false, cycle := dw (max y.cycle.toNat (y.lastBusy + s.md.idle)) }))
  else noUnit "TILE_POWER_GATING"

/-- WAKE (R28): a request addressed to the gated tile `gt` begins its wake, and is held for its duration. -/
def execWake (s : State) : Host.Outcome State Fault Refusal :=
  if (s.tile s.ev.gt).gated then .next (s.modTile s.ev.gt (fun y => { y with waking := true })) else noUnit "WAKE"

/-- WAKE_COMPLETE (R28): tile `gt` is awake, and the requests held for it go on. -/
def execWakeComplete (s : State) : Host.Outcome State Fault Refusal :=
  if (s.tile s.ev.gt).waking then .next (s.modTile s.ev.gt (fun y => { y with gated := false, waking := false, lastBusy := y.cycle.toNat })) else noUnit "WAKE_COMPLETE"

/-- Frequency and ceiling of an island in MHz (R27, R416). -/
def Module.freqOf (m : Module) (k : Nat) : Nat := tget 2500 m.freq k
def Module.ceilOf (m : Module) (k : Nat) : Nat := tget 2800 m.ceiling k

/-- FREQUENCY_CHANGE (R27, R416): island `id` goes to `value` MHz at an instruction boundary; no architectural result changes. -/
def execFrequencyChange (s : State) : Host.Outcome State Fault Refusal :=
  if 56 ≤ s.ev.id ∨ s.ev.value < 1000 ∨ s.md.ceilOf s.ev.id < s.ev.value then noUnit "FREQUENCY_CHANGE"
  else .next (s.modMd (fun m => { m with freq := tset 2500 m.freq s.ev.id s.ev.value }))

/-- POWER_LIMIT (R29): the average over 1 ms would exceed 9.0 kW, and island `id` is lowered to `value` MHz. -/
def execPowerLimit (s : State) : Host.Outcome State Fault Refusal :=
  if 56 ≤ s.ev.id ∨ s.ev.value < 1000 ∨ s.md.freqOf s.ev.id ≤ s.ev.value then noUnit "POWER_LIMIT"
  else .next (s.modMd (fun m => { m with freq := tset 2500 m.freq s.ev.id s.ev.value }))

end Sys2Proof.Machine
end

