-- ==== Sys2Proof/Machine/Links.lean ====
section
/-! DEFINITION. The domain (05_domain.md): packets, their routes and credits, and incarnations (R111 to R116, R123 to R127), the home directory and
the domain cache (R117 to R122), the peer check of R130, protected frames' parity (R104, R105), and failed requests (R397). A home serves
one transaction of a line at a time, from the request to the requester's receipt. -/

namespace Sys2Proof.Machine

/-! ## Lines at home -/

/-- Bytes and marks of a 128-byte line of this module's memory. -/
def State.lineData (s : State) (mma : Nat) : BitVec 1024 := BitVec.ofNat 1024 (ofBytes ((s.fetch (s.hbmKey mma) 128).map (·.1)))
def State.lineMarks (s : State) (mma : Nat) : BitVec 16 := BitVec.ofNat 16 (((List.range 16).map (fun i => if s.marked (s.hbmKey mma + 8 * i) then 2 ^ i else 0)).sum)

/-- Write a line of this module's memory with its marks. -/
def State.setLine (s : State) (mma : Nat) (d : BitVec 1024) (marks : Nat) : State :=
  s.put (s.hbmKey mma) (toBytes 128 d.toNat) ((List.range 128).map (fun i => marks.testBit (i / 8)))

/-- Line address of an event's or a packet's address. -/
def lineOf (a : Nat) : Nat := a % 2 ^ 40 / 128 * 128

/-- Whether a reservation is held of a word in a line of this module's memory (R343). -/
def State.lineReserved (s : State) (mma : Nat) : Bool := (s.heldBy (fun _ => true) (.hbm mma) 128).isSome

/-- The agent that a request from another module came from. -/
def State.agentOf (s : State) (src seq : Nat) : Nat := ((s.md.served.find? (fun r => r.src == src && r.seq == seq)).map (·.agent)).getD 0

/-- Kind of service in which a line's grant is on its way to another module (`Dir.serving`). -/
def svGrant : Nat := 5

/-- Grant a line of this module to a requester in S (1), E (2) or M (3): with its data to another module, whose receipt is awaited, or to the own
domain cache, whose data stay in memory. -/
def State.grantLine (s : State) (dst seq mma st : Nat) : State :=
  if dst = s.md.number then (s.install dst mma { state := st }).finished seq
  else (s.answer dst (s.agentOf dst seq) seq { cls := cRSP, dst := dst, kind := if st = 1 then kData else if st = 2 then kDataE else kDataM, addr := mma, data := s.lineData mma, marks := s.lineMarks mma }).modDir mma
    (fun d => { d with serving := some (dst, seq, svGrant), awaited := [dst] })

/-- The master of a request of this module is turned away (R130, R407): it is frozen, and nothing of the request takes effect. -/
def State.refuseMaster (s : State) (p : Packet) (cause : Nat) : State :=
  let s1 := s.finished p.seq
  match p.req with
  | some (.task k) =>
    let mine (y : Store) : Bool := y.key == k && match y.loc with | .peer m mma => m == p.dst && lineOf mma == lineOf p.addr | _ => false
    ({ s1 with stores := s1.stores.filter (fun y => !mine y) } : State).freezeTask k cause
  | some (.transfer id) =>
    (match s1.xfer? p.agent id with
     | some t => if mvDkind t.regs = 4 then s1.freezeColl t.vi (s1.collOf t) cause else s1.refuseXfer p.agent t
     | none => s1)
  | _ => s1

/-- A request refused by R130: a violation report, or, for this module's own request, the freeze of its master. -/
def State.refusePeer (s : State) (src seq mma : Nat) : State :=
  if src = s.md.number then match s.md.outbox.find? (fun p => p.cls == cREQ && p.seq == seq) with
    | some p => s.refuseMaster p 3
    | none => s
  else s.answer src (s.agentOf src seq) seq { cls := cRSP, dst := src, kind := kViolation, addr := mma, code := 3 }

/-- The home serves a GetS, or with `write` a GetM, of module `src` with number `seq` (R119 to R121); `up` says that the requester held the line in O.
None while it must wait: for the transaction in progress, for the write-back or notice of a requester that has just given the line up, or
for a reservation of a word of the line (R343). -/
def State.serveGet (s : State) (write : Bool) (src seq mma : Nat) (up : Bool) : Option State :=
  let me := s.md.number
  let d := s.dirOf mma
  let prot : Bool := s.frameKind (mma / 2 ^ 21) == 1
  let crossed : Bool := src != me && (match d.owner with | some o => o.1 == src && !(write && up && o.2 == 4) | none => false)
  if d.serving.isSome || crossed then none
  else if write then
    if prot then some (s.answer src (s.agentOf src seq) seq { cls := cRSP, dst := src, kind := kThrough, addr := mma })
    else if s.lineReserved mma then none
    else
      let s1 := if src = me then s else s.dropOwn mma
      match (s1.otherHolders mma true).filter (· ≠ src) with
      | [] => some ((s1.modDir mma (fun _ => { owner := some (src, 3) })).grantLine src seq mma 3)
      | hs => some (s1.serve mma (src, seq, 1) kInval hs)
  else match d.owner with
    | some (o, st) =>
      if o = me then
        -- its data stand in memory; M becomes O, E becomes S
        let own (x : Dir) : Dir := if st = 2 then { x with owner := none, sharers := sadd (sadd x.sharers o) src } else { x with owner := some (o, 4), clean := true, sharers := sadd x.sharers src }
        some (((s.modMd (fun m => { m with dcache := tmod {} m.dcache (lineKey o mma) (fun l => { l with state := if st = 2 then 1 else 4 }) })).modDir mma own).grantLine src seq mma 1)
      else if d.clean then some ((s.modDir mma (fun x => { x with sharers := sadd x.sharers src })).grantLine src seq mma 1)
      else some (s.serve mma (src, seq, 0) kForward [o])
    | none =>
      if (d.sharers.filter (· ≠ src)).isEmpty && !prot && !s.lineReserved mma then some ((s.modDir mma (fun x => { x with owner := some (src, 2), sharers := [] })).grantLine src seq mma 2)
      else some ((s.modDir mma (fun x => { x with sharers := sadd x.sharers src })).grantLine src seq mma 1)

/-- GETS and GETM: the request of module `src` with number `seq` is this module's own, in its outbox, or another module's that has come in. A frame that
is being moved refuses it for now (R101), and a wrong job tag for good (R130). -/
def State.homeServes (s : State) (write : Bool) (name : String) : Host.Outcome State Fault Refusal :=
  let kind := if write then kGetM else kGetS
  let go (s1 : State) (src seq mma tag : Nat) (up : Bool) (busy : State) : Host.Outcome State Fault Refusal :=
    if s.frameBusy (mma / 2 ^ 21) then .next busy
    else if !s.tagOk mma tag then .next (s1.refusePeer src seq mma)
    else match s1.serveGet write src seq mma up with
      | some s2 => .next s2
      | none => noUnit name
  if s.ev.src = s.md.number then
    match s.md.outbox.find? (fun p => p.cls == cREQ && p.dst == s.md.number && p.kind == kind && p.seq == s.ev.seq) with
    | none => noUnit name
    | some p => go s s.md.number p.seq (lineOf p.addr) p.tag (p.code == 1) s
  else match s.taken [kind] with
    | none => noUnit name
    | some (x, s1) => go s1 x.src x.seq (lineOf x.addr) x.index (x.code == 1) (s1.refusePacket x kRefuse 0)

/-- GETS (R119, R120, R130). -/
def execGets (s : State) : Host.Outcome State Fault Refusal := s.homeServes false "GETS"
/-- GETM (R119, R121, R130): the home invalidates the other holders of the line and grants it in M once they have acknowledged. -/
def execGetm (s : State) : Host.Outcome State Fault Refusal := s.homeServes true "GETM"

/-- Every holder that a transaction asked has answered (R119). Of a forwarded GetS the data have gone from the holder to the requester, whose receipt
is awaited; a GetM is granted. -/
def State.allAnswered (s : State) (mma : Nat) : State :=
  let d := s.dirOf mma
  match d.serving with
  | some (src, seq, k) =>
    if !d.awaited.isEmpty then s
    else
      let s1 := s.modDir mma (fun x => { x with serving := none })
      if k = 0 then
        let s2 := s1.modDir mma (fun x => { x with sharers := sadd x.sharers src })
        if src = s.md.number then s2.grantLine src seq mma 1 else s2.modDir mma (fun x => { x with serving := some (src, seq, svGrant), awaited := [src] })
      else if k = 1 then (s1.modDir mma (fun _ => { owner := some (src, 3) })).grantLine src seq mma 3
      else s1
  | none => s

/-- A module has given a line up: it is no longer a holder, and a transaction that awaited it goes on. A GetS that was forwarded to it is served anew. -/
def State.holderGone (s : State) (src mma : Nat) : State :=
  let s1 := s.modDir mma (fun d => { d.without src with awaited := d.awaited.filter (· ≠ src) })
  match (s1.dirOf mma).serving with
  | some (r, seq, 0) =>
    let s2 := s1.modDir mma (fun d => { d with serving := none, awaited := [] })
    (s2.serveGet false r seq mma false).getD s2
  | _ => s1.allAnswered mma

/-- A holder's answer to a forward or an invalidation, as its code says: bits 2 to 0 the state it keeps, bit 3 data for memory, bit 4 that it did not
hold the line; or, bit 5, a requester's receipt of the line. One that has given up an E, M or O line is awaited until its notice or write-back comes. -/
def State.holderAnswers (s : State) (x : EvIn) : State :=
  let mma := lineOf x.addr
  let d := s.dirOf mma
  let owns : Bool := match d.owner with | some o => o.1 == x.src | none => false
  if x.code.testBit 5 then (if d.serving = some (x.src, x.offset, svGrant) then s.modDir mma (fun d => { d with serving := none, awaited := [] }) else s)
  else if !d.awaited.contains x.src || (x.code.testBit 4 && owns) then s
  else
    let data := x.code.testBit 3
    let s1 := if data then s.setLine mma x.data x.value else s
    if x.code % 8 = 0 then s1.holderGone x.src mma
    else
      let keep (d : Dir) : Dir := if x.code % 8 = 4 then { d with owner := some (x.src, 4), clean := data } else { d.without x.src with sharers := sadd (d.without x.src).sharers x.src }
      (s1.modDir mma (fun d => { keep d with awaited := d.awaited.filter (· ≠ x.src) })).allAnswered mma

/-- Answer of this module as a holder of a line of another (R119). -/
def State.holderReply (s : State) (x : EvIn) (code : Nat) (l : DLine) : State :=
  s.modMd (fun m => m.post { cls := cRSP, dst := x.src, kind := kForwarded, addr := lineOf x.addr, agent := agentIo (x.addr / 128), dagent := agentIo (x.addr / 128), re := x.offset, code := code, data := l.data, marks := l.marks })

/-- A forward comes in (R119): the holder sends the line to the requester, module `code`; M becomes O, E becomes S. To the home itself it goes with
the answer. -/
def State.forwardLine (s : State) (x : EvIn) : State :=
  let mma := lineOf x.addr
  let l := s.dline x.src mma
  let new := if 3 ≤ l.state then 4 else 1
  if l.state = 0 then s.holderReply x 16 l
  else
    let s1 := s.setOwnLine x.src mma { l with state := new }
    if x.code = x.src then s1.holderReply x (new + if new = 4 then 8 else 0) l
    else (s1.modMd (fun m => m.post { cls := cRSP, dst := x.code, kind := kData, addr := mma, agent := agentIo (mma / 128), dagent := agentIo (mma / 128), re := x.offset, data := l.data, marks := l.marks })).holderReply x new l

/-- INVALIDATION (R119, R122): this module's domain cache drops the line that the invalidation (`src`, `seq`) names, and acknowledges, with the
data of an M or O line. -/
def execInvalidation (s : State) : Host.Outcome State Fault Refusal :=
  match s.taken [kInval] with
  | none => noUnit "INVALIDATION"
  | some (x, s1) =>
    let mma := lineOf x.addr
    let l := s1.dline x.src mma
    .next (((s1.setOwnLine x.src mma {}).count mma 3).holderReply x (if l.state = 0 then 16 else if 3 ≤ l.state then 8 else 0) l)

/-- A line that the own domain cache gives up by itself: of module `index` at `addr`, no request being under way for it. -/
def State.ownGivesUp (s : State) (states : List Nat) (name : String) : Host.Outcome State Fault Refusal :=
  let mma := lineOf s.ev.addr
  if !states.contains (s.dline s.ev.index mma).state || s.asking s.ev.index mma then noUnit name else .next (s.giveUp s.ev.index mma)

/-- WRITE_BACK (R119, R122): the write-back (`src`, `seq`) of another module comes in, memory is updated and its sender is no longer a holder; or, with `src`
this module, the own cache writes the line of module `index` at `addr` back. -/
def execWriteBack (s : State) : Host.Outcome State Fault Refusal :=
  if s.ev.src = s.md.number then s.ownGivesUp [3, 4] "WRITE_BACK"
  else match s.taken [kWriteBack] with
    | none => noUnit "WRITE_BACK"
    | some (x, s1) =>
      let mma := lineOf x.addr
      let owns : Bool := match (s.dirOf mma).owner with | some o => o.1 == x.src | none => false
      if s.frameBusy (mma / 2 ^ 21) then .next (s1.refusePacket x kRefuse 0)
      else .next (((if owns then s1.setLine mma x.data x.value else s1).holderGone x.src mma).acked x [])

/-- EVICTION (R119): the notice (`src`, `seq`) of another module that gives up a line in E comes in; or, with `src` this module, the own cache gives
up the line of module `index` at `addr` that it holds in E or S, with a notice for E. -/
def execEviction (s : State) : Host.Outcome State Fault Refusal :=
  if s.ev.src = s.md.number then s.ownGivesUp [1, 2] "EVICTION"
  else match s.taken [kEvict] with
    | none => noUnit "EVICTION"
    | some (x, s1) => .next ((s1.holderGone x.src (lineOf x.addr)).acked x [])

/-- DIRECTORY_EVICTION (R119): the full directory invalidates the holders of the line of `addr`. -/
def execDirectoryEviction (s : State) : Host.Outcome State Fault Refusal :=
  let mma := lineOf s.ev.addr
  if (s.dirOf mma).serving.isSome || s.frameBusy (mma / 2 ^ 21) then noUnit "DIRECTORY_EVICTION"
  else
    let s1 := s.dropOwn mma
    match s1.otherHolders mma true with
    | [] => .next s1
    | hs => .next (s1.serve mma (s.md.number, 0, 4) kInval hs)

/-- A line's data arrive (R117): the own domain cache holds it in the state granted, and the home is told. A line held in O keeps its own data, which
are newer than the home's (R118). -/
def State.dataArrives (s : State) (st : Nat) (x : EvIn) : State :=
  match s.md.outbox.find? (fun p => p.cls == cREQ && p.seq == x.offset && (p.kind == kGetS || p.kind == kGetM) && lineOf p.addr == lineOf x.addr) with
  | none => s
  | some p =>
    let mma := lineOf x.addr
    let old := s.dline p.dst mma
    let l : DLine := if old.state = 4 then { old with state := st } else { state := st, data := x.data, marks := BitVec.ofNat 16 x.value }
    ((s.install p.dst mma l).finished p.seq).modMd (fun m => m.post { cls := cRSP, dst := p.dst, kind := kForwarded, addr := mma, agent := agentIo (mma / 128), dagent := agentIo (mma / 128), re := p.seq, code := 32 })

/-! ## Parity deltas (R104) -/

/-- Writes that both parity holders have acknowledged: their writers are, and the holders are told to retire the deltas. -/
def State.retireDeltas (s : State) : State :=
  let open_ (i : Nat) : Bool := s.md.deltas.any (fun d => d.id == i && !d.acked)
  let rest := s.md.deltas.filter (fun d => !open_ d.id)
  let w := s.md.writers.filter (fun e => !open_ e.1)
  let s1 := s.modMd (fun m => { m with deltas := m.deltas.filter (fun d => open_ d.id), writers := m.writers.filter (fun e => open_ e.1) })
  let s2 := w.foldl (fun x e => x.acked e.2 []) s1
  rest.foldl (fun x d =>
    let p := (d.granule / 2 ^ 21 + d.weight) % 10
    if x.md.lostMembers.contains p then x
    else x.modMd (fun m => m.post { cls := cREQ, dst := m.member p, kind := kRetire, addr := d.granule, agent := agentIo (d.granule / 128), dagent := agentIo (d.granule / 128), re := d.seq })) s2

/-- A parity holder has acknowledged the delta with number `seq`. -/
def State.deltaAck (s : State) (seq : Nat) : State :=
  ((s.finished seq).modMd (fun m => { m with deltas := m.deltas.map (fun d => if d.seq = seq then { d with acked := true } else d) })).retireDeltas

/-- A parity holder applies a delta to its granule and keeps it with its tag (R104). -/
def State.applyDelta (s : State) (h : HeldDelta) : State :=
  let old := ofBytes ((s.fetch (s.hbmKey h.granule) 64).map (·.1))
  let marks := (List.range 64).map (fun b => s.marked (s.hbmKey h.granule + b))
  (s.put (s.hbmKey h.granule) (toBytes 64 (old ^^^ h.data.toNat)) marks).modMd (fun m => { m with kept := m.kept ++ [h] })

/-- PARITY_DELTA (R104): this module, a P or Q holder of the granule's stripe, applies the delta (`src`, `seq`), keeps it, and acknowledges. -/
def execParityDelta (s : State) : Host.Outcome State Fault Refusal :=
  match s.taken [kDelta] with
  | none => noUnit "PARITY_DELTA"
  | some (x, s1) =>
    let g := x.addr % 2 ^ 40 / 64 * 64
    let i := g / 2 ^ 21
    let p := s.md.pos
    if s.frameKind i ≠ 2 ∨ (p ≠ i % 10 ∧ p ≠ (i + 1) % 10) then noUnit "PARITY_DELTA"
    else if s.frameBusy i then .next (s1.refusePacket x kRefuse 0)
    else
      let h : HeldDelta := { home := x.src, seq := x.seq, granule := g, data := x.data.setWidth 512, req := x.index, old := if x.code = 1 then some (dw x.offset) else none }
      .next ((s1.applyDelta h).answer x.src x.gt x.seq { cls := cRSP, dst := x.src, kind := kDeltaAck, addr := g })

/-- PROTECTED_WRITE (R104, R120): the home performs the store (`src`, `seq`) that was sent through to it, inside one 64-byte granule, and sends the
deltas to both parity holders; the writer is acknowledged after them. -/
def execProtectedWrite (s : State) : Host.Outcome State Fault Refusal :=
  match s.taken [kStore] with
  | none => noUnit "PROTECTED_WRITE"
  | some (x, s1) =>
    let a := x.addr % 2 ^ 40
    let n := min x.size (64 - a % 64)
    if s.frameBusy (a / 2 ^ 21) then .next (s1.refusePacket x kRefuse 0)
    else if !s.tagOk a x.index then .next (s1.refusePeer x.src x.seq a)
    else if (s.heldBy (fun _ => true) (.hbm a) n).isSome then noUnit "PROTECTED_WRITE"
    else
      let w := s1.homePut (tagOf x.src x.gt x.seq) none a (toBytes n x.data.toNat) ((List.range n).map (fun i => x.value.testBit (i / 8)))
      match w.stop with
      | some (.park (.line k c)) => .next (s.askLine {} k c)
      | some _ => noUnit "PROTECTED_WRITE"
      | none => .next (w.s.acked x w.ids)

/-! ## Packets that come in (R112, R115, R116, R123, R124) -/

/-- Incarnation a is earlier than b (R123). -/
def earlier (a b : BitVec 16) : Bool := decide (1 ≤ (b - a).toNat) && decide ((b - a).toNat ≤ 32767)

/-- A counter of I/O die k (R122). -/
def State.countAt (s : State) (k c : Nat) : State := s.modMd (fun m => { m with counters := tmod 0 m.counters (8 * (k % 4) + c) (· + 1) })

/-- A recorded answer is sent again (R116, R349). -/
def State.sendAgain (s : State) (x : EvIn) (a : Nat × Nat × BitVec 1024 × BitVec 16 × Nat) : State :=
  s.modMd (fun m => m.post { cls := cRSP, dst := x.src, kind := a.1, addr := a.2.1, agent := x.die, dagent := x.gt, re := x.seq, data := a.2.2.1, marks := a.2.2.2.1, code := a.2.2.2.2 })

/-- A repeated request for a line whose grant its requester has not received (R116): the line is sent again, from memory as it is now or by its owner. -/
def State.regrant (s : State) (x : EvIn) : State :=
  let mma := lineOf x.addr
  let d := s.dirOf mma
  if d.serving ≠ some (x.src, x.seq, svGrant) then s
  else match (s.md.served.find? (fun r => r.src == x.src && r.agent == x.gt && r.seq == x.seq)).bind (·.answer), d.owner with
    | some a, _ => s.sendAgain x (a.1, mma, s.lineData mma, s.lineMarks mma, a.2.2.2.2)
    | none, some (o, _) => s.serve mma (x.src, x.seq, 0) kForward [o]
    | none, none => s

/-- A reservation request of another module (R343): it waits for the word in its turn, unless its frame is being moved or its tag is wrong. -/
def State.takeReserve (s : State) (x : EvIn) : State :=
  let mma := x.addr % 2 ^ 40 / 8 * 8
  let w := s.wordKey (.hbm mma)
  let k := awayOf x.src x.gt x.seq
  if s.frameBusy (mma / 2 ^ 21) then s.refusePacket x kRefuse 0
  else if !s.tagOk mma x.index then s.refusePeer x.src x.seq mma
  else if s.resv.any (fun r => r.addr == w) then { s with resv := s.resv.map (fun (r : Reserv) => if r.addr = w then { r with waiters := r.waiters ++ [k] } else r) }
  else { s with resv := s.resv ++ [{ addr := w, holder := none, waiters := [k] }] }

/-- A holder's delta for a home that is lost comes from the stripe's other parity holder (R105): it is applied here unless this holder has it. Its code is the
sender's weight. -/
def State.takeShared (s : State) (x : EvIn) : State :=
  let g := x.addr % 2 ^ 40 / 64 * 64
  let home := x.size
  let j := dataNumber (g / 2 ^ 21) ((List.range 10).find? (fun p => s.md.member p == home) |>.getD 0)
  let by_ := gfPow (if x.code = 0 then j else (255 - j) % 255)
  let d := packedJoin 8 ((List.range 64).map (fun n => gfMul 8 ((x.data.toNat >>> (8 * n)) % 256) by_))
  if s.md.kept.any (fun h => h.home == home && h.granule == g && h.req == x.index) then s
  else s.applyDelta { home := home, seq := x.seq, granule := g, data := BitVec.ofNat 512 d, req := x.index, old := some (dw x.offset) }

/-- A packet of class REQ is accepted once (R116, R126, R349); a repeat is answered from the record, or ignored while it is being served. -/
def State.takeRequest (s : State) (x : EvIn) : State :=
  match s.md.served.find? (fun r => r.src == x.src && r.agent == x.gt && r.seq == x.seq) with
  | none =>
    let s1 := s.modMd (fun m => { m with served := m.served ++ [{ src := x.src, agent := x.gt, seq := x.seq, kind := x.kind }] })
    if x.kind = kReserve then s1.takeReserve x
    else if x.kind = kRetire then (s1.modMd (fun m => { m with kept := m.kept.filter (fun h => !(h.home == x.src && h.seq == x.offset)) })).acked x []
    else if x.kind = kShareDelta then (s1.takeShared x).acked x []
    else s1.modMd (fun m => { m with inbox := m.inbox ++ [x] })
  | some r =>
    if x.kind = kGetS ∨ x.kind = kGetM then s.regrant x
    else match r.answer with
      | none => s
      | some a =>
        if x.kind = kReserve ∧ a.1 = kGrant ∧ s.resv.any (fun r => r.holder == some (awayOf x.src x.gt x.seq)) = false then s else s.sendAgain x a

/-- A packet of class RSP is always taken (R126). -/
def State.takeAnswer (s : State) (x : EvIn) : State :=
  if x.kind = kData then s.dataArrives 1 x
  else if x.kind = kDataE then s.dataArrives 2 x
  else if x.kind = kDataM then s.dataArrives 3 x
  else if x.kind = kForwarded then s.holderAnswers x
  else match s.asked x with
  | none => s
  | some p =>
    if x.kind = kDeltaAck then s.deltaAck x.offset
    else if x.kind = kAck then s.finished p.seq
    else if x.kind = kRefuse then s.modMd (fun m => { m with outbox := modWhere (fun q => q == p) (fun q => { q with route := none }) m.outbox })
    else if x.kind = kViolation then s.refuseMaster p (if x.code = 4 then 4 else 3)
    else if x.kind = kThrough then (s.modMd (fun m => { m with through := sadd m.through (lineKey p.dst (lineOf p.addr)) })).finished p.seq
    else if x.kind = kGrant then s.modMd (fun m => { m with inbox := m.inbox ++ [x] })
    else s

/-- An announcement is acknowledged (R124). -/
def State.ackInc (s : State) (src : Nat) : State := s.modMd (fun m => m.post { cls := cMGT, dst := src, kind := kIncAck, addr := 0, agent := agentSp, dagent := agentSp })

/-- A packet of an ordered class in its turn (R115). -/
def State.deliver (s : State) (x : EvIn) : State :=
  if x.kind = kInc then s.ackInc x.src
  else if x.kind = kIncAck then s.modMd (fun m => { m with announce := m.announce.filter (· ≠ x.src) }) else s.modMd (fun m => { m with inbox := m.inbox ++ [x] })

/-- Deliver those of the packets kept back whose turn it is. -/
def State.deliverNext (s : State) : Nat → State
  | 0 => s
  | fuel + 1 =>
    let due (x : EvIn) : Bool := tget 0 s.md.inFlows (flowKey x.cls x.src x.gt x.die) == x.seq
    match s.md.early.find? due with
    | none => s
    | some x => ((s.modMd (fun m => { m with early := m.early.erase x, inFlows := tset 0 m.inFlows (flowKey x.cls x.src x.gt x.die) ((x.seq + 1) % 2 ^ 32) })).deliver x).deliverNext fuel

/-- A packet of class MSG, COL or MGT (R115): in its flow's order; one that has been delivered is dropped. -/
def State.takeOrdered (s : State) (x : EvIn) : State :=
  let want := tget 0 s.md.inFlows (flowKey x.cls x.src x.gt x.die)
  if 2 ^ 31 ≤ (x.seq + 2 ^ 32 - want) % 2 ^ 32 ∨ s.md.early.any (fun y => y.cls == x.cls && y.src == x.src && y.gt == x.gt && y.die == x.die && y.seq == x.seq) = true then s
  else (s.modMd (fun m => { m with early := m.early ++ [x] })).deliverNext (s.md.early.length + 1)

/-- What an accepted packet does. -/
def State.accept (s : State) (x : EvIn) : State :=
  if x.cls = cREQ then s.takeRequest x
  else if x.cls = cRSP then s.takeAnswer x
  else if x.cls = cSNP then (if x.kind = kForward then s.forwardLine x else s.modMd (fun m => { m with inbox := m.inbox ++ [x] }))
  else s.takeOrdered x

/-- Packets of a module whose incarnation has changed start their flows anew (R115, R124; log entry 83). -/
def State.freshFlows (s : State) (src : Nat) : State :=
  s.modMd (fun m => { m with
    outFlows := m.outFlows.filter (fun e => flowModule e.1 != src), inFlows := m.inFlows.filter (fun e => flowModule e.1 != src), early := m.early.filter (fun x => x.src != src) })

/-- What a module held before its incarnation changed it holds no more (R124, log entry 83): lines, reservations, and its requests' records. -/
def State.forgetModule (s : State) (src : Nat) : State :=
  let s1 := s.modMd (fun m => { m with served := m.served.filter (fun r => r.src != src), inbox := m.inbox.filter (fun x => x.src != src) })
  let away (k : Nat) : Bool := decide (awayKey ≤ k) && k % 1024 == src
  let s2 := s1.resv.foldl (fun x r => x.dropReserv r.addr away) s1
  s2.md.dir.foldl (fun x e =>
    let mma := e.1 * 128
    let y := if (x.dirOf mma).serving.any (fun w => w.1 == src) then x.modDir mma (fun d => { d with serving := none, awaited := [] }) else x
    y.holderGone src mma) s2

/-- An announcement of a new incarnation (R124): the tables of all four I/O dies first, then the acknowledgement. -/
def State.announced (s : State) (x : EvIn) (inc : BitVec 16) : State :=
  (((s.forgetModule x.src).freshFlows x.src).modMd (fun m => { m with
    peers := (List.range 4).foldl (fun p k => tset 0 p (1024 * k + x.src) inc) m.peers
    inFlows := tset 0 m.inFlows (flowKey x.cls x.src x.gt x.die) ((x.seq + 1) % 2 ^ 32) })).ackInc x.src

/-- PACKET_ARRIVAL (R112, R123): I/O die `id` receives a packet from module `src`, whose incarnation is `srcInc` and which expects `dstInc` of this
module. It is dropped and counted, or accepted. -/
def execPacketArrival (s : State) : Host.Outcome State Fault Refusal :=
  let x := s.ev
  let inc : BitVec 16 := BitVec.ofNat 16 x.srcInc
  let recorded := tget 0 s.md.peers (1024 * (x.id % 4) + x.src)
  if earlier inc recorded then .next (s.countAt x.id 5)
  else if BitVec.ofNat 16 x.dstInc ≠ s.md.incarnation then .next (s.countAt x.id 6)
  else if x.kind = kInc ∧ inc ≠ recorded then .next (s.announced x inc)
  else if earlier recorded inc then .next (s.countAt x.id 7)
  else .next (s.accept x)

/-- REQUEST_RESEND (R116, R122): the request with sequence number `seq` has had no response for 100 µs and is sent again, on any route and with the
incarnations as they are now; the eighth send is reported. -/
def execRequestResend (s : State) : Host.Outcome State Fault Refusal :=
  match s.md.outbox.find? (fun p => p.cls == cREQ && p.seq == s.ev.seq && p.dst != s.md.number) with
  | none => noUnit "REQUEST_RESEND"
  | some p =>
    .next ((s.modMd (fun m => { m with
      outbox := modWhere (fun q => q == p) (fun q => { q with sends := q.sends + 1, route := none, inc := m.incarnation, expect := m.peerInc q.dst }) m.outbox
      unanswered := if p.sends + 1 = 8 then sadd m.unanswered p.seq else m.unanswered })).count p.addr 4)

/-- A vote of the service processors takes effect: two of three agree and the module is not held (R393). -/
def State.voted (s : State) : Bool := s.ev.ok && !s.md.held

/-- INCARNATION_CHANGE (R124, R393, R411): after a vote the module advances its incarnation and announces it to every present peer. Its flows start anew. -/
def execIncarnationChange (s : State) : Host.Outcome State Fault Refusal :=
  if !s.voted then noUnit "INCARNATION_CHANGE"
  else
    let inc := s.md.incarnation + 1
    let ps := s.md.present.filter (· ≠ s.md.number)
    .next ((ps.foldl (fun x p => (x.freshFlows p).modMd (fun m => m.send cMGT p kInc 0 (inc.setWidth 1024))) (s.modMd (fun m => { m with incarnation := inc, announce := ps }))).hostEvent
      { kind := 7, vi := 0, d1 := dw s.md.number, d2 := inc.setWidth 64, d3 := 2 })

/-- LINK_REPLAY (R112): a flit that failed its CRC is replayed by the link layer; software never sees it. -/
def execLinkReplay (s : State) : Host.Outcome State Fault Refusal := .next (s.modMd (fun m => { m with replays := m.replays + 1 }))

/-! ## Routes and credits (R111, R113, R114, R125) -/

/-- LINK_PORT_FAILURE (R114, R398): port `id` goes dark. -/
def execLinkPortFailure (s : State) : Host.Outcome State Fault Refusal :=
  if 64 ≤ s.ev.id then noUnit "LINK_PORT_FAILURE" else .next (s.modMd (fun m => { m with darkPorts := sadd m.darkPorts s.ev.id }))

/-- The port to a module in the same row or column (R111). -/
def Module.portTo (m : Module) (d : Nat) : Option Nat :=
  let r := m.number / 32
  let c := m.number % 32
  if d / 32 = r ∧ d ≠ m.number then some (if d % 32 < c then d % 32 else d % 32 - 1)
  else if d % 32 = c ∧ d ≠ m.number then some (if d / 32 < r then 31 + d / 32 else 30 + d / 32)
  else none

/-- The port of a lit link to a module: a port that has failed is dark, and so are the links of an absent module (R110). -/
def Module.litPort (m : Module) (d : Nat) : Option Nat :=
  match m.portTo d with
  | some g => if m.present.contains d && !m.darkPorts.contains g then some g else none
  | none => none

/-- Reserved slots of a class per hop channel, and the shared slots of a link (R125). -/
def reservedSlots (cls : Nat) : Nat := [8, 16, 8, 8, 8, 2].getD cls 0
def sharedSlots : Nat := 234

/-- Shared slots of a link that are free, and credits of a class on a hop channel: its free reserved slots, and the shared ones that it may take. -/
def Module.freeShared (m : Module) (port : Nat) : Nat := sharedSlots - ((m.links.filter (fun u => u.port == port)).map (·.shared)).sum
def Module.credits (m : Module) (port cls hop : Nat) : Nat × Nat :=
  (reservedSlots cls - ((m.links.filter (fun u => u.port == port && u.cls == cls && u.hop == hop)).map (·.own)).sum,
   min (m.freeShared port) (128 - ((m.links.filter (fun u => u.port == port && u.cls == cls)).map (·.shared)).sum))
def Module.creditSum (m : Module) (port cls : Nat) : Nat := (m.credits port cls 0).1 + (m.credits port cls 0).2

/-- Flits of a packet (R112): a header, and up to two of data. -/
def Packet.flits (p : Packet) : Nat :=
  if [kData, kDataE, kDataM, kWriteBack, kShare].contains p.kind ∨ (p.kind = kForwarded ∧ p.code.testBit 3 = true) then 3
  else if [kStore, kDelta, kMsg, kUndo, kRelease, kGrant, kInc, kShareDelta].contains p.kind then 2 else 1

/-- The minimal routes to a module (R113): the direct link, or row first and column first. -/
def Module.minimal (m : Module) (d : Nat) : List (List Nat) :=
  if (m.portTo d).isSome then [[d]] else [[m.number / 32 * 32 + d % 32, d], [d / 32 * 32 + m.number % 32, d]]

/-- Whether a packet can leave by a route now: the first link is lit, every module of the route is present, and each flit has a credit of the class. -/
def Module.open_ (m : Module) (p : Packet) (r : List Nat) : Bool :=
  r.all m.present.contains && match m.litPort (r.headD 0) with | some g => decide (p.flits ≤ m.creditSum g p.cls) | none => false

/-- The route that a packet takes (R113): of the minimal routes that it can leave by, the one whose first hop has more free shared credits, row first
in a tie. -/
def Module.routeOf (m : Module) (p : Packet) : Option (List Nat) :=
  let free (r : List Nat) : Nat := match m.litPort (r.headD 0) with | some g => m.freeShared g | none => 0
  match (m.minimal p.dst).filter (m.open_ p) with
  | [] => none
  | [r] => some r
  | r :: c :: _ => some (if free r < free c then c else r)

/-- A packet leaves by a route: it takes credits on its first link, the class's reserved slots before shared ones. A request stays until it is answered. -/
def Module.depart (m : Module) (p : Packet) (r : List Nat) : Module × List Packet :=
  match m.litPort (r.headD 0) with
  | none => (m, [p])
  | some g =>
    let own := min p.flits (m.credits g p.cls 0).1
    ({ m with links := m.links ++ [{ port := g, cls := p.cls, hop := 0, own := own, shared := p.flits - own }] }, if p.cls = cREQ then [{ p with route := some r }] else [])

/-- Packets that can leave do, oldest first; while an announcement is not acknowledged by every peer, only those of class MGT (R124). -/
def Module.routed (m : Module) : Module :=
  let r := m.outbox.foldl (fun (x : Module × List Packet) p =>
    if p.route.isSome || p.dst == m.number || (!m.announce.isEmpty && p.cls != cMGT) then (x.1, x.2 ++ [p])
    else match x.1.routeOf p with
      | some q => let y := x.1.depart p q; (y.1, x.2 ++ y.2)
      | none => (x.1, x.2 ++ [p])) (m, [])
  { r.1 with outbox := r.2 }

/-- DETOUR (R114): the packet of class `cls` with number `seq` to module `src` finds both minimal routes dark, or has found no credit on their first
hops for 256 flit slots, and goes by the row peer `index` whose link has the most free credits, the lowest in a tie. -/
def execDetour (s : State) : Host.Outcome State Fault Refusal :=
  let m := s.md
  match m.outbox.find? (fun p => p.cls == s.ev.cls && p.seq == s.ev.seq && p.dst == s.ev.src && p.route.isNone) with
  | none => noUnit "DETOUR"
  | some p =>
    let row := ((List.range 32).map (fun c => m.number / 32 * 32 + c)).filter (fun i => i != m.number && i != p.dst)
    let free (i : Nat) : Nat := match m.litPort i with | some g => m.creditSum g p.cls | none => 0
    let best := row.foldl (fun (b : Nat × Nat) i => if b.2 < free i then (i, free i) else b) (0, 0)
    let blocked := (m.minimal p.dst).all (fun r => !m.open_ p r)
    if p.dst = m.number ∨ blocked = false ∨ best.2 < p.flits ∨ s.ev.index ≠ best.1 ∨ (m.announce ≠ [] ∧ p.cls ≠ cMGT) then noUnit "DETOUR"
    else
      let y := m.depart p [best.1, p.dst]
      .next (s.modMd (fun _ => { y.1 with outbox := m.outbox.flatMap (fun q => if q == p then y.2 else [q]) }))

/-- Counter updates to undo that have come in are performed as soon as they can (R387). -/
def State.serveUndo (s : State) : State :=
  (s.md.inbox.filter (fun x => x.kind == kUndo)).foldl (fun s x =>
    let a := x.addr % 2 ^ 40
    if s.frameBusy (a / 2 ^ 21) then s
    else
      let s0 := s.modMd (fun m => { m with inbox := m.inbox.erase x })
      let w := s0.addHome (s.byteNo (.hbm a)) (8 * x.size) (x.data.toNat % 2 ^ 64) (tagOf x.src x.gt x.seq)
      match w.stop with
      | some (.park (.line k c)) => s.askLine {} k c
      | some _ => s
      | none => w.s.acked x w.ids) s

/-- What the links and homes do by themselves after every step: credits return (R125), updates are undone, and packets leave. -/
def State.linkTurn (s : State) : State :=
  let s1 := s.serveUndo
  s1.modMd (fun m => Module.routed { m with links := (m.links.zipIdx.filter (fun (e : LinkUse × Nat) => !Config.slotFreed s1.fresh e.2)).map (·.1) })

/-! ## Loss and rebuild (R105, R397) -/

/-- MEMBER_LOSS (R105, R393, R411): the member at position `id` of the erasure group is declared lost by vote. Deltas that it would acknowledge
no longer hold a write up, and their stripes are degraded; a rebuild waits for the host when MODASSIST bit 2 says so. -/
def execMemberLoss (s : State) : Host.Outcome State Fault Refusal :=
  let p := s.ev.id
  if !s.voted || 10 ≤ p then noUnit "MEMBER_LOSS"
  else
    let gone (d : Delta) : Bool := (d.granule / 2 ^ 21 + d.weight) % 10 == p
    let s1 := s.modMd (fun m => { m with
      lostMembers := sadd m.lostMembers p, announce := m.announce.filter (· ≠ m.member p)
      degradedStripes := (m.deltas.filter (fun d => gone d && !d.acked)).foldl (fun l d => sadd l (d.granule / 2 ^ 21)) m.degradedStripes
      outbox := m.outbox.filter (fun q => !(q.kind == kDelta && q.dst == m.member p))
      deltas := m.deltas.map (fun d => if gone d then { d with acked := true } else d) })
    let assisted : Bool := s.md.modassist / 4 % 2 == 1
    let s2 := (s1.retireDeltas.modMd (fun m => { m with pendingRebuild := if assisted then sadd m.pendingRebuild p else m.pendingRebuild })).hostEvent
        { kind := 7, vi := 0, d1 := dw (s.md.member p), d2 := (s.md.peerInc (s.md.member p)).setWidth 64, d3 := 1 }
    .next (if assisted then s2.hostEvent { kind := 8, vi := 0, d1 := dw (s.md.member p), d2 := 1 } else s2)

/-- The unretired deltas of a lost home go from this parity holder to the stripe's other one (R105). -/
def State.shareDeltas (s : State) (home : Nat) : State :=
  (s.md.kept.filter (fun h => h.home == home)).foldl (fun x h =>
    let i := h.granule / 2 ^ 21
    let w := if s.md.pos = i % 10 then 0 else 1
    let p := (i + 1 - w) % 10
    if x.md.lostMembers.contains p then x
    else x.modMd (fun m => m.post { cls := cREQ, dst := m.member p, kind := kShareDelta, addr := h.granule, agent := agentIo (h.granule / 128), dagent := agentIo (h.granule / 128),
                                    tag := h.req, size := home, re := (h.old.getD 0).toNat, code := w, data := h.data.setWidth 1024 })) s

/-- ERASURE_REBUILD (R105, R109), for the lost member at position `id`. `kind` 0: it is rebuilt onto its replacement, and stripes are whole again. `kind` 2:
this module, a parity holder, passes the lost home's unretired deltas to the other holder, before the rebuild. When this module is the
replacement, `kind` 1 brings one rebuilt granule: `data` at `addr`, or poison when the stripe had lost a third member (`ok` false); `kind` 3 the
requester's tag of an unretired delta, its module `src`, agent `gt` and number `seq`, so that a repeat is answered and not applied again. -/
def execErasureRebuild (s : State) : Host.Outcome State Fault Refusal :=
  let p := s.ev.id
  let lost := s.md.lostMembers.contains p && !s.md.pendingRebuild.contains p
  match s.ev.kind with
  | 1 =>
    let g := s.ev.addr % 2 ^ 40 / 64 * 64
    .next (s.put (s.hbmKey g) (toBytes 64 (if s.ev.ok then s.ev.data.toNat % 2 ^ 512 else 0)) (List.replicate 64 (!s.ev.ok)))
  | 2 => if lost then .next (s.shareDeltas (s.md.member p)) else noUnit "ERASURE_REBUILD"
  | 3 =>
    if s.md.served.any (fun r => r.src == s.ev.src && r.agent == s.ev.gt && r.seq == s.ev.seq) then noUnit "ERASURE_REBUILD"
    else .next (s.modMd (fun m => { m with served := m.served ++ [{ src := s.ev.src, agent := s.ev.gt, seq := s.ev.seq, kind := kStore, answer := some (kAck, s.ev.addr, 0, 0, 0) }] }))
  | _ =>
    if lost then
      let rest := sdel s.md.lostMembers p
      .next (s.modMd (fun m => { m with lostMembers := rest, degradedStripes := if rest = [] then [] else m.degradedStripes, kept := m.kept.filter (fun h => h.home != m.member p) }))
    else noUnit "ERASURE_REBUILD"

/-- A store that has not completed is given up: it is over, and reports at the next synchronisation point (R397). -/
def State.failStore (s : State) (y : Store) : State :=
  let s1 : State := { s with stores := s.stores.erase y }
  let s2 := y.reqs.foldl (fun x n => x.finished n) s1
  s2.modTask y.key (fun u => u.modSch (fun x => { x with failedStore := match x.failedStore with | some b => some b | none => some y.addr }))

/-- REMOTE_FAILURE (R397): recovery fails the request for `addr` that task `key` waits on: a load or atomic (`kind` 0), an outstanding store (1) or
an MSEND (2); or transfer `id` of tile `gt` (3). -/
def execRemoteFailure (s : State) : Host.Outcome State Fault Refusal :=
  if s.ev.kind = 3 then
    match s.xfer? s.ev.gt s.ev.id with
    | some t => .next (if mvDkind t.regs = 4 then s.failColl (s.collOf t) 0x06 true else s.xPut s.ev.gt (t.halt 0x06))
    | none => noUnit "REMOTE_FAILURE"
  else if s.ev.kind = 1 then
    match s.stores.find? (fun y => y.key == s.ev.key && y.addr == s.ev.addr) with
    | some y => .next (s.failStore y)
    | none => noUnit "REMOTE_FAILURE"
  else match s.task? s.ev.key with
    | none => noUnit "REMOTE_FAILURE"
    | some t =>
      let waits := match t.status with | .parked (.line _ _) => true | .parked (.grant _) => true | _ => false
      if s.ev.kind = 2 then (if t.sch.sending then .next (s.takeReply t.key t.sch.sentId 3) else noUnit "REMOTE_FAILURE")
      else if !waits then noUnit "REMOTE_FAILURE"
      else
        let s1 := match t.status with
          | .parked (.grant w) => (s.dropReserv w (· == t.key)).modMd (fun m => { m with outbox := m.outbox.filter (fun p => !(p.kind == kReserve && p.req == some (Asker.task t.key))) })
          | _ => s
        .next ((s1.modTask t.key (fun u => u.modSch (fun x => { x with failedAccess := some s.ev.addr }))).ready t.key)

end Sys2Proof.Machine
end

