-- ==== Sys2Proof/Machine/Pages.lean ====
section
/-! DEFINITION. Frames of the module's memory: page moves (R99 to R101), scrubbing (R106, R107, R109), the loss of a stack (R398), and the set-up
of protected frames (R102, R409, R410). -/

namespace Sys2Proof.Machine

/-! ## Physical frames -/

/-- Physical numbers of a physical frame's first byte: frames stand behind the slices in the byte numbering. -/
def frameKey (phys : Nat) : Nat := 2 ^ 40 + phys * 2 ^ 21

/-- MMA frames that a physical frame backs, VALID or not (R97). -/
def State.backed (s : State) (phys : Nat) : List Nat :=
  (s.md.homeMap.filter (fun e => e.2.toNat % 2 ^ 19 == phys)).map (·.1) ++ (if (s.homeEntry? phys).isSome then [] else [phys])

/-- Copy a run of a table to another place, dropping what the destination held. -/
def copyRun {α : Type} (t : List (Nat × α)) (src dst n : Nat) : List (Nat × α) :=
  (t.filter (fun e => decide (src ≤ e.1) && decide (e.1 < src + n))).foldl (fun r e => tinsert r (dst + (e.1 - src)) e.2)
    (t.filter (fun e => !(decide (dst ≤ e.1) && decide (e.1 < dst + n))))
def copySet (t : List Nat) (src dst n : Nat) : List Nat :=
  (t.filter (fun k => decide (src ≤ k) && decide (k < src + n))).foldl (fun r k => sadd r (dst + (k - src)))
    (t.filter (fun k => !(decide (dst ≤ k) && decide (k < dst + n))))

/-- Copy bytes and poison marks between runs that start on doublewords (R101, R108). -/
def State.copyBytes (s : State) (src dst n : Nat) : State :=
  if src = dst then s else { s with mem := copyRun s.mem src dst n, poison := copySet s.poison (src / 8) (dst / 8) (n / 8) }

/-- Bytes of a run become what nothing has written; marks stay, since no rule clears them (R109). -/
def State.clearBytes (s : State) (k n : Nat) : State :=
  { s with mem := s.mem.filter (fun e => !(decide (k ≤ e.1) && decide (e.1 < k + n))) }

/-- Poison every doubleword of a run (R109). -/
def State.poisonRun (s : State) (k n : Nat) : State := { s with poison := (List.range (n / 8)).foldl (fun p i => sadd p (k / 8 + i)) s.poison }

/-- Change a home-map entry (R97). -/
def State.setHome (s : State) (frame : Nat) (e : BitVec 32) : State := s.modMd (fun m => { m with homeMap := tinsert m.homeMap frame e })
def State.setBusy (s : State) (frame : Nat) (b : Bool) : State :=
  s.setHome frame (if b then s.home frame ||| 0x01000000#32 else s.home frame &&& 0xFEFFFFFF#32)

/-! ## Page moves (R99 to R101) -/

/-- PAGE_MOVE_QUEUE_STORE (R99): a supervisor of VI `vi` stores `value` to the page-move queue register; a full queue parks the task `key`. -/
def execPageMoveQueueStore (s : State) : Host.Outcome State Fault Refusal := .next (s.queued (s.storePageMove s.ev.vi s.ev.value))

/-- The status that the checks of R100 give a record for a VI; 0 when it may run. -/
def State.pageMoveStatus (s : State) (v : Nat) (d : List DWord) : Nat :=
  let d0 := nthDw d 0
  let d1 := nthDw d 1
  let first := bits d0 0 19
  let count := bits d0 32 20
  let src := (List.range count).map (fun i => first + i)
  let dst := (List.range count).map (fun i => bits d1 16 4 * 32768 + bits d1 0 15 + i)
  if bits d0 52 12 ≠ 0 ∨ bits d0 19 13 ≠ 0 ∨ bits d1 20 44 ≠ 0 ∨ bit d1 15 = true ∨ nthDw d 3 ≠ 0 ∨ count = 0 ∨ 524288 < first + count then 1
  else if src.any (fun f => !(s.home f).getLsbD 31 || s.frameOwner f != v || s.frameKind f == 2) then 2
  else if 32768 < bits d1 0 15 + count ∨ dst.any (fun p => (s.backed p).any (fun f => (s.home f).getLsbD 31 && !(decide (first ≤ f) && decide (f < first + count)))) = true then 3
  else if src.any s.frameBusy then 4
  else 0

/-- A write that the hardware refuses for a VI's page-move queue: REASON 6 (R99). -/
def State.refuseMove (s : State) (v : Nat) : State := s.refuse v 6 0 0 0x30

/-- PAGE_MOVE_RECORD (R99, R100): the oldest queued record of VI `vi` is read and checked whole; its frames then move, or it only reports. Its entry
of the queue frees when it is read, so that the record in progress is none of the 16 (log entry 20, DESIGN CHOICE). -/
def execPageMoveRecord (s : State) : Host.Outcome State Fault Refusal :=
  let v := s.ev.vi
  match (s.vi v).move, (s.vi v).pmq with
  | none, r :: rest =>
    let s0 := (s.modVi v (fun x => { x with pmq := rest })).wake (fun t p => t.vi == v && p == Park.hostQueue 1)
    match (if r % 32 ≠ 0 then .trap 0x06 else s.hwRead v r 4) with
    | .ok d =>
      let st := s.pageMoveStatus v d
      let n := bits (nthDw d 0) 32 20
      let p : PageMove := { first := bits (nthDw d 0) 0 19, count := n, dstack := bits (nthDw d 1) 16 4, dframe := bits (nthDw d 1) 0 15, stat := (nthDw d 2).toNat
                            moved := if st = 0 then 0 else n, status := st }
      .next (s0.modVi v (fun x => { x with move := some p }))
    | .park p => s.whenHw v "PAGE_MOVE_RECORD" (.park p) s
    | _ => .next (s0.refuseMove v)
  | _, _ => noUnit "PAGE_MOVE_RECORD"

/-- Whether an access to a frame of this module that came before its move is still to complete (R101): an outstanding store, or holders' answers that
bring a line's data. -/
def State.frameInUse (s : State) (f : Nat) : Bool :=
  s.stores.any (fun y => !y.performed && y.kind == .write && match y.loc with | .hbm mma => mma / 2 ^ 21 == f | .peer m mma => m == s.md.number && mma / 2 ^ 21 == f | _ => false) ||
  s.md.dir.any (fun e => e.1 * 128 / 2 ^ 21 == f && match e.2.serving with | some w => w.2.2 != svGrant | none => false)

/-- FRAME_MOVE (R101): the next frame of VI `vi`'s record is marked busy or, once it is busy and earlier accesses have completed, is copied with its
marks, rebound and freed. When none is left the record reports its status, and the failure of that write is recorded (R99, R100). -/
def execFrameMove (s : State) : Host.Outcome State Fault Refusal :=
  let v := s.ev.vi
  match (s.vi v).move with
  | none => noUnit "FRAME_MOVE"
  | some p =>
    let f := p.first + p.moved
    let rest := s.modVi v (fun x => { x with move := none })
    if p.count ≤ p.moved then s.whenHw v "FRAME_MOVE" (rest.hwStatus v p.stat p.status) (rest.refuseMove v)
    else if !s.frameBusy f then .next (s.setBusy f true)
    else if s.frameInUse f then noUnit "FRAME_MOVE"
    else
      let dst := p.dstack * 32768 + p.dframe + p.moved
      let e := (s.home f &&& 0xFEF80000#32) ||| BitVec.ofNat 32 dst
      let s1 := (s.copyBytes (frameKey (s.framePhys f)) (frameKey dst) (2 ^ 21)).setHome f e
      .next (s1.modVi v (fun x => { x with move := some { p with moved := p.moved + 1 } }))

/-! ## Scrubbing and stack loss (R106, R107, R109, R398) -/

/-- Add to a stack's scrub log: corrected, repaired, poisoned. -/
def State.logScrub (s : State) (stack c r p : Nat) : State :=
  s.modMd (fun m => { m with scrubLog := tmod (0, 0, 0) m.scrubLog stack (fun e => (e.1 + c, e.2.1 + r, e.2.2 + p)) })

/-- SCRUB_READ (R106, R107, R109, R398): the burst of `addr` is read, by the scrub or on demand. `kind` is the finding: 0 none, 1 corrected, 2 uncorrectable;
`ok` says that a protected frame's stripe can rebuild it. Memory holds the corrected or rebuilt bytes. With `cls` 1 the read is of the slice of tile
`gt` at `offset`, with `cls` 2 of the domain cache's line of module `index` at `addr`, whose uncorrectable errors poison 64 bytes. -/
def execScrubRead (s : State) : Host.Outcome State Fault Refusal :=
  let a := s.ev.addr % 2 ^ 40 / 64 * 64
  let f := a / 2 ^ 21
  let stack := s.framePhys f / 32768
  if s.ev.cls = 1 then .next (if s.ev.kind = 2 then s.poisonRun (sramKey s.ev.gt (s.ev.offset % 2 ^ 25 / 64 * 64)) 64 else s)
  else if s.ev.cls = 2 then .next (if s.ev.kind = 2 ∧ (s.dline s.ev.index a).state ≠ 0 then s.poisonGran (.peer s.ev.index a) else s)
  else if s.frameBusy f ∨ s.ev.kind = 0 then .next s
  else if s.ev.kind = 1 then .next (s.logScrub stack 1 0 0)
  else if s.frameKind f ≠ 0 ∧ s.ev.ok = true then .next (s.logScrub stack 0 1 0)
  else .next ((s.poisonRun (s.hbmKey a) 64).logScrub stack 0 0 1)

/-- HBM_STACK_FAILURE (R398): stack `id` fails; its protected frames are rebuilt and its plain frames are poisoned. -/
def execHbmStackFailure (s : State) : Host.Outcome State Fault Refusal :=
  if 16 ≤ s.ev.id then noUnit "HBM_STACK_FAILURE"
  else .next (((List.range 32768).map (fun i => s.ev.id * 32768 + i)).foldl (fun x p =>
    if (s.backed p).any (fun f => s.frameKind f == 0) then x.poisonRun (frameKey p) (2 ^ 21) else x) s)

/-! ## Protected frames (R102, R409, R410) -/

/-- Granules of a frame that hold a byte other than what nothing has written, rising. -/
def State.usedGranules (s : State) (frame : Nat) : List Nat :=
  let k := frameKey (s.framePhys frame)
  (s.mem.filter (fun e => decide (k ≤ e.1) && decide (e.1 < k + 2 ^ 21))).foldl (fun l e => sadd l ((e.1 - k) / 64)) []

/-- Set a frame's KIND (R409, R410): with KIND 1 the P or Q holder of its stripe takes KIND 2 and starts from zero, and a data member sends the parity of
what the frame holds. -/
def State.setKind (s : State) (frame kind : Nat) : State :=
  let p := s.md.pos
  let holder : Bool := p == frame % 10 || p == (frame + 1) % 10
  let k := if kind = 0 then 0 else if holder then 2 else 1
  let s1 := s.setHome frame ((s.home frame &&& 0xFF3FFFFF#32) ||| BitVec.ofNat 32 (k * 2 ^ 22))
  if k = 2 then s1.clearBytes (frameKey (s.framePhys frame)) (2 ^ 21)
  else if k = 1 then (s.usedGranules frame).foldl (fun x g =>
    let a := frame * 2 ^ 21 + g * 64
    x.parity a (tagOf x.md.number (agentIo (a / 128)) x.md.nextWrite) none 0 (ofBytes ((x.fetch (x.hbmKey a) 64).map (·.1)))) s1
  else s1

/-- Whether a task waits for a request that is outstanding (R95). -/
def Park.outstanding : Park → Bool
  | .line _ _ | .grant _ | .walk _ | .reply | .heldSends | .pageBusy _ | .fenced _ | .regLine _ | .handle _ | .stores _ | .code => true
  | _ => false

/-- The conditions of R95 for a VI: it is stopped, none of its tasks is resident, none of its transfers is incomplete and no request is
outstanding. -/
def State.quiet (s : State) (v : Nat) : Bool :=
  (s.vi v).stop && s.tasks.all (fun t => t.vi != v || match t.status with | .resident => false | .parked p => !p.outstanding | _ => true) &&
  s.xfersInFlight.all (fun e => e.2.vi != v) && s.md.walks.all (fun w => w.vi != v || w.result.isSome) && s.stores.all (fun x => x.vi != v) && s.owedBumps.all (fun b => b.1 != v) && s.owedLeaves.all (fun b => b.1 != v)

/-- STOPPED as it reads (R95, R404): it has become 1, and the conditions still hold. -/
def State.isStopped (s : State) (v : Nat) : Bool := (s.vi v).stopped && s.quiet v

/-- Whether an ERASKIND store is refused (R409): the group is not VALID, or an owner of a named frame is not STOPPED. -/
def State.eraskindBad (s : State) (d : DWord) : Bool :=
  !bit s.md.erasgrp 63 || decide (1 < bits d 40 2) || bits d 44 20 == 0 || decide (524288 < bits d 0 19 + bits d 44 20) ||
  (List.range (bits d 44 20)).any (fun i => !s.isStopped (s.frameOwner (bits d 0 19 + i)))

end Sys2Proof.Machine
end

