-- ==== Sys2Proof/Machine/Recovery.lean ====
section
/-! DEFINITION. Recovery by the service processors (R391 to R396, R398): rectangle resets, quarantine, structural tests (R417), the retirement
and evacuation of dies (R16 to R20), votes, boot and firmware (R393, R413, R414). -/

namespace Sys2Proof.Machine

/-! ## Held tasks (R396) -/

/-- Of one launch, the waiting tasks that now are held, and the held tasks that can run again, in index order. -/
def State.reheld (s : State) (v : Nat) (l : Launch) : Launch :=
  let at_ (p : Nat) : Nat × Nat := (tileSet l.record).getD p (0, 0)
  let all := (l.waiting ++ l.held).foldl (fun (r : List (Nat × Nat)) e => tinsert r e.1 e.2) []
  { l with waiting := all.filter (fun e => s.heldCause v (at_ e.2) == 0), held := all.filter (fun e => s.heldCause v (at_ e.2) != 0) }

/-- Every launch's waiting tasks are sorted into held and waiting again; launches with newly held tasks are recorded (R396). -/
def State.sortHeld (s : State) : State :=
  let s1 := { s with vis := s.vis.map (fun (e : Nat × Vi) => (e.1, { e.2 with launches := e.2.launches.map (s.reheld e.1) })) }
  s.vis.foldl (fun x e => e.2.launches.foldl (fun y l =>
    let new := (s.reheld e.1 l).held.filter (fun h => !l.held.contains h)
    match new.head? with
    | none => y
    | some h => y.noteHeld e.1 l.id new.length (s.heldCause e.1 ((tileSet l.record).getD h.2 (0, 0))) ((tileSet l.record).getD h.2 (0, 0))) x) s1

/-! ## Rectangles (R391, R392) -/

/-- Tiles of the rectangle that a tile belongs to: a valid rectangle register's, else the tile alone (R391). -/
def State.rectOf (s : State) (gt : Nat) : List Nat :=
  match (s.die (gt / 128)).rects.find? (fun e => rectCovers e.2 (gt % 128)) with
  | some e => ((List.range 128).filter (rectCovers e.2)).map (fun t => gt / 128 * 128 + t)
  | none => [gt]

/-- A tile after its reset: the granule states and the cycle count stay; it is fenced and quarantined (R392). -/
def Tile.afterReset (t : Tile) : Tile :=
  { gran := t.gran, cycle := t.cycle, mbox := t.mbox, quarantined := true, failed := t.failed, resetting := true }

/-- The greatest level of a task's nest whose area lies outside a set of tiles (R392 step 3). -/
def State.safeLevel (s : State) (t : Task) (tiles : List Nat) : Option Nat :=
  (((List.range t.depth).map (fun i => t.depth - i)).find? (fun l =>
    let a := (t.hw.cdAddr.toList.getD (l - 1) 0).toNat
    !(aRegion a == 0 && tiles.contains (s.gtOf t.vi a))))

/-- A lost task ends with code 0x1A: its registers are gone, so its trap record alone is written (R372, R374, R392). -/
def State.loseTask (s : State) (k : Nat) : State :=
  match s.task? k with
  | none => s
  | some t =>
    match t.kind with
    | .trapHandler other => (s.freezeTask k 6).freezeTask other 6
    | _ =>
      let x : TrapInfo := { code := 0x1A, cls := 2 }
      let n := s.clock
      let s1 := (s.storeWords (s.taskGt t) t.vdie (aOff t.wp.toNat) (trapRecord t.depth x t.pc.toNat 0 0)).1
      let s2 := { s1.modTask k (fun u => { u with
        status := .trapped, snaps := [], absentLines := areaLines, hw := { u.hw with claim := setBits u.hw.claim 8 8 0 }
        sch := { u.sch with trapOrder := n, served := false, glaze := none, again := none, why := none } }) with clock := n + 1 }
      if (s.vi t.vi).trapToHost 0x1A then
        s2.hostEvent { kind := 1, vi := t.vi, d1 := t.wp.setWidth 64, d2 := dw (t.depth * 4096 + 2 * 1024 + 0x1A), d3 := t.pc.setWidth 64 }
      else s2.startTrapHandler t.vi (s.taskGt t)

/-- RECTANGLE_RESET (R392): an uncorrectable error at slice offset `offset` of tile `gt` resets its rectangle. The transfers stop with code 0x06, the
tiles clear, the granule is poisoned, and every task is lost or runs its domain again. -/
def execRectangleReset (s : State) : Host.Outcome State Fault Refusal :=
  let tiles := s.rectOf s.ev.gt
  let s1 := tiles.foldl (fun x gt => ((x.tile gt).xfers.filter (fun e => e.2.inFlight)).foldl (fun y e => y.completeXfer gt (e.2.halt 0x06)) x) s
  let s2 := tiles.foldl (fun x gt => x.modTile gt Tile.afterReset) s1
  let s3 := s2.poisonRun (sramKey s.ev.gt (s.ev.offset % 2 ^ 25 / 64 * 64)) 64
  let lost := s3.tasks.filter (fun t => tiles.contains (s.taskGt t))
  .next ((lost.foldl (fun x t => match s.safeLevel t tiles with
    | some l => x.discardNow t.key l none
    | none => x.loseTask t.key) s3).sortHeld)

/-! ## Quarantine and tests (R393, R394, R417) -/

/-- QUARANTINE (R394, R396): a vote quarantines tile `gt`, and tasks placed on it are held. -/
def execQuarantine (s : State) : Host.Outcome State Fault Refusal :=
  if !s.voted then noUnit "QUARANTINE" else .next (s.modTile s.ev.gt (fun t => { t with quarantined := true })).sortHeld

/-- QUARANTINE_RELEASE (R392, R394, R396): a vote releases tile `gt`, or with `kind` 1 its rectangle, after the structural test has passed; requests
proceed and held tasks can be instantiated. -/
def execQuarantineRelease (s : State) : Host.Outcome State Fault Refusal :=
  let tiles := if s.ev.kind = 1 then s.rectOf s.ev.gt else [s.ev.gt]
  if !s.voted || !tiles.all (fun g => (s.tile g).quarantined && !(s.tile g).failed) then noUnit "QUARANTINE_RELEASE"
  else .next ((tiles.foldl (fun x g => x.modTile g (fun t => { t with quarantined := false, resetting := false })) s).sortHeld)

/-- A structural-test entry (R417). -/
def testEntry (seq unit socket tile index result : Nat) : DWord :=
  dw (seq % 65536 * 2 ^ 48 + unit % 256 * 2 ^ 40 + socket % 64 * 2 ^ 34 + tile % 128 * 2 ^ 27 + index % 64 * 2 ^ 21 + result % 256)

/-- Whether a compute socket is a spare: bound to no logical die and not retired (R16). It is power-gated, and no address reaches it. -/
def State.isSpare (s : State) (k : Nat) : Bool :=
  decide (k < 36) && !s.md.deadSockets.contains k && (List.range 32).all (fun d => !((s.dieEntry d).getLsbD 31 && (s.dieEntry d).toNat % 64 == k))

/-- Sockets of the HBM stacks and of the I/O dies (R15). -/
def stackSocket (m : Nat) : Nat := 36 + m
def ioSocket (k : Nat) : Nat := 52 + k
/-- Sockets that hold no logical die and are tested by number (R15, R16): a spare's units, and the routers and link ports of the memory and I/O
sockets. -/
def State.testSocket (s : State) (socket unit : Nat) : Bool :=
  s.isSpare socket || (decide (4 ≤ unit) && ((List.range 16).any (fun m => stackSocket m == socket) || (List.range 4).any (fun k => ioSocket k == socket)))

/-- STRUCTURAL_TEST (R394, R417, R409): a test of unit `kind` (R417's UNIT) of tile `gt`, index `index`, ends with result `code` at time `time`, and
an entry is appended. With `write` the test is one of socket `die`, which no logical die names, and of its tile `gt` where the unit has one. A fail
of a quarantined tile's unit makes the tile failed and its die degraded. With MODASSIST bit 3 only units named by the host, as 256 × global tile +
unit, are tested. -/
def execStructuralTest (s : State) : Host.Outcome State Fault Refusal :=
  let gt := s.ev.gt
  let unit := s.ev.kind
  if 5 < unit ∨ 2 < s.ev.code ∨ (s.md.modassist / 8 % 2 = 1 ∧ s.ev.write = false ∧ s.md.testUnits.contains (256 * gt + unit) = false) ∨
    (s.ev.write = true ∧ s.testSocket s.ev.die unit = false) then noUnit "STRUCTURAL_TEST"
  else
    let n := s.md.testIdx
    let socket := if s.ev.write then s.ev.die else s.socketOf (gt / 128)
    let s1 := s.modMd (fun m => { m with
      tests := tinsert m.tests (n % 4096) (testEntry n unit socket (if 4 ≤ unit then 0 else gt % 128) s.ev.index s.ev.code, dw s.ev.time)
      testIdx := n + 1 })
    .next (if s.ev.code = 1 ∧ s.ev.write = false ∧ unit < 4 ∧ (s.tile gt).quarantined = true then (s1.modTile gt (fun t => { t with failed := true })).modDie (gt / 128) (fun d => { d with degraded := true }) else s1)

/-! ## Dies (R16 to R20, R395) -/

def State.anySpare (s : State) : Bool := (List.range 36).any s.isSpare

/-- Bind a logical die in a new map epoch (R17, R18), or make it vacant (R19); SOCKET of a vacant entry is written 0 (log entry 61). -/
def State.rebind (s : State) (d : Nat) (socket : Option Nat) : State :=
  s.modMd (fun m => { m with
    epoch := (m.epoch + 1) % 65536
    deadSockets := sadd m.deadSockets ((s.dieEntry d).toNat % 64)
    dieMap := tinsert m.dieMap d (BitVec.ofNat 32 ((match socket with | some k => 2 ^ 31 + k | none => 0) + (m.epoch + 1) % 65536 * 64)) })

/-- Granules that a VI has allocated on a die, as its windows cover them. -/
def State.dieGranules (s : State) (v : Nat) (d : Nat) : Nat :=
  let vd := (s.vi v).vdieOf d
  if vd = 63 ∧ (s.vi v).ldie 63 ≠ some d then 0
  else ((List.range 128).map (fun t => (s.tile (d * 128 + t)).gran.countP (fun e => e.2.state != 0 && (s.vi v).covers vd e.1))).sum

/-- What a die retired at once loses: its tasks, tiles, slices and distributor (R395). -/
def State.loseDie (s : State) (d : Nat) : State :=
  let s1 := { s with
    cur := if s.taskGt s.cur / 128 = d then {} else s.cur
    others := s.others.filter (fun t => s.taskGt t / 128 != d)
    vis := s.vis.map (fun (e : Nat × Vi) => (e.1, { e.2 with granules := e.2.granules - s.dieGranules e.1 d }))
    tiles := s.tiles.filter (fun e => e.1 / 128 != d)
    dies := s.dies.filter (fun e => e.1 != d) }
  s1.clearBytes (sramKey (d * 128) 0) (2 ^ 32)

/-- Step 1 of R18 for a die retired at once: every rectangle of it is fenced, so that requests wait, and what it held is lost and reported (R395,
R411). -/
def State.fenceDie (s : State) (d : Nat) : State :=
  let n := s.tasks.countP (fun t => s.taskGt t / 128 == d)
  (((s.loseDie d).modMd (fun m => { m with retiring := m.retiring ++ [(d, false)] })).hostEvent { kind := 5, vi := 0, d1 := dw d, d2 := dw n, d3 := dw (s.md.epoch + 1) }).sortHeld

/-- Step 2 of R18: the logical die is bound to a spare socket in a new map epoch, or, with none left, becomes vacant, and every binding that names
it goes (R19). -/
def State.bindDie (s : State) (d spare : Nat) : State :=
  let s1 := if s.anySpare then s.rebind d (some spare)
    else
      let x := s.rebind d none
      { x with vis := x.vis.map (fun (e : Nat × Vi) => (e.1, { e.2 with ctx := e.2.ctx.filter (fun c => !(c.2.getLsbD 31 && c.2.toNat % 32 == d)) })) }
  s1.modMd (fun m => { m with retiring := modWhere (fun e => e.1 == d) (fun e => (e.1, true)) m.retiring })

/-- Step 3 of R18: every router holds the new epoch, the fence is released, and the requests that waited go on. -/
def State.unfenceDie (s : State) (d : Nat) : State := (s.modMd (fun m => { m with retiring := m.retiring.filter (fun e => e.1 != d) })).sortHeld

/-- DIE_RETIREMENT (R18, R19, R393, R395): a vote retires logical die `die` at once. It happens once for each step of R18: the fence, the binding to
the spare socket `index` when a spare remains, the release. In host-assisted mode step 1 waits for the host's approval (R409). -/
def execDieRetirement (s : State) : Host.Outcome State Fault Refusal :=
  let d := s.ev.die
  match s.md.retiring.find? (fun e => e.1 == d) with
  | some (_, true) => .next (s.unfenceDie d)
  | some (_, false) => if !s.voted || (s.anySpare && !s.isSpare s.ev.index) then noUnit "DIE_RETIREMENT" else .next (s.bindDie d s.ev.index)
  | none =>
    if !s.voted || decide (32 ≤ d) || !s.dieValid d then noUnit "DIE_RETIREMENT"
    else if s.md.modassist % 2 = 1 then .next ((s.modMd (fun m => { m with pendingSparing := sadd m.pendingSparing d })).hostEvent { kind := 8, vi := 0, d1 := dw d })
    else .next (s.fenceDie d)

/-- SPARING_APPROVAL (R409): the host approves the pending sparing of logical die `die`, and R18 begins with its first step. -/
def execSparingApproval (s : State) : Host.Outcome State Fault Refusal :=
  let d := s.ev.die
  if !s.md.pendingSparing.contains d then noUnit "SPARING_APPROVAL"
  else .next ((s.modMd (fun m => { m with pendingSparing := sdel m.pendingSparing d })).fenceDie d)

/-- DIE_EVACUATION (R393, R395, R396): on the host's request the slices of degraded die `die`, with their states and marks, are copied to the spare socket
`index` and the die is swapped; every VI that binds it is stopped. Failed tiles are good again on the spare. -/
def execDieEvacuation (s : State) : Host.Outcome State Fault Refusal :=
  let d := s.ev.die
  if !s.voted || !(s.die d).degraded || !s.isSpare s.ev.index || s.vis.any (fun e => e.2.ctx.any (fun c => c.2.getLsbD 31 && c.2.toNat % 32 == d) && !s.isStopped e.1) then noUnit "DIE_EVACUATION"
  else
    let s1 := (s.rebind d (some s.ev.index)).modDie d (fun x => { x with degraded := false })
    .next ({ s1 with tiles := s1.tiles.map (fun (e : Nat × Tile) => if e.1 / 128 = d then (e.1, { e.2 with failed := false, quarantined := false }) else e) }.sortHeld)

/-! ## Voters, boot and firmware (R393, R413, R414) -/

/-- HELD_STATE (R393, R411): the three voters disagree with one another; running work goes on and the host is told. -/
def execHeldState (s : State) : Host.Outcome State Fault Refusal :=
  .next ((s.modMd (fun m => { m with held := true })).hostEvent { kind := 7, vi := 0, d1 := dw s.md.number, d2 := s.md.incarnation.setWidth 64, d3 := 3 })

/-- VOTER_REPLACEMENT (R393): voter `id` has stopped answering, and SP3 takes its place. -/
def execVoterReplacement (s : State) : Host.Outcome State Fault Refusal :=
  if s.md.voters.contains s.ev.id && !s.md.voters.contains 3 then .next (s.modMd (fun m => { m with voters := sadd (sdel m.voters s.ev.id) 3 }))
  else noUnit "VOTER_REPLACEMENT"

/-- The die-map entry of a logical die as the configuration record gives it (R17). No two logical dies share a socket and SOCKET is at most 35 (R16);
an entry of the record that breaks this counts as vacant (log entry 5). -/
def bootEntry (d : Nat) : BitVec 32 :=
  let r := (Config.dieMapRecord d).toNat
  let sock := r % 64
  let ok := decide (r / 2 ^ 22 % 2 = 1) && decide (sock < 36) &&
    !(List.range d).any (fun e => decide ((Config.dieMapRecord e).toNat / 2 ^ 22 % 2 = 1) && (Config.dieMapRecord e).toNat % 64 == sock)
  BitVec.ofNat 32 ((if ok then 2 ^ 31 else 0) + r / 64 % 65536 * 64 + (if sock < 36 then sock else 0))

/-- BOOT (R413, R414): with everything verified (`ok`) the measurement chain is extended, a verified update's bank becomes active, the die map is loaded
into every router, with the map epoch of its newest entry, and the module is enabled; else it is held. -/
def execBoot (s : State) : Host.Outcome State Fault Refusal :=
  if s.md.booted then noUnit "BOOT"
  else if !s.ev.ok then .next (s.modMd (fun m => { m with held := true }))
  else
    let m0 := s.md
    let m1 := match m0.fwPending with
      | some (ver, true) => { m0 with fwActive := 1 - m0.fwActive, fwVersion := ver, fwPending := none }
      | some (_, false) => { m0 with fwPending := none }
      | none => m0
    let map := (List.range 32).map bootEntry
    .next { s.tick with md := { m1 with
      booted := true, held := false, measurement := Config.measurement s.fresh
      dieMap := map.zipIdx.foldl (fun t e => tset 0 t e.2 e.1) [], epoch := map.foldl (fun n e => max n (e.toNat / 64 % 65536)) 0 } }

/-- FIRMWARE_UPDATE (R414): the host writes Streusel version `value` to the inactive bank; `ok` says whether both signatures verify at the next boot. -/
def execFirmwareUpdate (s : State) : Host.Outcome State Fault Refusal := .next (s.modMd (fun m => { m with fwPending := some (s.ev.value, s.ev.ok) }))

/-- ATTESTATION_REQUEST (R415): a request with the nonce in `data` returns a report. -/
def execAttestationRequest (s : State) : Host.Outcome State Fault Refusal :=
  .next (s.modMd (fun m => { m with attest := some (s.ev.data.setWidth 384, Config.serialNumber, m.measurement, m.epoch, m.incarnation, m.tests.countP (fun e => bits e.2.1 0 8 == 1)) }))

end Sys2Proof.Machine
end

