-- ==== Sys2Proof/Machine/HostSide.lean ====
section
/-! DEFINITION. The host's side (R399 to R412, R416): requests through apertures, launch windows, the module control page with its refusals,
host allocation, the host event queue and the actions on trapped tasks; and control-space writes that come as events of their own. -/

namespace Sys2Proof.Machine

/-! ## Refusals and freezes of the host -/

/-- A refused write to the module control page at an offset (R404): HCSERR, and for a VI's block that VI's event log. -/
def State.hostRefuse (s : State) (v : Option Nat) (reason off : Nat) : State :=
  let page := off / 65536
  let s1 := s.modMd (fun m => { m with hcserr := addRefusal m.hcserr reason 0 page (off % 65536) })
  match v with
  | some i => s1.logEvent i 7 0 (addRefusal 0 reason 0 page (off % 65536))
  | none => s1

/-- A refusal for which R401 names no reason (log entry 11). -/
def State.hostRefuseFree (s : State) (v : Option Nat) (off : Nat) : State := s.tick.hostRefuse v (Config.hostRefusal s.fresh).toNat off

/-- A violation by a host request freezes the VI's aperture on its port (R407 KIND 4). -/
def State.freezePort (s : State) (v port cause : Nat) : State :=
  (s.modVi v (fun x => { x with frozenPorts := sadd x.frozenPorts port })).recordFreeze v 4 cause (dw port)

/-- The answer that a request leaves for the host (R402). -/
def State.hostAnswer (s : State) (v st : Nat) (d : BitVec 1024) : State := s.modMd (fun m => { m with hostReply := (v, st, d) })

/-! ## Launch windows (R403) -/

/-- The address that names a pending record of a window's slot (R403). -/
def slotAddr (w off : Nat) : Nat := 0xF * 2 ^ 52 + (0x20 + w) * 65536 + off

/-- A refused record: counted in WSTAT, CSERR and the event log (R403). -/
def State.refuseRecord (s : State) (v w reason off : Nat) : State :=
  (s.modVi v (fun x => { x with lwin := tmod {} x.lwin w (fun y => { y with refused := min (y.refused + 1) 0xFFFF }) })).refuse v reason 0 (0x20 + w) off

/-- A host write of n bytes at an offset of a launch window (R403): none while the bridge holds it, the queue being full or its slot naming a pending
launch. -/
def State.windowWrite (s : State) (v w off n : Nat) (d : BitVec 512) : Option State :=
  if n ≠ 64 ∨ off % 64 ≠ 0 ∨ 0xF80 ≤ off then some (s.refuseRecord v w 5 off)
  else if 64 ≤ (tget {} (s.vi v).lwin w).queue.length ∨ (s.vi v).launches.any (fun l => l.dep != 0 && l.addr == slotAddr w off) = true then none
  else some (s.modVi v (fun x => { x with lwin := tmod {} x.lwin w (fun y => { y with queue := y.queue ++ [(off, d)] }) }))

/-- LAUNCH_WINDOW_WRITE (R403): a host write of `size` bytes at `offset` of launch window `index` of VI `vi`, through port `id`. -/
def execLaunchWindowWrite (s : State) : Host.Outcome State Fault Refusal :=
  let v := s.ev.vi
  if 64 ≤ v ∨ 4 ≤ s.ev.index then noUnit "LAUNCH_WINDOW_WRITE"
  else if (s.vi v).frozenPorts.contains s.ev.id then .next (s.hostAnswer v 1 0)
  else match s.windowWrite v s.ev.index s.ev.offset s.ev.size (s.ev.data.setWidth 512) with
    | some s1 => .next s1
    | none => noUnit "LAUNCH_WINDOW_WRITE"

/-! ## Registers as the host reads them (R402, R404) -/

/-- WSTAT of a launch window (R403). -/
def LWin.wstat (w : LWin) : DWord := dw (w.last % 2 ^ 32 * 2 ^ 32 + w.queue.length * 65536 + min w.refused 0xFFFF)

/-- A control-space request of the host as VI v (R399, R402, R403). -/
def State.hostCtrl (s : State) (v vdie page off n : Nat) (write : Bool) (d : Nat) : State :=
  if 0x20 ≤ page ∧ page ≤ 0x23 then
    if !write && off == 0xF80 && n == 8 then s.hostAnswer v 0 ((tget {} (s.vi v).lwin (page - 0x20)).wstat.setWidth 1024) else s.hostAnswer v 1 0
  else if write then
    if n ≠ 8 then s.hostAnswer v 1 0
    else match s.ctrlWrite v vdie page off (dw d) with
      | .ok s1 => s1.hostAnswer v 0 0
      | _ => s.hostAnswer v 1 0
  else match (if n = 4 ∨ n = 8 then s.ctrlRead v vdie page off n else none) with
    | some x => s.hostAnswer v 0 (x.setWidth 1024)
    | none => s.hostAnswer v 1 0

/-- A register of a VI's block as the host reads it (R404 to R406); the write-only FRZCLR and HALLOCN read as zero (R9). -/
def Vi.blockRead (x : Vi) (off n : Nat) : Option DWord :=
  if n = 4 then (if 0x100 ≤ off ∧ off < 0x200 ∧ off % 4 = 0 then some ((tget 0 x.ctx ((off - 0x100) / 4)).setWidth 64) else none)
  else if n ≠ 8 ∨ off % 8 ≠ 0 then none
  else if off = 0x000 then
    some (dw ((if x.enable then 2 ^ 63 else 0) + (if x.stop then 2 ^ 62 else 0) + (if x.stopped then 2 ^ 61 else 0) + (if x.rect then 2 ^ 60 else 0) +
      x.prio % 4 * 2 ^ 56 + x.assist % 16))
  else if off = 0x008 then some (dw x.jobtag)
  else if off = 0x010 then some (dw (x.quotaGran % 2 ^ 32 * 2 ^ 32 + x.quotaLaunch % 512))
  else if off = 0x018 ∨ off = 0x028 then some 0
  else if off = 0x020 then some x.halloca
  else if off = 0x030 then some x.hallocst
  else if 0x040 ≤ off ∧ off < 0x080 then some (tget 0 x.sramWin ((off - 0x40) / 8))
  else none

/-- Doubleword k of an entry of the host event queue (R411). -/
def HEvent.word (e : HEvent) (k : Nat) : DWord :=
  match k with
  | 0 => dw (e.kind * 2 ^ 56 + e.vi % 64 * 2 ^ 48)
  | 1 => e.d1
  | 2 => e.d2
  | _ => e.d3

/-- A register of the module block as the host reads it (R404, R409 to R412, R416, R417); those that only start an action read as zero (R9). -/
def Module.blockRead (m : Module) (off n : Nat) : Option DWord :=
  if n ≠ 8 ∨ off % 8 ≠ 0 then none
  else if off = 0x000 then some (dw m.modassist)
  else if off = 0x008 ∨ off = 0x018 ∨ off = 0x020 ∨ off = 0x028 ∨ off = 0x068 ∨ off = 0x108 then some 0
  else if off = 0x010 then some (dw m.scrubDiv)
  else if off = 0x030 then some m.erasgrp
  else if off = 0x040 then some (dw m.idle)
  else if off = 0x048 then some (dw m.testIdx)
  else if off = 0x050 then some (m.heqidx.setWidth 64)
  else if off = 0x058 then some (m.heqack.setWidth 64)
  else if off = 0x060 then some m.hewp
  else if off = 0x070 then some m.hestat
  else if off = 0x078 then some m.hcserr
  else if 0x0B0 ≤ off ∧ off < 0x100 then some (tget 0 m.erasmem ((off - 0xB0) / 8))
  else if off = 0x100 then some m.hleaf
  else if 0x400 ≤ off ∧ off < 0x400 + 8 * 56 then some (dw (tget 2800 m.ceiling ((off - 0x400) / 8)))
  else if 0x10000 ≤ off ∧ off < 0x20000 then
    let e := tget (0, 0) m.tests ((off - 0x10000) / 16)
    some (if off % 16 = 0 then e.1 else e.2)
  else if 0x20000 ≤ off ∧ off < 0x28000 then some ((tget { kind := 0, vi := 0 } m.heq ((off - 0x20000) / 32)).word (off / 8 % 4))
  else none

/-- A read of the module control page through aperture 64 (R402, R404); an address that no rule gives a readable register answers an error. -/
def State.pageRead (s : State) (a n : Nat) : State :=
  match (if a < 0x40000 then ({ s.vi (a / 4096) with stopped := s.isStopped (a / 4096) } : Vi).blockRead (a % 4096) n else s.md.blockRead (a - 0x40000) n) with
  | some x => s.hostAnswer 64 0 (x.setWidth 1024)
  | none => s.hostAnswer 64 1 0

/-- HOST_LAUNCH_START (R312, R403): the record at the head of launch window `index` of VI `vi` is processed as a supervisor's LAUNCH, once the launch table
has room. -/
def execHostLaunchStart (s : State) : Host.Outcome State Fault Refusal :=
  let v := s.ev.vi
  let w := s.ev.index
  let x := s.vi v
  match (tget {} x.lwin w).queue with
  | [] => noUnit "HOST_LAUNCH_START"
  | (off, rec_) :: rest =>
    let r := dwordsOf 8 (toBytes 64 rec_.toNat)
    let s1 := s.modVi v (fun y => { y with lwin := tmod {} y.lwin w (fun z => { z with queue := rest }) })
    let named := recDep r ≠ 0 ∧ x.launches.any (fun l => l.dep != 0 && l.addr == slotAddr w off) = true
    if x.stop then .next (s1.refuseRecord v w 8 off)
    else if (recCheck s v true r).isSome ∨ (recPlace r = 0 ∧ x.assist / 8 % 2 = 1) then .next (s1.refuseRecord v w 5 off)
    else
      let go : Host.Outcome State Fault Refusal :=
        if named ∨ 256 ≤ x.launches.length then noUnit "HOST_LAUNCH_START"
        else if x.quotaLaunch ≤ x.launches.length then .next (s1.freezePort v s.ev.id 2)
        else
          let e := s1.enterLaunch v (slotAddr w off) r
          .next (e.1.modVi v (fun y => { y with lwin := tmod {} y.lwin w (fun z => { z with last := e.2 }) }))
      if recBsp r then
        match s.grpCheck ⟨v, true, 0⟩ 0 (recGrec r) with
        | .ok _ => go
        | .trap _ => .next (s1.refuseRecord v w 5 off)
        | .freeze c => .next (s1.freezePort v s.ev.id c)
        | .park _ => noUnit "HOST_LAUNCH_START"
      else go

/-! ## The VI block (R404 to R407) -/

/-- VI_ENABLE (R404, R408): VICTL.ENABLE of VI `vi` is set; EVIDX counts from here. -/
def execViEnable (s : State) : Host.Outcome State Fault Refusal :=
  if 64 ≤ s.ev.vi then noUnit "VI_ENABLE" else .next (s.modVi s.ev.vi (fun x => { x with enable := true, evidx := if x.enable then x.evidx else 0 }))

/-- VI_STOP (R404): VICTL.STOP of VI `vi` is set. -/
def execViStop (s : State) : Host.Outcome State Fault Refusal :=
  if 64 ≤ s.ev.vi then noUnit "VI_STOP" else .next (s.modVi s.ev.vi (fun x => { x with stop := true }))

/-- VI_STOPPED (R95, R404): STOPPED of VI `vi` becomes 1. -/
def execViStopped (s : State) : Host.Outcome State Fault Refusal :=
  if s.quiet s.ev.vi then .next (s.modVi s.ev.vi (fun x => { x with stopped := true })) else noUnit "VI_STOPPED"

/-- A write of VICTL (R404): every field but STOPPED. A VI started again runs its held tasks (R396). -/
def State.writeVictl (s : State) (v : Nat) (d : DWord) : State :=
  let s1 := s.modVi v (fun x => { x with
    enable := bit d 63, stop := bit d 62, stopped := x.stopped && bit d 62, rect := bit d 60, prio := bits d 56 2, assist := bits d 0 4
    evidx := if bit d 63 && !x.enable then 0 else x.evidx })
  if bit d 62 then s1 else s1.sortHeld

/-- A write of a VI's JOBTAG, refused where another enabled VI holds the non-zero tag (R404). -/
def State.writeJobtag (s : State) (v value : Nat) : State :=
  let tag := value % 65536
  if tag ≠ 0 ∧ s.vis.any (fun e => e.1 != v && e.2.enable && e.2.jobtag == tag) = true then s.hostRefuseFree (some v) (4096 * v + 8)
  else s.modVi v (fun x => { x with jobtag := tag })

/-- JOBTAG_WRITE (R404): sets the domain job tag of VI `vi`, unless another enabled VI holds the non-zero tag. -/
def execJobtagWrite (s : State) : Host.Outcome State Fault Refusal :=
  if 64 ≤ s.ev.vi then noUnit "JOBTAG_WRITE" else .next (s.writeJobtag s.ev.vi s.ev.value)

/-- A write of FRZCLR: every frozen master of a VI is released; a frozen task stays trapped (R407). -/
def State.clearFreezes (s : State) (v : Nat) : State := s.modVi v (fun x => { x with frozenPorts := [], frz0 := 0, frz1 := 0 })

/-- FRZCLR (R407): every frozen master of VI `vi` is released. -/
def execFrzclr (s : State) : Host.Outcome State Fault Refusal :=
  if 64 ≤ s.ev.vi then noUnit "FRZCLR" else .next (s.clearFreezes s.ev.vi)

/-- A write of a VI's context entry, refused unless the VI is STOPPED, and for a logical die that another entry binds (R94, R95, R404). -/
def State.writeContext (s : State) (v n value : Nat) : State :=
  let e : BitVec 32 := BitVec.ofNat 32 value &&& 0x8000001F#32
  let twice := e.getLsbD 31 && (s.vi v).ctx.any (fun c => c.1 != n && c.2.getLsbD 31 && c.2.toNat % 32 == e.toNat % 32)
  if !s.isStopped v || twice then s.hostRefuse (some v) 4 (4096 * v + 0x100 + 4 * n) else s.modVi v (fun x => { x with ctx := tset 0 x.ctx n e })

/-- CONTEXT_ENTRY_WRITE (R94, R95, R404): entry `vdie` of VI `vi` is written with `value`. -/
def execContextEntryWrite (s : State) : Host.Outcome State Fault Refusal :=
  if 64 ≤ s.ev.vi ∨ 64 ≤ s.ev.vdie then noUnit "CONTEXT_ENTRY_WRITE" else .next (s.writeContext s.ev.vi s.ev.vdie s.ev.value)

/-- HALLOCN (R406): ALLOC or FREE for a VI with the address and operation in HALLOCA. -/
def State.hostAlloc (s : State) (v port gb : Nat) : State :=
  let h := (s.vi v).halloca
  let ga := bits h 0 56
  let done (s : State) (st : Nat) : State := s.modVi v (fun x => { x with hallocst := dw (2 ^ 63 + st) })
  match s.check1 ⟨v, true, 0⟩ 0 rRD ga with
  | .ok (.sram gt _) =>
    match s.allocFree v gt (aVdie ga) (bit h 63) ga gb with
    | .status n s1 => done s1 n
    | .freeze c => s.freezePort v port c
  | .freeze _ =>
    -- in no window of the VI: a size or place status of R140 comes first
    match allocRange ga gb with
    | .inl e => done s e
    | .inr _ => s.freezePort v port 1
  | _ => done s 7

/-- HOST_ALLOC (R140, R406): the HALLOCN write of VI `vi` with OP 0, for `size` bytes. -/
def execHostAlloc (s : State) : Host.Outcome State Fault Refusal :=
  if 64 ≤ s.ev.vi ∨ bit (s.vi s.ev.vi).halloca 63 = true then noUnit "HOST_ALLOC" else .next (s.hostAlloc s.ev.vi s.ev.id s.ev.size)
/-- HOST_FREE (R140, R406): the HALLOCN write of VI `vi` with OP 1, for `size` bytes. -/
def execHostFree (s : State) : Host.Outcome State Fault Refusal :=
  if 64 ≤ s.ev.vi ∨ bit (s.vi s.ev.vi).halloca 63 = false then noUnit "HOST_FREE" else .next (s.hostAlloc s.ev.vi s.ev.id s.ev.size)

/-! ## The module block (R404, R409 to R412, R416) -/

/-- Whether a frame of the module has KIND 1 or 2 (R410). -/
def State.anyProtected (s : State) : Bool := s.md.homeMap.any (fun e => let k := (e.2.toNat >>> 22) % 4; k == 1 || k == 2)

/-- TRAP_CONFIGURATION_WRITE (R373): a supervisor of VI `vi` writes `value`. -/
def execTrapConfigurationWrite (s : State) : Host.Outcome State Fault Refusal := .next (s.storeTrapCfg s.ev.vi (dw s.ev.value) 0x48)

/-- MAILBOX_ENTRY_WRITE (R336, R400): a supervisor of VI `vi` writes doubleword `kind` of mailbox `id` of tile `index` of `vdie`. -/
def execMailboxEntryWrite (s : State) : Host.Outcome State Fault Refusal :=
  .next (s.storeMailbox s.ev.vi s.ev.vdie (s.ev.index % 128) (s.ev.id % 16) (s.ev.kind % 4) (dw s.ev.value) (512 * (s.ev.index % 128) + 32 * (s.ev.id % 16) + 8 * (s.ev.kind % 4)))

/-- STREAM_ENTRY_WRITE (R263, R400): a supervisor of VI `vi` writes stream `id` of `vdie`. -/
def execStreamEntryWrite (s : State) : Host.Outcome State Fault Refusal := .next (s.storeStream s.ev.vi s.ev.vdie (s.ev.id % 256) (dw s.ev.value) (8 * (s.ev.id % 256)))

/-- WORK_QUEUE_CONFIG_WRITE (R319, R400): a supervisor of VI `vi` writes work queue `id` of `vdie`. -/
def execWorkQueueConfigWrite (s : State) : Host.Outcome State Fault Refusal := .next (s.storeQueue s.ev.vi s.ev.vdie (s.ev.id % 64) (dw s.ev.value) (0x800 + 8 * (s.ev.id % 64)))

/-- RECTANGLE_WRITE (R391, R400): a supervisor of VI `vi` writes rectangle register `id` of `vdie`. -/
def execRectangleWrite (s : State) : Host.Outcome State Fault Refusal := .next (s.storeRect s.ev.vi s.ev.vdie (s.ev.id % 128) (dw s.ev.value) (0x1000 + 8 * (s.ev.id % 128)))

/-- LCANCEL (R396): a supervisor of VI `vi` cancels launch `value`. -/
def execLcancel (s : State) : Host.Outcome State Fault Refusal := .next (s.cancelLaunch s.ev.vi (s.ev.value % 2 ^ 32))

/-- REBUILD_START (R105, R409): the host starts the pending erasure rebuild of the member at position `id`. -/
def execRebuildStart (s : State) : Host.Outcome State Fault Refusal :=
  if s.md.pendingRebuild.contains s.ev.id then .next (s.modMd (fun m => { m with pendingRebuild := sdel m.pendingRebuild s.ev.id })) else noUnit "REBUILD_START"

/-- A write of ERASKIND sets the KIND of a range of frames; refused unless the erasure group is VALID and the frames' owners are STOPPED (R102, R409). -/
def State.writeEraskind (s : State) (d : DWord) : State :=
  let mine (k : Nat) : Bool := let f := k * 128 / 2 ^ 21; decide (bits d 0 19 ≤ f) && decide (f < bits d 0 19 + bits d 44 20)
  let s1 := (s.md.dir.filter (fun e => mine e.1)).foldl (fun x e => if e.2.owner.any (fun o => o.1 == s.md.number) then x.dropOwn (e.1 * 128) else x) s
  if s.eraskindBad d then s.hostRefuseFree none 0x40028
  else match s1.md.dir.find? (fun e => mine e.1 && e.2.owner.isSome) with
    -- a line of a protected frame is held in S only (R120): an exclusive holder gives it up first
    | some e => s.askLine {} (lineKey s.md.number (e.1 * 128)) 3
    | none => (List.range (bits d 44 20)).foldl (fun x i => x.setKind (bits d 0 19 + i) (bits d 40 2)) s1

/-- ERASKIND (R102, R409): the host stores `value`. -/
def execEraskind (s : State) : Host.Outcome State Fault Refusal := .next (s.writeEraskind (dw s.ev.value))

/-- Packet kind of an erasure member list (R410). -/
def kList : Nat := 19

/-- The members of the erasure group, and the list as it is exchanged. -/
def Module.members (m : Module) : List Nat := (List.range 10).map m.member
def Module.memberList (m : Module) : BitVec 1024 := BitVec.ofNat 1024 (packedJoin 10 m.members)

/-- A write of ERASGRP, refused while a frame is protected; with SET the member list goes to the other members (R410). -/
def State.writeErasgrp (s : State) (d : DWord) : State :=
  if s.anyProtected then s.hostRefuseFree none 0x40030
  else
    let s1 := s.modMd (fun m => { m with erasgrp := d &&& 0x400000000000000F })
    if bit d 62 then (s1.md.members.filter (· != s.md.number)).foldl (fun x p => x.modMd (fun m => m.send cMGT p kList s1.md.pos s1.md.memberList)) s1 else s1

/-- ERASGRP_SET (R410): the host writes SET = 1 with the position `value`. -/
def execErasgrpSet (s : State) : Host.Outcome State Fault Refusal := .next (s.writeErasgrp (dw (2 ^ 62 + s.ev.value % 16)))

/-- ERASURE_GROUP_MATCH (R410): the service processors find that the last list of each of the other nine members matches this one's and that every
member's POS, this one's too, is its own place in the list; VALID becomes 1. -/
def execErasureGroupMatch (s : State) : Host.Outcome State Fault Refusal :=
  let alike (p : Nat) : Bool := s.md.member p == s.md.number ||
    match s.md.inbox.reverse.find? (fun x => x.kind == kList && x.src == s.md.member p) with
    | some x => x.data == s.md.memberList && x.addr == p
    | none => false
  if bit s.md.erasgrp 62 && s.md.member s.md.pos == s.md.number && (List.range 10).all alike then .next (s.modMd (fun m => { m with erasgrp := setBit m.erasgrp 63 true }))
  else noUnit "ERASURE_GROUP_MATCH"

/-- A write of HEQACK: the host has consumed events up to a count, and held events are appended (R411). -/
def State.writeHeqack (s : State) (n : Nat) : State :=
  let s1 := s.modMd (fun m => { m with heqack := BitVec.ofNat 32 n, heqWait := [] })
  s.md.heqWait.foldl (fun x e => x.hostEvent e) s1

/-- HEQACK (R411): the host writes `value`. -/
def execHeqack (s : State) : Host.Outcome State Fault Refusal := .next (s.writeHeqack s.ev.value)

/-- A write of HEACT: action k on the task that HEWP names (R376, R412). -/
def State.hostAct (s : State) (k : Nat) : State :=
  let status (s : State) (st : Nat) : State := s.modMd (fun m => { m with hestat := dw (2 ^ 63 + st) })
  match s.trapped? (bits s.md.hewp 56 6) (bits s.md.hewp 0 56) with
  | none => status s 1
  | some t => if k < 3 ∧ s.eretOk t k = true then status (s.finishTrap t k) 0 else status s 2

/-- HEACT_RESUME (R412). -/
def execHeactResume (s : State) : Host.Outcome State Fault Refusal := .next (s.hostAct 0)
/-- HEACT_END (R412). -/
def execHeactEnd (s : State) : Host.Outcome State Fault Refusal := .next (s.hostAct 1)
/-- HEACT_DISCARD (R412). -/
def execHeactDiscard (s : State) : Host.Outcome State Fault Refusal := .next (s.hostAct 2)

/-- A write to a register of the module block (R404, R409 to R412, R416); read-only offsets keep their contents, and approvals, firmware and
attestation come by rows of their own. -/
def State.writeModule (s : State) (off : Nat) (d : DWord) : State :=
  let set (f : Module → Module) : State := s.modMd f
  let full := 0x40000 + off
  if off = 0x000 then set (fun m => { m with modassist := bits d 0 4 })
  else if off = 0x010 then (if 8 ≤ d.toNat ∧ d.toNat ≤ 64 then set (fun m => { m with scrubDiv := d.toNat }) else s)
  else if off = 0x020 then set (fun m => { m with testUnits := sadd m.testUnits d.toNat })
  else if off = 0x028 then s.writeEraskind d
  else if off = 0x030 then s.writeErasgrp d
  else if off = 0x040 then (if 4096 ≤ d.toNat ∧ d.toNat < 2 ^ 32 then set (fun m => { m with idle := d.toNat }) else s)
  else if off = 0x058 then s.writeHeqack (bits d 0 32)
  else if off = 0x060 then set (fun m => { m with hewp := d &&& 0x3FFFFFFFFFFFFFFF })
  else if off = 0x068 then s.hostAct (bits d 0 2)
  else if off = 0x078 then set (fun m => { m with hcserr := if bits d 56 8 = 0 then 0 else d &&& 0xFFFF3F00FFFFFFFF })
  else if 0x0B0 ≤ off ∧ off < 0x100 ∧ off % 8 = 0 then
    if s.anyProtected then s.hostRefuseFree none full else set (fun m => { m with erasmem := tset 0 m.erasmem ((off - 0xB0) / 8) (d &&& 0x3FF) })
  else if off = 0x100 then set (fun m => { m with hleaf := d })
  else if off = 0x108 then s.hostWalk (bits d 0 16)
  else if 0x400 ≤ off ∧ off < 0x400 + 8 * 56 ∧ off % 8 = 0 then
    let k := (off - 0x400) / 8
    let c := bits d 0 12
    if 1000 ≤ c ∧ c ≤ 2800 then set (fun m => { m with ceiling := tset 2800 m.ceiling k c, freq := tset 2500 m.freq k (min (m.freqOf k) c) }) else s
  else s

/-- A write to a register of a VI's block (R404 to R407), the host being at port `port`. -/
def State.writeViBlock (s : State) (v off port : Nat) (d : DWord) : State :=
  let set (f : Vi → Vi) : State := s.modVi v f
  if off = 0x000 then s.writeVictl v d
  else if off = 0x008 then s.writeJobtag v d.toNat
  else if off = 0x010 then set (fun x => { x with quotaGran := bits d 32 32, quotaLaunch := bits d 0 9 })
  else if off = 0x018 then s.clearFreezes v
  else if off = 0x020 then set (fun x => { x with halloca := d &&& 0x80FFFFFFFFFFFFFF })
  else if off = 0x028 then s.hostAlloc v port d.toNat
  else if 0x100 ≤ off ∧ off < 0x200 ∧ off % 4 = 0 then s.writeContext v ((off - 0x100) / 4) d.toNat
  else if 0x040 ≤ off ∧ off < 0x080 ∧ off % 8 = 0 then set (fun x => { x with sramWin := tset 0 x.sramWin ((off - 0x40) / 8) (d &&& 0xBF0001FFFF01FFFF) })
  else s

/-- CONTROL_SPACE_WRITE (R399, R401, R404): a supervisor of VI `vi` writes `value` at `offset` of page `index` of `vdie` (`kind` 0), a full queue
parking the task `key`; or the host writes it at `addr` of the module control page (`kind` 1). -/
def execControlSpaceWrite (s : State) : Host.Outcome State Fault Refusal :=
  let d := dw s.ev.value
  if s.ev.kind = 0 then
    match s.ctrlWrite s.ev.vi s.ev.vdie s.ev.index s.ev.offset d with
    | .fault => noUnit "CONTROL_SPACE_WRITE"
    | w => .next (s.queued w)
  else if 0x40000 ≤ s.ev.addr then .next (s.writeModule (s.ev.addr - 0x40000) d)
  else .next (s.writeViBlock (s.ev.addr / 4096) (s.ev.addr % 4096) s.ev.id d)

/-! ## Requests of the host (R402) -/

/-- HOST_REQUEST (R402, R404, R405, R407): aperture `vi` reads or writes `size` bytes at `addr` with the checks of a supervisor's request; `id` is
the host port. Aperture 64 is the module control page. A write that a queue holds up, or a request that waits
for a line, a moving frame or a fenced tile, comes again. -/
def execHostRequest (s : State) : Host.Outcome State Fault Refusal :=
  let v := s.ev.vi
  let a := s.ev.addr
  let n := s.ev.size
  let d := dw s.ev.data.toNat
  if v = 64 ∧ s.ev.write = false then .next (s.pageRead a n)
  else if v = 64 then .next ((if 0x40000 ≤ a then s.writeModule (a - 0x40000) d else s.writeViBlock (a / 4096) (a % 4096) s.ev.id d).hostAnswer 64 0 0)
  else if 64 ≤ v ∨ n = 0 ∨ 128 < n then noUnit "HOST_REQUEST"
  else if (s.vi v).frozenPorts.contains s.ev.id then .next (s.hostAnswer v 1 0)
  else
    let at_ (l : Loc) : Host.Outcome State Fault Refusal :=
      if n ≤ 8 ∧ a % n ≠ 0 then .next (s.hostAnswer v 1 0)
      else if s.ev.write then
        let w := s.writeLoc (s.viMaster v) 0 0 [] l (toBytes n s.ev.data.toNat) (List.replicate n false)
        if (s.writeHeld (2 ^ 63) l n).isSome then noUnit "HOST_REQUEST"
        else match w.stop with
          | none => .next ((w.s.countHits (decide (s.md.nextSeq < w.s.md.nextSeq)) l n).hostAnswer v 0 0)
          | some (.park (.line k c)) => .next (s.askLine (s.viMaster v) k c)
          | some (.park _) => noUnit "HOST_REQUEST"
          | some _ => .next (s.hostAnswer v 1 0)
      else
        let r := s.readLoc .task 0 0 [] l n
        match r.stop with
        | none => .next (if r.bytes.any (·.2) then s.hostAnswer v 2 0 else s.hostAnswer v 0 (BitVec.ofNat 1024 (ofBytes (r.bytes.map (·.1)))))
        | some (.park (.line k c)) => .next (s.askLine (s.viMaster v) k c)
        | some (.park _) => noUnit "HOST_REQUEST"
        | some _ => .next (s.hostAnswer v 1 0)
    if aRegion a = 1 ∨ aRegion a = 2 then
      match s.hwLoc v a (if s.ev.write then rWR else rRD), s.hwLoc v (a + n - 1) (if s.ev.write then rWR else rRD) with
      | .ok l, .ok _ => if s.ownTagBad (s.viMaster v) l then .next ((s.freezePort v s.ev.id 3).hostAnswer v 1 0) else at_ l
      | .park p, _ => s.whenHw v "HOST_REQUEST" (.park p) s
      | .ok _, .park p => s.whenHw v "HOST_REQUEST" (.park p) s
      | _, _ => .next (s.hostAnswer v 1 0)
    else match s.check ⟨v, true, 0⟩ 0 (if s.ev.write then rWR else rRD) a n with
      | .ok (.ctrl vdie page off) =>
        if 0x20 ≤ page ∧ page ≤ 0x23 ∧ vdie = 0 ∧ s.ev.write = true then
          match s.windowWrite v (page - 0x20) off n (s.ev.data.setWidth 512) with
          | some s1 => .next (s1.hostAnswer v 0 0)
          | none => noUnit "HOST_REQUEST"
        else if n ≤ 8 ∧ a % n ≠ 0 then .next (s.hostAnswer v 1 0)
        else if page = 0 ∧ s.ev.write = true ∧ n = 8 then
          match s.ctrlWrite v vdie page off (dw s.ev.data.toNat) with
          | .park _ => noUnit "HOST_REQUEST"
          | _ => .next (s.hostCtrl v vdie page off n true s.ev.data.toNat)
        else .next (s.hostCtrl v vdie page off n s.ev.write s.ev.data.toNat)
      | .ok l => at_ l
      | .freeze c => .next ((s.freezePort v s.ev.id c).hostAnswer v 1 0)
      | .park p => s.whenHw v "HOST_REQUEST" (.park p) s
      | .trap _ => .next (s.hostAnswer v 1 0)

end Sys2Proof.Machine
end

