-- ==== Sys2Proof/Machine/Scalar.lean ====
section
/-! DEFINITION. Scalar arithmetic, moves, constants and address forming (R211 to R218). Tags propagate by R200 and R202, and a dead
register reads zero and discards writes (R198). -/

namespace Sys2Proof.Machine

/-- Write a G register of the issuing task. -/
def State.setG (s : State) (d : BitVec 5) (x : RegV) : State := { s with cur := s.cur.wrG d x }

/-- gd = f(ga, gb), tags ORed (R200). -/
def alu2 (a b d : BitVec 5) (f : DWord → DWord → DWord) (s : State) : Act :=
  let x := s.cur.rdG a
  let y := s.cur.rdG b
  .next { s with cur := (s.cur.noteReads [a, b]).wrG d ⟨f x.v y.v, x.p || y.p, x.t || y.t⟩ }

/-- gd = f(ga), tags kept (R200). -/
def alu1 (a d : BitVec 5) (f : DWord → DWord) (s : State) : Act :=
  let x := s.cur.rdG a
  .next { s with cur := (s.cur.noteReads [a]).wrG d ⟨f x.v, x.p, x.t⟩ }

/-- Leading zero bits of an n-bit number. -/
def leadZeros : Nat → Nat → Nat
  | 0, _ => 0
  | n + 1, x => if 2 ^ n ≤ x then 0 else 1 + leadZeros n x

/-- Trailing zero bits of an n-bit number. -/
def trailZeros : Nat → Nat → Nat
  | 0, _ => 0
  | n + 1, x => if x % 2 = 1 then 0 else 1 + trailZeros n (x / 2)

/-- 1 bits of an n-bit number. -/
def popCount : Nat → Nat → Nat
  | 0, _ => 0
  | n + 1, x => x % 2 + popCount n (x / 2)

/-- sign_extend of the low w bits (R213). -/
def signExtendW (w : Nat) (a : DWord) : DWord := BitVec.ofInt 64 (sval w (a.toNat % 2 ^ w))

/-- The address MKSA forms (R214); operands out of range give an address of region 0x3. -/
def mksaAddr (a b : DWord) : DWord :=
  if 2 ^ 13 ≤ a.toNat ∨ 0x1800000 ≤ b.toNat then 0x0030000000000000
  else dw (flat (a.toNat / 128) (a.toNat % 128) b.toNat)

/-- ADD (R211): a + b. -/
def execAdd (b a d : BitVec 5) (q : BitVec 4) (s : State) : Host.Outcome State Fault Refusal :=
  run (.add b a d q) q s (fun s => alu2 a b d (fun a b => a + b) s)

/-- SUB (R211): a − b. -/
def execSub (b a d : BitVec 5) (q : BitVec 4) (s : State) : Host.Outcome State Fault Refusal :=
  run (.sub b a d q) q s (fun s => alu2 a b d (fun a b => a - b) s)

/-- AND (R211): a & b. -/
def execAnd (b a d : BitVec 5) (q : BitVec 4) (s : State) : Host.Outcome State Fault Refusal :=
  run (.and b a d q) q s (fun s => alu2 a b d (fun a b => a &&& b) s)

/-- OR (R211): a | b. -/
def execOr (b a d : BitVec 5) (q : BitVec 4) (s : State) : Host.Outcome State Fault Refusal :=
  run (.or b a d q) q s (fun s => alu2 a b d (fun a b => a ||| b) s)

/-- XOR (R211): a ^ b. -/
def execXor (b a d : BitVec 5) (q : BitVec 4) (s : State) : Host.Outcome State Fault Refusal :=
  run (.xor b a d q) q s (fun s => alu2 a b d (fun a b => a ^^^ b) s)

/-- ANDN (R211): a & ~b. -/
def execAndn (b a d : BitVec 5) (q : BitVec 4) (s : State) : Host.Outcome State Fault Refusal :=
  run (.andn b a d q) q s (fun s => alu2 a b d (fun a b => a &&& ~~~b) s)

/-- ORN (R211): a | ~b. -/
def execOrn (b a d : BitVec 5) (q : BitVec 4) (s : State) : Host.Outcome State Fault Refusal :=
  run (.orn b a d q) q s (fun s => alu2 a b d (fun a b => a ||| ~~~b) s)

/-- XNOR (R211): ~(a ^ b). -/
def execXnor (b a d : BitVec 5) (q : BitVec 4) (s : State) : Host.Outcome State Fault Refusal :=
  run (.xnor b a d q) q s (fun s => alu2 a b d (fun a b => ~~~(a ^^^ b)) s)

/-- SHL (R211): a × 2^(b mod 64). -/
def execShl (b a d : BitVec 5) (q : BitVec 4) (s : State) : Host.Outcome State Fault Refusal :=
  run (.shl b a d q) q s (fun s => alu2 a b d (fun a b => a <<< (b.toNat % 64)) s)

/-- SHR (R211): a div 2^(b mod 64), unsigned. -/
def execShr (b a d : BitVec 5) (q : BitVec 4) (s : State) : Host.Outcome State Fault Refusal :=
  run (.shr b a d q) q s (fun s => alu2 a b d (fun a b => a >>> (b.toNat % 64)) s)

/-- SRA (R211): a div 2^(b mod 64), signed. -/
def execSra (b a d : BitVec 5) (q : BitVec 4) (s : State) : Host.Outcome State Fault Refusal :=
  run (.sra b a d q) q s (fun s => alu2 a b d (fun a b => a.sshiftRight (b.toNat % 64)) s)

/-- ROR (R211): a rotated right by b mod 64. -/
def execRor (b a d : BitVec 5) (q : BitVec 4) (s : State) : Host.Outcome State Fault Refusal :=
  run (.ror b a d q) q s (fun s => alu2 a b d (fun a b => a.rotateRight (b.toNat % 64)) s)

/-- MIN (R211): the signed minimum. -/
def execMin (b a d : BitVec 5) (q : BitVec 4) (s : State) : Host.Outcome State Fault Refusal :=
  run (.min b a d q) q s (fun s => alu2 a b d (fun a b => if a.slt b then a else b) s)

/-- MAX (R211): the signed maximum. -/
def execMax (b a d : BitVec 5) (q : BitVec 4) (s : State) : Host.Outcome State Fault Refusal :=
  run (.max b a d q) q s (fun s => alu2 a b d (fun a b => if a.slt b then b else a) s)

/-- MINN (R211): the unsigned minimum. -/
def execMinn (b a d : BitVec 5) (q : BitVec 4) (s : State) : Host.Outcome State Fault Refusal :=
  run (.minn b a d q) q s (fun s => alu2 a b d (fun a b => if a.ult b then a else b) s)

/-- MAXN (R211): the unsigned maximum. -/
def execMaxn (b a d : BitVec 5) (q : BitVec 4) (s : State) : Host.Outcome State Fault Refusal :=
  run (.maxn b a d q) q s (fun s => alu2 a b d (fun a b => if a.ult b then b else a) s)

/-- MUL (R212): the low 64 bits of a × b. -/
def execMul (b a d : BitVec 5) (q : BitVec 4) (s : State) : Host.Outcome State Fault Refusal :=
  run (.mul b a d q) q s (fun s => alu2 a b d (fun a b => a * b) s)

/-- MULH (R212): (a_s × b_s) >> 64. -/
def execMulh (b a d : BitVec 5) (q : BitVec 4) (s : State) : Host.Outcome State Fault Refusal :=
  run (.mulh b a d q) q s (fun s => alu2 a b d (fun a b => BitVec.ofInt 64 ((a.toInt * b.toInt) >>> 64)) s)

/-- MULHN (R212): (a_u × b_u) >> 64. -/
def execMulhn (b a d : BitVec 5) (q : BitVec 4) (s : State) : Host.Outcome State Fault Refusal :=
  run (.mulhn b a d q) q s (fun s => alu2 a b d (fun a b => BitVec.ofNat 64 ((a.toNat * b.toNat) >>> 64)) s)

/-- DIV (R212): div_i (R65). -/
def execDiv (b a d : BitVec 5) (q : BitVec 4) (s : State) : Host.Outcome State Fault Refusal :=
  run (.div b a d q) q s (fun s => alu2 a b d (fun a b => BitVec.ofInt 64 (divI a.toInt b.toInt 64)) s)

/-- DIVN (R212): div_n (R65). -/
def execDivn (b a d : BitVec 5) (q : BitVec 4) (s : State) : Host.Outcome State Fault Refusal :=
  run (.divn b a d q) q s (fun s => alu2 a b d (fun a b => BitVec.ofNat 64 (divN a.toNat b.toNat 64)) s)

/-- REM (R212): rem_i (R65). -/
def execRem (b a d : BitVec 5) (q : BitVec 4) (s : State) : Host.Outcome State Fault Refusal :=
  run (.rem b a d q) q s (fun s => alu2 a b d (fun a b => BitVec.ofInt 64 (remI a.toInt b.toInt 64)) s)

/-- REMN (R212): rem_n (R65). -/
def execRemn (b a d : BitVec 5) (q : BitVec 4) (s : State) : Host.Outcome State Fault Refusal :=
  run (.remn b a d q) q s (fun s => alu2 a b d (fun a b => BitVec.ofNat 64 (remN a.toNat b.toNat)) s)

/-- MOV (R213): a. -/
def execMov (a d : BitVec 5) (q : BitVec 4) (s : State) : Host.Outcome State Fault Refusal :=
  run (.mov a d q) q s (fun s => alu1 a d (fun a => a) s)

/-- CLZ (R213): the number of leading zero bits. -/
def execClz (a d : BitVec 5) (q : BitVec 4) (s : State) : Host.Outcome State Fault Refusal :=
  run (.clz a d q) q s (fun s => alu1 a d (fun a => dw (leadZeros 64 a.toNat)) s)

/-- CTZ (R213): the number of trailing zero bits. -/
def execCtz (a d : BitVec 5) (q : BitVec 4) (s : State) : Host.Outcome State Fault Refusal :=
  run (.ctz a d q) q s (fun s => alu1 a d (fun a => dw (trailZeros 64 a.toNat)) s)

/-- POPC (R213): the number of 1 bits. -/
def execPopc (a d : BitVec 5) (q : BitVec 4) (s : State) : Host.Outcome State Fault Refusal :=
  run (.popc a d q) q s (fun s => alu1 a d (fun a => dw (popCount 64 a.toNat)) s)

/-- BREV (R213): bit i of the result is a[63 − i]. -/
def execBrev (a d : BitVec 5) (q : BitVec 4) (s : State) : Host.Outcome State Fault Refusal :=
  run (.brev a d q) q s (fun s => alu1 a d (fun a => a.reverse) s)

/-- BSWAP (R213): byte i of the result is byte 7 − i of a. -/
def execBswap (a d : BitVec 5) (q : BitVec 4) (s : State) : Host.Outcome State Fault Refusal :=
  run (.bswap a d q) q s (fun s => alu1 a d (fun a => dw (ofBytes (toBytes 8 a.toNat).reverse)) s)

/-- SEXT (R213): sign_extend of the low 8, 16 or 32 bits. -/
def execSext (e a d : BitVec 5) (q : BitVec 4) (s : State) : Host.Outcome State Fault Refusal :=
  run (.sext e a d q) q s (fun s => alu1 a d (fun a => signExtendW (8 * 2 ^ e.toNat) a) s)

/-- ZEXT (R213): zero_extend of the low 8, 16 or 32 bits. -/
def execZext (e a d : BitVec 5) (q : BitVec 4) (s : State) : Host.Outcome State Fault Refusal :=
  run (.zext e a d q) q s (fun s => alu1 a d (fun a => dw (a.toNat % 2 ^ (8 * 2 ^ e.toNat))) s)

/-- SHADD.1 (R214): a × 2^1 + b. -/
def execShadd1 (b a d : BitVec 5) (q : BitVec 4) (s : State) : Host.Outcome State Fault Refusal :=
  run (.shadd1 b a d q) q s (fun s => alu2 a b d (fun a b => (a <<< 1) + b) s)

/-- SHADD.2 (R214): a × 2^2 + b. -/
def execShadd2 (b a d : BitVec 5) (q : BitVec 4) (s : State) : Host.Outcome State Fault Refusal :=
  run (.shadd2 b a d q) q s (fun s => alu2 a b d (fun a b => (a <<< 2) + b) s)

/-- SHADD.3 (R214): a × 2^3 + b. -/
def execShadd3 (b a d : BitVec 5) (q : BitVec 4) (s : State) : Host.Outcome State Fault Refusal :=
  run (.shadd3 b a d q) q s (fun s => alu2 a b d (fun a b => (a <<< 3) + b) s)

/-- SHADD.4 (R214): a × 2^4 + b. -/
def execShadd4 (b a d : BitVec 5) (q : BitVec 4) (s : State) : Host.Outcome State Fault Refusal :=
  run (.shadd4 b a d q) q s (fun s => alu2 a b d (fun a b => (a <<< 4) + b) s)

/-- MKSA (R214): the flat SRAM address of global tile a and offset b. -/
def execMksa (b a d : BitVec 5) (q : BitVec 4) (s : State) : Host.Outcome State Fault Refusal :=
  run (.mksa b a d q) q s (fun s => alu2 a b d (fun a b => mksaAddr a b) s)

/-- ADDI (R215): s + imm. -/
def execAddi (i : BitVec 15) (r d : BitVec 5) (s : State) : Host.Outcome State Fault Refusal :=
  run0 (.addi i r d) s (fun s => alu1 r d (fun a => a + immS i) s)

/-- ANDI (R215): s & imm. -/
def execAndi (i : BitVec 15) (r d : BitVec 5) (s : State) : Host.Outcome State Fault Refusal :=
  run0 (.andi i r d) s (fun s => alu1 r d (fun a => a &&& immU i) s)

/-- ORI (R215): s | imm. -/
def execOri (i : BitVec 15) (r d : BitVec 5) (s : State) : Host.Outcome State Fault Refusal :=
  run0 (.ori i r d) s (fun s => alu1 r d (fun a => a ||| immU i) s)

/-- XORI (R215): s ^ imm. -/
def execXori (i : BitVec 15) (r d : BitVec 5) (s : State) : Host.Outcome State Fault Refusal :=
  run0 (.xori i r d) s (fun s => alu1 r d (fun a => a ^^^ immU i) s)

/-- SHLI (R215): s × 2^imm. -/
def execShli (i : BitVec 6) (r d : BitVec 5) (s : State) : Host.Outcome State Fault Refusal :=
  run0 (.shli i r d) s (fun s => alu1 r d (fun a => a <<< i.toNat) s)

/-- SHRI (R215): s div 2^imm, unsigned. -/
def execShri (i : BitVec 6) (r d : BitVec 5) (s : State) : Host.Outcome State Fault Refusal :=
  run0 (.shri i r d) s (fun s => alu1 r d (fun a => a >>> i.toNat) s)

/-- SRAI (R215): s div 2^imm, signed. -/
def execSrai (i : BitVec 6) (r d : BitVec 5) (s : State) : Host.Outcome State Fault Refusal :=
  run0 (.srai i r d) s (fun s => alu1 r d (fun a => a.sshiftRight i.toNat) s)

/-- MULI (R215): s × imm. -/
def execMuli (i : BitVec 15) (r d : BitVec 5) (s : State) : Host.Outcome State Fault Refusal :=
  run0 (.muli i r d) s (fun s => alu1 r d (fun a => a * immS i) s)

/-- LI (R216): sign_extend(imm20, 20), tags cleared. -/
def execLi (i : BitVec 20) (d : BitVec 5) (s : State) : Host.Outcome State Fault Refusal :=
  run0 (.li i d) s (fun s => .next (s.setG d ⟨immS i, false, false⟩))

/-- LIX (R216): (gd × 2^20) | imm20, tags kept. -/
def execLix (i : BitVec 20) (d : BitVec 5) (s : State) : Host.Outcome State Fault Refusal :=
  run0 (.lix i d) s (fun s => alu1 d d (fun a => (a <<< 20) ||| immU i) s)

/-- LPC (R216): the PC of the LPC plus sign_extend(imm20, 20) × 2, tags cleared. -/
def execLpc (i : BitVec 20) (d : BitVec 5) (s : State) : Host.Outcome State Fault Refusal :=
  run0 (.lpc i d) s (fun s => .next (s.setG d ⟨s.cur.pc.setWidth 64 + immS i * 2, false, false⟩))

/-- ADD.S (R35, R217): gd = gd + gs. -/
def execAddS (r d : BitVec 5) (s : State) : Host.Outcome State Fault Refusal :=
  run0 (.addS r d) s (fun s => alu2 d r d (fun a b => a + b) s)

/-- SUB.S (R35, R217): gd = gd − gs. -/
def execSubS (r d : BitVec 5) (s : State) : Host.Outcome State Fault Refusal :=
  run0 (.subS r d) s (fun s => alu2 d r d (fun a b => a - b) s)

/-- AND.S (R35, R217): gd = gd & gs. -/
def execAndS (r d : BitVec 5) (s : State) : Host.Outcome State Fault Refusal :=
  run0 (.andS r d) s (fun s => alu2 d r d (fun a b => a &&& b) s)

/-- OR.S (R35, R217): gd = gd | gs. -/
def execOrS (r d : BitVec 5) (s : State) : Host.Outcome State Fault Refusal :=
  run0 (.orS r d) s (fun s => alu2 d r d (fun a b => a ||| b) s)

/-- XOR.S (R35, R217): gd = gd ^ gs. -/
def execXorS (r d : BitVec 5) (s : State) : Host.Outcome State Fault Refusal :=
  run0 (.xorS r d) s (fun s => alu2 d r d (fun a b => a ^^^ b) s)

/-- SHL.S (R35, R217): gd = gd shifted left by gs mod 64. -/
def execShlS (r d : BitVec 5) (s : State) : Host.Outcome State Fault Refusal :=
  run0 (.shlS r d) s (fun s => alu2 d r d (fun a b => a <<< (b.toNat % 64)) s)

/-- SHR.S (R35, R217): gd = gd shifted right by gs mod 64. -/
def execShrS (r d : BitVec 5) (s : State) : Host.Outcome State Fault Refusal :=
  run0 (.shrS r d) s (fun s => alu2 d r d (fun a b => a >>> (b.toNat % 64)) s)

/-- MOV.S (R35, R37): gd = gs; with d == s it reads nothing and only advances PC. -/
def execMovS (r d : BitVec 5) (s : State) : Host.Outcome State Fault Refusal :=
  run0 (.movS r d) s (fun s => if r = d then .next s else alu1 r d (fun a => a) s)

/-- NOP (R37): the word of MOV.S G0, G0; it only advances PC. -/
def execNop (s : State) : Host.Outcome State Fault Refusal := run0 .nop s (fun s => .next s)

end Sys2Proof.Machine
end

