-- ==== Sys2Proof/Machine/Dispatch.lean ====
section
/-! DEFINITION. One arm per constructor of Instr: a direct call of its meaning. -/

namespace Sys2Proof.Machine

def exec (i : Instr) (s : State) : Host.Outcome State Fault Refusal :=
  match i with
  | .addS xs d => Sys2Proof.Machine.execAddS xs d s
  | .subS xs d => Sys2Proof.Machine.execSubS xs d s
  | .andS xs d => Sys2Proof.Machine.execAndS xs d s
  | .orS xs d => Sys2Proof.Machine.execOrS xs d s
  | .xorS xs d => Sys2Proof.Machine.execXorS xs d s
  | .shlS xs d => Sys2Proof.Machine.execShlS xs d s
  | .shrS xs d => Sys2Proof.Machine.execShrS xs d s
  | .movS xs d => Sys2Proof.Machine.execMovS xs d s
  | .nop => Sys2Proof.Machine.execNop s
  | .vaddS xs d => Sys2Proof.Machine.execVaddS xs d s
  | .vsubS xs d => Sys2Proof.Machine.execVsubS xs d s
  | .vmulS xs d => Sys2Proof.Machine.execVmulS xs d s
  | .vminS xs d => Sys2Proof.Machine.execVminS xs d s
  | .vmaxS xs d => Sys2Proof.Machine.execVmaxS xs d s
  | .vandS xs d => Sys2Proof.Machine.execVandS xs d s
  | .vorS xs d => Sys2Proof.Machine.execVorS xs d s
  | .vxorS xs d => Sys2Proof.Machine.execVxorS xs d s
  | .add b a d q => Sys2Proof.Machine.execAdd b a d q s
  | .sub b a d q => Sys2Proof.Machine.execSub b a d q s
  | .and b a d q => Sys2Proof.Machine.execAnd b a d q s
  | .or b a d q => Sys2Proof.Machine.execOr b a d q s
  | .xor b a d q => Sys2Proof.Machine.execXor b a d q s
  | .andn b a d q => Sys2Proof.Machine.execAndn b a d q s
  | .orn b a d q => Sys2Proof.Machine.execOrn b a d q s
  | .xnor b a d q => Sys2Proof.Machine.execXnor b a d q s
  | .shl b a d q => Sys2Proof.Machine.execShl b a d q s
  | .shr b a d q => Sys2Proof.Machine.execShr b a d q s
  | .sra b a d q => Sys2Proof.Machine.execSra b a d q s
  | .ror b a d q => Sys2Proof.Machine.execRor b a d q s
  | .min b a d q => Sys2Proof.Machine.execMin b a d q s
  | .max b a d q => Sys2Proof.Machine.execMax b a d q s
  | .minn b a d q => Sys2Proof.Machine.execMinn b a d q s
  | .maxn b a d q => Sys2Proof.Machine.execMaxn b a d q s
  | .mul b a d q => Sys2Proof.Machine.execMul b a d q s
  | .mulh b a d q => Sys2Proof.Machine.execMulh b a d q s
  | .mulhn b a d q => Sys2Proof.Machine.execMulhn b a d q s
  | .div b a d q => Sys2Proof.Machine.execDiv b a d q s
  | .divn b a d q => Sys2Proof.Machine.execDivn b a d q s
  | .rem b a d q => Sys2Proof.Machine.execRem b a d q s
  | .remn b a d q => Sys2Proof.Machine.execRemn b a d q s
  | .mov a d q => Sys2Proof.Machine.execMov a d q s
  | .clz a d q => Sys2Proof.Machine.execClz a d q s
  | .ctz a d q => Sys2Proof.Machine.execCtz a d q s
  | .popc a d q => Sys2Proof.Machine.execPopc a d q s
  | .brev a d q => Sys2Proof.Machine.execBrev a d q s
  | .bswap a d q => Sys2Proof.Machine.execBswap a d q s
  | .sext e a d q => Sys2Proof.Machine.execSext e a d q s
  | .zext e a d q => Sys2Proof.Machine.execZext e a d q s
  | .shadd1 b a d q => Sys2Proof.Machine.execShadd1 b a d q s
  | .shadd2 b a d q => Sys2Proof.Machine.execShadd2 b a d q s
  | .shadd3 b a d q => Sys2Proof.Machine.execShadd3 b a d q s
  | .shadd4 b a d q => Sys2Proof.Machine.execShadd4 b a d q s
  | .mksa b a d q => Sys2Proof.Machine.execMksa b a d q s
  | .addi xi xs d => Sys2Proof.Machine.execAddi xi xs d s
  | .andi xi xs d => Sys2Proof.Machine.execAndi xi xs d s
  | .ori xi xs d => Sys2Proof.Machine.execOri xi xs d s
  | .xori xi xs d => Sys2Proof.Machine.execXori xi xs d s
  | .shli xi xs d => Sys2Proof.Machine.execShli xi xs d s
  | .shri xi xs d => Sys2Proof.Machine.execShri xi xs d s
  | .srai xi xs d => Sys2Proof.Machine.execSrai xi xs d s
  | .muli xi xs d => Sys2Proof.Machine.execMuli xi xs d s
  | .li xi d => Sys2Proof.Machine.execLi xi d s
  | .lix xi d => Sys2Proof.Machine.execLix xi d s
  | .lpc xi d => Sys2Proof.Machine.execLpc xi d s
  | .ldB xi b t q => Sys2Proof.Machine.execLdB xi b t q s
  | .ldH xi b t q => Sys2Proof.Machine.execLdH xi b t q s
  | .ldW xi b t q => Sys2Proof.Machine.execLdW xi b t q s
  | .ldD xi b t q => Sys2Proof.Machine.execLdD xi b t q s
  | .ldNb xi b t q => Sys2Proof.Machine.execLdNb xi b t q s
  | .ldNh xi b t q => Sys2Proof.Machine.execLdNh xi b t q s
  | .ldNw xi b t q => Sys2Proof.Machine.execLdNw xi b t q s
  | .stB xi b t q => Sys2Proof.Machine.execStB xi b t q s
  | .stH xi b t q => Sys2Proof.Machine.execStH xi b t q s
  | .stW xi b t q => Sys2Proof.Machine.execStW xi b t q s
  | .stD xi b t q => Sys2Proof.Machine.execStD xi b t q s
  | .ldAcq xi c b t q => Sys2Proof.Machine.execLdAcq xi c b t q s
  | .stRel xi c b t q => Sys2Proof.Machine.execStRel xi c b t q s
  | .scopeOpen a q => Sys2Proof.Machine.execScopeOpen a q s
  | .scopeClose a q => Sys2Proof.Machine.execScopeClose a q s
  | .mbr a d q => Sys2Proof.Machine.execMbr a d q s
  | .mbw a d q => Sys2Proof.Machine.execMbw a d q s
  | .alloc b a d q => Sys2Proof.Machine.execAlloc b a d q s
  | .free b a d q => Sys2Proof.Machine.execFree b a d q s
  | .rsv a d q => Sys2Proof.Machine.execRsv a d q s
  | .relw b a q => Sys2Proof.Machine.execRelw b a q s
  | .reln a q => Sys2Proof.Machine.execReln a q s
  | .casW b a d q => Sys2Proof.Machine.execCasW b a d q s
  | .casD b a d q => Sys2Proof.Machine.execCasD b a d q s
  | .amoAdd r w b a d q => Sys2Proof.Machine.execAmoAdd r w b a d q s
  | .amoAnd r w b a d q => Sys2Proof.Machine.execAmoAnd r w b a d q s
  | .amoOr r w b a d q => Sys2Proof.Machine.execAmoOr r w b a d q s
  | .amoXor r w b a d q => Sys2Proof.Machine.execAmoXor r w b a d q s
  | .amoMin r w b a d q => Sys2Proof.Machine.execAmoMin r w b a d q s
  | .amoMax r w b a d q => Sys2Proof.Machine.execAmoMax r w b a d q s
  | .amoMinn r w b a d q => Sys2Proof.Machine.execAmoMinn r w b a d q s
  | .amoMaxn r w b a d q => Sys2Proof.Machine.execAmoMaxn r w b a d q s
  | .amoSwap r w b a d q => Sys2Proof.Machine.execAmoSwap r w b a d q s
  | .fence c q => Sys2Proof.Machine.execFence c q s
  | .fenceSc c q => Sys2Proof.Machine.execFenceSc c q s
  | .bprep xi d => Sys2Proof.Machine.execBprep xi d s
  | .bprepr a d q => Sys2Proof.Machine.execBprepr a d q s
  | .cmpEq b a d q => Sys2Proof.Machine.execCmpEq b a d q s
  | .cmpNe b a d q => Sys2Proof.Machine.execCmpNe b a d q s
  | .cmpLt b a d q => Sys2Proof.Machine.execCmpLt b a d q s
  | .cmpGe b a d q => Sys2Proof.Machine.execCmpGe b a d q s
  | .cmpLtn b a d q => Sys2Proof.Machine.execCmpLtn b a d q s
  | .cmpGen b a d q => Sys2Proof.Machine.execCmpGen b a d q s
  | .pand b a d q => Sys2Proof.Machine.execPand b a d q s
  | .por b a d q => Sys2Proof.Machine.execPor b a d q s
  | .pnot a d q => Sys2Proof.Machine.execPnot a d q s
  | .br a q => Sys2Proof.Machine.execBr a q s
  | .brP a d q => Sys2Proof.Machine.execBrP a d q s
  | .brNp a d q => Sys2Proof.Machine.execBrNp a d q s
  | .brl a d q => Sys2Proof.Machine.execBrl a d q s
  | .brdec a d q => Sys2Proof.Machine.execBrdec a d q s
  | .iinv q => Sys2Proof.Machine.execIinv q s
  | .launch a d q => Sys2Proof.Machine.execLaunch a d q s
  | .spawn a q => Sys2Proof.Machine.execSpawn a q s
  | .exit q => Sys2Proof.Machine.execExit q s
  | .yield q => Sys2Proof.Machine.execYield q s
  | .qdist a d q => Sys2Proof.Machine.execQdist a d q s
  | .join e a q => Sys2Proof.Machine.execJoin e a q s
  | .leave q => Sys2Proof.Machine.execLeave q s
  | .gbar a q => Sys2Proof.Machine.execGbar a q s
  | .sstep e a d q => Sys2Proof.Machine.execSstep e a d q s
  | .ddec e a q => Sys2Proof.Machine.execDdec e a q s
  | .dadd a d q => Sys2Proof.Machine.execDadd a d q s
  | .waitc e a d q => Sys2Proof.Machine.execWaitc e a d q s
  | .msend a d q => Sys2Proof.Machine.execMsend a d q s
  | .wpush a d q => Sys2Proof.Machine.execWpush a d q s
  | .wpop e a d q => Sys2Proof.Machine.execWpop e a d q s
  | .wpopNb e a d q => Sys2Proof.Machine.execWpopNb e a d q s
  | .wclose a q => Sys2Proof.Machine.execWclose a q s
  | .vadd y m b a d => Sys2Proof.Machine.execVadd y m b a d s
  | .vsub y m b a d => Sys2Proof.Machine.execVsub y m b a d s
  | .vmul y m b a d => Sys2Proof.Machine.execVmul y m b a d s
  | .vfma y m b a d => Sys2Proof.Machine.execVfma y m b a d s
  | .vfms y m b a d => Sys2Proof.Machine.execVfms y m b a d s
  | .vmin y m b a d => Sys2Proof.Machine.execVmin y m b a d s
  | .vmax y m b a d => Sys2Proof.Machine.execVmax y m b a d s
  | .vabs y m a d => Sys2Proof.Machine.execVabs y m a d s
  | .vneg y m a d => Sys2Proof.Machine.execVneg y m a d s
  | .vadds y m b a d => Sys2Proof.Machine.execVadds y m b a d s
  | .vsubs y m b a d => Sys2Proof.Machine.execVsubs y m b a d s
  | .vdiv y m b a d => Sys2Proof.Machine.execVdiv y m b a d s
  | .vsqrt y m a d => Sys2Proof.Machine.execVsqrt y m a d s
  | .vrcp y m a d => Sys2Proof.Machine.execVrcp y m a d s
  | .vrsq y m a d => Sys2Proof.Machine.execVrsq y m a d s
  | .vexp2 y m a d => Sys2Proof.Machine.execVexp2 y m a d s
  | .vlog2 y m a d => Sys2Proof.Machine.execVlog2 y m a d s
  | .vcmpEq y m b a d => Sys2Proof.Machine.execVcmpEq y m b a d s
  | .vcmpNe y m b a d => Sys2Proof.Machine.execVcmpNe y m b a d s
  | .vcmpLt y m b a d => Sys2Proof.Machine.execVcmpLt y m b a d s
  | .vcmpLe y m b a d => Sys2Proof.Machine.execVcmpLe y m b a d s
  | .vcmpUn y m b a d => Sys2Proof.Machine.execVcmpUn y m b a d s
  | .vsel y m b a d => Sys2Proof.Machine.execVsel y m b a d s
  | .vclass y m a d => Sys2Proof.Machine.execVclass y m a d s
  | .vand y m b a d => Sys2Proof.Machine.execVand y m b a d s
  | .vor y m b a d => Sys2Proof.Machine.execVor y m b a d s
  | .vxor y m b a d => Sys2Proof.Machine.execVxor y m b a d s
  | .vnot y m a d => Sys2Proof.Machine.execVnot y m a d s
  | .vshl y m b a d => Sys2Proof.Machine.execVshl y m b a d s
  | .vshr y m b a d => Sys2Proof.Machine.execVshr y m b a d s
  | .vsra y m b a d => Sys2Proof.Machine.execVsra y m b a d s
  | .vld xi b t q => Sys2Proof.Machine.execVld xi b t q s
  | .vst xi b t q => Sys2Proof.Machine.execVst xi b t q s
  | .vgath b a d q => Sys2Proof.Machine.execVgath b a d q s
  | .vscat b a d q => Sys2Proof.Machine.execVscat b a d q s
  | .vbcast a d q => Sys2Proof.Machine.execVbcast a d q s
  | .vextr b a d q => Sys2Proof.Machine.execVextr b a d q s
  | .vperm y m b a d => Sys2Proof.Machine.execVperm y m b a d s
  | .vslide y m b a d => Sys2Proof.Machine.execVslide y m b a d s
  | .vzip y b a d => Sys2Proof.Machine.execVzip y b a d s
  | .vuzp y b a d => Sys2Proof.Machine.execVuzp y b a d s
  | .vldc h r q => Sys2Proof.Machine.execVldc h r q s
  | .vldcKeep h r q => Sys2Proof.Machine.execVldcKeep h r q s
  | .vstc h r q => Sys2Proof.Machine.execVstc h r q s
  | .vred y m a d => Sys2Proof.Machine.execVred y m a d s
  | .vredBox y m b a => Sys2Proof.Machine.execVredBox y m b a s
  | .vrmin y m a d => Sys2Proof.Machine.execVrmin y m a d s
  | .vrminBox y m b a => Sys2Proof.Machine.execVrminBox y m b a s
  | .vrmax y m a d => Sys2Proof.Machine.execVrmax y m a d s
  | .vrmaxBox y m b a => Sys2Proof.Machine.execVrmaxBox y m b a s
  | .vscan y m a d => Sys2Proof.Machine.execVscan y m a d s
  | .vxacc m z a d => Sys2Proof.Machine.execVxacc m z a d s
  | .vxdrain y c h a d => Sys2Proof.Machine.execVxdrain y c h a d s
  | .vtopk y m b a d => Sys2Proof.Machine.execVtopk y m b a d s
  | .vquant y a d => Sys2Proof.Machine.execVquant y a d s
  | .vdeq y a d => Sys2Proof.Machine.execVdeq y a d s
  | .vcvt xs y m a d => Sys2Proof.Machine.execVcvt xs y m a d s
  | .mxcfg a d q => Sys2Proof.Machine.execMxcfg a d q s
  | .mxzero d q => Sys2Proof.Machine.execMxzero d q s
  | .mxmac d q => Sys2Proof.Machine.execMxmac d q s
  | .mxwait d q => Sys2Proof.Machine.execMxwait d q s
  | .mxchk a d q => Sys2Proof.Machine.execMxchk a d q s
  | .mxa n h q => Sys2Proof.Machine.execMxa n h q s
  | .mxaKeep n h q => Sys2Proof.Machine.execMxaKeep n h q s
  | .mxaHold n h q => Sys2Proof.Machine.execMxaHold n h q s
  | .mxb n h q => Sys2Proof.Machine.execMxb n h q s
  | .mxbKeep n h q => Sys2Proof.Machine.execMxbKeep n h q s
  | .mxbHold n h q => Sys2Proof.Machine.execMxbHold n h q s
  | .mxdrain k n h r q => Sys2Proof.Machine.execMxdrain k n h r q s
  | .ufcfg a q => Sys2Proof.Machine.execUfcfg a q s
  | .mxaUf a q => Sys2Proof.Machine.execMxaUf a q s
  | .ssub a d q => Sys2Proof.Machine.execSsub a d q s
  | .sunsub d q => Sys2Proof.Machine.execSunsub d q s
  | .mxbS e d q => Sys2Proof.Machine.execMxbS e d q s
  | .mxspill a d q => Sys2Proof.Machine.execMxspill a d q s
  | .mxfill a d q => Sys2Proof.Machine.execMxfill a d q s
  | .mvset e a q => Sys2Proof.Machine.execMvset e a q s
  | .mvget e d q => Sys2Proof.Machine.execMvget e d q s
  | .mvgo d q => Sys2Proof.Machine.execMvgo d q s
  | .mvchain a d q => Sys2Proof.Machine.execMvchain a d q s
  | .mvtst a d q => Sys2Proof.Machine.execMvtst a d q s
  | .mvwait a d q => Sys2Proof.Machine.execMvwait a d q s
  | .bxinit a d q => Sys2Proof.Machine.execBxinit a d q s
  | .bxarv e a d q => Sys2Proof.Machine.execBxarv e a d q s
  | .bxwait e a d q => Sys2Proof.Machine.execBxwait e a d q s
  | .bxtst e a d q => Sys2Proof.Machine.execBxtst e a d q s
  | .cbacqP n h r q => Sys2Proof.Machine.execCbacqP n h r q s
  | .cbacqC n h r q => Sys2Proof.Machine.execCbacqC n h r q s
  | .cbrelP n h q => Sys2Proof.Machine.execCbrelP n h q s
  | .cbrelC n h q => Sys2Proof.Machine.execCbrelC n h q s
  | .cbqry k h r q => Sys2Proof.Machine.execCbqry k h r q s
  | .cbinitBuffer a q => Sys2Proof.Machine.execCbinitBuffer a q s
  | .cbinitWindow a q => Sys2Proof.Machine.execCbinitWindow a q s
  | .glaze e a q => Sys2Proof.Machine.execGlaze e a q s
  | .rdsr e d q => Sys2Proof.Machine.execRdsr e d q s
  | .wrsr e a q => Sys2Proof.Machine.execWrsr e a q s
  | .tlbinv e a q => Sys2Proof.Machine.execTlbinv e a q s
  | .trap e a q => Sys2Proof.Machine.execTrap e a q s
  | .eret e a q => Sys2Proof.Machine.execEret e a q s
  | .cdopen a q => Sys2Proof.Machine.execCdopen a q s
  | .cdclose d q => Sys2Proof.Machine.execCdclose d q s
  | .taskAdmission => Sys2Proof.Machine.execTaskAdmission s
  | .taskReady => Sys2Proof.Machine.execTaskReady s
  | .readyAging => Sys2Proof.Machine.execReadyAging s
  | .rotation => Sys2Proof.Machine.execRotation s
  | .leadDistributorPlacement => Sys2Proof.Machine.execLeadDistributorPlacement s
  | .taskInstantiation => Sys2Proof.Machine.execTaskInstantiation s
  | .registerCacheFill => Sys2Proof.Machine.execRegisterCacheFill s
  | .snapshotFetch => Sys2Proof.Machine.execSnapshotFetch s
  | .codeFetch => Sys2Proof.Machine.execCodeFetch s
  | .tilePowerGating => Sys2Proof.Machine.execTilePowerGating s
  | .wake => Sys2Proof.Machine.execWake s
  | .wakeComplete => Sys2Proof.Machine.execWakeComplete s
  | .frequencyChange => Sys2Proof.Machine.execFrequencyChange s
  | .powerLimit => Sys2Proof.Machine.execPowerLimit s
  | .vectorCommandBegin => Sys2Proof.Machine.execVectorCommandBegin s
  | .vectorCommandComplete => Sys2Proof.Machine.execVectorCommandComplete s
  | .matrixCommandBegin => Sys2Proof.Machine.execMatrixCommandBegin s
  | .matrixCommandComplete => Sys2Proof.Machine.execMatrixCommandComplete s
  | .boxWrite => Sys2Proof.Machine.execBoxWrite s
  | .cbGrant => Sys2Proof.Machine.execCbGrant s
  | .transferBegin => Sys2Proof.Machine.execTransferBegin s
  | .moverTurn => Sys2Proof.Machine.execMoverTurn s
  | .transferCompletion => Sys2Proof.Machine.execTransferCompletion s
  | .chainDescriptorFetch => Sys2Proof.Machine.execChainDescriptorFetch s
  | .handleCacheFill => Sys2Proof.Machine.execHandleCacheFill s
  | .revoke => Sys2Proof.Machine.execRevoke s
  | .revocationDone => Sys2Proof.Machine.execRevocationDone s
  | .streamDelivery => Sys2Proof.Machine.execStreamDelivery s
  | .scrubRead => Sys2Proof.Machine.execScrubRead s
  | .protectedWrite => Sys2Proof.Machine.execProtectedWrite s
  | .parityDelta => Sys2Proof.Machine.execParityDelta s
  | .memberLoss => Sys2Proof.Machine.execMemberLoss s
  | .erasureRebuild => Sys2Proof.Machine.execErasureRebuild s
  | .pageMoveQueueStore => Sys2Proof.Machine.execPageMoveQueueStore s
  | .pageMoveRecord => Sys2Proof.Machine.execPageMoveRecord s
  | .frameMove => Sys2Proof.Machine.execFrameMove s
  | .linkReplay => Sys2Proof.Machine.execLinkReplay s
  | .packetArrival => Sys2Proof.Machine.execPacketArrival s
  | .requestResend => Sys2Proof.Machine.execRequestResend s
  | .gets => Sys2Proof.Machine.execGets s
  | .getm => Sys2Proof.Machine.execGetm s
  | .writeBack => Sys2Proof.Machine.execWriteBack s
  | .eviction => Sys2Proof.Machine.execEviction s
  | .invalidation => Sys2Proof.Machine.execInvalidation s
  | .directoryEviction => Sys2Proof.Machine.execDirectoryEviction s
  | .incarnationChange => Sys2Proof.Machine.execIncarnationChange s
  | .translationWalk => Sys2Proof.Machine.execTranslationWalk s
  | .walkComplete => Sys2Proof.Machine.execWalkComplete s
  | .reservationGrant => Sys2Proof.Machine.execReservationGrant s
  | .reservationRelease => Sys2Proof.Machine.execReservationRelease s
  | .messageArrival => Sys2Proof.Machine.execMessageArrival s
  | .msendReply => Sys2Proof.Machine.execMsendReply s
  | .heldMessageBatch => Sys2Proof.Machine.execHeldMessageBatch s
  | .handlerStart => Sys2Proof.Machine.execHandlerStart s
  | .colExchange => Sys2Proof.Machine.execColExchange s
  | .collectiveReady => Sys2Proof.Machine.execCollectiveReady s
  | .collectiveCommit => Sys2Proof.Machine.execCollectiveCommit s
  | .collectiveAbort => Sys2Proof.Machine.execCollectiveAbort s
  | .coordinatorTakeover => Sys2Proof.Machine.execCoordinatorTakeover s
  | .trapHandlerStart => Sys2Proof.Machine.execTrapHandlerStart s
  | .preemptionQueueStore => Sys2Proof.Machine.execPreemptionQueueStore s
  | .preemption => Sys2Proof.Machine.execPreemption s
  | .resume => Sys2Proof.Machine.execResume s
  | .domainDiscard => Sys2Proof.Machine.execDomainDiscard s
  | .tieBreakComparison => Sys2Proof.Machine.execTieBreakComparison s
  | .rectangleReset => Sys2Proof.Machine.execRectangleReset s
  | .quarantine => Sys2Proof.Machine.execQuarantine s
  | .quarantineRelease => Sys2Proof.Machine.execQuarantineRelease s
  | .structuralTest => Sys2Proof.Machine.execStructuralTest s
  | .dieRetirement => Sys2Proof.Machine.execDieRetirement s
  | .dieEvacuation => Sys2Proof.Machine.execDieEvacuation s
  | .heldState => Sys2Proof.Machine.execHeldState s
  | .voterReplacement => Sys2Proof.Machine.execVoterReplacement s
  | .remoteFailure => Sys2Proof.Machine.execRemoteFailure s
  | .controlSpaceWrite => Sys2Proof.Machine.execControlSpaceWrite s
  | .trapConfigurationWrite => Sys2Proof.Machine.execTrapConfigurationWrite s
  | .mailboxEntryWrite => Sys2Proof.Machine.execMailboxEntryWrite s
  | .streamEntryWrite => Sys2Proof.Machine.execStreamEntryWrite s
  | .workQueueConfigWrite => Sys2Proof.Machine.execWorkQueueConfigWrite s
  | .rectangleWrite => Sys2Proof.Machine.execRectangleWrite s
  | .lcancel => Sys2Proof.Machine.execLcancel s
  | .hostRequest => Sys2Proof.Machine.execHostRequest s
  | .launchWindowWrite => Sys2Proof.Machine.execLaunchWindowWrite s
  | .hostLaunchStart => Sys2Proof.Machine.execHostLaunchStart s
  | .viEnable => Sys2Proof.Machine.execViEnable s
  | .viStop => Sys2Proof.Machine.execViStop s
  | .viStopped => Sys2Proof.Machine.execViStopped s
  | .jobtagWrite => Sys2Proof.Machine.execJobtagWrite s
  | .frzclr => Sys2Proof.Machine.execFrzclr s
  | .contextEntryWrite => Sys2Proof.Machine.execContextEntryWrite s
  | .hostAlloc => Sys2Proof.Machine.execHostAlloc s
  | .hostFree => Sys2Proof.Machine.execHostFree s
  | .sparingApproval => Sys2Proof.Machine.execSparingApproval s
  | .rebuildStart => Sys2Proof.Machine.execRebuildStart s
  | .eraskind => Sys2Proof.Machine.execEraskind s
  | .erasgrpSet => Sys2Proof.Machine.execErasgrpSet s
  | .erasureGroupMatch => Sys2Proof.Machine.execErasureGroupMatch s
  | .heqack => Sys2Proof.Machine.execHeqack s
  | .heactResume => Sys2Proof.Machine.execHeactResume s
  | .heactEnd => Sys2Proof.Machine.execHeactEnd s
  | .heactDiscard => Sys2Proof.Machine.execHeactDiscard s
  | .hwalk => Sys2Proof.Machine.execHwalk s
  | .boot => Sys2Proof.Machine.execBoot s
  | .firmwareUpdate => Sys2Proof.Machine.execFirmwareUpdate s
  | .attestationRequest => Sys2Proof.Machine.execAttestationRequest s
  | .illegalInstruction => Sys2Proof.Machine.execIllegalInstruction s
  | .linkPortFailure => Sys2Proof.Machine.execLinkPortFailure s
  | .hbmStackFailure => Sys2Proof.Machine.execHbmStackFailure s
  | .detour => Sys2Proof.Machine.execDetour s

end Sys2Proof.Machine
end

