-- ==== Sys2Proof/Machine/Redundant.lean ====
section
/-! DEFINITION. Redundant execution (R210, R331, R389, R390): what the leading copy of a redundant task leaves for its trailing copy, what the two
compare, and a turn of the trailing copy. -/

namespace Sys2Proof.Machine

/-! ## What the copies compare -/

/-- The size in bytes of the load or store that an instruction is, with its address operand, offset and register. -/
def accessOf (i : Instr) : Option (Bool × Nat × BitVec 5 × BitVec 8 × BitVec 5) :=
  match i with
  | .ldB d b r _ | .ldNb d b r _ => some (false, 1, b, d, r)
  | .ldH d b r _ | .ldNh d b r _ => some (false, 2, b, d, r)
  | .ldW d b r _ | .ldNw d b r _ => some (false, 4, b, d, r)
  | .ldD d b r _ | .ldAcq d _ b r _ => some (false, 8, b, d, r)
  | .stB d b r _ => some (true, 1, b, d, r)
  | .stH d b r _ => some (true, 2, b, d, r)
  | .stW d b r _ => some (true, 4, b, d, r)
  | .stD d b r _ | .stRel d _ b r _ => some (true, 8, b, d, r)
  | _ => none

/-- The G operands of an instruction whose operands the trailing copy compares as a store, in field order (R389). CBACQ, CBREL and CBQRY have handle, side and
count in the word (R147). -/
def comparedG (i : Instr) : Option (List (BitVec 5)) :=
  match i with
  | .scopeOpen a _ | .scopeClose a _ | .mbw a _ _ | .rsv a _ _ | .reln a _ | .launch a _ _ | .spawn a _ | .join _ a _ | .gbar a _ | .sstep _ a _ _
  | .ddec _ a _ | .wpop _ a _ _ | .wpopNb _ a _ _ | .wclose a _ | .ssub a _ _ | .mvchain a _ _ | .bxtst _ a _ _ | .cbinitBuffer a _
  | .cbinitWindow a _ | .wrsr _ a _ | .tlbinv _ a _ | .trap _ a _ | .eret _ a _ => some [a]
  | .alloc b a _ _ | .free b a _ _ | .relw b a _ | .amoAdd _ _ b a _ _ | .amoAnd _ _ b a _ _ | .amoOr _ _ b a _ _ | .amoXor _ _ b a _ _
  | .amoMin _ _ b a _ _ | .amoMax _ _ b a _ _ | .amoMinn _ _ b a _ _ | .amoMaxn _ _ b a _ _ | .amoSwap _ _ b a _ _ => some [a, b]
  | .casW b a d _ | .casD b a d _ => some [a, b, d]
  | .dadd a d _ | .waitc _ a d _ | .msend a d _ | .wpush a d _ | .bxinit a d _ | .bxarv _ a d _ | .bxwait _ a d _ => some [a, d]
  | .leave _ | .sunsub _ _ | .mvgo _ _ | .cbacqP _ _ _ _ | .cbacqC _ _ _ _ | .cbrelP _ _ _ | .cbrelC _ _ _ | .cbqry _ _ _ _ => some []
  | _ => none

/-- A matrix command, and a command of either engine (R243, R280). -/
def matrixCmd (i : Instr) : Bool :=
  match i with
  | .mxcfg _ _ _ | .mxzero _ _ | .mxmac _ _ | .mxchk _ _ _ | .mxdrain _ _ _ _ _ | .mxspill _ _ _ | .mxfill _ _ _ => true
  | _ => false
def engineCmd (i : Instr) : Bool := matrixCmd i || (vForm i 0 0).isSome

/-- The registers of the matrix state that the spec gives it (R247). -/
def MatState.words (m : MatState) : List DWord := [m.mxa, m.mxb, m.ufcur, m.zmode, m.uf0, m.uf1, m.uf2]

/-- What a copy of a task presents for instruction i to the store comparator, in the doublewords that its signature absorbs (R389): a store's size,
address and data; for a compared operand or command its word and G operands. -/
def absorbedOf (t : Task) (i : Instr) : List DWord :=
  match accessOf i with
  | some (true, n, b, d, r) => [dw (n * 2 ^ 56 + bits (memAddr (t.rdG b).v d n) 0 56), dw (bits (t.rdG r).v 0 (8 * n))]
  | some (false, _) => []
  | none =>
    let word : DWord := dw (iwordOf i)
    if engineCmd i then word :: (namesG i).map (fun r => (t.rdG r).v)
    else match comparedG i with
      | some l => word :: l.map (fun r => (t.rdG r).v)
      | none => []

/-- What else the copies compare: a load's address (R210), also that of UFCFG's descriptor; the shadow set of MVGO and MVCHAIN (R183); the
matrix state of a matrix command (R280). -/
def extraOf (t : Task) (i : Instr) : List DWord :=
  match i with
  | .mvgo _ _ | .mvchain _ _ _ => t.mv.regs.toList
  | .ufcfg a _ => [(t.rdG a).v]
  | _ => match accessOf i with
    | some (false, n, b, d, _) => [memAddr (t.rdG b).v d n]
    | _ => if matrixCmd i then t.mx.words else []

/-- The G registers that reach the trailing copy through the load-value queue. RDSR's does for the registers that the hardware writes for the
pair or that change by themselves (log entry 85). -/
def queuedG (i : Instr) : List (BitVec 5) :=
  match i with
  | .mbr _ d _ | .alloc _ _ d _ | .free _ _ d _ | .rsv _ d _ | .casW _ _ d _ | .casD _ _ d _ | .launch _ d _ | .qdist _ d _ | .sstep _ _ d _
  | .msend _ d _ | .wpop _ _ d _ | .wpopNb _ _ d _ | .mvgo d _ | .mvchain _ d _ | .mvtst _ d _ | .mvwait _ d _ | .bxarv _ _ d _ | .bxtst _ _ d _
  | .cbacqP _ _ d _ | .cbacqC _ _ d _ | .cbqry _ _ d _ | .cdclose d _ => [d]
  | .amoAdd r _ _ _ d _ | .amoAnd r _ _ _ d _ | .amoOr r _ _ _ d _ | .amoXor r _ _ _ d _ | .amoMin r _ _ _ d _ | .amoMax r _ _ _ d _
  | .amoMinn r _ _ _ d _ | .amoMaxn r _ _ _ d _ | .amoSwap r _ _ _ d _ => if r = 1 then [d] else []
  | .rdsr e d _ => if [0, 2, 5, 6, 9, 10, 11, 12, 13, 14, 20, 21, 22].contains e.toNat then [] else [d]
  | _ => match accessOf i with
    | some (false, _, _, _, r) => [r]
    | _ => []

/-- Instructions that each copy executes on its own workspace, whether or not their operands are compared; of all others the leading copy alone has the
effect. -/
def ownWork (i : Instr) : Bool :=
  match i with
  | .scopeOpen _ _ | .scopeClose _ _ | .wrsr _ _ _ => true
  | .fence _ _ | .fenceSc _ _ | .iinv _ | .exit _ | .yield _ | .glaze _ _ _ | .cdopen _ _ | .mxwait _ _ | .ufcfg _ _ => false
  | _ => (accessOf i).isNone && !engineCmd i && (comparedG i).isNone && (queuedG i).isEmpty

/-- Instructions at which the leading copy waits until the trailing copy has caught up: the pair ends together (R314), a swap follows every earlier store of
the pair (R149), code is discarded once (R330), and a level closes with both queues empty (R388). FENCE waits for the held stores with the
other stores. -/
def drains (i : Instr) : Bool :=
  match i with
  | .exit _ | .glaze _ _ _ | .iinv _ | .cdclose _ _ => true
  | _ => false

/-! ## The leading copy -/

/-- A signature after one entry (R389). -/
def absorb (sig : DWord) (l : List DWord) : DWord := l.foldl kcg sig

/-- The entry that the leading copy leaves: `s` is the state in which instruction i issued and `s'` the one after it. -/
def State.entry (s' : State) (i : Instr) (s : State) : Twinned :=
  let t := s.cur
  let u := s'.cur
  if !t.guard (gUse i).2 then { instr := i, pc := t.pc, depth := t.depth, sig := u.red.sig, count := u.red.count }
  else
    let a := absorbedOf t i
    { instr := i, pc := t.pc, depth := t.depth, took := true, absorbed := a, extra := extraOf t i
      load := !(queuedG i).isEmpty, store := !a.isEmpty
      gs := (queuedG i).map (fun r => (r.toNat, (u.rdG r).v, (u.rdG r).p, (u.rdG r).t))
      ps := match i with | .wpop e _ _ _ | .wpopNb e _ _ _ => [(e.toNat, u.rdP e.toNat, u.taintP e.toNat)] | _ => []
      mx := if matrixCmd i then some u.mx else match i with | .ufcfg _ _ => some u.mx | _ => none
      drew := engineCmd i && u.st.rseq != t.st.rseq
      held := s'.stores.countP (fun x => x.key == t.key && x.held) - s.stores.countP (fun x => x.key == t.key && x.held)
      sig := absorb u.red.sig a, count := u.red.count + (if a = [] then 0 else 1) }

/-- The leading copy parks until the trailing copy has gone on (R210), before an instruction or before what its PC brings. -/
def State.redPark (s : State) (i : Option Instr) (whole : Bool) : State :=
  { s with cur := { s.cur with status := .parked (.comparator whole), snaps := [], sch := { s.cur.sch with again := i, why := some (.comparator whole) } }, stalled := false }

/-- A fault of a redundant task that its instruction's decoding brings, or that is not the instruction's, comes once the trailing copy has caught up (R50,
R138): `s'` is the state after it. -/
def State.together (s s' : State) : State := if s.cur.caughtUp then s' else s.redPark none true

/-- A state in which one copy of the issuing task executes an instruction on its own registers: nothing of the pair is under way. -/
def State.alone (s : State) (u : Task) : State :=
  let mine (c : Cmd) : Bool := c.wp == u.wp && c.vi == u.vi
  { s.modTile (s.taskGt u) (fun x => { x with vq := x.vq.filter (fun c => !mine c), mq := x.mq.filter (fun c => !mine c) }) with
    cur := { u with status := .resident, twin := none }, stores := s.stores.filter (fun x => x.key != u.key), stalled := false }

/-- Cause code and class of the trap record of a task (R372). -/
def State.trapCause (s : State) (t : Task) : Nat × Nat :=
  let d := (s.wsWord (s.taskGt t) (aOff t.wp.toNat) 0x1400).1
  (bits d 0 8, bits d 10 2)

/-- Whether the trailing copy meets, at instruction i, the fault that the leading copy has met in `s'` (R331). Faults that report the pair's
engines, transfers or crust, and freezes, are the pair's (R138). -/
def State.bothFault (s s' : State) (i : Instr) : Bool :=
  let c := s'.trapCause s.cur
  if c.1 = 0x1C ∨ c.2 ≠ 0 then true
  else if absorbedOf s.cur i ≠ absorbedOf s.cur.copy i then false
  else match exec i (s.alone s.cur.copy) with
    | .next x => x.cur.status == .trapped && x.trapCause x.cur == c
    | _ => false

/-- After instruction i of a redundant task's leading copy: an entry for the trailing copy; a fault is taken once both copies have met it, and is a
mismatch where only one does. -/
def State.presented (s' : State) (i : Instr) (s : State) : State :=
  let t := s.cur
  if s'.cur.key ≠ t.key ∨ s'.stalled = true then s'
  else match s'.cur.status with
  | .parked _ => s'
  | .absent => s'
  | .trapped | .frozen =>
    if !t.caughtUp then s.redPark (some i) true
    else if s.bothFault s' i then s'
    else { s.mismatch t t.entryAt ((t.twin.map (·.sig)).getD 0) with stalled := false }
  | _ =>
    let e := s'.entry i s
    s'.modCur (fun u => { u with red := { u.red with sig := e.sig, count := e.count, queue := u.red.queue ++ [e] } })

/-- Whether an instruction is a store to control space (R399), which acts when it executes: the copies compare it first. -/
def ctrlStore (t : Task) (i : Instr) : Bool :=
  match accessOf i with
  | some (true, n, b, d, _) => t.guard (gUse i).2 && aRegion (memAddr (t.rdG b).v d n).toNat == 15
  | _ => false

/-- Instruction i of the issuing task, `o` being its meaning: a redundant task's leading copy waits for its trailing copy where R210 says so. -/
def paired (i : Instr) (s : State) (o : Host.Outcome State Fault Refusal) : Host.Outcome State Fault Refusal :=
  let t := s.cur
  if t.twin.isNone then o
  else
    let takes := t.guard (gUse i).2
    if takes && ((!(queuedG i).isEmpty || !(absorbedOf t i).isEmpty) && !t.red.room) then .next (s.redPark (some i) false)
    else if (takes && drains i || ctrlStore t i) && !t.caughtUp then .next (s.redPark (some i) true)
    else if ctrlStore t i && absorbedOf t i != absorbedOf t.copy i then
      .next { s.mismatch t t.entryAt (absorb ((t.twin.map (·.sig)).getD 0) (absorbedOf t.copy i)) with stalled := false }
    else match o with
      | .next s' => .next (s'.presented i s)
      | x => x

/-! ## The trailing copy -/

/-- The instruction at the trailing copy's PC where it has left the leading copy's path (R331). -/
def State.strayInstr (s : State) (u : Task) : Option Instr :=
  match decode (toBytes 4 (s.wordAtPc { u with sch := { u.sch with again := none } })) with
  | .ok i _ => some i
  | _ => none

/-- The trailing copy after an instruction of its own work; none where it meets a fault that the leading copy did not. -/
def State.ownStep (s : State) (u : Task) (i : Instr) : Option Task :=
  let past (x : Task) : Task := { x with pc := x.pc + BitVec.ofNat 56 (Instr.length i) }
  match (if u.guard (gUse i).2 then i else .nop), i with
  | .scopeOpen a _, _ => some (past (u.openRegs (u.rdG a).v))
  | .scopeClose a _, _ => some (past { u with scope := u.scope &&& ~~~(u.rdG a).v })
  | _, _ => match exec i (s.alone u) with
    | .next x => if x.cur.status = .resident ∧ x.cur.key = u.key ∧ x.stalled = false then some x.cur else none
    | _ => none

/-- The trailing copy after an instruction that the leading copy performed: it has the values of the entry (R210). -/
def Twinned.give (e : Twinned) (u : Task) : Task :=
  let reads := (gUse e.instr).1.filter (fun r => !(queuedG e.instr).contains r)
  let u1 := e.gs.foldl (fun (x : Task) g => x.wrG (BitVec.ofNat 5 g.1) ⟨g.2.1, g.2.2.1, g.2.2.2⟩) (u.noteReads reads)
  let u2 := e.ps.foldl (fun (x : Task) p => x.wrP p.1 p.2.1 p.2.2) u1
  { u2 with
    pc := u.pc + BitVec.ofNat 56 (Instr.length e.instr), mx := e.mx.getD u2.mx
    st := if e.drew then { u2.st with rseq := (u2.st.rseq + 1) &&& 0xFFFFFFFF } else u2.st }

/-- The first n stores of a task that wait in the store comparator commit (R210). -/
def releaseHeld (key : Nat) : Nat → List Store → List Store
  | 0, l => l
  | _, [] => []
  | n + 1, x :: r => if x.key == key && x.held then { x with held := false } :: releaseHeld key n r else x :: releaseHeld key (n + 1) r

/-- The trailing copy has become u and has taken the entries up to and including e, `rest` being left: its signature absorbs what it presented, a tie-break
run's signature is noted at its last entry (R390), and held stores commit. At CDOPEN the signature begins again (R389). -/
def State.trailed (s : State) (u : Task) (taken : Option (Twinned × List Twinned)) : State :=
  match taken with
  | none => s.modCur (fun t => t.putCopy u)
  | some (e, rest) =>
    let s1 := s.modCur (fun t =>
      let w := t.putCopy u
      let again := match e.instr with | .cdopen _ _ => e.took | _ => false
      let n := if again then 0 else (match w.twin with | some x => x.count | none => 0) + (if e.absorbed = [] then 0 else 1)
      { w with
        twin := w.twin.map (fun x => { x with sig := if again then 0 else absorb x.sig e.absorbed, count := n })
        red := { w.red with
          queue := rest
          sig3 := match w.red.tie with | some (_, _, c) => if n = c ∧ e.absorbed ≠ [] then some e.sig else w.red.sig3 | none => w.red.sig3 } })
    { s1 with stores := releaseHeld s.cur.key e.held s1.stores }

/-- A mismatch of the issuing task at an entry, the trailing copy having presented `mine`. -/
def State.differ (s : State) (e : Twinned) (mine : List DWord) : State := s.mismatch s.cur e (absorb ((s.cur.twin.map (·.sig)).getD 0) mine)

/-- The trailing copy executes instruction i, the entry e standing against it with `rest` behind it; `stray` says that the copies' paths have parted.
None where it has to wait for the leading copy. -/
def State.trailInstr (s : State) (u : Task) (i : Instr) (stray : Bool) : Option State :=
  let q := s.cur.red.queue
  let e := s.cur.entryAt
  if !u.guard (gUse i).2 then
    -- a false guard only advances PC; what the leading copy has queued stays for the next comparison
    match s.ownStep u i with
    | some v => some (s.trailed v (if stray || (e.took && (e.load || e.store)) then none else some (e, q.drop 1)))
    | none => some (s.differ e [])
  else
    let a := absorbedOf u i
    let x := extraOf u i
    if ownWork i && a.isEmpty then
      match s.ownStep u i with
      | some v => some (s.trailed v (if stray then none else some (e, q.drop 1)))
      | none => some (s.differ e [])
    else if a.isEmpty && x.isEmpty && (queuedG i).isEmpty then
      -- nothing is compared and nothing is received
      some (s.trailed ({ e with instr := i, gs := [], ps := [], mx := none, drew := false }.give u) (if stray then none else some (e, q.drop 1)))
    else
      match (if stray then q.dropWhile (fun y => !(y.load || y.store)) else q) with
      | [] => if s.cur.status = .parked (.comparator true) then some (s.differ e a) else none
      | f :: rest =>
        if !f.took || f.absorbed != a || f.extra != x then some (s.differ f a)
        else if f.held != 0 && decide (16 ≤ (s.storesOf s.cur.key).countP (fun y => !y.held)) then none
        else if ownWork i then match s.ownStep u i with
          | some v => some (s.trailed v (some (f, rest)))
          | none => some (s.differ f a)
        else some (s.trailed (f.give u) (some (f, rest)))

/-- A turn of the trailing copy of task `k` (R210, R304): it executes the instruction that the leading copy executed there, from the same bits, or, its
path having left the leading copy's, the one at its own PC. None where it has nothing to do, or has to wait. -/
def State.trailTurn (s0 : State) (k : Nat) : Option State :=
  let s := s0.select k
  let t := s.cur
  if t.key ≠ k ∨ t.inCache = false ∨ t.status = .absent ∨ t.caughtUp = true then none
  else match t.status with
  | .parked (.discard _) => none
  | _ =>
    let u := t.copy
    let stray := match t.red.queue with | e :: _ => e.pc != u.pc | [] => true
    match (if stray then s.strayInstr u else some t.entryAt.instr) with
    | none => some (s.differ t.entryAt [])
    | some i =>
      let s1 := s.fillLines k ([4, 5, 7] ++ u.linesOf i)
      s1.trailInstr s1.cur.copy i stray

/-- The first redundant task whose trailing copy can go on. -/
def State.trailer (s : State) : Option Nat := ((s.tasks.filter (fun t => t.twin.isSome)).find? (fun t => (s.trailTurn t.key).isSome)).map (·.key)

end Sys2Proof.Machine
end

