-- ==== Sys2Proof/Machine/Schedule.lean ====
section
/-! DEFINITION. What happens next when the agenda is empty: the module's own work, one choice among the interleavings that the spec allows (log
entry 7). An event is chosen only if it can happen and changes something. -/

namespace Sys2Proof.Machine

/-! ## Candidates -/

/-- Events that a task waits for. -/
def State.taskEvents (s : State) (t : Task) : List (Instr × EvIn) :=
  let e : EvIn := { key := t.key, gt := s.taskGt t, vi := t.vi }
  (match t.status with
  | .parked p => (.taskReady, e) :: (match p with
    | .walk _ => [(.translationWalk, e)]
    | .regLine _ => [(.registerCacheFill, e)]
    | .handle h => [(.handleCacheFill, { e with index := h })]
    | .discard _ => [(.domainDiscard, e)]
    | .code => [(.codeFetch, e)]
    | .grant a => [(.reservationGrant, { e with addr := a, src := s.md.number })]
    | _ => [])
  | .trapped => [(.trapHandlerStart, e)]
  | _ => []) ++
  (if t.red.tie.isSome && t.red.sig3.isSome then [(.tieBreakComparison, e)] else [])

/-- Events of a tile. -/
def tileEvents (g : Nat) (x : Tile) : List (Instr × EvIn) :=
  let e : EvIn := { gt := g }
  (List.range 16).flatMap (fun n => [(.vectorCommandComplete, { e with slot := n }), (.matrixCommandComplete, { e with slot := n }), (.boxWrite, { e with slot := n }),
    (.boxWrite, { e with slot := n, kind := 1 }), (.vectorCommandBegin, { e with slot := n }), (.matrixCommandBegin, { e with slot := n })]) ++
  x.cb.flatMap (fun b => [(.cbGrant, { e with id := b.1 }), (.cbGrant, { e with id := b.1, kind := 1 })]) ++
  x.mbox.flatMap (fun m => (.handlerStart, { e with id := m.1 }) :: m.2.posts.map (fun _ => (.messageArrival, { e with id := m.1, kind := 1 }))) ++
  x.xfers.flatMap (fun t => [(.transferCompletion, { e with id := t.2.id }), (.chainDescriptorFetch, { e with id := t.2.id })]) ++
  (if x.waking then [(.wakeComplete, e)] else []) ++
  (List.range 16).map (fun n => (.taskAdmission, { e with slot := n }))

/-- Events of a die's streams. -/
def dieEvents (d : Nat) (x : Die) : List (Instr × EvIn) :=
  x.streams.flatMap (fun st => st.2.subs.map (fun u => (.streamDelivery, { die := d, id := st.1, slot := u.1 })))

/-- Events of a VI's queues and launches. -/
def viEvents (v : Nat) (x : Vi) : List (Instr × EvIn) :=
  let e : EvIn := { vi := v }
  [(.revoke, e), (.revocationDone, e), (.preemption, e), (.pageMoveRecord, e), (.frameMove, e)] ++
  (if x.stop && !x.stopped then [(.viStopped, e)] else []) ++
  (List.range 4).map (fun w => (.hostLaunchStart, { e with index := w })) ++
  x.launches.flatMap (fun l => (.leadDistributorPlacement, { e with id := l.id }) :: l.waiting.map (fun w => (.taskInstantiation, { e with id := l.id, index := w.2 })))

/-- Events of gated tiles that something waits for, dies that are being retired, walks, reservations, messages and collectives. -/
def State.moduleEvents (s : State) : List (Instr × EvIn) :=
  (s.tiles.filter (fun t => t.2.gated && !t.2.waking && s.asksTile t.1)).map (fun t => (.wake, { gt := t.1 })) ++
  s.md.retiring.map (fun e => (.dieRetirement, { die := e.1, index := ((List.range 36).find? s.isSpare).getD 0 })) ++
  s.md.walks.map (fun w => (.walkComplete, { id := w.tag })) ++
  s.resv.flatMap (fun r => [(.reservationGrant, { addr := r.addr, src := s.md.number }), (.reservationRelease, { addr := r.addr, src := s.md.number })]) ++
  s.msgs.flatMap (fun m => [(.messageArrival, { id := m.id, src := s.md.number }), (.msendReply, { id := m.id, src := s.md.number })]) ++
  (s.msgs.filter (·.held)).flatMap (fun m => match s.mailOf m with
    | some (g, n) => [(.heldMessageBatch, { gt := g, id := n, addr := m.group, seq := m.phase })]
    | none => []) ++
  s.tiles.flatMap (fun t => (t.2.xfers.filter (fun x => mvDkind x.2.regs == 4)).map (fun x => (.colExchange, { src := s.md.number, gt := t.1, index := x.2.id }))) ++
  s.colls.flatMap (fun c =>
    let e : EvIn := { src := s.md.number, size := c.job, id := c.tag, seq := c.use, value := c.sel.toNat }
    (.collectiveReady, e) :: (if c.commit then [(.collectiveCommit, e)] else []))

/-- This module's own requests that its home has to serve (R117). -/
def State.ownRequests (s : State) : List (Instr × EvIn) :=
  (s.md.outbox.filter (fun p => p.cls == cREQ && p.dst == s.md.number && (p.kind == kGetS || p.kind == kGetM))).map (fun p =>
    (if p.kind = kGetM then .getm else .gets, { src := s.md.number, seq := p.seq }))

/-- The event that serves a packet that has come in. -/
def packetEvent (x : EvIn) : List (Instr × EvIn) :=
  let e : EvIn := { src := x.src, seq := x.seq, gt := x.gt, die := x.die, id := x.addr / 65536 }
  if x.kind = kGetS then [(.gets, e)] else if x.kind = kGetM then [(.getm, e)]
  else if x.kind = kWriteBack then [(.writeBack, e)] else if x.kind = kEvict then [(.eviction, e)] else if x.kind = kInval then [(.invalidation, e)]
  else if x.kind = kDelta then [(.parityDelta, e)] else if x.kind = kStore then [(.protectedWrite, e)]
  else if x.kind = kRelease then [(.reservationRelease, e)] else if x.kind = kGrant then [(.reservationGrant, e)]
  else if x.kind = kMsg then [(.messageArrival, e)] else if x.kind = kReply then [(.msendReply, e)]
  else if x.kind = kShare then [(.colExchange, e)] else if x.kind = kReady then [(.collectiveReady, e)] else if x.kind = kCommit then [(.collectiveCommit, e)]
  else if x.kind = kAbort then [(.collectiveAbort, e)] else if x.kind = kQuery ∨ x.kind = kAnswer then [(.coordinatorTakeover, e)]
  else []

/-- All candidates, movers last. -/
def State.candidates (s : State) : List (Instr × EvIn) :=
  s.tasks.flatMap s.taskEvents ++ s.tiles.flatMap (fun t => tileEvents t.1 t.2) ++ s.dies.flatMap (fun d => dieEvents d.1 d.2) ++ s.ownRequests ++ s.md.inbox.flatMap packetEvent ++
  s.moduleEvents ++ s.vis.flatMap (fun v => viEvents v.1 v.2) ++ s.tiles.flatMap (fun t => [(.transferBegin, { gt := t.1 }), (.moverTurn, { gt := t.1 })])

/-- Whether an event can happen now and changes something besides the inputs it reads. -/
def State.happens (s : State) (e : Instr × EvIn) : Bool :=
  match exec e.1 { s with ev := e.2 } with
  | .next s' => decide (s' ≠ { s with ev := e.2 })
  | _ => false

/-- The next event of the module itself; none when nothing is pending. -/
def State.pendingEvent (s : State) : Option (Instr × EvIn) := s.candidates.find? s.happens

/-! ## The next move -/

/-- What happens next: a task's turn, an event, or nothing. -/
inductive NextMove where
  | issue (key : Nat)
  | event (i : Instr) (x : EvIn)
  | trail (key : Nat)
  | late (key : Nat)
  | store (n : Nat)
  | idle
  deriving DecidableEq, Repr

/-- With an empty agenda the module boots if it has not booted, a trailing copy that is behind goes on, the issuing task takes its turn while it is
resident and no queue holds it up, else pending work goes on, else another resident task takes its turn, else a cycle passes. -/
def State.ownMove (s : State) : NextMove :=
  if !s.md.booted && !s.md.held then .event .boot { ok := true }
  else if let some k := s.trailer then .trail k
  else if s.cur.status = .resident ∧ s.stalled = false then .issue s.cur.key
  else match s.pendingEvent with
    | some e => .event e.1 e.2
    | none => match s.tasks.find? (fun t => t.status == .resident) with
      | some t => .issue t.key
      | none => .idle

/-- The next move (log entry 7). -/
def State.nextMove (s : State) : NextMove :=
  match s.agenda with
  | .issue k :: _ => .issue k
  | .event i x :: _ => .event i x
  | .trail k :: _ => .trail k
  | .late k :: _ => .late k
  | .store n :: _ => .store n
  | [] => s.ownMove

/-- What goes on by itself at the end of every step, `old` being the state before it: the slice holds the hardware areas (R193), updates and stores that
waited are tried again (R207, R314), and the links move (R113, R125). -/
def State.settle (s old : State) : State := ((s.waitOver.keepHw old).settleBumps.settleLeaves.drainStores.linkTurn).noteHeads

end Sys2Proof.Machine
end

