-- ==== Sys2Proof/Machine/Step.lean ====
section
/-! DEFINITION. One step of the module: the next move is an event, or the turn of a task, which fetches, decodes and executes one instruction
(R23, R51). -/

namespace Sys2Proof.Machine

/-- The agenda without its first move. -/
def State.popAgenda (s : State) : State := { s with agenda := s.agenda.tail }

/-- Instruction i in its turn, from R51 step 3 on: a request that recovery failed first (R397), then the lines it needs (R195), then its
meaning. -/
def issueInstr (i : Instr) (s : State) : Host.Outcome State Fault Refusal :=
  match s.failedHere with
  | some a => .next (s.failAccess i a)
  | none =>
    match s.lineWait i with
    | some l => .next (s.linePark i l)
    | none => paired i s (exec i s)

/-- The turn of the issuing task: fetch, decode, execute (R23, R51); a readied task executes its instruction again without a new fetch (R61). -/
def issueTurn (s : State) : Host.Outcome State Fault Refusal :=
  match s.beforeIssue with
  | some s' => .next (s.together s')
  | none =>
    let s1 := s.slotTurn
    match s1.cur.sch.again with
    | some i => issueInstr i s1.takeAgain
    | none =>
      match s1.fetchInstr s1.cur with
      | .fault => .next (s1.together s1.fetchFault)
      | .park p => .next (s1.fetchPark p)
      | .freeze c => .next (s1.freezeTask s1.cur.key c)
      | .bytes bs =>
        match decode bs with
        | .ok i _ => issueInstr i s1.takeAgain
        | .illegal w long => if s1.cur.caughtUp then exec .illegalInstruction (s1.illegalIn w long) else .next (s1.redPark none true)
        | .short => .next (s1.together s1.fetchFault)

/-- The turn of task k. -/
def turnOf (k : Nat) (s : State) : Host.Outcome State Fault Refusal :=
  let s1 := s.select k
  -- an empty slot's turn passes unused (R23)
  if s1.cur.status = .resident ∧ s1.cur.key = k then issueTurn s1 else .next s1.idle

/-- The n-th outstanding store is kept no longer: it is performed as soon as it can be (R362). -/
def State.freeStore (s : State) (n : Nat) : State := { s with stores := s.stores.modify n (fun x => { x with late := false }) }

/-- The next move as it happens: an event, a cycle in which nothing happens, or a turn. -/
def moveNext (s : State) : Host.Outcome State Fault Refusal :=
  match s.nextMove with
  | .event i x => exec i { s.popAgenda.tick with ev := x }
  | .idle => .next s.popAgenda.idle
  | .trail k => .next ((s.popAgenda.trailTurn k).getD s.popAgenda.idle)
  | .issue k => turnOf k s.popAgenda
  | .late k =>
    match turnOf k { s.popAgenda with defer := true } with
    | .next t => .next { t with defer := false }
    | o => o
  | .store n => .next (s.popAgenda.freeStore n)

/-- A step's next state as what goes on by itself leaves it. -/
def settled (s : State) : Host.Outcome State Fault Refusal → Host.Outcome State Fault Refusal
  | .next t => .next (t.settle s)
  | o => o

/-- One step. -/
def step (s : State) : Host.Outcome State Fault Refusal := settled s (moveNext s)

/-- The instruction with bits w placed where the next step fetches: as the first instruction of a resident task of VI 0 on tile 0 of
virtual die 0, the module having booted (log entry 6). -/
def State.withFetchWord (s : State) (nbits w : Nat) : State := s.placed nbits w

end Sys2Proof.Machine
end

