-- ==== Sys2Proof/Safety.lean ====
section
/-! DEFINITION. What a well-formed state is: the canonical forms that every step keeps; and the words in which claims say that an
instruction completes and what it leaves alone. -/

namespace Sys2Proof.Machine

/-- Strictly rising numbers. -/
def risingSet : List Nat → Bool
  | [] => true
  | [_] => true
  | k :: k' :: r => decide (k < k') && risingSet (k' :: r)

/-- Memory in canonical form: addresses strictly rising, and no entry equal to what an unlisted address reads as. -/
def Memory.wf (m : List Host.Cell) : Bool := tableWf unlistedByte m

/-- An outcome is a next state, and that state has the property. -/
def Completes (o : Host.Outcome State Fault Refusal) (p : State → Prop) : Prop := ∃ t, o = .next t ∧ p t

/-- The guard of the instruction lets it take effect: its predicate is not a tainted one in deterministic mode (R203), and it is true
(R39). With Q 0 both hold of every state. -/
def Runs (s : State) (q : BitVec 4) : Prop := s.cur.guardTainted q = false ∧ s.cur.guard q = true

/-- Every byte of memory reads in `t` as in `s`, with its mark. -/
def SameMemory (s t : State) : Prop := ∀ k, t.byteAt k = s.byteAt k ∧ t.marked k = s.marked k

/-- A task comes to exist with its workspace at offset b of tile gt (R186, R299): on a tile without windows, memory outside the workspace and
its trailing copy's is as before. -/
def NewWorkspace (s t : State) (gt b : Nat) : Prop :=
  (s.tile gt).win = [] → b % 256 = 0 → ∀ k, k < sramKey gt b ∨ sramKey gt b + 0x2400 ≤ k → t.byteAt k = s.byteAt k ∧ t.marked k = s.marked k

/-- The issuing task has moved past an instruction of `len` bytes that read the G registers `reads` and writes `x` to the G register `d`;
nothing else has changed. A dead register discards the write and sets DEADWR; a dead register read sets DEADREAD (R198). The poison tag
is the value's, and the taint tag too in deterministic mode (R200, R202). -/
structure WritesG (s t : State) (reads : List (BitVec 5)) (d : BitVec 5) (x : RegV) (len : Nat) : Prop where
  /-- The frame: only PC, the G registers, SR.TSTAT, SR.POIS and SR.TAINT of the issuing task may differ. -/
  frame : t = { s with
    cur := { s.cur with pc := t.cur.pc, g := t.cur.g, st := { s.cur.st with tstat := t.cur.st.tstat, pois := t.cur.st.pois, taint := t.cur.st.taint } }
    stalled := false }
  memory : SameMemory s t
  pc : t.cur.pc = s.cur.pc + BitVec.ofNat 56 len
  g : ∀ r : BitVec 5, t.cur.g[r.toNat] = if r = d ∧ s.cur.liveG d = true then x.v else s.cur.g[r.toNat]
  pois : ∀ j, bit t.cur.st.pois j = if j = d.toNat ∧ s.cur.liveG d = true then x.p else bit s.cur.st.pois j
  taint : ∀ j, bit t.cur.st.taint j = if j = d.toNat ∧ s.cur.liveG d = true then s.cur.det && x.t else bit s.cur.st.taint j
  tstat : ∀ j, bit t.cur.st.tstat j =
    (bit s.cur.st.tstat j || (decide (j = 16) && !reads.all s.cur.liveG) || (decide (j = 17) && !s.cur.liveG d))

/-- An instruction of guard q (0 where its format carries none) that forms a value from the G registers `reads`: whenever its guard lets it
run it completes, writing the value to `d` with the OR of the tags of what it read (R200, R202), and moves past its own length. -/
def ScalarRow (i : Instr) (q : BitVec 4) (reads : List (BitVec 5)) (d : BitVec 5) (f : State → DWord) : Prop :=
  ∀ s, Runs s q → Completes (exec i s) (fun t =>
    WritesG s t reads d ⟨f s, reads.any (fun r => (s.cur.rdG r).p), reads.any (fun r => (s.cur.rdG r).t)⟩ (Instr.length i))

/-- The value that an instruction of the issuing task reads from a G register (R198). -/
def State.gv (s : State) (r : BitVec 5) : DWord := (s.cur.rdG r).v

/-- The registers carry no poison tag and, in deterministic mode, no taint tag, so that no check of R201 or R203 stops on them. -/
def CleanG (s : State) (ns : List (BitVec 5)) : Prop := ∀ n ∈ ns, (s.cur.rdG n).p = false ∧ (s.cur.det && (s.cur.rdG n).t) = false

/-- The issuing task has moved past an instruction of `len` bytes that read the G registers `reads` and writes predicate d; nothing else has
changed (R322, R324, R325). -/
structure WritesP (s t : State) (reads : List (BitVec 5)) (d : BitVec 3) (v tn : Bool) (len : Nat) : Prop where
  frame : t = { s with
    cur := { s.cur with pc := t.cur.pc, st := { s.cur.st with tstat := t.cur.st.tstat, taint := t.cur.st.taint } }
    stalled := false }
  memory : SameMemory s t
  pc : t.cur.pc = s.cur.pc + BitVec.ofNat 56 len
  /-- P is bits [7:0] of SR.TSTAT, DEADREAD is bit 16 (R190). -/
  tstat : ∀ j, bit t.cur.st.tstat j = if j = d.toNat then v else (bit s.cur.st.tstat j || (decide (j = 16) && !reads.all s.cur.liveG))
  /-- The taint of Pd is bit 52 + d of SR.TAINT (R191). -/
  taint : ∀ j, bit t.cur.st.taint j = if j = 52 + d.toNat then s.cur.det && tn else bit s.cur.st.taint j

/-- The issuing task's state after it has read G registers and moved past an instruction: what a transfer or a store leaves of it. -/
def State.past (s : State) (reads : List (BitVec 5)) (pc : BitVec 56) : State :=
  { s with cur := { s.cur.noteReads reads with pc := pc }, stalled := false }

/-- A run of n bytes at a place that a plain load reads as memory holds it, at the physical number k: a written granule of a slice, the
window redirection of R148 applied, outside the workspace of every live task (R187), or HBM that no other module holds (R119, R135). -/
def ReadsAt (s : State) (l : Loc) (n k : Nat) : Prop :=
  match l with
  | .sram gt off => ∃ o, off % 256 + n ≤ 256 ∧ (s.tile gt).redirect false off = .at_ o ∧ (s.gran gt (o / 256)).state = 2 ∧ s.liveArea gt o = none ∧
    k = sramKey gt o
  | .hbm mma => mma % 2 ^ 21 + n ≤ 2 ^ 21 ∧ (∀ x ∈ linesOf mma n, s.remoteHeld x false = false) ∧ k = s.hbmKey mma
  | _ => False

/-- The same for a store, which a written granule takes; the frame of HBM is unprotected, so that no parity delta follows (R104). -/
def WritesAt (s : State) (l : Loc) (n k : Nat) : Prop :=
  match l with
  | .sram gt off => ∃ o, off % 256 + n ≤ 256 ∧ (s.tile gt).redirect true off = .at_ o ∧ (s.gran gt (o / 256)).state = 2 ∧ k = sramKey gt o
  | .hbm mma => mma % 2 ^ 21 + n ≤ 2 ^ 21 ∧ (∀ x ∈ linesOf mma n, s.remoteHeld x true = false) ∧ s.frameKind (mma / 2 ^ 21) ≠ 1 ∧ k = s.hbmKey mma
  | _ => False

/-- No engine command of the issuing task (R226) and no store of it that is still outstanding (R207) touches one of n bytes at a place, and none is a strong
event that is still to come (R356), so that an access there need not wait. -/
def AccessFree (s : State) (l : Loc) (n : Nat) : Prop := s.memBusy l n = false ∧ s.strongCmd = false ∧ ∀ x ∈ s.storesOf s.cur.key, s.storeMeets x l n = false ∧ x.strong = false

/-- A strong event of the issuing task waits for nothing: no engine command of it still accesses memory (R226), and none of its stores is outstanding
(R356, R366). -/
def ReleaseFree (s : State) : Prop := (s.cmdsOf s.cur).any (fun c => c.touchesMem s) = false ∧ s.storesOf s.cur.key = []

/-- A place whose doubleword has its home in this module, at the physical number k: in a slice without a fence, or in an unprotected frame of HBM that is not being
moved, no other module holding the line, by whichever region the place is named (R101, R104, R119, R343). -/
def WordAtHome (s : State) (l : Loc) (k : Nat) : Prop :=
  let hbm (mma : Nat) : Prop := mma < 2 ^ 40 ∧ s.remoteHeld mma true = false ∧ s.frameKind (mma / 2 ^ 21) ≠ 1 ∧ s.frameBusy (mma / 2 ^ 21) = false ∧
    k = s.hbmKey (mma / 8 * 8)
  match l with
  | .sram gt off => gt < 2 ^ 13 ∧ off < 2 ^ 25 ∧ s.fencedTile gt = false ∧ k = sramKey gt off / 8 * 8
  | .hbm mma => hbm mma
  | .peer m mma => m = s.md.number ∧ hbm mma
  | _ => False

/-- The issuing task has released the doubleword with number w, whose physical number is k (R345): written with x, its poison gone and an
overwritten mark counted (R109), or with `none` left as it was. Nobody holds the word; other reserved words, other bytes and other marks are as before. -/
structure Releases (s t : State) (w k : Nat) (x : Option DWord) : Prop where
  frame : t = { s with
    cur := t.cur, mem := t.mem, poison := t.poison, resv := t.resv
    md := { s.md with
      dcache := t.md.dcache, dir := t.md.dir, counters := t.md.counters
      overwrites := s.md.overwrites + (if x.isSome = true ∧ s.marked k = true then 1 else 0) }
    stalled := false }
  word : ∀ d, x = some d → ∀ j, j < 8 → t.byteAt (k + j) = BitVec.ofNat 8 (d.toNat / 256 ^ j)
  bytes : ∀ z, x = none ∨ z < k ∨ k + 8 ≤ z → t.byteAt z = s.byteAt z
  marks : ∀ z, t.marked z = if x.isSome = true ∧ k ≤ z ∧ z < k + 8 then false else s.marked z
  free : ∀ y ∈ t.resv, y.addr = w → y.holder = none
  rest : ∀ y, y.addr ≠ w → (y ∈ t.resv ↔ y ∈ s.resv ∧ (y.holder.isSome = true ∨ y.waiters ≠ []))

/-- The vector instructions of format V: no guard, no G operand, a type field of their own (R228 to R231, R235, R236, R238 to R240). -/
def plainVector : Instr → Bool
  | .vadd .. | .vsub .. | .vmul .. | .vfma .. | .vfms .. | .vmin .. | .vmax .. | .vabs .. | .vneg .. | .vadds .. | .vsubs .. => true
  | .vdiv .. | .vsqrt .. | .vrcp .. | .vrsq .. | .vexp2 .. | .vlog2 .. => true
  | .vcmpEq .. | .vcmpNe .. | .vcmpLt .. | .vcmpLe .. | .vcmpUn .. | .vsel .. | .vclass .. => true
  | .vand .. | .vor .. | .vxor .. | .vnot .. | .vshl .. | .vshr .. | .vsra .. => true
  | .vperm .. | .vslide .. | .vzip .. | .vuzp .. => true
  | .vred .. | .vredBox .. | .vrmin .. | .vrminBox .. | .vrmax .. | .vrmaxBox .. | .vscan .. => true
  | .vtopk .. | .vquant .. | .vdeq .. | .vcvt .. => true
  | _ => false

/-- The vector short forms, which take their type from SR.VTYPE (R241). -/
def shortVector : Instr → Bool
  | .vaddS .. | .vsubS .. | .vmulS .. | .vminS .. | .vmaxS .. | .vandS .. | .vorS .. | .vxorS .. => true
  | _ => false

/-- The vector instructions that round by SR.MODE.RM: with RM 5 they resolve their mode to SR, and advance SR.RSEQ (R80). `vt` is the type that
SR.VTYPE gives. -/
def vectorDraws (vt : Nat) : Instr → Bool
  | .vadd y .. | .vsub y .. | .vmul y .. | .vfma y .. | .vfms y .. | .vdiv y .. | .vsqrt y .. | .vrcp y .. | .vrsq y .. | .vexp2 y ..
  | .vlog2 y .. | .vred y .. | .vredBox y .. | .vscan y .. => decide (16 ≤ y.toNat)
  | .vaddS .. | .vsubS .. | .vmulS .. => decide (16 ≤ vt)
  | .vxdrain .. | .vquant .. | .vdeq .. => true
  | .vcvt x y .. => !(tyIsInt x.toNat && tyIsInt y.toNat)
  | _ => false

/-- SR.MODE.RM is SR (R71). -/
def State.rmIsSR (s : State) : Bool := bits s.cur.st.mode 0 3 == 5

/-- VEXTR takes its G operand in field b (R233). -/
def isVextr : Instr → Bool
  | .vextr _ _ _ _ => true
  | _ => false

/-- The issuing task has put the command of instruction i at the tail of its slot's queue to the vector engine (`vec`), or to the matrix engine,
and moved past the instruction, having read the G registers `reads`. The command carries what R76, R80, R223 and R248 have it take at
issue: the operand `op` with its tags, SR.MODE, SR.VTYPE, SR.RKEY, SR.RSEQ, the matrix state and the open containment level. SR.RSEQ has
advanced when the instruction resolves its rounding mode to SR (`draws`, R80). Memory, every register and every other queue are as before. -/
structure Enters (s t : State) (vec : Bool) (i : Instr) (reads : List (BitVec 5)) (op : RegV) (draws : Bool) : Prop where
  frame : t = { s with
    cur := { s.cur with pc := t.cur.pc, st := { s.cur.st with tstat := t.cur.st.tstat, rseq := t.cur.st.rseq } }
    tiles := t.tiles, clock := s.clock + 1, stalled := false }
  memory : SameMemory s t
  pc : t.cur.pc = s.cur.pc + BitVec.ofNat 56 (Instr.length i)
  tstat : ∀ j, bit t.cur.st.tstat j = (bit s.cur.st.tstat j || (decide (j = 16) && !reads.all s.cur.liveG))
  rseq : t.cur.st.rseq = if draws then (s.cur.st.rseq + 1) &&& 0xFFFFFFFF else s.cur.st.rseq
  queue : ∃ c : Cmd, c.instr = i ∧ c.phase = .queued ∧ c.seq = s.clock ∧ c.vi = s.cur.vi ∧ c.wp = s.cur.wp ∧ c.slot = s.cur.slot ∧
    (if isVextr i then c.gb = op.v ∧ c.poisB = op.p ∧ c.taintB = op.t else c.ga = op.v ∧ c.poisA = op.p ∧ c.taintA = op.t) ∧
    c.mode = s.cur.st.mode ∧ c.vtype = s.cur.st.vtype ∧ c.rkey = s.cur.st.rkey ∧ c.rseq = s.cur.st.rseq ∧ c.mx = s.cur.mx ∧
    c.depth = s.cur.depth ∧
    ∀ g, t.tile g = if g = s.taskGt s.cur then
        (if vec then { s.tile g with vq := (s.tile g).vq ++ [c] } else { s.tile g with mq := (s.tile g).mq ++ [c] })
      else s.tile g

/-- The guard field of an instruction of a format that carries one (R39). -/
def guardOf : Instr → Option (BitVec 4)
  | .add _ _ _ q | .sub _ _ _ q | .and _ _ _ q | .or _ _ _ q | .xor _ _ _ q | .andn _ _ _ q | .orn _ _ _ q | .xnor _ _ _ q | .shl _ _ _ q
  | .shr _ _ _ q | .sra _ _ _ q | .ror _ _ _ q | .min _ _ _ q | .max _ _ _ q | .minn _ _ _ q | .maxn _ _ _ q | .mul _ _ _ q
  | .mulh _ _ _ q | .mulhn _ _ _ q | .div _ _ _ q | .divn _ _ _ q | .rem _ _ _ q | .remn _ _ _ q | .mov _ _ q | .clz _ _ q | .ctz _ _ q
  | .popc _ _ q | .brev _ _ q | .bswap _ _ q | .sext _ _ _ q | .zext _ _ _ q | .shadd1 _ _ _ q | .shadd2 _ _ _ q | .shadd3 _ _ _ q
  | .shadd4 _ _ _ q | .mksa _ _ _ q | .ldB _ _ _ q | .ldH _ _ _ q | .ldW _ _ _ q | .ldD _ _ _ q | .ldNb _ _ _ q | .ldNh _ _ _ q
  | .ldNw _ _ _ q | .stB _ _ _ q | .stH _ _ _ q | .stW _ _ _ q | .stD _ _ _ q | .ldAcq _ _ _ _ q | .stRel _ _ _ _ q | .scopeOpen _ q
  | .scopeClose _ q | .mbr _ _ q | .mbw _ _ q | .alloc _ _ _ q | .free _ _ _ q | .rsv _ _ q | .relw _ _ q | .reln _ q | .casW _ _ _ q
  | .casD _ _ _ q | .amoAdd _ _ _ _ _ q | .amoAnd _ _ _ _ _ q | .amoOr _ _ _ _ _ q | .amoXor _ _ _ _ _ q | .amoMin _ _ _ _ _ q
  | .amoMax _ _ _ _ _ q | .amoMinn _ _ _ _ _ q | .amoMaxn _ _ _ _ _ q | .amoSwap _ _ _ _ _ q | .fence _ q | .fenceSc _ q | .bprepr _ _ q
  | .cmpEq _ _ _ q | .cmpNe _ _ _ q | .cmpLt _ _ _ q | .cmpGe _ _ _ q | .cmpLtn _ _ _ q | .cmpGen _ _ _ q | .pand _ _ _ q | .por _ _ _ q
  | .pnot _ _ q | .br _ q | .brP _ _ q | .brNp _ _ q | .brl _ _ q | .brdec _ _ q | .iinv q | .launch _ _ q | .spawn _ q | .exit q
  | .yield q | .qdist _ _ q | .join _ _ q | .leave q | .gbar _ q | .sstep _ _ _ q | .ddec _ _ q | .dadd _ _ q | .waitc _ _ _ q
  | .msend _ _ q | .wpush _ _ q | .wpop _ _ _ q | .wpopNb _ _ _ q | .wclose _ q | .vld _ _ _ q | .vst _ _ _ q | .vgath _ _ _ q
  | .vscat _ _ _ q | .vbcast _ _ q | .vextr _ _ _ q | .vldc _ _ q | .vldcKeep _ _ q | .vstc _ _ q | .mxcfg _ _ q | .mxzero _ q
  | .mxmac _ q | .mxwait _ q | .mxchk _ _ q | .mxa _ _ q | .mxaKeep _ _ q | .mxaHold _ _ q | .mxb _ _ q | .mxbKeep _ _ q | .mxbHold _ _ q
  | .mxdrain _ _ _ _ q | .ufcfg _ q | .mxaUf _ q | .ssub _ _ q | .sunsub _ q | .mxbS _ _ q | .mxspill _ _ q | .mxfill _ _ q
  | .mvset _ _ q | .mvget _ _ q | .mvgo _ q | .mvchain _ _ q | .mvtst _ _ q | .mvwait _ _ q | .bxinit _ _ q | .bxarv _ _ _ q
  | .bxwait _ _ _ q | .bxtst _ _ _ q | .cbacqP _ _ _ q | .cbacqC _ _ _ q | .cbrelP _ _ q | .cbrelC _ _ q | .cbqry _ _ _ q
  | .cbinitBuffer _ q | .cbinitWindow _ q | .glaze _ _ q | .rdsr _ _ q | .wrsr _ _ q | .tlbinv _ _ q | .trap _ _ q | .eret _ _ q
  | .cdopen _ q | .cdclose _ q => some q
  | _ => none

/-- The instructions that only a supervisor may execute (R47, R52): TLBINV, ERET, and WRSR of SR.POIS and SR.TAINT (R191). -/
def supervisorOnly : Instr → Bool
  | .tlbinv .. | .eret .. => true
  | .wrsr e _ _ => e == 3 || e == 4
  | _ => false

/-- The guarded vector instructions that take their type from SR.VTYPE (R220, R221). -/
def typedVector : Instr → Bool
  | .vgath .. | .vscat .. | .vbcast .. | .vextr .. => true
  | _ => false

/-- SR.VTYPE holds a type that those instructions accept (R221). -/
def State.vtypeOk (s : State) : Bool := acceptsIntFlt (BitVec.ofNat 5 (bits s.cur.st.vtype 0 5))

/-- It is a resident task's turn, nothing stands before its issue, and `s1` is the state that counts the turn (R23, R51). -/
structure Issues (s s1 : State) : Prop where
  turn : s.nextMove = .issue s1.cur.key
  counted : s1 = (s.popAgenda.select s1.cur.key).slotTurn
  resident : s1.cur.status = .resident
  free : (s.popAgenda.select s1.cur.key).beforeIssue = none

/-- The turn is one of a task that executes no instruction again (R61), and its fetch gives `bs`. -/
structure Fetches (s s1 : State) (bs : List Byte) : Prop extends Issues s s1 where
  anew : s1.cur.sch.again = none
  fetched : s1.fetchInstr s1.cur = .bytes bs

/-- The instruction ends in a precise fault of the issuing task at its own address (R371, R374): the state it issued in, with that trap
taken. -/
def Traps (i : Instr) (s : State) (code : Nat) (addr info : DWord) : Prop :=
  exec i s = .next { s.takeTrap s.cur.key { code := code, addr := addr, info := info } s.cur.pc.toNat (iwordOf i) with stalled := false }

/-- The forms that memory keeps: its canonical form, and the poisoned doublewords in rising order. -/
def State.MemoryForm (s : State) : Prop := Memory.wf s.mem = true ∧ risingSet s.poison = true

end Sys2Proof.Machine
end

