-- ==== Sys2Proof/Certificates/Slice0/Obligations.lean ====
section
/-! DEFINITION. The statements about the model that the provers answer. Each docstring names the rules of the spec it rests on. -/

open Sys2Proof Sys2Proof.Machine

/-- R211 with R198, R200, R202: the sixteen two-register rows of major 0x00. For every state in which the guard lets the instruction run, it
completes, writes the value that the table gives to gd with the OR of its operands' tags, moves past its own length, and leaves every other
register, flag and byte of memory alone. -/
def Obligations.LogicAndShiftRowsComplete : Prop :=
  ∀ (b a d : BitVec 5) (q : BitVec 4),
    ScalarRow (.add b a d q) q [a, b] d (fun s => BitVec.ofInt 64 ((s.gv a).toInt + (s.gv b).toInt)) ∧
    ScalarRow (.sub b a d q) q [a, b] d (fun s => BitVec.ofInt 64 ((s.gv a).toInt - (s.gv b).toInt)) ∧
    ScalarRow (.and b a d q) q [a, b] d (fun s => s.gv a &&& s.gv b) ∧
    ScalarRow (.or b a d q) q [a, b] d (fun s => s.gv a ||| s.gv b) ∧
    ScalarRow (.xor b a d q) q [a, b] d (fun s => s.gv a ^^^ s.gv b) ∧
    ScalarRow (.andn b a d q) q [a, b] d (fun s => s.gv a &&& ~~~(s.gv b)) ∧
    ScalarRow (.orn b a d q) q [a, b] d (fun s => s.gv a ||| ~~~(s.gv b)) ∧
    ScalarRow (.xnor b a d q) q [a, b] d (fun s => ~~~(s.gv a ^^^ s.gv b)) ∧
    ScalarRow (.shl b a d q) q [a, b] d (fun s => BitVec.ofNat 64 ((s.gv a).toNat * 2 ^ ((s.gv b).toNat % 64))) ∧
    ScalarRow (.shr b a d q) q [a, b] d (fun s => BitVec.ofNat 64 ((s.gv a).toNat / 2 ^ ((s.gv b).toNat % 64))) ∧
    ScalarRow (.sra b a d q) q [a, b] d (fun s => BitVec.ofInt 64 ((s.gv a).toInt / 2 ^ ((s.gv b).toNat % 64))) ∧
    ScalarRow (.ror b a d q) q [a, b] d (fun s => s.gv a >>> ((s.gv b).toNat % 64) ||| s.gv a <<< (64 - (s.gv b).toNat % 64)) ∧
    ScalarRow (.min b a d q) q [a, b] d (fun s => BitVec.ofInt 64 (min (s.gv a).toInt (s.gv b).toInt)) ∧
    ScalarRow (.max b a d q) q [a, b] d (fun s => BitVec.ofInt 64 (max (s.gv a).toInt (s.gv b).toInt)) ∧
    ScalarRow (.minn b a d q) q [a, b] d (fun s => BitVec.ofNat 64 (min (s.gv a).toNat (s.gv b).toNat)) ∧
    ScalarRow (.maxn b a d q) q [a, b] d (fun s => BitVec.ofNat 64 (max (s.gv a).toNat (s.gv b).toNat))

/-- R212 with R65: multiplication, division and remainder complete with the values of R65's functions, the two corner cases of division
written out. -/
def Obligations.MultiplyAndDivideRowsComplete : Prop :=
  ∀ (b a d : BitVec 5) (q : BitVec 4),
    ScalarRow (.mul b a d q) q [a, b] d (fun s => BitVec.ofInt 64 ((s.gv a).toInt * (s.gv b).toInt)) ∧
    ScalarRow (.mulh b a d q) q [a, b] d (fun s => BitVec.ofInt 64 (((s.gv a).toInt * (s.gv b).toInt) / 2 ^ 64)) ∧
    ScalarRow (.mulhn b a d q) q [a, b] d (fun s => BitVec.ofNat 64 (((s.gv a).toNat * (s.gv b).toNat) / 2 ^ 64)) ∧
    ScalarRow (.div b a d q) q [a, b] d (fun s => BitVec.ofInt 64 (
      if (s.gv b).toInt = 0 then -1
      else if (s.gv a).toInt = -2 ^ 63 ∧ (s.gv b).toInt = -1 then -2 ^ 63 else (s.gv a).toInt.tdiv (s.gv b).toInt)) ∧
    ScalarRow (.divn b a d q) q [a, b] d (fun s => BitVec.ofNat 64 (
      if (s.gv b).toNat = 0 then 2 ^ 64 - 1 else (s.gv a).toNat / (s.gv b).toNat)) ∧
    ScalarRow (.rem b a d q) q [a, b] d (fun s => BitVec.ofInt 64 (
      if (s.gv b).toInt = 0 then (s.gv a).toInt
      else if (s.gv a).toInt = -2 ^ 63 ∧ (s.gv b).toInt = -1 then 0 else (s.gv a).toInt.tmod (s.gv b).toInt)) ∧
    ScalarRow (.remn b a d q) q [a, b] d (fun s => BitVec.ofNat 64 (
      if (s.gv b).toNat = 0 then (s.gv a).toNat else (s.gv a).toNat % (s.gv b).toNat))

/-- R213: the one-register rows complete. A count says which bits are zero, and a reversal says each bit or byte of the result. -/
def Obligations.OneRegisterRowsComplete : Prop :=
  ∀ (e a d : BitVec 5) (q : BitVec 4),
    ScalarRow (.mov a d q) q [a] d (fun s => s.gv a) ∧
    (∃ f : DWord → DWord, ScalarRow (.clz a d q) q [a] d (fun s => f (s.gv a)) ∧
      ∀ x, x.toNat < 2 ^ (64 - (f x).toNat) ∧ (f x).toNat ≤ 64 ∧ (x ≠ 0 → 2 ^ (63 - (f x).toNat) ≤ x.toNat)) ∧
    (∃ f : DWord → DWord, ScalarRow (.ctz a d q) q [a] d (fun s => f (s.gv a)) ∧
      ∀ x, (x = 0 → f x = 64) ∧ (x ≠ 0 → x.getLsbD (f x).toNat = true ∧ ∀ j, j < (f x).toNat → x.getLsbD j = false)) ∧
    (∃ f : DWord → DWord, ScalarRow (.popc a d q) q [a] d (fun s => f (s.gv a)) ∧
      ∀ x, (f x).toNat = (List.range 64).countP (fun j => x.getLsbD j)) ∧
    (∃ f : DWord → DWord, ScalarRow (.brev a d q) q [a] d (fun s => f (s.gv a)) ∧
      ∀ x j, j < 64 → (f x).getLsbD j = x.getLsbD (63 - j)) ∧
    (∃ f : DWord → DWord, ScalarRow (.bswap a d q) q [a] d (fun s => f (s.gv a)) ∧
      ∀ x i, i < 8 → (f x).toNat / 256 ^ i % 256 = x.toNat / 256 ^ (7 - i) % 256) ∧
    (e.toNat < 3 → ScalarRow (.sext e a d q) q [a] d (fun s => ((s.gv a).setWidth (8 * 2 ^ e.toNat)).signExtend 64)) ∧
    (e.toNat < 3 → ScalarRow (.zext e a d q) q [a] d (fun s => ((s.gv a).setWidth (8 * 2 ^ e.toNat)).setWidth 64))

/-- R214 to R217 with R42: address forming, immediates, constants and the scalar short forms complete. MKSA's address has its fields where
R91 puts them; LI and LPC clear the tags; LIX keeps them; a MOV.S onto itself and NOP only advance PC by 2. -/
def Obligations.AddressAndImmediateRowsComplete : Prop :=
  (∀ (b a d : BitVec 5) (q : BitVec 4),
    ScalarRow (.shadd1 b a d q) q [a, b] d (fun s => BitVec.ofNat 64 ((s.gv a).toNat * 2 ^ 1 + (s.gv b).toNat)) ∧
    ScalarRow (.shadd2 b a d q) q [a, b] d (fun s => BitVec.ofNat 64 ((s.gv a).toNat * 2 ^ 2 + (s.gv b).toNat)) ∧
    ScalarRow (.shadd3 b a d q) q [a, b] d (fun s => BitVec.ofNat 64 ((s.gv a).toNat * 2 ^ 3 + (s.gv b).toNat)) ∧
    ScalarRow (.shadd4 b a d q) q [a, b] d (fun s => BitVec.ofNat 64 ((s.gv a).toNat * 2 ^ 4 + (s.gv b).toNat)) ∧
    ScalarRow (.mksa b a d q) q [a, b] d (fun s =>
      if (s.gv a).toNat / 2 ^ 13 ≠ 0 ∨ 0x1800000 ≤ (s.gv b).toNat then 0x0030000000000000#64
      else BitVec.ofNat 64 ((s.gv a).toNat / 128 * 2 ^ 46 + (s.gv a).toNat % 128 * 2 ^ 39 + (s.gv b).toNat))) ∧
  (∀ (i : BitVec 15) (k : BitVec 6) (r d : BitVec 5),
    ScalarRow (.addi i r d) 0 [r] d (fun s => BitVec.ofInt 64 ((s.gv r).toInt + i.toInt)) ∧
    ScalarRow (.andi i r d) 0 [r] d (fun s => s.gv r &&& BitVec.ofNat 64 i.toNat) ∧
    ScalarRow (.ori i r d) 0 [r] d (fun s => s.gv r ||| BitVec.ofNat 64 i.toNat) ∧
    ScalarRow (.xori i r d) 0 [r] d (fun s => s.gv r ^^^ BitVec.ofNat 64 i.toNat) ∧
    ScalarRow (.shli k r d) 0 [r] d (fun s => BitVec.ofNat 64 ((s.gv r).toNat * 2 ^ k.toNat)) ∧
    ScalarRow (.shri k r d) 0 [r] d (fun s => BitVec.ofNat 64 ((s.gv r).toNat / 2 ^ k.toNat)) ∧
    ScalarRow (.srai k r d) 0 [r] d (fun s => BitVec.ofInt 64 ((s.gv r).toInt / 2 ^ k.toNat)) ∧
    ScalarRow (.muli i r d) 0 [r] d (fun s => BitVec.ofInt 64 ((s.gv r).toInt * i.toInt))) ∧
  (∀ (i : BitVec 20) (d : BitVec 5),
    ScalarRow (.li i d) 0 [] d (fun _ => BitVec.ofInt 64 i.toInt) ∧
    ScalarRow (.lix i d) 0 [d] d (fun s => BitVec.ofNat 64 ((s.gv d).toNat * 2 ^ 20) ||| BitVec.ofNat 64 i.toNat) ∧
    ScalarRow (.lpc i d) 0 [] d (fun s => BitVec.ofInt 64 (s.cur.pc.toNat + i.toInt * 2)))

/-- R217 with R35 and R37: each halfword s × 0x400 + d × 0x20 + op × 2 with op up to 7 is that scalar short form (but for ADD.S G0, G0, which is no
instruction, and MOV.S G0, G0, which is NOP). The short forms complete as the 32-bit instructions with both source and destination gd, but
move past 2 bytes; a MOV.S onto itself and NOP have no effect but the advance. -/
def Obligations.ScalarShortFormsComplete : Prop :=
  ∀ (r d : BitVec 5),
    ScalarRow (.addS r d) 0 [d, r] d (fun s => BitVec.ofInt 64 ((s.gv d).toInt + (s.gv r).toInt)) ∧
    ScalarRow (.subS r d) 0 [d, r] d (fun s => BitVec.ofInt 64 ((s.gv d).toInt - (s.gv r).toInt)) ∧
    ScalarRow (.andS r d) 0 [d, r] d (fun s => s.gv d &&& s.gv r) ∧
    ScalarRow (.orS r d) 0 [d, r] d (fun s => s.gv d ||| s.gv r) ∧
    ScalarRow (.xorS r d) 0 [d, r] d (fun s => s.gv d ^^^ s.gv r) ∧
    ScalarRow (.shlS r d) 0 [d, r] d (fun s => BitVec.ofNat 64 ((s.gv d).toNat * 2 ^ ((s.gv r).toNat % 64))) ∧
    ScalarRow (.shrS r d) 0 [d, r] d (fun s => BitVec.ofNat 64 ((s.gv d).toNat / 2 ^ ((s.gv r).toNat % 64))) ∧
    (r ≠ d → ScalarRow (.movS r d) 0 [r] d (fun s => s.gv r)) ∧
    (∀ s : State, exec (.movS d d) s = .next { s with cur := { s.cur with pc := s.cur.pc + 2 }, stalled := false }) ∧
    (∀ s : State, exec .nop s = .next { s with cur := { s.cur with pc := s.cur.pc + 2 }, stalled := false }) ∧
    Instr.length (.addS r d) = 2 ∧ Instr.length (.subS r d) = 2 ∧ Instr.length (.andS r d) = 2 ∧ Instr.length (.orS r d) = 2 ∧
    Instr.length (.xorS r d) = 2 ∧ Instr.length (.shlS r d) = 2 ∧ Instr.length (.shrS r d) = 2 ∧ Instr.length (.movS r d) = 2 ∧
    (let w (op : Nat) : Nat := r.toNat * 0x400 + d.toNat * 0x20 + op * 2
     decodeTableWord 16 (w 1) = some (.subS r d) ∧ decodeTableWord 16 (w 2) = some (.andS r d) ∧ decodeTableWord 16 (w 3) = some (.orS r d) ∧
     decodeTableWord 16 (w 4) = some (.xorS r d) ∧ decodeTableWord 16 (w 5) = some (.shlS r d) ∧ decodeTableWord 16 (w 6) = some (.shrS r d) ∧
     (r ≠ 0 ∨ d ≠ 0 → decodeTableWord 16 (w 0) = some (.addS r d) ∧ decodeTableWord 16 (w 7) = some (.movS r d)) ∧
     (r = 0 ∧ d = 0 → decodeTableWord 16 (w 0) = none ∧ decodeTableWord 16 (w 7) = some .nop))

/-- R324 and R325: the compares of unpoisoned registers and the predicate operations complete: Pd takes the relation, its taint is the OR of
the operands' taints, and no G register, no other predicate and no byte of memory changes. -/
def Obligations.PredicateRowsComplete : Prop :=
  (∀ (b a : BitVec 5) (d : BitVec 3) (q : BitVec 4) (s : State), Runs s q → (s.cur.rdG a).p = false → (s.cur.rdG b).p = false →
    let sets (i : Instr) (v : Bool) : Prop := Completes (exec i s) (fun t => WritesP s t [a, b] d v ((s.cur.rdG a).t || (s.cur.rdG b).t) 4)
    sets (.cmpEq b a d q) (decide (s.gv a = s.gv b)) ∧
    sets (.cmpNe b a d q) (decide (s.gv a ≠ s.gv b)) ∧
    sets (.cmpLt b a d q) (decide ((s.gv a).toInt < (s.gv b).toInt)) ∧
    sets (.cmpGe b a d q) (decide ((s.gv b).toInt ≤ (s.gv a).toInt)) ∧
    sets (.cmpLtn b a d q) (decide ((s.gv a).toNat < (s.gv b).toNat)) ∧
    sets (.cmpGen b a d q) (decide ((s.gv b).toNat ≤ (s.gv a).toNat))) ∧
  (∀ (b a d : BitVec 3) (q : BitVec 4) (s : State), Runs s q →
    let sets (i : Instr) (v tn : Bool) : Prop := Completes (exec i s) (fun t => WritesP s t [] d v tn 4)
    sets (.pand b a d q) (s.cur.rdP a.toNat && s.cur.rdP b.toNat) (s.cur.taintP a.toNat || s.cur.taintP b.toNat) ∧
    sets (.por b a d q) (s.cur.rdP a.toNat || s.cur.rdP b.toNat) (s.cur.taintP a.toNat || s.cur.taintP b.toNat) ∧
    sets (.pnot a d q) (!s.cur.rdP a.toNat) (s.cur.taintP a.toNat))

/-- R323 and R326: preparing a target and transferring. BPREP and BPREPR write Tn and its TVALID bit and drop its old snapshot; BR, BR.P, BR.NP and
BRL through a prepared target move PC to {Tn[55:1], 0}; BR.P and BR.NP whose predicate does not ask for it go on; BRL leaves the address of the next
instruction in gd with clear tags; BRDEC decrements gd, keeping its tags, and transfers while the result is not zero; IINV, with no store of the
task outstanding, empties the tile's instruction cache and its tasks' snapshots. A prepared target takes at once the 64 bytes that the instruction
cache holds for it (R328). Nothing else changes. -/
def Obligations.TransferRowsComplete : Prop :=
  ∀ (i : BitVec 20) (a g : BitVec 5) (n m : BitVec 3) (q : BitVec 4) (s : State), Runs s q →
    let target : BitVec 56 := (s.cur.t[n.toNat] &&& 0x00FFFFFFFFFFFFFE).setWidth 56
    let prepared (t : State) (rs : List (BitVec 5)) (x : BitVec 56) : Prop :=
      t = { s with cur := { s.cur.noteReads rs with
        t := s.cur.t.set n.toNat (x.setWidth 64), pc := s.cur.pc + 4
        snaps := (match s.cachedCode s.cur x.toNat 64 with | some c => [(n.toNat, x.toNat, c.2)] | none => []) ++ s.cur.snaps.filter (fun e => e.1 ≠ n.toNat)
        st := { (s.cur.noteReads rs).st with tstat := setBit (s.cur.noteReads rs).st.tstat (8 + n.toNat) true } }, stalled := false }
    Completes (exec (.bprep i n) s) (fun t => prepared t [] (BitVec.ofInt 56 (s.cur.pc.toNat + i.toInt * 2))) ∧
    (CleanG s [a] → (s.gv a).toNat < 2 ^ 56 → (s.gv a).getLsbD 0 = false →
      Completes (exec (.bprepr a n q) s) (fun t => prepared t [a] ((s.gv a).setWidth 56))) ∧
    (s.cur.prepared n = true →
      exec (.br n q) s = .next (s.past [] target) ∧
      Completes (exec (.brl n g q) s) (fun t => ∃ t', WritesG s t' [] g ⟨(s.cur.pc + 4).setWidth 64, false, false⟩ 4 ∧
        t = { t' with cur := { t'.cur with pc := target } })) ∧
    ((s.cur.det && s.cur.taintP m.toNat) = false →
      (s.cur.rdP m.toNat = true → s.cur.prepared n = true → exec (.brP n m q) s = .next (s.past [] target)) ∧
      (s.cur.rdP m.toNat = false → exec (.brP n m q) s = .next (s.past [] (s.cur.pc + 4))) ∧
      (s.cur.rdP m.toNat = false → s.cur.prepared n = true → exec (.brNp n m q) s = .next (s.past [] target)) ∧
      (s.cur.rdP m.toNat = true → exec (.brNp n m q) s = .next (s.past [] (s.cur.pc + 4)))) ∧
    (CleanG s [g] → (s.gv g ≠ 1 → s.cur.prepared n = true) →
      Completes (exec (.brdec n g q) s) (fun t => ∃ t', WritesG s t' [g] g ⟨s.gv g - 1, (s.cur.rdG g).p, (s.cur.rdG g).t⟩ 4 ∧
        t = { t' with cur := { t'.cur with pc := if s.gv g = 1 then s.cur.pc + 4 else target } })) ∧
    (s.storesOf s.cur.key = [] → Completes (exec (.iinv q) s) (fun t =>
      (∀ x, t.tile x = if x = s.taskGt s.cur then { s.tile x with icache := [] } else s.tile x) ∧ SameMemory s t ∧
      t = { s with
        cur := { s.cur with snaps := [], pc := s.cur.pc + 4 }
        others := s.others.map (fun u => if s.taskGt u = s.taskGt s.cur then { u with snaps := [] } else u)
        tiles := t.tiles, stalled := false }))

/-- R207 and R208 with R42 and R109: a load of written memory completes. Its address is the base register plus the scaled displacement,
wrapped; gt takes the little-endian bytes there, sign- or zero-extended as the table says, with no taint; when a doubleword touched is
poisoned, gt is poisoned (and reads as zero, R109). Nothing else changes, memory included. The task has no command and no outstanding store that
meets the bytes, and no strong event still to come (R356); for LD.ACQ no earlier access is outstanding at all.
Model's choices used: log entry 8. -/
def Obligations.LoadRowsComplete : Prop :=
  ∀ (i : BitVec 8) (c : BitVec 3) (b t : BitVec 5) (q : BitVec 4) (s : State), Runs s q → CleanG s [b] →
    let loads (ins : Instr) (signed : Bool) (n : Nat) : Prop :=
      ∀ (l : Loc) (k : Nat), let a := (s.gv b + BitVec.ofInt 64 (i.toInt * n)).toNat
        a % n = 0 → s.check s.cur.who (s.taskGt s.cur) rRD a n = .ok l → AccessFree s l n → ReadsAt s l n k →
        let bs := s.fetch k n
        let v := if bs.any (·.2) then 0 else
          if signed then BitVec.ofInt 64 (sval (8 * n) (ofBytes (bs.map (·.1)))) else BitVec.ofNat 64 (ofBytes (bs.map (·.1)))
        Completes (exec ins s) (fun u => WritesG s u [b] t ⟨v, bs.any (·.2), false⟩ 4)
    loads (.ldB i b t q) true 1 ∧ loads (.ldH i b t q) true 2 ∧ loads (.ldW i b t q) true 4 ∧ loads (.ldD i b t q) false 8 ∧
    loads (.ldNb i b t q) false 1 ∧ loads (.ldNh i b t q) false 2 ∧ loads (.ldNw i b t q) false 4 ∧ (ReleaseFree s → loads (.ldAcq i c b t q) false 8)

/-- R207 and R208 with R109: a store to written memory outside a containment domain completes. The n low bytes of gt stand at the place its
address names, lowest first; every other byte of memory reads as before; a doubleword's mark changes only where a byte was stored; no
register and no flag changes but DEADREAD, and PC moves past the store. The task is not redundant, and it has no command and no outstanding store
that meets the bytes, and no strong event still to come (R356); for ST.REL no earlier engine access and no outstanding store at all. A plain store of a turn that the
agenda has overtaken stays outstanding instead (R362), memory as it was.
Model's choices used: log entries 8, 16. -/
def Obligations.StoreRowsComplete : Prop :=
  ∀ (i : BitVec 8) (c : BitVec 3) (b t : BitVec 5) (q : BitVec 4) (s : State), Runs s q → CleanG s [b] →
    (s.cur.det && (s.cur.rdG t).t) = false → s.cur.depth = 0 → s.cur.twin = none →
    let stores (ins : Instr) (n : Nat) : Prop :=
      ∀ (l : Loc) (k : Nat), let a := (s.gv b + BitVec.ofInt 64 (i.toInt * n)).toNat
        a % n = 0 → s.check s.cur.who (s.taskGt s.cur) rWR a n = .ok l → secondRange s l = false → AccessFree s l n →
        s.writeHeld s.cur.key l n = none → WritesAt s l n k →
        Completes (exec ins s) (fun u =>
          (∀ j, j < n → u.byteAt (k + j) = BitVec.ofNat 8 ((s.gv t).toNat / 256 ^ j)) ∧
          (∀ x, x < k ∨ k + n ≤ x → u.byteAt x = s.byteAt x) ∧
          (∀ x, x / 8 < k / 8 ∨ (k + n - 1) / 8 < x / 8 → u.marked x = s.marked x) ∧
          ((s.cur.rdG t).p = true → ∀ j, j < n → u.marked (k + j) = true) ∧
          ((s.cur.rdG t).p = false → n = 8 → k % 8 = 0 → ∀ j, j < n → u.marked (k + j) = false) ∧
          u.cur = { s.cur.noteReads [b, t] with pc := s.cur.pc + 4 } ∧
          u = { s with cur := u.cur, mem := u.mem, poison := u.poison, md := { s.md with dcache := u.md.dcache, dir := u.md.dir, counters := u.md.counters }, stalled := false })
    let keeps (ins : Instr) (n : Nat) : Prop :=
      ∀ (l : Loc) (k : Nat), let a := (s.gv b + BitVec.ofInt 64 (i.toInt * n)).toNat
        a % n = 0 → s.check s.cur.who (s.taskGt s.cur) rWR a n = .ok l → secondRange s l = false → AccessFree s l n →
        s.writeHeld s.cur.key l n = none → WritesAt s l n k → (s.storesOf s.cur.key).length < 16 →
        Completes (exec ins s) (fun u => SameMemory s u ∧ u.cur = { s.cur.noteReads [b, t] with pc := s.cur.pc + 4 } ∧ ∃ x, u.stores = s.stores ++ [x] ∧
          x.key = s.cur.key ∧ x.late = true ∧ x.performed = false ∧ x.loc = l ∧ x.bytes = toBytes n (s.gv t).toNat)
    (s.defer = false → stores (.stB i b t q) 1 ∧ stores (.stH i b t q) 2 ∧ stores (.stW i b t q) 4 ∧ stores (.stD i b t q) 8) ∧
    (s.defer = true → keeps (.stB i b t q) 1 ∧ keeps (.stH i b t q) 2 ∧ keeps (.stW i b t q) 4 ∧ keeps (.stD i b t q) 8) ∧
    (ReleaseFree s → stores (.stRel i c b t q) 8)

/-- R345 to R350: RSV, RELW, RELN, AMO and CAS complete on a doubleword at home here that passes the checks of R348, that nobody holds or waits
for and that carries no poison, for a resident task outside a containment domain that holds no reservation and has no earlier engine access and no
store outstanding (R356). RSV puts the word in gd, tainted in deterministic mode, and SR.RSV holds its address. AMO writes the table's new value to
the n-bit operand inside the doubleword, the rest of the doubleword kept, and its RET form returns the old operand, zero-extended. CAS
writes gb only where the operand equals gd's low bits and returns the old operand. RELW stores gb in the word that the task holds and clears its poison, RELN leaves it; both
free SR.RSV.
Model's choices used: log entries 8, 16. -/
def Obligations.AtomicRowsComplete : Prop :=
  ∀ (r w : BitVec 1) (b a d : BitVec 5) (q : BitVec 4) (s : State) (l : Loc) (at_ : Nat), Runs s q → s.cur.status = .resident → s.cur.depth = 0 → ReleaseFree s →
    let g := (s.gv a).toNat
    let at8 := 8 * (g % 8)
    let n := s.wordKey l
    let x := (s.homeWord n).1
    let size := if w = 1 then 8 else 4
    (bit s.cur.hw.rsv 63 = false → s.resv.find? (fun y => y.addr == n) = none → WordAtHome s l at_ → s.marked at_ = false →
      (CleanG s [a] → s.atomicCheck g 8 = .ok l →
        Completes (exec (.rsv a d q) s) (fun t =>
          (s.cur.liveG d = true → t.cur.rdG d = ⟨x, false, s.cur.det⟩) ∧ (∀ y : BitVec 5, y ≠ d → t.cur.rdG y = s.cur.rdG y) ∧
          bit t.cur.hw.rsv 63 = true ∧ bits t.cur.hw.rsv 3 53 = bits (s.gv a) 3 53 ∧
          t.resv = s.resv ++ [{ addr := n, holder := some s.cur.key, waiters := [] }] ∧ t.cur.pc = s.cur.pc + 4 ∧
          t = { s with cur := t.cur, resv := t.resv, stalled := false })) ∧
      (CleanG s [a, b] → s.atomicCheck g size = .ok l →
        let m := 8 * size
        let old := bits x at8 m
        let arg := (s.gv b).toNat % 2 ^ m
        let does (i : Instr) (v : Nat) : Prop := Completes (exec i s) (fun t => Releases s t n at_ (some (setBits x at8 m v)) ∧
          t.cur = { (if r = 1 then (s.cur.noteReads [a, b]).wrG d ⟨BitVec.ofNat 64 old, false, true⟩ else s.cur.noteReads [a, b]) with pc := s.cur.pc + 4 })
        does (.amoAdd r w b a d q) ((old + arg) % 2 ^ m) ∧ does (.amoAnd r w b a d q) (old &&& arg) ∧ does (.amoOr r w b a d q) (old ||| arg) ∧
        does (.amoXor r w b a d q) (old ^^^ arg) ∧ does (.amoSwap r w b a d q) arg ∧
        does (.amoMinn r w b a d q) (min old arg) ∧ does (.amoMaxn r w b a d q) (max old arg) ∧
        does (.amoMin r w b a d q) (if sval m old ≤ sval m arg then old else arg) ∧
        does (.amoMax r w b a d q) (if sval m old ≤ sval m arg then arg else old)) ∧
      (CleanG s [a, b, d] → s.atomicCheck g size = .ok l →
        let m := 8 * size
        let old := bits x at8 m
        Completes (exec (if w = 1 then .casD b a d q else .casW b a d q) s) (fun t =>
          Releases s t n at_ (if old = (s.gv d).toNat % 2 ^ m then some (setBits x at8 m (s.gv b).toNat) else none) ∧
          t.cur = { (s.cur.noteReads [a, b, d]).wrG d ⟨BitVec.ofNat 64 old, false, true⟩ with pc := s.cur.pc + 4 }))) ∧
    (∀ h, bit s.cur.hw.rsv 63 = true → bits (s.gv a) 3 53 = bits s.cur.hw.rsv 3 53 → g < 2 ^ 56 → g % 8 = 0 →
      s.heldWord = some h → WordAtHome s (wordLoc h) at_ →
      let freed (t : State) (ns : List (BitVec 5)) : Prop :=
        t.cur = { (s.cur.noteReads ns) with hw := { s.cur.hw with rsv := 0 }, pc := s.cur.pc + 4 }
      (CleanG s [a, b] → Completes (exec (.relw b a q) s) (fun t => Releases s t h at_ (some (s.gv b)) ∧ freed t [a, b])) ∧
      (CleanG s [a] → Completes (exec (.reln a q) s) (fun t => Releases s t h at_ none ∧ freed t [a])))

/-- R219, R222, R228, R231: the lanes that a command of an integer type leaves in its destination, for VADD, VSUB, VMUL, VFMA, VFMS, VMIN, VMAX,
VABS, VNEG and the operations of major 0x23. An active lane is the stated value wrapped to the lane's width, signed operands for I types; an
inactive lane is the old destination's; no flag is set. `e` holds the operands captured when the command began. -/
def Obligations.IntegerVectorLanes : Prop :=
  ∀ (y : BitVec 5) (m : BitVec 3) (b a d : BitVec 4) (ga vt : DWord) (e : VEnv), acceptsInt y = true → e.ty = y.toNat →
    let w := tyWidth y.toNat
    let av (j : Nat) : Nat := lane w (e.op 0) j
    let bv (j : Nat) : Nat := lane w (e.op 1) j
    let ai (j : Nat) : Int := if tySigned y.toNat then sval w (av j) else (av j : Int)
    let bi (j : Nat) : Int := if tySigned y.toNat then sval w (bv j) else (bv j : Int)
    let ci (j : Nat) : Int := if tySigned y.toNat then sval w (lane w (e.op 2) j) else (lane w (e.op 2) j : Int)
    let k (j : Nat) : Nat := bv j % w
    let lanes (i : Instr) (reads : List (BitVec 4)) (r : Nat → Int) : Prop := ∃ f x, vForm i ga vt = some f ∧ f.ty = y.toNat ∧
      f.msk = maskReg m ∧ f.reads = reads ∧ f.dsts = [d] ∧ (f.eff e).v = [x] ∧ (f.eff e).fl = 0 ∧ ∀ j, j < 2048 / w →
        lane w x j = if e.act j = true then (r j % ((2 ^ w : Nat) : Int)).toNat else lane w (e.old.getD 0 0) j
    lanes (.vadd y m b a d) [a, b] (fun j => ai j + bi j) ∧ lanes (.vsub y m b a d) [a, b] (fun j => ai j - bi j) ∧
    lanes (.vmul y m b a d) [a, b] (fun j => ai j * bi j) ∧ lanes (.vfma y m b a d) [a, b, d] (fun j => ai j * bi j + ci j) ∧
    lanes (.vfms y m b a d) [a, b, d] (fun j => ai j * bi j - ci j) ∧
    lanes (.vmin y m b a d) [a, b] (fun j => min (ai j) (bi j)) ∧ lanes (.vmax y m b a d) [a, b] (fun j => max (ai j) (bi j)) ∧
    lanes (.vabs y m a d) [a] (fun j => if ai j < 0 then -(ai j) else ai j) ∧ lanes (.vneg y m a d) [a] (fun j => -(ai j)) ∧
    lanes (.vand y m b a d) [a, b] (fun j => (av j &&& bv j : Nat)) ∧ lanes (.vor y m b a d) [a, b] (fun j => (av j ||| bv j : Nat)) ∧
    lanes (.vxor y m b a d) [a, b] (fun j => (av j ^^^ bv j : Nat)) ∧ lanes (.vnot y m a d) [a] (fun j => 2 ^ w - 1 - (av j : Int)) ∧
    lanes (.vshl y m b a d) [a, b] (fun j => (av j : Int) * 2 ^ k j) ∧ lanes (.vshr y m b a d) [a, b] (fun j => (av j : Int) / 2 ^ k j) ∧
    lanes (.vsra y m b a d) [a, b] (fun j => sval w (av j) / 2 ^ k j)

/-- R223, R228 to R231, R235, R236, R238 to R241 with R24, R76, R80, R220: an unguarded vector instruction whose slot has a free queue entry
enters it; a short form does when SR.VTYPE is a type it accepts.
Model's choices used: log entry 20. -/
def Obligations.VectorRowsIssue : Prop :=
  ∀ (i : Instr) (s : State), s.vFull = false →
    (plainVector i = true ∨ (shortVector i = true ∧ acceptsIntFlt (BitVec.ofNat 5 (bits s.cur.st.vtype 0 5)) = true)) →
    Completes (exec i s) (fun t => Enters s t true i [] {} (vectorDraws (bits s.cur.st.vtype 0 5) i && s.rmIsSR))

/-- R232 to R234 and R237: the vector instructions with memory, pages, a G operand or a block enter their slot's queue when it has a free entry,
their checks pass, no earlier command of the task is still to produce an operand they check (R224), and, for one that accesses memory, no release of the task is
outstanding (R356).
Model's choices used: log entry 20. -/
def Obligations.VectorMemoryRowsIssue : Prop :=
  ∀ (i : BitVec 8) (h g : BitVec 5) (x y : BitVec 4) (q : BitVec 4) (s : State), Runs s q → s.vFull = false →
    let quiet (ns : List (BitVec 4)) : Prop := (∀ c ∈ s.vCmds s.cur, ∀ f, c.vform = some f → ∀ n ∈ f.dsts, n ∉ ns) ∧
      ∀ n ∈ ns, s.cur.poisV n = false ∧ (s.cur.det && s.cur.taintV n) = false
    let enters (ins : Instr) (reads : List (BitVec 5)) (op : RegV) : Prop := Completes (exec ins s) (fun t => Enters s t true ins reads op false)
    let typed : Prop := acceptsIntFlt (BitVec.ofNat 5 (bits s.cur.st.vtype 0 5)) = true
    let a := (s.gv g + BitVec.ofInt 64 (i.toInt * 256)).toNat
    let b := (s.gv g).toNat
    let width := tyWidth (bits s.cur.st.vtype 0 5) / 8
    (s.strongStore = false → CleanG s [g] → a < 2 ^ 56 → aRegion a = 0 → a % 64 = 0 → ∀ gt off, s.meetsSecond gt off 256 = false →
      (s.check s.cur.who (s.taskGt s.cur) rRD a 256 = .ok (.sram gt off) → enters (.vld i g x q) [g] (s.cur.rdG g)) ∧
      (s.check s.cur.who (s.taskGt s.cur) rWR a 256 = .ok (.sram gt off) → s.cur.depth = 0 →
        (∀ c ∈ s.vCmds s.cur, ∀ f, c.vform = some f → ∀ n ∈ f.dsts, n ≠ x) → (s.cur.det && s.cur.taintV x) = false →
        enters (.vst i g x q) [g] (s.cur.rdG g))) ∧
    (s.strongStore = false → typed → CleanG s [g] → b < 2 ^ 56 → aRegion b = 0 → b % width = 0 → quiet [x] → ∀ l,
      (s.check1 s.cur.who (s.taskGt s.cur) rRD b = .ok l → enters (.vgath x g y q) [g] (s.cur.rdG g)) ∧
      (s.check1 s.cur.who (s.taskGt s.cur) rWR b = .ok l → s.cur.depth = 0 →
        (∀ c ∈ s.vCmds s.cur, ∀ f, c.vform = some f → ∀ n ∈ f.dsts, n ≠ y) → (s.cur.det && s.cur.taintV y) = false →
        enters (.vscat x g y q) [g] (s.cur.rdG g))) ∧
    (typed → enters (.vbcast g x q) [g] (s.cur.rdG g)) ∧
    (∀ n : BitVec 2, typed → enters (.vextr g x n q) [g] (s.cur.rdG g)) ∧
    (s.strongStore = false → (s.cb (s.taskGt s.cur) h.toNat).valid = true → (s.cb (s.taskGt s.cur) h.toNat).owner = s.cur.vi →
      (s.cb (s.taskGt s.cur) h.toNat).plog = 8 →
      enters (.vldc h x q) [] {} ∧ enters (.vldcKeep h x q) [] {} ∧
      (s.cur.depth = 0 → (∀ c ∈ s.vCmds s.cur, ∀ f, c.vform = some f → ∀ n ∈ f.dsts, n ≠ x) → (s.cur.det && s.cur.taintV x) = false →
        enters (.vstc h x q) [] {})) ∧
    (∀ (m : BitVec 3) (z : BitVec 3), s.cur.claims z.toNat = true → s.cur.view z.toNat ≠ 4 →
      (quiet [x] → s.cur.view z.toNat = 3 → enters (.vxacc m 0 x z) [] {}) ∧
      (quiet [x] → Completes (exec (.vxacc m 1 x z) s) (fun t => t.cur.mx = (s.cur.setView z.toNat 3).mx ∧
        Enters s { t with cur := { t.cur with mx := s.cur.mx } } true (.vxacc m 1 x z) [] {} false)) ∧
      (s.cur.view z.toNat = 3 → ∀ (ty : BitVec 5) (c k : BitVec 1),
        Completes (exec (.vxdrain ty c k z x) s) (fun t => Enters s t true (.vxdrain ty c k z x) [] {} s.rmIsSR)))

/-- R249, R250, R254, R270, R271 with R24, R245, R252: MXCFG, MXZERO, MXMAC and MXCHK enter the slot's matrix queue when it has a free entry
and their checks pass; MXCFG sets the task's view of the block at issue, and MXMAC with an unfold binding advances the cursor by K. MXWAIT
goes on when no command of the task names the block, nothing the task accessed before is outstanding (R356), and its fault record is empty or the task has not set
the block's mode (R246).
Model's choices used: log entry 20. -/
def Obligations.MatrixRowsComplete : Prop :=
  ∀ (a : BitVec 5) (d : BitVec 3) (x : BitVec 2) (q : BitVec 4) (s : State), Runs s q → s.cur.claims d.toNat = true →
    let view := s.cur.view d.toNat
    let w := s.gv a
    let m := s.cur.mx
    let cfg := s.cfgAtIssue d.toNat
    let gt := s.taskGt s.cur
    let enters (ins : Instr) (reads : List (BitVec 5)) (op : RegV) (mx : MatState) : Prop := Completes (exec ins s) (fun t =>
      t.cur.mx = mx ∧ Enters s { t with cur := { t.cur with mx := s.cur.mx } } false ins reads op false)
    let owned (h : Nat) : Prop := (s.cb gt h).valid = true ∧ (s.cb gt h).owner = s.cur.vi
    (s.mFull = false →
      (CleanG s [a] → view ≤ 3 → (cfgWide w = true → ∀ n, n < 5 → s.cur.claims n = true) → cfgOk d.toNat w = true →
        enters (.mxcfg a d q) [a] (s.cur.rdG a) (s.cur.setView d.toNat (if cfgWide w then 2 else 1)).mx) ∧
      (1 ≤ view ∧ view ≤ 3 → enters (.mxzero d q) [] {} m ∧ enters (.mxchk x d q) [] {} m) ∧
      (1 ≤ view ∧ view ≤ 2 → bit m.mxa 15 = true → bit m.mxb 15 = true → owned (bits m.mxb 0 5) →
        s.macSizeOk m.mxb cfg (cfgSb cfg) = true → (bit m.mxb 14 = true → (s.cb gt (bits m.mxb 0 5)).sub.isSome = true) →
        (bit m.mxa 14 = false → owned (bits m.mxa 0 5) → s.macSizeOk m.mxa cfg (cfgSa cfg) = true → enters (.mxmac d q) [] {} m) ∧
        (s.strongStore = false → bit m.mxa 14 = true → bit m.uf0 63 = true → bits m.uf0 25 5 = cfgFa cfg → cfgSc cfg = false →
          enters (.mxmac d q) [] {} { m with ufcur := setBits m.ufcur 32 32 ((bits m.ufcur 32 32 + cfgK cfg) % 2 ^ 32) }))) ∧
    (view ≤ 3 → s.blockBusy d.toNat = false → ReleaseFree s → view = 0 ∨ (s.blk gt d.toNat).fkind = 0 → exec (.mxwait d q) s = .next (s.past [] (s.cur.pc + 4)))

/-- R272, R276, R277 with R24, R245, R269: MXDRAIN to a buffer or to a window, MXSPILL and MXFILL enter the matrix queue when it has a free entry,
no earlier command of the task names the block, its fault record is empty and their checks pass, outside a containment domain, no release of the task being
outstanding (R356).
Model's choices used: log entries 20, 31. -/
def Obligations.DrainAndImageRowsComplete : Prop :=
  ∀ (k n d : BitVec 3) (h r : BitVec 5) (q : BitVec 4) (s : State), Runs s q → s.mFull = false → CleanG s [r] → s.cur.depth = 0 → s.strongStore = false →
    let g := s.gv r
    let gt := s.taskGt s.cur
    let blk := bits g 0 3
    let size := 128 * tyWidth (bits g 8 5)
    let drains : Prop := Completes (exec (.mxdrain k n h r q) s) (fun t =>
      Enters s t false (.mxdrain k n h r q) [r] (s.cur.rdG r) (resolveRm k.toNat s.cur.st.mode == 5))
    (s.blockBusy blk = false → bits g 57 7 = 0 → bits g 21 11 = 0 → bits g 13 4 = 0 → bits g 3 5 = 0 → drainType (bits g 8 5) = true →
      s.cur.claims blk = true → (s.cur.view blk = 1 ∨ s.cur.view blk = 2) → (s.blk gt blk).fkind = 0 →
      (bit g 20 = true → n = 0 → h.toNat < 16 → (s.win gt h.toNat).valid = true → (s.win gt h.toNat).owner = s.cur.vi →
        bits g 32 25 % 256 = 0 → bits g 32 25 + size ≤ (s.win gt h.toNat).size → drains) ∧
      (bit g 20 = false → (s.cb gt h.toNat).valid = true → (s.cb gt h.toNat).owner = s.cur.vi →
        (n.toNat + 1) * 2 ^ (s.cb gt h.toNat).plog = size → n.toNat + 1 ≤ (s.cb gt h.toNat).pages → drains)) ∧
    (let b := d.toNat
     let bytes := imageSize (s.cur.view b)
     ∀ sgt off, s.blockBusy b = false → s.cur.claims b = true → 1 ≤ s.cur.view b ∧ s.cur.view b ≤ 3 → aRegion g.toNat = 0 → g.toNat % 64 = 0 →
      s.check s.cur.who gt rWR g.toNat bytes = .ok (.sram sgt off) → s.meetsSecond sgt off bytes = false → (s.blk gt b).fkind = 0 →
      Completes (exec (.mxspill r d q) s) (fun t => Enters s t false (.mxspill r d q) [r] (s.cur.rdG r) false)) ∧
    (let b := d.toNat
     ∀ (l : Loc) (key sgt off : Nat), aRegion g.toNat = 0 → g.toNat % 64 = 0 → s.check s.cur.who gt rRD g.toNat 64 = .ok l →
      AccessFree s l 64 → ReadsAt s l 64 key →
      let head := loadedDws 8 (s.fetch key 64)
      let mode := bits (nthDw head 1) 0 3
      fillHeadOk b head = true → s.cur.claims b = true → s.cur.view b ≤ 3 → (mode = 2 → ∀ j, j < 5 → s.cur.claims j = true) →
      s.check s.cur.who gt rRD g.toNat (imageSize mode) = .ok (.sram sgt off) → s.meetsSecond sgt off (imageSize mode) = false →
      Completes (exec (.mxfill r d q) s) (fun t => t.cur.mx = (s.cur.setView b mode).mx ∧
        Enters s { t with cur := { t.cur with mx := s.cur.mx } } false (.mxfill r d q) [r] (s.cur.rdG r) false))

/-- R252, R260 and R268: the binding instructions complete, writing the binding word and starting a generation: VALID, the unfold or stream bit,
PMODE, pages less one and the buffer number. MXA.UF also loads the unfold cursor. No G register, no other matrix field and no byte of memory
changes. -/
def Obligations.BindingRowsComplete : Prop :=
  ∀ (n : BitVec 3) (h a e : BitVec 5) (q : BitVec 4) (s : State), Runs s q →
    let binds (i : Instr) (reads : List (BitVec 5)) (mx : MatState) : Prop := Completes (exec i s) (fun t =>
      t.cur = { s.cur.noteReads reads with mx := mx, pc := s.cur.pc + 4 } ∧ t = { s with cur := t.cur, tiles := t.tiles, stalled := false } ∧ SameMemory s t)
    let word (alt mode pages : Nat) : DWord := BitVec.ofNat 64 (2 ^ 15 + alt * 2 ^ 14 + mode * 2 ^ 12 + pages * 2 ^ 8 + h.toNat)
    let bindA (w : DWord) : MatState := { s.cur.mx with mxa := w, genA := s.cur.mx.genA + 1 }
    let bindB (w : DWord) : MatState := { s.cur.mx with mxb := w, genB := s.cur.mx.genB + 1 }
    binds (.mxa n h q) [] (bindA (word 0 0 n.toNat)) ∧ binds (.mxaKeep n h q) [] (bindA (word 0 1 n.toNat)) ∧
    binds (.mxaHold n h q) [] (bindA (word 0 2 n.toNat)) ∧ binds (.mxb n h q) [] (bindB (word 0 0 n.toNat)) ∧
    binds (.mxbKeep n h q) [] (bindB (word 0 1 n.toNat)) ∧ binds (.mxbHold n h q) [] (bindB (word 0 2 n.toNat)) ∧
    binds (.mxbS e h q) [] (bindB (word 1 (e.toNat / 8) (e.toNat % 8))) ∧
    (CleanG s [a] → binds (.mxaUf a q) [a] { s.cur.mx with mxa := 0xC000, genA := s.cur.mx.genA + 1, ufcur := s.gv a })

/-- R259, R266 and R267: UFCFG takes a geometry whose four doublewords pass its checks into UF0 to UF2, with UF0's VALID bit set; SSUB subscribes
a buffer to a stream that its VI owns, on the lowest free slot; SUNSUB frees that slot.
Model's choices used: log entry 34. -/
def Obligations.UnfoldAndSubscribeRowsComplete : Prop :=
  ∀ (a d : BitVec 5) (q : BitVec 4) (s : State), Runs s q →
    let g := s.gv a
    let gt := s.taskGt s.cur
    let die := gt / 128
    let b := s.cb gt d.toNat
    (∀ l k, CleanG s [a] → g.toNat % 8 = 0 → s.check s.cur.who gt rRD g.toNat 32 = .ok l → AccessFree s l 32 → ReadsAt s l 32 k →
      let dws := loadedDws 4 (s.fetch k 32)
      geoOk (nthDw dws 0) (nthDw dws 1) (nthDw dws 2) (nthDw dws 3) = true →
      exec (.ufcfg a q) s = .next { s with
        cur := { s.cur.noteReads [a] with pc := s.cur.pc + 4, mx := { s.cur.mx with uf0 := setBit (nthDw dws 0) 63 true, uf1 := nthDw dws 1, uf2 := nthDw dws 2 } }
        stalled := false }) ∧
    (s.cur.depth = 0 → b.valid = true → b.owner = s.cur.vi →
      (let n := bits g 0 8
       let x := tget {} (s.die die).streams n
       ∀ slot, CleanG s [a] → bits g 8 56 = 0 → bit x.entry 63 = true → stOwner x.entry = s.cur.vi → b.plog = stPlog x.entry → b.prot = false →
        b.sub = none → slot < stSubs x.entry → (∀ e ∈ x.subs, e.1 ≠ slot) → (∀ j, j < slot → ∃ e ∈ x.subs, e.1 = j) →
        Completes (exec (.ssub a d q) s) (fun t => (t.cb gt d.toNat).sub = some (n, slot) ∧
          (tget {} (t.die die).streams n).subs = x.subs ++ [(slot, gt, d.toNat)] ∧ t.cur = { s.cur.noteReads [a] with pc := s.cur.pc + 4 } ∧ SameMemory s t)) ∧
      (∀ n slot, b.sub = some (n, slot) →
        (∀ c ∈ (s.tile gt).mq, ∀ k j, c.instr = .mxmac k j → bit c.mx.mxb 14 = false ∨ bits c.mx.mxb 0 5 ≠ d.toNat) →
        Completes (exec (.sunsub d q) s) (fun t => (t.cb gt d.toNat).sub = none ∧
          (∀ e ∈ (tget {} (t.die die).streams n).subs, e.1 ≠ slot) ∧ t.cur = { s.cur with pc := s.cur.pc + 4 } ∧ SameMemory s t)))

/-- R199, R206 and R366: SCOPE.OPEN whose footprint the task already has adds the mask's registers to the live set, zero and clean, the registers
already live keeping their values and tags; SCOPE.CLOSE takes the mask's registers out of it. MBR takes a full box into gd with its tags and
empties it, MBW fills an empty one with ga and its tags. FENCE and FENCE.SC go on when no engine command of the task still has memory
accesses and no store of it is outstanding. Each completes, and nothing else changes. -/
def Obligations.ScopeBoxAndFenceRowsComplete : Prop :=
  ∀ (a d : BitVec 5) (b : BitVec 2) (c : BitVec 3) (q : BitVec 4) (s : State), Runs s q →
    let m := s.gv a
    let box := s.cur.box[b.toNat]
    (CleanG s [a] → bits m 48 16 = 0 → (∀ x ∈ s.cmdsOf s.cur, x.namesAny m = false) →
      (footprintOf (s.cur.scope ||| m) ≤ footprintOf s.cur.scope ∨ footprintOf (s.cur.scope ||| m) ≤ s.cur.sch.foot →
        Completes (exec (.scopeOpen a q) s) (fun t =>
          (∀ r : BitVec 5, t.cur.g[r.toNat] = if bit m r.toNat = true ∧ s.cur.liveG r = false then 0 else s.cur.g[r.toNat]) ∧
          (∀ v : BitVec 4, t.cur.v[v.toNat] = if bit m (32 + v.toNat) = true ∧ s.cur.liveV v = false then 0 else s.cur.v[v.toNat]) ∧
          (∀ j, j < 48 → bit m j = true → bit s.cur.scope j = false → bit t.cur.st.pois j = false ∧ bit t.cur.st.taint j = false) ∧
          (∀ j, bit m j = false ∨ bit s.cur.scope j = true → bit t.cur.st.pois j = bit s.cur.st.pois j ∧ bit t.cur.st.taint j = bit s.cur.st.taint j) ∧
          t = { s with
            cur := { s.cur with
              scope := s.cur.scope ||| m, pc := s.cur.pc + 4, g := t.cur.g, v := t.cur.v, absentLines := t.cur.absentLines
              st := { s.cur.st with pois := t.cur.st.pois, taint := t.cur.st.taint }, sch := { s.cur.sch with foot := 0 } }
            stalled := false })) ∧
      exec (.scopeClose a q) s = .next { s with cur := { s.cur with scope := s.cur.scope &&& ~~~m, pc := s.cur.pc + 4 }, stalled := false }) ∧
    (box.full = true → Completes (exec (.mbr b d q) s) (fun t => ∃ t', WritesG s t' [] d ⟨box.value, box.pois, box.taint⟩ 4 ∧
      t = { t' with cur := { t'.cur with box := s.cur.box.set b.toNat { box with full := false } } })) ∧
    (box.full = false → exec (.mbw a b q) s = .next { s with
      cur := { s.cur.noteReads [a] with box := s.cur.box.set b.toNat ⟨m, (s.cur.rdG a).p, (s.cur.rdG a).t, true⟩, pc := s.cur.pc + 4 }, stalled := false }) ∧
    ((∀ x ∈ s.cmdsOf s.cur, x.touchesMem s = false) → s.storesOf s.cur.key = [] →
      exec (.fence c q) s = .next (s.past [] (s.cur.pc + 4)) ∧ exec (.fenceSc c q) s = .next (s.past [] (s.cur.pc + 4)))

/-- R140, R141 and R405: ALLOC of a free body with free neighbours makes the body unwritten and its two guards crust; FREE of exactly one
allocation frees the body, and clears a guard that no other allocation shares. The status is 0, tainted in deterministic mode, the VI's count of granules
follows, every other granule keeps its state, and no byte of memory changes. -/
def Obligations.AllocAndFreeComplete : Prop :=
  ∀ (b a d : BitVec 5) (q : BitVec 4) (s : State) (gt off : Nat), Runs s q → CleanG s [a, b] → s.cur.depth = 0 →
    ReleaseFree s →
    let ga := (s.gv a).toNat
    let gb := (s.gv b).toNat
    let f := aOff ga / 256
    let n := (gb + 255) / 256
    let v := s.cur.vi
    s.check1 s.cur.who (s.taskGt s.cur) rRD ga = .ok (.sram gt off) → 0 < gb → gb ≤ 25165312 → ga % 256 = 0 → 0 < f → f + n ≤ 98303 →
    (∀ i, f ≤ i → i < f + n → (s.vi v).covers (aVdie ga) i = true) →
    ((∀ i, f ≤ i → i < f + n → s.gran gt i = ⟨0, false⟩) → (s.gran gt (f - 1)).state = 0 → (s.gran gt (f + n)).state = 0 →
      (s.vi v).granules + n ≤ (s.vi v).quotaGran →
      Completes (exec (.alloc b a d q) s) (fun t =>
        (∀ x i, t.gran x i = if x = gt ∧ f ≤ i ∧ i < f + n then ⟨1, false⟩
          else if x = gt ∧ (i = f - 1 ∨ i = f + n) then ⟨0, true⟩ else s.gran x i) ∧
        (t.vi v).granules = (s.vi v).granules + n ∧ SameMemory s t ∧ t.cur.pc = s.cur.pc + 4 ∧
        (s.cur.liveG d = true → t.cur.rdG d = ⟨0, false, s.cur.det⟩) ∧ ∀ r : BitVec 5, r ≠ d → t.cur.rdG r = s.cur.rdG r)) ∧
    ((s.gran gt (f - 1)).crust = true → (s.gran gt (f + n)).crust = true →
      (∀ i, f ≤ i → i < f + n → ((s.gran gt i).state = 1 ∨ (s.gran gt i).state = 2) ∧ (s.tile gt).inUse i = false) →
      Completes (exec (.free b a d q) s) (fun t =>
        (∀ i, f ≤ i → i < f + n → t.gran gt i = {}) ∧
        (t.gran gt (f - 1) = if f = 1 ∨ (s.gran gt (f - 2)).state = 0 then {} else s.gran gt (f - 1)) ∧
        (t.gran gt (f + n) = if (s.gran gt (f + n + 1)).state = 0 then {} else s.gran gt (f + n)) ∧
        (∀ x i, (x ≠ gt ∨ i + 1 < f ∨ f + n < i) → t.gran x i = s.gran x i) ∧
        (t.vi v).granules = (s.vi v).granules - n ∧ SameMemory s t ∧ t.cur.pc = s.cur.pc + 4 ∧
        (s.cur.liveG d = true → t.cur.rdG d = ⟨0, false, s.cur.det⟩) ∧ ∀ r : BitVec 5, r ≠ d → t.cur.rdG r = s.cur.rdG r))

/-- R143 and R147: on a buffer of the task's VI, CBACQ.P with room and no earlier request advances RESV, CBACQ.C with filled pages advances
TAKEN, and gd takes the address of the first page; CBREL.P and CBREL.C of scalar pages complete, each when nothing that the task accessed before is outstanding (R356); CBQRY reads the item that k selects, and 0 of an invalid buffer. No byte of memory changes.
Model's choices used: log entry 24. -/
def Obligations.BufferRowsComplete : Prop :=
  ∀ (n k : BitVec 3) (h r : BitVec 5) (q : BitVec 4) (s : State), Runs s q →
    let gt := s.taskGt s.cur
    let b := s.cb gt h.toNat
    let np := n.toNat + 1
    let address (page : Nat) : DWord := BitVec.ofNat 64 (flat s.cur.vdie (gt % 128) (b.base + page % b.pages * 2 ^ b.plog))
    let quiet (t : State) : Prop := SameMemory s t ∧ t.cur.pc = s.cur.pc + 4 ∧ (∀ x : BitVec 5, x ≠ r → t.cur.rdG x = s.cur.rdG x) ∧
      t = { s with cur := t.cur, tiles := t.tiles, stalled := false }
    (b.valid = true → b.owner = s.cur.vi → np ≤ b.pages → ReleaseFree s →
      ((s.cur.depth = 0 ∨ b.prot = true) → b.granted = [] → b.resQ = [] → np ≤ b.pages - (b.resv - b.popped) →
        Completes (exec (.cbacqP n h r q) s) (fun t => quiet t ∧ (s.cur.liveG r = true → (t.cur.rdG r).v = address b.resv ∧ (t.cur.rdG r).p = false) ∧
          (t.cb gt h.toNat).resv = b.resv + np ∧ (t.cb gt h.toNat).pushed = b.pushed ∧
          (t.cb gt h.toNat).taken = b.taken ∧ (t.cb gt h.toNat).popped = b.popped)) ∧
      (b.granted = [] → b.acqQ = [] → np ≤ b.pushed - b.taken →
        Completes (exec (.cbacqC n h r q) s) (fun t => quiet t ∧ (s.cur.liveG r = true → (t.cur.rdG r).v = address b.taken ∧ (t.cur.rdG r).p = false) ∧
          (t.cb gt h.toNat).taken = b.taken + np ∧ (t.cb gt h.toNat).pushed = b.pushed ∧
          (t.cb gt h.toNat).resv = b.resv ∧ (t.cb gt h.toNat).popped = b.popped)) ∧
      ((s.cur.depth = 0 ∨ b.prot = true) → np ≤ (b.scalarPages 0).length →
        Completes (exec (.cbrelP n h q) s) (fun t => quiet t ∧ t.cur.g = s.cur.g ∧
          t.cb gt h.toNat = b.completeP s.cur.key s.cur.depth ((b.scalarPages 0).take np))) ∧
      (np ≤ (b.scalarPages 1).length →
        Completes (exec (.cbrelC n h q) s) (fun t => quiet t ∧ t.cur.g = s.cur.g ∧
          t.cb gt h.toNat = b.completeC s.cur.key s.cur.depth ((b.scalarPages 1).take np)))) ∧
    ((b.valid = true → b.owner = s.cur.vi) →
      let item : DWord :=
        if b.valid = false then 0
        else if k = 0 then BitVec.ofNat 64 (b.pages - (b.resv - b.popped))
        else if k = 1 then BitVec.ofNat 64 (b.pushed - b.taken)
        else if k = 2 then BitVec.ofNat 64 (b.resv % 2 ^ 32) else if k = 3 then BitVec.ofNat 64 (b.pushed % 2 ^ 32)
        else if k = 4 then BitVec.ofNat 64 (b.taken % 2 ^ 32) else if k = 5 then BitVec.ofNat 64 (b.popped % 2 ^ 32)
        else if k = 6 then BitVec.ofNat 64 (2 ^ 63 + b.plog * 512 + b.pages)
        else BitVec.ofNat 64 (flat s.cur.vdie (gt % 128) b.base)
      Completes (exec (.cbqry k h r q) s) (fun t => WritesG s t [] r ⟨item, false, true⟩ 4))

/-- R146 and R149: CBINIT of a definition that passes its checks defines the buffer, empty, or the window, with FRONT 0; a size of 0
undefines it; the task has no earlier engine write and no outstanding store (R226). GLAZE swaps the halves of a window of the task's VI that nothing in
flight names. Outside a containment domain; no byte of memory changes.
Model's choices used: log entry 42. -/
def Obligations.DefinitionAndGlazeRowsComplete : Prop :=
  ∀ (a e : BitVec 5) (w : BitVec 4) (q : BitVec 4) (s : State), Runs s q → s.cur.depth = 0 →
    let gt := s.taskGt s.cur
    let ga := (s.gv a).toNat
    (∀ l k, ReleaseFree s → CleanG s [a] → ga % 8 = 0 → s.check s.cur.who gt rRD ga 16 = .ok l → AccessFree s l 16 → ReadsAt s l 16 k →
      let ds := loadedDws 2 (s.fetch k 16)
      let d0 := nthDw ds 0
      let d1 := nthDw ds 1
      let base := bits d0 0 25
      (let h := bits d0 32 5
       let plog := bits d1 9 5
       let pages := bits d1 0 9
       (∀ c ∈ (s.tile gt).vq ++ (s.tile gt).mq, h ∉ c.handles) → (s.cb gt h).holds = [] → (∀ x ∈ s.xfersInFlight, s.xferNamesCb x.1 x.2 gt h = false) →
       bits d0 38 26 = 0 → bits d0 25 7 = 0 → bits d1 14 50 = 0 → ((s.cb gt h).valid = true → (s.cb gt h).owner = s.cur.vi) → (s.cb gt h).sub = none →
       (pages = 0 → Completes (exec (.cbinitBuffer a q) s) (fun t => (t.cb gt h).valid = false ∧ SameMemory s t ∧ t.cur.pc = s.cur.pc + 4)) ∧
       (8 ≤ plog → plog ≤ 16 → 2 ≤ pages → pages ≤ 256 → base % 2 ^ plog = 0 → base + pages * 2 ^ plog ≤ 0x1800000 →
         s.rangeReady gt base (pages * 2 ^ plog) = true → (s.tile gt).overlaps base (pages * 2 ^ plog) (some h) none = false →
         Completes (exec (.cbinitBuffer a q) s) (fun t => SameMemory s t ∧ t.cur.pc = s.cur.pc + 4 ∧
           t.cb gt h = { valid := true, owner := s.cur.vi, prot := bit d0 37, base := base, plog := plog, pages := pages }))) ∧
      (let x := bits d0 32 4
       let size := bits d1 0 25
       s.winCmds gt x = [] → s.winXfers gt x = [] → bits d0 36 28 = 0 → bits d0 25 7 = 0 → bits d1 25 39 = 0 →
       ((s.win gt x).valid = true → (s.win gt x).owner = s.cur.vi) →
       (size = 0 → Completes (exec (.cbinitWindow a q) s) (fun t => (t.win gt x).valid = false ∧ SameMemory s t ∧ t.cur.pc = s.cur.pc + 4)) ∧
       (size ≠ 0 → base % 256 = 0 → size % 256 = 0 → base + 2 * size ≤ 0x1800000 →
         s.rangeReady gt base (2 * size) = true → (s.tile gt).overlaps base (2 * size) none (some x) = false →
         Completes (exec (.cbinitWindow a q) s) (fun t => SameMemory s t ∧ t.cur.pc = s.cur.pc + 4 ∧
           t.win gt x = { valid := true, owner := s.cur.vi, base := base, size := size, front := false })))) ∧
    ((s.win gt w.toNat).valid = true → (s.win gt w.toNat).owner = s.cur.vi → s.preserves gt w.toNat = false → s.cmdsOf s.cur = [] → s.storesOf s.cur.key = [] →
      s.winCmds gt w.toNat = [] → s.winXfers gt w.toNat = [] →
      Completes (exec (.glaze e w q) s) (fun t => SameMemory s t ∧ t.cur.pc = s.cur.pc + 4 ∧ t.cur.g = s.cur.g ∧
        ∀ x y, t.win x y = if x = gt ∧ y = w.toNat then { s.win gt w.toNat with front := !(s.win gt w.toNat).front } else s.win x y))

/-- R155, R156, R157, R162 and R169: the mover's rows complete. MVSET copies ga into shadow register n, its reserved bits zero, with the tags;
MVGET copies it back. MVTST and MVWAIT read the status of an identifier of the task's VI, EXPIRED where it names none; MVWAIT only when the
transfer is no longer in flight. MVGO and MVCHAIN, with room in the table, no earlier engine write and no outstanding store to wait for, clean fields and checks that
pass, enter a transfer under the tile's next identifier and give it in gd, tainted in deterministic mode; no byte of memory changes.
Model's choices used: log entries 35, 36, 75. -/
def Obligations.MoverRowsComplete : Prop :=
  ∀ (e a d : BitVec 5) (q : BitVec 4) (s : State), Runs s q →
    let m := s.cur.mv
    let r := m.regs
    let gt := s.taskGt s.cur
    let ga := (s.gv a).toNat
    let ready (ns : List Nat) : Prop := s.xferRoom = true ∧ ReleaseFree s ∧
      ∀ n ∈ ns, m.pois.getLsbD n = false ∧ (s.cur.det && m.taint.getLsbD n) = false
    let enters (i : Instr) (x : Transfer) : Prop := Completes (exec i s) (fun t =>
      let id := (s.tile gt).xctr.toNat
      (∀ y, t.tile y = if y = gt then { s.tile gt with xctr := (s.tile gt).xctr + 1, xfers := tinsert (s.tile gt).xfers (id % 1024) { x with id := id } } else s.tile y) ∧
      (s.cur.liveG d = true → t.cur.rdG d = ⟨BitVec.ofNat 64 id, false, s.cur.det⟩) ∧
      (∀ y : BitVec 5, y ≠ d → t.cur.g[y.toNat] = s.cur.g[y.toNat]) ∧ t.cur.mv = m ∧ t.cur.pc = s.cur.pc + 4 ∧ SameMemory s t)
    (∀ n : Fin 11, n.val = e.toNat →
      Completes (exec (.mvset e a q) s) (fun t =>
        (∀ j : Fin 11, t.cur.mv.regs[j] = (if j = n then s.gv a &&& mvMask n.val else r[j]) ∧
          t.cur.mv.pois.getLsbD j.val = (if j = n then (s.cur.rdG a).p else m.pois.getLsbD j.val) ∧
          t.cur.mv.taint.getLsbD j.val = (if j = n then s.cur.det && (s.cur.rdG a).t else m.taint.getLsbD j.val)) ∧
        t = { s.past [a] (s.cur.pc + 4) with cur := { (s.past [a] (s.cur.pc + 4)).cur with mv := t.cur.mv } }) ∧
      Completes (exec (.mvget e d q) s) (fun t => WritesG s t [] d ⟨r[n], m.pois.getLsbD n.val, m.taint.getLsbD n.val⟩ 4)) ∧
    ((s.cur.rdG a).p = false → ga < 2 ^ 16 →
      (∀ x, s.xferStatus ga = some x →
        Completes (exec (.mvtst a d q) s) (fun t => WritesG s t [a] d ⟨x.status, false, true⟩ 4) ∧
        (x.inFlight = false → ReleaseFree s → Completes (exec (.mvwait a d q) s) (fun t => WritesG s t [a] d ⟨x.status, false, false⟩ 4))) ∧
      (s.xferStatus ga = none →
        Completes (exec (.mvtst a d q) s) (fun t => WritesG s t [a] d ⟨BitVec.ofNat 64 (ga * 2 ^ 48 + 16), false, true⟩ 4) ∧
        Completes (exec (.mvwait a d q) s) (fun t => WritesG s t [a] d ⟨BitVec.ofNat 64 (ga * 2 ^ 48 + 16), false, true⟩ 4))) ∧
    (∀ hs hd : Option (DWord × DWord), ready (mvUsed r) →
      (if mvSkind r = 1 then hs ≠ none ∧ (s.tile gt).handle s.cur.vi (mvSh r) = hs else hs = none) →
      (if mvDkind r = 1 then hd ≠ none ∧ (s.tile gt).handle s.cur.vi (mvDh r) = hd else hd = none) →
      (s.cur.depth = 0 ∨ mvCtr r = 0) →
      let x : Transfer := { vi := s.cur.vi, wp := s.cur.wp, regs := r, srcH := hs.getD (0, 0), dstH := hd.getD (0, 0), det := s.cur.det, depth := s.cur.depth }
      s.clearBad.xferCheck s.cur.who gt x hs hd = none →
      (mvDkind r ≠ 4 → enters (.mvgo d q) x) ∧
      (∀ l k, mvDkind r = 4 → s.check s.cur.who gt rRD (mvDst r) 64 = .ok l → AccessFree s l 64 → ReadsAt s l 64 k →
        let ds := loadedDws 8 (s.fetch k 64)
        s.recordOk r ds = true → enters (.mvgo d q) { x with record := ds, use := tget 0 s.tagUses (colTag ds) })) ∧
    (ready (chUsed r) → CleanG s [a] → s.cur.depth = 0 → 1 ≤ mvScope r → mvScope r ≤ 4 → (mvMc r = true → mvRectOk r = true) →
      ga % 64 = 0 → s.sideOk s.cur.who gt rRD ((ga : Int), (ga : Int) + 63) = none → s.wordOk s.cur.who gt (mvBar r) 32 = none →
      s.wordOk s.cur.who gt (mvCtr r) 8 = none → (s.cur.det = true → s.chainWin ga ≠ none) →
      enters (.mvchain a d q) { vi := s.cur.vi, wp := s.cur.wp, regs := r, isChain := true, chain := some ga, det := s.cur.det, detWin := if s.cur.det then s.chainWin ga else none })

/-- R109, R178, R316, R346: a copy barrier and a group record stand in 32 bytes of memory. What is stored there is what is read back, with
every field of the record at every value its width admits, and no other byte of memory changes. The write of an atomic to a word of a slice leaves its
doubleword reading as written with its poison marks gone and held by nobody, and every other byte and every other doubleword's mark as it was. -/
def Obligations.RecordsReadBack : Prop :=
  ∀ (s : State) (k : Nat),
    (∀ b : Barrier, b.owed < 2 ^ 40 → b.round < 2 ^ 32 → b.seats < 2 ^ 32 → b.quota < 2 ^ 32 →
      (s.setBar k b).bar k = b ∧ (∀ x, x < k ∨ k + 32 ≤ x → (s.setBar k b).byteAt x = s.byteAt x)) ∧
    (∀ g : Grp, g.arrived < 2 ^ 32 → g.members < 2 ^ 32 → g.step < 2 ^ 32 → g.vop < 4 → g.scope < 8 → g.parity < 2 →
      (s.setGrp k g).grp k = g ∧ (∀ x, x < k ∨ k + 32 ≤ x → (s.setGrp k g).byteAt x = s.byteAt x)) ∧
    (∀ (gt off req : Nat) (d : DWord), gt < 2 ^ 13 → off < 2 ^ 25 →
      let n := sramKey gt (off / 8 * 8)
      let w := s.wordKey (.sram gt off)
      let t := (s.releaseHome w req (some d)).s
      (∀ j, j < 8 → t.byteAt (n + j) = BitVec.ofNat 8 (d.toNat / 256 ^ j)) ∧ t.homeWord w = (d, false) ∧ (∀ y ∈ t.resv, y.addr = w → y.holder = none) ∧
      (∀ x, x < n ∨ n + 8 ≤ x → t.byteAt x = s.byteAt x ∧ t.marked x = s.marked x))

/-- R179, R180 and R334: the barrier rows complete on a barrier of 32-byte alignment in a written granule of a slice, outside every window,
within the instruction's scope. BXINIT stores round 0 with the number of seats in gd; BXARV with a seat free takes one, owes its bytes and
gives the round as ticket; BXWAIT of a completed round goes on; BXTST gives the round and the flags. WAITC goes on when the counter has
reached its threshold, by the signed distance of the two.
Model's choices used: log entry 78. -/
def Obligations.BarrierRowsComplete : Prop :=
  ∀ (e a d : BitVec 5) (q : BitVec 4) (s : State) (g off : Nat), Runs s q →
    let gt := s.taskGt s.cur
    let ga := (s.gv a).toNat
    let n := (s.gv d).toNat
    let k := sramKey g off
    let b := s.bar k
    (aRegion ga = 0 → ga % 32 = 0 → s.check s.cur.who gt rAny ga 32 = .ok (.sram g off) → (s.tile g).winAt off = none → (s.tile g).inSecond off = false →
      (s.cur.depth = 0 → s.cur.twin = none → s.defer = false → CleanG s [a, d] → 0 < n → n < 2 ^ 32 → s.check s.cur.who gt rWR ga 32 = .ok (.sram g off) → AccessFree s (.sram g off) 32 →
        s.writeHeld s.cur.key (.sram g off) 32 = none → WritesAt s (.sram g off) 32 k →
        Completes (exec (.bxinit a d q) s) (fun t => t.bar k = ⟨0, 0, n, n, false, false, false, false⟩ ∧
          (∀ x, x < k ∨ k + 32 ≤ x → t.byteAt x = s.byteAt x) ∧ t.cur = { s.cur.noteReads [a, d] with pc := s.cur.pc + 4 })) ∧
      ((s.gran g (off / 256)).state = 2 → (e = 0 ∨ inScope e.toNat gt g = true) →
        (s.cur.depth = 0 → CleanG s [a, d] → n < 2 ^ 40 → ReleaseFree s → b.seats ≠ 0 →
          s.writeHeld s.cur.key (.sram (k / 2 ^ 25) (k % 2 ^ 25)) 32 = none →
          Completes (exec (.bxarv e a d q) s) (fun t => t.bar k = b.seat n ∧ (∀ x, x < k ∨ k + 32 ≤ x → t.byteAt x = s.byteAt x) ∧
            t.cur = { (s.cur.noteReads [a, d]).wrG d ⟨BitVec.ofNat 64 b.round, false, true⟩ with pc := s.cur.pc + 4 })) ∧
        ((s.cur.rdG a).p = false → (s.cur.rdG d).p = false → (s.cur.det && (s.cur.rdG a).t) = false → bits s.cur.st.crust 56 8 = 0 →
          s.cur.sch.failedStore = none → bits s.cur.st.mverr 40 8 = 0 → n < 2 ^ 32 → ReleaseFree s → b.passed n = true →
          exec (.bxwait e a d q) s = .next (s.past [a, d] (s.cur.pc + 4))) ∧
        (ReleaseFree s → CleanG s [a] → Completes (exec (.bxtst e a d q) s) (fun t => ∃ v : DWord, bits v 32 32 = b.round ∧ bits v 4 28 = 0 ∧
          bit v 3 = b.lfail ∧ bit v 2 = b.lpois ∧ bit v 1 = b.fail ∧ bit v 0 = b.pois ∧ WritesG s t [a] d ⟨v, false, true⟩ 4)))) ∧
    (∀ l j, CleanG s [a, d] → bits s.cur.st.crust 56 8 = 0 → s.cur.sch.failedStore = none → bits s.cur.st.mverr 40 8 = 0 → ga % 8 = 0 →
      s.check s.cur.who gt rRD ga 8 = .ok l → ReleaseFree s → waitScopeOk e.toNat gt l = true → (∀ m x, l ≠ .peer m x) →
      (∀ x y, l = .sram x y → (s.tile x).winAt y = none ∧ (s.tile x).inSecond y = false) → ReadsAt s l 8 j → (s.fetch j 8).any (·.2) = false →
      let v : DWord := BitVec.ofNat 64 (ofBytes ((s.fetch j 8).map (·.1)))
      0 ≤ (v - s.gv d).toInt → exec (.waitc e a d q) s = .next (s.past [a, d] (s.cur.pc + 4)))

/-- R205, R314, R315, R437: EXIT of a task outside a domain with no engine command, no outstanding store, no fault to deliver, no reservation, and no
group or one whose record passes R437's checks, ends it: no task issues after it, and a spawned task's key names no task any more; YIELD sends the task, past the instruction, to its ready queue; QDIST gives the distance of two sockets, or all ones for a
virtual die that is not bound, tainted in deterministic mode.
Model's choices used: log entry 84. -/
def Obligations.ExitYieldAndDistanceComplete : Prop :=
  ∀ (a d : BitVec 5) (q : BitVec 4) (s : State), Runs s q →
    (s.cmdsOf s.cur = [] → s.storesOf s.cur.key = [] → bits s.cur.st.crust 56 8 = 0 → s.cur.sch.failedStore = none → bits s.cur.st.mverr 40 8 = 0 → s.cur.depth = 0 →
      bit s.cur.hw.rsv 63 = false → (s.cur.hw.group = 0 ∨ ∃ k, s.grpCheck s.cur.who (s.taskGt s.cur) s.cur.hw.group.toNat = .ok k) → s.cur.status = .resident →
      Completes (exec (.exit q) s) (fun t => t = { s.endTask s.cur.key with stalled := false } ∧ t.cur.status = .absent ∧
        (s.cur.kind = .spawned → (∀ y ∈ s.others, y.key ≠ s.cur.key) → t.task? s.cur.key = none))) ∧
    (s.cur.hnd = false → s.cur.status = .resident →
      Completes (exec (.yield q) s) (fun t => t.cur = { s.cur with
          pc := s.cur.pc + 4, snaps := [], status := .ready
          sch := { s.cur.sch with level := s.cur.prio, order := s.clock, since := (s.tile (s.taskGt s.cur)).cycle.toNat } } ∧
        t = { s with cur := t.cur, clock := s.clock + 1, stalled := false })) ∧
    (let x := s.gv a
     bits x 6 2 = 0 → bits x 14 50 = 0 →
     (∀ i j, (s.vi s.cur.vi).ldie (bits x 0 6) = some i → (s.vi s.cur.vi).ldie (bits x 8 6) = some j →
       Completes (exec (.qdist a d q) s) (fun t => WritesG s t [a] d
         ⟨BitVec.ofNat 64 (((s.socketOf i % 6 : Int) - s.socketOf j % 6).natAbs + ((s.socketOf i / 6 : Int) - s.socketOf j / 6).natAbs), (s.cur.rdG a).p, true⟩ 4)) ∧
     ((s.vi s.cur.vi).ldie (bits x 0 6) = none ∨ (s.vi s.cur.vi).ldie (bits x 8 6) = none →
       Completes (exec (.qdist a d q) s) (fun t => WritesG s t [a] d ⟨BitVec.allOnes 64, (s.cur.rdG a).p, true⟩ 4)))

/-- R300, R312, R313, R437: LAUNCH of a record that passes its checks enters it in the VI's launch table under a fresh identifier, which gd takes,
tainted in deterministic mode. SPAWN of a descriptor that passes its checks starts the task at once when its count is 0, and else holds it
in the pending table of its tile, which has a free entry. Outside a containment domain, the record in written memory, with no earlier engine write
and no outstanding store to wait for.
Model's choices used: log entry 67. -/
def Obligations.LaunchAndSpawnComplete : Prop :=
  ∀ (a d : BitVec 5) (q : BitVec 4) (s : State) (l : Loc) (k : Nat), Runs s q → s.cur.depth = 0 → CleanG s [a] → ReleaseFree s →
    let gt := s.taskGt s.cur
    let ga := (s.gv a).toNat
    let v := s.cur.vi
    let ds := loadedDws 8 (s.fetch k 64)
    ga % 64 = 0 → (aRegion ga = 0 ∨ aRegion ga = 1) → s.check s.cur.who gt rRD ga 64 = .ok l → AccessFree s l 64 → ReadsAt s l 64 k →
    (s.vi v).stop = false →
    (recCheck s v s.cur.sup ds = none → (recPlace ds = 0 → (s.vi v).assist / 8 % 2 = 0) → s.nameTaken v ga = false →
      (s.vi v).launches.length < 256 → (s.vi v).launches.length < (s.vi v).quotaLaunch → recBsp ds = false →
      Completes (exec (.launch a d q) s) (fun t => ∃ id, id ≠ 0 ∧ id < 2 ^ 32 ∧ (∀ y ∈ (s.vi v).launches, y.id ≠ id) ∧
        (t.vi v).launches = (s.vi v).launches ++ [{ id := id, record := ds, addr := ga, dep := recDep ds }] ∧
        (∀ x, x ≠ v → t.vi x = s.vi x) ∧ (s.cur.liveG d = true → t.cur.rdG d = ⟨BitVec.ofNat 64 id, false, s.cur.det⟩) ∧
        t.cur.pc = s.cur.pc + 4 ∧ SameMemory s t)) ∧
    (spawnCheck s ds = none →
      let g := s.gtOf v (bits (nthDw ds 1) 0 56)
      let dep := bits (nthDw ds 2) 0 32
      (dep = 0 → bits (nthDw ds 4) 0 56 = 0 → s.nameTaken v ga = false → (s.tile g).pend.length < 256 →
        Completes (exec (.spawn a q) s) (fun t => NewWorkspace s t g (aOff (bits (nthDw ds 1) 0 56)) ∧ t.cur = { s.cur.noteReads [a] with pc := s.cur.pc + 4 } ∧
          ∃ u, t.others = s.others ++ [u] ∧ u.status = .ready ∧ u.kind = .spawned ∧ u.vi = v ∧ u.wp.toNat = bits (nthDw ds 1) 0 56 ∧
            u.pc.toNat = bits (nthDw ds 0) 0 56 ∧ u.g[0] = BitVec.ofNat 64 (bits (nthDw ds 3) 0 32) ∧ u.g[1] = nthDw ds 5 ∧ u.g[2] = nthDw ds 6 ∧ u.g[3] = nthDw ds 7 ∧
            (∀ n : Fin 32, 4 ≤ n.val → u.g[n] = 0) ∧ u.hw.seed = s.cur.hw.seed)) ∧
      (dep ≠ 0 → s.nameTaken v ga = false → (s.tile g).pend.length < 256 →
        Completes (exec (.spawn a q) s) (fun t => SameMemory s t ∧ t.cur = { s.cur.noteReads [a] with pc := s.cur.pc + 4 } ∧ t.others = s.others ∧
          ∀ x, t.tile x = if x = g then { s.tile g with pend := (s.tile g).pend ++ [{ addr := ga, vi := v, desc := ds, dep := dep, seed := s.cur.hw.seed }] } else s.tile x)))

/-- R316 to R318 and R335: the group rows complete on a group record that passes R437's checks, outside a containment domain. JOIN counts the
task in, an empty group starting afresh in the scope named; LEAVE counts it out and may complete the phase. SSTEP and GBAR of the last member
to arrive complete the phase at once: the parity turns, STEP counts, the arrivals are gone; SSTEP gives the combined votes, untainted. A
task that has arrived goes on once the parity has turned. Memory outside the record does not change. -/
def Obligations.GroupRowsComplete : Prop :=
  ∀ (e a d : BitVec 5) (q : BitVec 4) (s : State) (k : Nat), Runs s q → s.cur.depth = 0 →
    let gt := s.taskGt s.cur
    let ga := s.gv a
    let own := s.cur.hw.group
    let g := s.grp k
    let only (t : State) : Prop := ∀ x, x < k ∨ k + 32 ≤ x → t.byteAt x = s.byteAt x
    let arrival : DWord := BitVec.ofNat 64 (g.parity * 2 + 1)
    (ReleaseFree s → s.cur.det = false →
      ((s.cur.rdG a).p = false → s.grpCheck s.cur.who gt ga.toNat = .ok k → own = 0 → inScope e.toNat gt (k / 2 ^ 25) = true → 1 ≤ e.toNat → e.toNat ≤ 3 →
        (g.members = 0 ∨ g.scope = e.toNat) → g.members + 1 < 2 ^ 32 →
        Completes (exec (.join e a q) s) (fun t => only t ∧
          t.grp k = (if g.members = 0 then { g with arrived := 0, vset := false, vop := 0, vacc := 0, scope := e.toNat, members := 1 } else { g with members := g.members + 1 }) ∧
          t.cur = { s.cur.noteReads [a] with hw := { s.cur.hw with group := ga }, pc := s.cur.pc + 4 })) ∧
      (own ≠ 0 → s.grpCheck s.cur.who gt own.toNat = .ok k →
        Completes (exec (.leave q) s) (fun t => only t ∧ t.grp k = ({ g with members := g.members - 1 } : Grp).check ∧
          t.cur = { s.cur with hw := { s.cur.hw with group := 0 }, pc := s.cur.pc + 4 }))) ∧
    (CleanG s [a] → s.cmdsOf s.cur = [] → s.storesOf s.cur.key = [] → bits s.cur.st.crust 56 8 = 0 → s.cur.sch.failedStore = none → bits s.cur.st.mverr 40 8 = 0 → own ≠ 0 →
      s.grpCheck s.cur.who gt own.toNat = .ok k →
      (bit s.cur.hw.arrival 0 = false → g.arrived + 1 = g.members →
        (e.toNat < 4 → (g.arrived = 0 ∨ (g.vset = true ∧ g.vop = e.toNat)) →
          let v := if g.vset then (match e.toNat with | 0 => g.vacc ||| ga | 1 => g.vacc &&& ga | 2 => g.vacc + ga | _ => if g.vacc.toNat < ga.toNat then ga else g.vacc) else ga
          Completes (exec (.sstep e a d q) s) (fun t => only t ∧
            t.grp k = { g with vres := v, arrived := 0, vset := false, vop := 0, vacc := 0, parity := 1 - g.parity, step := (g.step + 1) % 2 ^ 32 } ∧
            t.cur = { (({ s.cur with hw := { s.cur.hw with arrival := 0 } } : Task).noteReads [a]).wrG d ⟨v, false, false⟩ with pc := s.cur.pc + 4 })) ∧
        (g.vset = false → ga.toNat = 1 - g.parity →
          Completes (exec (.gbar a q) s) (fun t => only t ∧
            t.grp k = { g with vres := 0, arrived := 0, vop := 0, vacc := 0, parity := 1 - g.parity, step := (g.step + 1) % 2 ^ 32 } ∧
            t.cur = { ({ s.cur with hw := { s.cur.hw with arrival := 0 } } : Task).noteReads [a] with pc := s.cur.pc + 4 }))) ∧
      (bit s.cur.hw.arrival 0 = true →
        (g.parity ≠ bits s.cur.hw.arrival 1 1 →
          Completes (exec (.sstep e a d q) s) (fun t => SameMemory s t ∧
            t.cur = { (({ s.cur with hw := { s.cur.hw with arrival := 0 } } : Task).noteReads [a]).wrG d ⟨g.vres, false, false⟩ with pc := s.cur.pc + 4 })) ∧
        (ga.toNat < 2 → g.parity ≠ 1 - ga.toNat →
          Completes (exec (.gbar a q) s) (fun t => SameMemory s t ∧
            t.cur = { ({ s.cur with hw := { s.cur.hw with arrival := 0 } } : Task).noteReads [a] with pc := s.cur.pc + 4 }))) ∧
      (bit s.cur.hw.arrival 0 = false → s.cur.hnd = false → g.arrived + 1 < g.members → g.arrived + 1 < 2 ^ 32 → g.vset = false → ga.toNat = 1 - g.parity →
        Completes (exec (.gbar a q) s) (fun t => t.cur.status = .parked (.phase own.toNat g.parity) ∧ t.cur.pc = s.cur.pc ∧ t.cur.hw.arrival = arrival ∧
          t.grp k = { g with arrived := g.arrived + 1 } ∧ only t)))

/-- R333 and R320: DDEC lowers and DADD raises the count of the launch that an address names, and an address that names nothing is entered in the
VI's event log. WPUSH appends ga with its poison to a work queue with room; WPOP and WPOP.NB take the oldest item and set Pe; of a closed empty
queue they give 1, and WPOP.NB of an open one 0, with Pe clear; WCLOSE closes the queue, its items kept. Outside a containment domain. -/
def Obligations.DependenceAndQueueRowsComplete : Prop :=
  ∀ (e a d : BitVec 5) (p : BitVec 3) (q : BitVec 4) (s : State), Runs s q → s.cur.depth = 0 →
    let v := s.cur.vi
    let ga := (s.gv a).toNat
    let k := (s.gv d).toNat
    (ReleaseFree s → CleanG s [a] → dependOk ga = true →
      (∀ y, (s.vi v).launches.find? (fun y => y.dep != 0 && y.addr == ga) = some y →
        (e.toNat + 1 ≤ y.dep → Completes (exec (.ddec e a q) s) (fun t =>
          (t.vi v).launches = (s.vi v).launches.map (fun z => if z.id = y.id then { z with dep := y.dep - (e.toNat + 1) } else z) ∧
          t.cur = { s.cur.noteReads [a] with pc := s.cur.pc + 4 } ∧ SameMemory s t)) ∧
        (CleanG s [d] → 0 < k → y.dep + k < 2 ^ 32 → Completes (exec (.dadd a d q) s) (fun t =>
          (t.vi v).launches = (s.vi v).launches.map (fun z => if z.id = y.id then { z with dep := y.dep + k } else z) ∧
          t.cur = { s.cur.noteReads [a, d] with pc := s.cur.pc + 4 } ∧ SameMemory s t))) ∧
      ((∀ y ∈ (s.vi v).launches, y.dep ≠ 0 → y.addr ≠ ga) → (∀ y ∈ s.tiles, ∀ z ∈ y.2.pend, ¬ (z.vi = v ∧ z.addr = ga)) → (s.vi v).evctr = 0 →
        Completes (exec (.ddec e a q) s) (fun t => (t.vi v).evidx = (s.vi v).evidx + 1 ∧
          tget (0, 0) (t.vi v).log ((s.vi v).evidx.toNat % 256) = (BitVec.ofNat 64 (2 ^ 56 + ga), BitVec.ofNat 64 (e.toNat + 1)) ∧ SameMemory s t))) ∧
    (∀ gq die w, bits gq 6 2 = 0 → bits gq 14 50 = 0 → (s.vi v).ldie (bits gq 8 6) = some die → tget {} (s.die die).wq (bits gq 0 6) = w → w.valid = true → w.owner = v →
      let n := bits gq 0 6
      let queue (t : State) : WorkQ := tget {} (t.die die).wq n
      (ReleaseFree s →
        (s.gv d = gq → (s.cur.rdG d).p = false → (s.cur.det && (s.cur.rdG d).t) = false → (s.cur.det && (s.cur.rdG a).t) = false → w.closed = false →
          w.items.length < 2 ^ w.lcap →
          Completes (exec (.wpush a d q) s) (fun t => queue t = { w with items := w.items ++ [(s.gv a, (s.cur.rdG a).p)] } ∧
            t.cur = { s.cur.noteReads [d, a] with pc := s.cur.pc + 4 } ∧ SameMemory s t)) ∧
        (s.gv a = gq → CleanG s [a] → Completes (exec (.wclose a q) s) (fun t => queue t = { w with closed := true } ∧ t.cur.g = s.cur.g ∧
            t.cur.pc = s.cur.pc + 4 ∧ SameMemory s t))) ∧
      (ReleaseFree s → s.gv a = gq → CleanG s [a] →
        let pops (i : Instr) (x : RegV) (got : Bool) (r : List (DWord × Bool)) : Prop :=
          Completes (exec i s) (fun t => queue t = { w with items := r } ∧ SameMemory s t ∧
            t.cur = { ((s.cur.noteReads [a]).wrG d x).wrP p.toNat got true with pc := s.cur.pc + 4 })
        (∀ x r, w.items = x :: r → pops (.wpop p a d q) ⟨x.1, x.2, true⟩ true r ∧ pops (.wpopNb p a d q) ⟨x.1, x.2, true⟩ true r) ∧
        (w.items = [] → w.closed = true → pops (.wpop p a d q) ⟨1, false, true⟩ false [] ∧ pops (.wpopNb p a d q) ⟨1, false, true⟩ false []) ∧
        (w.items = [] → w.closed = false → pops (.wpopNb p a d q) ⟨0, false, true⟩ false [])))

/-- R337 to R339: an MSEND to this module, outside a containment domain, of a payload in written memory puts the message on its way with the
sequence number of SR.MSEQ and parks its task; when the reply has come, it completes: gd takes the status, tainted in deterministic mode,
and SR.MSEQ counts an accepted message (status 0). -/
def Obligations.MsendSendsAndCompletes : Prop :=
  ∀ (a d : BitVec 5) (q : BitVec 4) (s : State), Runs s q →
    (∀ st, s.cur.sch.reply = some st → Completes (exec (.msend a d q) s) (fun t =>
      (s.cur.liveG d = true → t.cur.rdG d = ⟨BitVec.ofNat 64 st, false, s.cur.det⟩) ∧ (∀ r : BitVec 5, r ≠ d → t.cur.g[r.toNat] = s.cur.g[r.toNat]) ∧
      t.cur.hw = { s.cur.hw with mseq := if st = 0 then BitVec.ofNat 64 ((bits s.cur.hw.mseq 0 32 + 1) % 2 ^ 32) else s.cur.hw.mseq } ∧
      t.cur.sch.sending = false ∧ t.cur.sch.reply = none ∧ t.cur.pc = s.cur.pc + 4 ∧ SameMemory s t)) ∧
    (∀ l k, s.cur.sch.reply = none → s.cur.sch.sending = false → s.cur.depth = 0 → ReleaseFree s → CleanG s [a, d] →
      let ga := (s.gv a).toNat
      destOk (s.gv d) = true → s.destModule (s.gv d) = s.md.number → ga % 64 = 0 → (aRegion ga = 0 ∨ aRegion ga = 1) → ga < 2 ^ 56 →
      s.check s.cur.who (s.taskGt s.cur) rRD ga 64 = .ok l → AccessFree s l 64 → ReadsAt s l 64 k →
      Completes (exec (.msend a d q) s) (fun t => t.cur.status = .parked .reply ∧ t.cur.pc = s.cur.pc ∧ t.cur.sch.sending = true ∧ SameMemory s t ∧
        ∃ m : Msg, t.msgs = s.msgs ++ [m] ∧ m.num = t.cur.sch.sentId ∧ m.vi = some s.cur.vi ∧ m.key = s.cur.key ∧ m.dest = s.gv d ∧ m.seq = bits s.cur.hw.mseq 0 32 ∧
          m.payload = (s.fetch k 64).map (·.1) ∧ m.marks = (s.fetch k 64).map (·.2) ∧ m.arrived = false ∧ m.reply = none))

/-- R418 and R419 with R10: RDSR gives a status register, tainted in deterministic mode for SR.TASK, SR.LAUNCH and SR.CYCLE; WRSR replaces the writable bits of
registers 0 to 9 and keeps the others, a write of SR.TSTAT clearing every predicate's taint; registers 3 and 4 need a supervisor, and outside deterministic mode no taint tag is set (R202). SR.FPFLAGS
is read and written when no command of the task that can set a flag is under way, the tags when no vector command is (R76, R224).
Model's choices used: log entry 71. -/
def Obligations.StatusRegisterRowsComplete : Prop :=
  ∀ (e a d : BitVec 5) (q : BitVec 4) (s : State), Runs s q →
    (e = 1 → (s.cmdsOf s.cur).any Cmd.setsFlags = false) → (e = 3 ∨ e = 4 → s.vCmds s.cur = []) →
    Completes (exec (.rdsr e d q) s) (fun t => WritesG s t [] d ⟨s.readSr e.toNat, false, e == 15 || e == 16 || e == 23⟩ 4) ∧
    (e.toNat < 10 → (e = 3 ∨ e = 4 → s.cur.sup = true) → CleanG s [a] → (e = 0 → bits (s.gv a) 0 3 < 6) →
      let mask : DWord := match e.toNat with
        | 0 => 0x1F | 1 => 0x7F | 2 => 0x300FF | 3 => 0x000FFFFFFFFFFFFF | 4 => 0x0FFFFFFFFFFFFFFF | 5 => 0xFFFFFFFFFFFFFFFF | 6 => 0xFFFFFFFF
        | 7 => 0xFFFFFFFFFFFFFF00 | 8 => 0xFFFFFF000000FF00 | _ => 0x1F
      Completes (exec (.wrsr e a q) s) (fun t => SameMemory s t ∧
        (s.cur.liveG a = true → ∀ j : BitVec 5, j.toNat < 10 → t.readSr j.toNat =
          if j = 4 ∧ e = 4 ∧ s.cur.det = false then 0
          else if j = e then (s.readSr j.toNat &&& ~~~mask) ||| (s.gv a &&& mask)
          else if j = 4 ∧ e = 2 then s.readSr 4 &&& 0xF00FFFFFFFFFFFFF else s.readSr j.toNat) ∧
        t = { s with cur := { s.cur with pc := s.cur.pc + 4, st := t.cur.st }, stalled := false }))

/-- R132 and R420: TLBINV of a supervisor, with nothing of its VI still under way, drops exactly the cached translations it names on every tile.
Model's choices used: log entry 50. -/
def Obligations.TlbinvDropsWhatItNames : Prop :=
  ∀ (e a : BitVec 5) (q : BitVec 4) (s : State), s.cur.sup = true → Runs s q → s.cur.depth = 0 → CleanG s [a] → ReleaseFree s →
    let ga := (s.gv a).toNat
    (e = 2 → ga = 0) → (e ≠ 2 → ga < 2 ^ 56 ∧ (aRegion ga = 1 ∨ aRegion ga = 2)) → s.md.walks = [] → s.undrained s.cur.vi e.toNat ga = false →
    Completes (exec (.tlbinv e a q) s) (fun t =>
      (∀ g x, x ∈ (t.tile g).tlb ↔ x ∈ (s.tile g).tlb ∧ ¬ (x.vi = s.cur.vi ∧
        (e = 2 ∨ (x.region = aRegion ga ∧ (e = 1 ∨ (x.base ≤ ga % 2 ^ 40 ∧ ga % 2 ^ 40 < x.base + x.size)))))) ∧
      t.cur = { s.cur.noteReads [a] with pc := s.cur.pc + 4 } ∧ SameMemory s t)

/-- R374 to R376: TRAP that its guard lets run always completes: the trap of cause 0x18 is taken with EPC at the next instruction, IWORD the
instruction's word, ADDR the value of ga, and INFO the immediate with ga's tags. Where its trap goes to the host or a handler of the VI already runs
on the tile, the task, outside a trap handler, is left trapped past the instruction. ERET of a supervisor, with no earlier engine write and no
outstanding store, finishes the trap of the task that ga names with each action that R376 allows, and completes for the handler; action 0 makes that
task ready at its record's EPC. -/
def Obligations.TrapAndEretComplete : Prop :=
  ∀ (e a : BitVec 5) (q : BitVec 4) (s : State), Runs s q →
    let x := s.cur.rdG a
    let code : TrapInfo := { code := 0x18, after := true, addr := x.v, info := BitVec.ofNat 64 (e.toNat + (if x.p = true then 256 else 0) + (if x.t = true then 512 else 0)) }
    exec (.trap e a q) s = .next { { s with cur := s.cur.noteReads [a] }.takeTrap s.cur.key code ((s.cur.pc.toNat + 4) % 2 ^ 56) (ofBytes (encode (.trap e a q))) with stalled := false } ∧
    (s.cur.status = .resident → (∀ w, s.cur.kind ≠ .trapHandler w) → ((s.vi s.cur.vi).trapToHost 0x18 = true ∨ s.handlerRuns s.cur.vi (s.taskGt s.cur) = true) →
      Completes (exec (.trap e a q) s) (fun t => t.cur.status = .trapped ∧ t.cur.pc = s.cur.pc + 4 ∧ t.cur.key = s.cur.key ∧ t.cur.g = s.cur.g)) ∧
    (∀ u, s.cur.status = .resident → s.cur.sup = true → ReleaseFree s → CleanG s [a] → s.trapped? s.cur.vi (s.gv a).toNat = some u → s.eretOk u e.toNat = true →
      exec (.eret e a q) s = .next (({ s with cur := s.cur.noteReads [a] }.finishTrap u e.toNat).advance 4) ∧
      (e = 0 → Completes (exec (.eret e a q) s) (fun t => t.cur = { s.cur.noteReads [a] with pc := s.cur.pc + 4 } ∧
        ∃ y, t.task? u.key = some y ∧ y.status = .ready ∧
          y.pc.toNat = ((s.wsWord (s.taskGt u) (aOff u.wp.toNat) 0x1408).1).toNat % 2 ^ 56 / 2 * 2)))

/-- R382, R383 and R388: CDOPEN of a nested level whose area lies in HBM opens the next level, its area recorded and the views of the blocks that the task claims
zero; CDCLOSE of an inner level closes it with status 0, and of the outermost one, with no output window and no held message,
closes the nest.
Model's choices used: log entries 48, 49. -/
def Obligations.ContainmentRowsComplete : Prop :=
  ∀ (a d : BitVec 5) (q : BitVec 4) (s : State), Runs s q → s.cur.status = .resident → s.cmdsOf s.cur = [] → s.storesOf s.cur.key = [] →
    let n := s.cur.depth
    (∀ mma : Nat, 0 < n → n < 8 → bit s.cur.hw.rsv 63 = false → s.cur.hnd = false → CleanG s [a] → s.xfersOf s.cur 0 = [] →
      let ga := (s.gv a).toNat
      aRegion ga = 1 → ga % 64 = 0 → s.check s.cur.who (s.taskGt s.cur) rRD ga 64 = .ok (.hbm mma) → AccessFree s (.hbm mma) 64 →
      (∀ x ∈ linesOf mma 64, s.remoteHeld x false = false) → (∀ i, i < 8 → nthDw (loadedDws 8 (s.hbmFetch mma 64)) i = 0) →
      (∀ j, j < 0x1A80 → s.check1 s.cur.who (s.taskGt s.cur) rWR (ga + j) = .ok (.hbm (mma + j))) →
      Completes (exec (.cdopen a q) s) (fun t => t.cur.depth = n + 1 ∧ t.cur.hw.cdAddr.toList.getD n 0 = BitVec.ofNat 64 ga ∧
        (∀ j, j < 8 → bit s.cur.hw.claim j = true → bits t.cur.mx.zmode (3 * j) 3 = 0) ∧ t.cur.g = s.cur.g ∧ t.cur.pc = s.cur.pc + 4)) ∧
    (s.cur.sch.closing = none → s.cur.sch.swaps = [] → s.cur.sch.reply = none → s.cur.sch.sending = false → bits s.cur.st.crust 56 8 = 0 → s.cur.sch.failedStore = none → bits s.cur.st.mverr 40 8 = 0 →
      s.xfersOf s.cur n = [] → s.cur.red.tie = none →
      (1 < n → Completes (exec (.cdclose d q) s) (fun t => t.cur.depth = n - 1 ∧ (s.cur.liveG d = true → t.cur.rdG d = ⟨0, false, s.cur.det⟩) ∧
        t.cur.pc = s.cur.pc + 4 ∧ SameMemory s t)) ∧
      (n = 1 → s.owin s.cur % 65536 = 0 → bits (s.domWord s.cur 1 10) 8 8 = 0 →
        Completes (exec (.cdclose d q) s) (fun t => t.cur.depth = 0 ∧ (s.cur.liveG d = true → t.cur.rdG d = ⟨0, false, s.cur.det⟩) ∧
          t.cur.pc = s.cur.pc + 4 ∧ SameMemory s t)))

/-- R24, R222, R223, R225 and R205: a vector command that touches no memory and no block begins when its slot is next in the engine's round, taking its V
operands and its mask, and at completion writes its destination with its tags and merges its flags into the task's, and leaves the queue; the
matrix commands that set a block take effect and leave theirs; a result that waits for a box fills it once it is empty. Stated for a command
of a resident task whose lines are all in the register cache.
Model's choices used: log entries 17, 20, 29, 66. -/
def Obligations.EngineEventsComplete : Prop :=
  ∀ (s : State) (c : Cmd) (u : Task),
    let gt := s.ev.gt
    s.task? c.key = some u → u.status = .resident → u.absentLines = [] →
    (headCmd (s.tile gt).vq s.ev.slot = some c →
      (∀ f, c.vform = some f → f.mem = .none → f.z = none →
        (s.vNext gt = some s.ev.slot → c.grants = [] → (∀ e, (f.eff e).bad = none) →
          Completes (exec .vectorCommandBegin s) (fun t => SameMemory s t ∧ ∃ x ∈ (t.tile gt).vq, x.seq = c.seq ∧ x.phase = .begun ∧ x.ops = f.reads.map u.rdV ∧
            x.mask = (match f.msk with | some m => u.rdM m | none => 0))) ∧
        (∀ (d : BitVec 4) (x : BitVec 2048), c.phase = .begun → f.box = none → f.mdst = none → f.dsts = [d] → u.liveV d = true →
          (f.eff (s.vEnv gt c f u)).v = [x] →
          let keeps := f.keeps && f.msk.isSome
          Completes (exec .vectorCommandComplete s) (fun t => SameMemory s t ∧ (∀ o ∈ (t.tile gt).vq, o.seq ≠ c.seq) ∧ ∃ y, t.task? c.key = some y ∧ y.v[d.toNat] = x ∧
            y.poisV d = (c.pois || (f.eff (s.vEnv gt c f u)).pois || (keeps && u.poisV d)) ∧ y.taintV d = (u.det && (c.taint || (keeps && u.taintV d))) ∧
            (∀ r : BitVec 4, r ≠ d → y.v[r.toNat] = u.v[r.toNat]) ∧ y.g = u.g ∧ y.st.fpflags = mergeFlags u.st.fpflags (f.eff (s.vEnv gt c f u)).fl)))) ∧
    (headCmd (s.tile gt).mq s.ev.slot = some c →
      (s.mNext gt = some s.ev.slot →
        (∀ a d q, c.instr = .mxcfg a d q → cfgWide c.ga = false → (d = 0 → (s.blk gt 0).mode ≠ 2) →
          Completes (exec .matrixCommandBegin s) (fun t => SameMemory s t ∧ t.blk gt d.toNat = { mode := 1, config := c.ga } ∧ ∃ x ∈ (t.tile gt).mq, x.seq = c.seq ∧ x.phase = .begun)) ∧
        (∀ d q, c.instr = .mxzero d q → Completes (exec .matrixCommandBegin s) (fun t => SameMemory s t ∧
          t.blk gt d.toNat = { s.blk gt d.toNat with cells := [], fkind := 0, fcell := 0 } ∧ ∃ x ∈ (t.tile gt).mq, x.seq = c.seq ∧ x.phase = .begun))) ∧
      (∀ d q, c.instr = .mxzero d q → c.phase = .begun → c.result = none →
        Completes (exec .matrixCommandComplete s) (fun t => SameMemory s t ∧ (∀ o ∈ (t.tile gt).mq, o.seq ≠ c.seq)))) ∧
    (∀ (n : Nat) (hn : n < 4) (v : DWord) (p ta : Bool), headCmd (if s.ev.kind = 0 then (s.tile gt).vq else (s.tile gt).mq) s.ev.slot = some c → c.phase = .boxWait →
      c.result = some (n, v, p, ta) → (u.box[n]).full = false → u.det = false →
      Completes (exec .boxWrite s) (fun t => SameMemory s t ∧ ∃ y, t.task? c.key = some y ∧ y.box[n] = ⟨v, p, false, true⟩ ∧ y.g = u.g))

/-- R23, R302, R304 to R306 and R195: the scheduler's events complete where their conditions hold. A parked task whose condition holds becomes ready; an
empty slot admits the task that the queue gives it, which holds the blocks it claims; 65,536 cycles at a level move a ready task to the
tail of the next; once the head of level 3 has been eligible for 65,536 cycles a rotation sends its victim to the queue and keeps the slot for
it; a line that a task waits for is filled, and is absent no more.
Model's choices used: log entries 53, 66, 70, 72. -/
def Obligations.SchedulerEventsComplete : Prop :=
  ∀ (s : State) (u : Task),
    (s.task? s.ev.key = some u →
      (∀ p, u.status = .parked p → u.sch.joining = 0 → s.parkHolds u p = true →
        Completes (exec .taskReady s) (fun t => SameMemory s t ∧ ∃ y, t.task? s.ev.key = some y ∧ y.status = .ready ∧ y.sch.level = u.prio ∧ y.pc = u.pc ∧ y.g = u.g)) ∧
      (u.status = .ready → u.sch.level < 3 → 65536 ≤ s.waited u →
        Completes (exec .readyAging s) (fun t => SameMemory s t ∧ ∃ y, t.task? s.ev.key = some y ∧ y = { u with sch := { u.sch with level := u.sch.level + 1, order := s.clock, since := u.sch.since + 65536 } })) ∧
      (∀ l, u.status = .parked (.regLine l) →
        Completes (exec .registerCacheFill s) (fun t => (s.usedLines (s.taskGt u) + (if u.redundant then 2 else 1) ≤ 512 → SameMemory s t) ∧
          ∃ y, t.task? s.ev.key = some y ∧ y.status = .ready ∧ l ∉ y.absentLines ∧ (∀ x, x ≠ l → (x ∈ y.absentLines ↔ x ∈ u.absentLines))))) ∧
    (let gt := s.ev.gt
     let n := s.ev.slot
     (n < 16 → s.slotFree gt n = true → (s.tile gt).quarantined = false → (s.tile gt).gated = false → s.admitted gt n = some u → u.sch.saved = false →
       u.absentLines = [] → s.task? u.key = some u →
       Completes (exec .taskAdmission s) (fun t => SameMemory s t ∧ t.cur.key = u.key ∧ t.cur.status = .resident ∧ t.cur.slot = n ∧
         bits t.cur.hw.claim 8 8 = bits u.hw.claim 0 8 ∧ t.cur.pc = u.pc ∧ t.cur.g = u.g)) ∧
     (∀ h r c, s.eligibleHead gt = some h → s.rotated gt = some r → (s.tile gt).headSince = some (h.key, c) → 65536 ≤ (s.tile gt).cycle.toNat - c →
       (s.tile gt).waitHead = none → s.task? r.key = some r →
       Completes (exec .rotation s) (fun t => SameMemory s t ∧ (t.tile gt).waitHead = some h.key ∧ ∃ y, t.task? r.key = some y ∧ y.status = .ready ∧ y.snaps = [] ∧ y.g = r.g)))

/-- R297 to R299, R308, R27 to R29, R310 and R416: the next task of a launch that depends on nothing is placed where its record says, or held where that tile is
not to be used; a placed task whose frame is free starts with its record's entry, arguments and seed; a tile that stays idle for the interval is gated, and a request
wakes it; an island goes to a frequency within its ceiling.
Model's choices used: log entry 66. -/
def Obligations.DistributorAndPowerEventsComplete : Prop :=
  ∀ (s : State),
    (∀ l, (s.vi s.ev.vi).launches.find? (fun l => l.id == s.ev.id) = some l →
      let v := s.ev.vi
      let ts := tileSet l.record
      (l.dep = 0 → l.cancelled = false → l.placed < recCount l.record → recPlace l.record ≠ 0 →
        let p := placeOf l.record ts.length l.placed
        s.heldCause v (ts.getD p (0, 0)) = 0 →
        Completes (exec .leadDistributorPlacement s) (fun t => SameMemory s t ∧ t.tasks = s.tasks ∧
          ∃ y, (t.vi v).launches.find? (fun l => l.id == s.ev.id) = some y ∧ y = { l with placed := l.placed + 1, waiting := l.waiting ++ [(l.placed, p)] })) ∧
      (∀ e gt, let p := s.ev.index
        let vt := ts.getD p (0, 0)
        l.waiting.find? (fun e => e.2 == p) = some e → s.gtAt v vt = some gt → s.heldCause v vt = 0 → (s.tile gt).gated = false →
        s.frameFree gt (l.frameOff p) l.frameLen = true → (recBsp l.record = true ∨ recGrec l.record = 0) →
        Completes (exec .taskInstantiation s) (fun t =>
          NewWorkspace s t gt (aOff (BitVec.ofNat 56 (frameWp l.record vt.1 vt.2 (l.nextFrame p))).toNat) ∧ ∃ y ∈ t.others, y.kind = .launched ∧ y.vi = v ∧
          y.wp = BitVec.ofNat 56 (frameWp l.record vt.1 vt.2 (l.nextFrame p)) ∧ y.pc.toNat = bits (nthDw l.record 0) 0 56 ∧ y.g[0] = BitVec.ofNat 64 e.1 ∧
          y.g[1] = BitVec.ofNat 64 (recCount l.record) ∧ y.g[2] = nthDw l.record 2 ∧ y.g[3] = nthDw l.record 6 ∧ (∀ n : Fin 32, 4 ≤ n.val → y.g[n] = 0) ∧
          y.hw.seed = nthDw l.record 2 ∧ y.st.mode = modeOf (recSup l.record) (recD l.record) (recR l.record) (recBsp l.record) false ||| 0x10))) ∧
    (let gt := s.ev.gt
     let x := s.tile gt
     let only (t : State) (y : Tile) : Prop := (∀ g, t.tile g = if g = gt then y else s.tile g) ∧ SameMemory s t ∧ t.tasks = s.tasks
     (s.tileIdle gt = true → x.gated = false → s.asksTile gt = false →
       Completes (exec .tilePowerGating s) (fun t => only t { x with gated := true, waking := false, cycle := dw (max x.cycle.toNat (x.lastBusy + s.md.idle)) })) ∧
     (x.gated = true → Completes (exec .wake s) (fun t => only t { x with waking := true })) ∧
     (x.waking = true → Completes (exec .wakeComplete s) (fun t => only t { x with gated := false, waking := false, lastBusy := x.cycle.toNat }))) ∧
    (s.ev.id < 56 → 1000 ≤ s.ev.value →
      (s.ev.value ≤ s.md.ceilOf s.ev.id →
        Completes (exec .frequencyChange s) (fun t => (∀ k, t.md.freqOf k = if k = s.ev.id then s.ev.value else s.md.freqOf k) ∧ t = { s with md := { s.md with freq := t.md.freq } })) ∧
      (s.ev.value < s.md.freqOf s.ev.id →
        Completes (exec .powerLimit s) (fun t => (∀ k, t.md.freqOf k = if k = s.ev.id then s.ev.value else s.md.freqOf k) ∧ t = { s with md := { s.md with freq := t.md.freq } })))

/-- R328, R329, R143, R343 to R345 and R49: the events that a task's own waits lead to. A snapshot or a code line arrives with the bytes that can be fetched
there; the head of a page queue is granted the next pages; the first waiter of a free reserved word is granted it: a task of this module
goes on, another module's requester is sent the word, and the grant that another module's home sends reaches the task that asked; a release that another
module's requester sends writes the new value and ends its reservation, as the hardware ends that of a task that is gone; NOP moves on; an encoding
that is no instruction traps its task at its own address.
Model's choices used: log entries 66, 73. -/
def Obligations.FetchGrantAndReservationEventsComplete : Prop :=
  ∀ (s : State) (u : Task),
    (s.task? s.ev.key = some u →
      (∀ bs, u.status = .resident → u.prepared (BitVec.ofNat 3 s.ev.index) = true → s.codeLine u (u.target (BitVec.ofNat 3 s.ev.index)).toNat 32 = some bs →
        Completes (exec .snapshotFetch s) (fun t => SameMemory s t ∧ t.task? s.ev.key = some { u with
          snaps := (s.ev.index % 8, (u.target (BitVec.ofNat 3 s.ev.index)).toNat, bs) :: u.snaps.filter (fun e => e.1 ≠ s.ev.index % 8) })) ∧
      (∀ bs, let x := u.pc.toNat / 64 * 64
        u.status = .parked .code → s.codeLine u x 32 = some bs →
        Completes (exec .codeFetch s) (fun t => SameMemory s t ∧ (u.vi * 2 ^ 56 + x, s.clock, bs) ∈ (t.tile (s.taskGt u)).icache ∧
          ∃ y, t.task? s.ev.key = some y ∧ y.status = .ready ∧ y.pc = u.pc))) ∧
    (∀ key n rest, let b := s.cb s.ev.gt s.ev.id
      (s.ev.kind = 0 → b.resQ = (.task key, n) :: rest → n ≤ b.freePages →
        Completes (exec .cbGrant s) (fun t => SameMemory s t ∧ (t.cb s.ev.gt s.ev.id).resv = b.resv + n ∧
          (t.cb s.ev.gt s.ev.id).granted = b.granted ++ [(key, 0, b.resv)])) ∧
      (s.ev.kind ≠ 0 → b.acqQ = (.task key, n) :: rest → n ≤ b.filled →
        Completes (exec .cbGrant s) (fun t => SameMemory s t ∧ (t.cb s.ev.gt s.ev.id).taken = b.taken + n ∧
          (t.cb s.ev.gt s.ev.id).granted = b.granted ++ [(key, s.ev.kind, b.taken)]))) ∧
    (∀ r k rest, s.ev.src = s.md.number → s.resv.find? (fun r => r.addr == s.ev.addr) = some r → r.holder = none → r.waiters = k :: rest →
      (k < awayKey → s.task? k = some u → u.status = .parked (.grant r.addr) →
        Completes (exec .reservationGrant s) (fun t => SameMemory s t ∧ ∃ y, t.task? k = some y ∧ y.status = .ready ∧ y.pc = u.pc ∧ y.g = u.g)) ∧
      (∀ mma, awayKey ≤ k → wordLoc r.addr = .hbm mma → s.frameBusy (mma / 2 ^ 21) = false → s.remoteHeld mma true = false →
        Completes (exec .reservationGrant s) (fun t => SameMemory s t ∧ { r with holder := some k, waiters := rest } ∈ t.resv ∧
          ∃ p ∈ t.md.outbox, p.cls = cRSP ∧ p.dst = k % 1024 ∧ p.kind = kGrant ∧ p.addr = mma ∧ p.data = (s.homeWord r.addr).1.setWidth 1024))) ∧
    (∀ x s1, s.ev.src ≠ s.md.number → s.taken [kGrant] = some (x, s1) →
      ∀ p k r, s.md.outbox.find? (fun p => p.cls == cREQ && p.kind == kReserve && p.seq == x.offset) = some p → p.req = some (.task k) →
        s.resv.find? (fun r => r.addr == 2 ^ 60 + x.src * 2 ^ 40 + x.addr % 2 ^ 40 / 8) = some r → r.waiters.head? = some k →
        Completes (exec .reservationGrant s) (fun t => SameMemory s t ∧ { r with granted := true, value := x.data.setWidth 64, pois := x.value % 2 == 1 } ∈ t.resv)) ∧
    (∀ x s1, s.ev.src ≠ s.md.number → s.taken [kRelease] = some (x, s1) → let mma := x.addr % 2 ^ 40 / 8 * 8
      s.resv.any (fun r => r.addr == 2 ^ 57 + mma / 8 && r.holder.any (fun k => decide (awayKey ≤ k) && k % 1024 == x.src && k / 1024 % 2 ^ 13 == x.gt)) = true →
      s.frameBusy (mma / 2 ^ 21) = false → s.remoteHeld (mma / 128 * 128) true = false →
      Completes (exec .reservationRelease s) (fun t => (∀ y ∈ t.resv, y.addr = 2 ^ 57 + mma / 8 → y.holder = none) ∧
        (x.code % 2 = 1 → ∀ j, j < 8 → t.byteAt (s.hbmKey mma + j) = BitVec.ofNat 8 (x.data.toNat / 256 ^ j)) ∧
        (∀ z, x.code % 2 = 0 ∨ z < s.hbmKey mma ∨ s.hbmKey mma + 8 ≤ z → t.byteAt z = s.byteAt z))) ∧
    (∀ r h, s.ev.src = s.md.number → s.resv.find? (fun r => r.addr == s.ev.addr) = some r → r.holder = some h → h < awayKey → s.task? h = none → s.storesOf h = [] → s.locBusy (wordLoc r.addr) = false →
        (∀ c, c ∈ (s.tile (s.gtOf (h / 2 ^ 56) (h % 2 ^ 56))).vq ++ (s.tile (s.gtOf (h / 2 ^ 56) (h % 2 ^ 56))).mq → c.vi * 2 ^ 56 + c.wp.toNat ≠ h) →
      Completes (exec .reservationRelease s) (fun t => SameMemory s t ∧ ∀ y ∈ t.resv, y.addr = r.addr → y.holder ≠ some h)) ∧
    exec .nop s = .next (s.past [] (s.cur.pc + 2)) ∧
    (s.cur.status = .resident → (∀ w, s.cur.kind ≠ .trapHandler w) → ((s.vi s.cur.vi).trapToHost 1 = true ∨ s.handlerRuns s.cur.vi (s.taskGt s.cur) = true) →
      Completes (exec .illegalInstruction s) (fun t => t.cur.status = .trapped ∧ t.cur.pc = s.cur.pc ∧ t.cur.g = s.cur.g))

/-- R338 to R341: a message that reaches a mailbox it cannot use is answered with status 2, and one that finds a page is answered with 0, the page
being reserved; a reply reaches the task that waits for it, with the message gone; a batch of held messages is held no more once it is
placed; a handler starts on the next published page with the mailbox's entry, its number and the sender's seed and index.
Model's choices used: log entry 66. -/
def Obligations.MessageEventsComplete : Prop :=
  ∀ (s : State),
    (∀ m v gt n, s.ev.kind ≠ 1 → s.ev.src = s.md.number → s.msgs.find? (fun g => g.id == s.ev.id && !g.arrived) = some m →
      m.vi = some v → s.mailOf m = some (gt, n) → s.fencedTile gt = false → (s.tile gt).gated = false →
      (∀ h ∈ s.msgs, h.id < m.id → h.arrived = false → ¬ (h.src = m.src ∧ h.tile = m.tile ∧ (s.mailOf h).map (·.1) = some gt)) →
      let b := s.mail gt n
      let c := s.cb gt b.buf
      (s.mailUsable gt b = false ∨ b.owner ≠ v → Completes (exec .messageArrival s) (fun t => SameMemory s t ∧
        ∃ y ∈ t.msgs, y.id = m.id ∧ y.arrived = true ∧ y.reply = some 2)) ∧
      (s.mailUsable gt b = true → b.owner = v → m.held = false → c.resQ = [] → c.undoR = [] → 1 ≤ c.freePages →
        Completes (exec .messageArrival s) (fun t => (t.cb gt b.buf).resv = c.resv + 1 ∧ ∃ y ∈ t.msgs, y.id = m.id ∧ y.arrived = true ∧ y.reply = some 0))) ∧
    (∀ m st u, s.ev.src = s.md.number → s.msgs.find? (fun g => g.id == s.ev.id && g.reply.isSome && !g.replied) = some m → m.reply = some st → m.held = false →
      m.src = s.md.number → s.task? m.key = some u → u.sch.sending = true → u.sch.sentId = m.num →
      Completes (exec .msendReply s) (fun t => SameMemory s t ∧ (∀ y ∈ t.msgs, y.id ≠ m.id) ∧ ∃ y, t.task? m.key = some y ∧ y.sch.reply = some st ∧ y.g = u.g)) ∧
    (let l := s.heldBatch s.ev.gt s.ev.id s.ev.addr s.ev.seq
     l ≠ [] → (∀ g ∈ l, g.page ≠ none ∧ (g.src = s.md.number → (s.grp g.group).step ≠ g.phase)) →
     Completes (exec .heldMessageBatch s) (fun t => ∀ y ∈ t.msgs, (∃ g ∈ l, g.id = y.id) → y.held = false)) ∧
    (∀ p, let gt := s.ev.gt
      let b := s.mail gt s.ev.id
      let c := s.cb gt b.buf
      b.hmode = true → b.handler = none → b.posts.find? (fun p => pagePast c.pushed p.page) = some p → pagePast c.taken p.page = false → c.taken = p.page →
      s.task? (s.handlerTask gt s.ev.id b p).key = none → c.acqQ = [] → 1 ≤ c.filled →
      Completes (exec .handlerStart s) (fun t => NewWorkspace s t (s.gtOf b.owner (bits b.dw3 0 56)) (aOff (bits b.dw3 0 56)) ∧ (t.mail gt s.ev.id).handler = some c.taken ∧ (t.cb gt b.buf).taken = c.taken + 1 ∧
        ∃ y ∈ t.others, y.kind = .handler s.ev.id ∧ y.status = .ready ∧ y.vi = b.owner ∧ y.pc.toNat = bits b.dw2 0 56 ∧ y.wp.toNat = bits b.dw3 0 56 ∧
          y.g[0] = BitVec.ofNat 64 s.ev.id ∧ y.g[2] = BitVec.ofNat 64 p.tindex ∧ y.g[3] = BitVec.ofNat 64 p.seq ∧ y.hw.seed = p.seed ∧ y.hnd = true))

/-- R387 and R390: a level whose commands and transfers are over is discarded and, in its first two runs, its task is ready at the instruction after the
CDOPEN with that level open; a tie-break signature that agrees with one copy ends the tie-break and reports the other copy's slot half.
Model's choices used: log entries 27, 66. -/
def Obligations.DiscardEventsComplete : Prop :=
  ∀ (s : State) (u : Task), s.task? s.ev.key = some u →
    (∀ level, s.ev.kind ≠ 1 → u.status = .parked (.discard level) → level < 16 → s.discardReady u level = true → bits (s.domWord u level 9) 56 8 < 2 →
      Completes (exec .domainDiscard s) (fun t => ∃ y, t.task? s.ev.key = some y ∧ y.status = .ready ∧ y.depth = level ∧ y.pc = (s.domWord u level 8).setWidth 56)) ∧
    (∀ l tr n x, u.red.tie = some (l, tr, n) → u.red.sig3 = some x → (x = l ∨ x = tr) →
      Completes (exec .tieBreakComparison s) (fun t => SameMemory s t ∧
        (∀ k, k ∈ t.md.suspects ↔ k = 32 * s.taskGt u + (if x = l then u.slot + 8 else u.slot) ∨ k ∈ s.md.suspects) ∧
        ∃ y, t.task? s.ev.key = some y ∧ y.red.tie = none ∧ y.red.sig3 = none ∧ y.g = u.g))

/-- R154, R158 to R160, R164, R165, R167 and R265: the mover's events complete. The oldest queued transfer begins; the next in the round has its turn; a
fetched descriptor comes into force and a failed one stops its chain with its code; a finished transfer's counter, if it has one, counts, and
its entry says so; a valid handle is cached; a revocation leaves no cached copy and is counted when no transfer uses the handle; a stored
page is delivered into the subscriber's next page.
Model's choices used: log entries 39, 66, 74, 76, 77. -/
def Obligations.MoverEventsComplete : Prop :=
  ∀ (s : State),
    let gt := s.ev.gt
    let v := s.ev.vi
    let entry (t : State) (x : Transfer) (p : Transfer → Prop) : Prop := ∃ y, (x.id % 1024, y) ∈ (t.tile gt).xfers ∧ y.id = x.id ∧ p y
    (∀ x, (s.inOrder gt).find? (fun t => t.state == 0) = some x → (s.inOrder gt).countP (fun u => u.state == 1) < 8 → x.isChain = false → s.xferHeld gt x = false →
      Completes (exec .transferBegin s) (fun t => SameMemory s t ∧ entry t x (fun y => y.state = 1))) ∧
    (∀ x, s.nextTurn gt = some x → Completes (exec .moverTurn s) (fun t => (t.tile gt).xlast = x.id)) ∧
    (∀ x a, s.xfer? gt s.ev.id = some x → x.isChain = true → x.state = 1 → x.stop = false → x.inForce = false →
      x.ahead = some a → (a.code = 0 → a.skip = false → Completes (exec .chainDescriptorFetch s) (fun t => SameMemory s t ∧
        entry t x (fun y => y.inForce = true ∧ y.regs = descRegs x.regs a.desc ∧ y.ahead = none ∧ y.done = 0))) ∧
      (a.code ≠ 0 → x.code = 0 → (s.vi x.vi).evctr = 0 →
        Completes (exec .chainDescriptorFetch s) (fun t => SameMemory s t ∧ entry t x (fun y => y.stop = true ∧ y.code = a.code)))) ∧
    (∀ x, s.xfer? gt s.ev.id = some x → x.isChain = false → x.state = 1 → x.stop = false → x.atEnd = true → x.crusts = [] → x.code = 0 → s.awaits x.ids x.reqs = ([], []) → mvBar x.regs = 0 →
      (mvCtr x.regs = 0 → Completes (exec .transferCompletion s) (fun t => SameMemory s t ∧ entry t x (fun y => y.state = 2 ∧ y.code = 0))) ∧
      (∀ k, s.wordAt x.vi gt (mvCtr x.regs) 8 = .at_ k →
        Completes (exec .transferCompletion s) (fun t => (t.getDws k 1).headD 0 = (s.getDws k 1).headD 0 + 1 ∧
          (∀ z, z < k ∨ k + 8 ≤ z → t.byteAt z = s.byteAt z) ∧ entry t x (fun y => y.state = 2 ∧ y.code = 0)))) ∧
    (∀ e, s.handleWait v s.ev.index = none → s.handleEntry v s.ev.index = some e →
      Completes (exec .handleCacheFill s) (fun t => SameMemory s t ∧ (v, s.ev.index, e.1, e.2) ∈ (t.tile gt).hcache)) ∧
    (∀ h rest, (s.vi v).revoking = none → (s.vi v).revq = h :: rest → (h < (s.vi v).htcount.toNat → s.memWait (s.handleAt v h) 8 true = none) →
      Completes (exec .revoke s) (fun t => (t.vi v).revoking = some h ∧ (t.vi v).revq = rest ∧ ∀ g, ∀ c ∈ (t.tile g).hcache, ¬ (c.1 = v ∧ c.2.1 = h))) ∧
    (∀ h, (s.vi v).revoking = some h → (∀ e ∈ s.xfersInFlight, e.2.uses v h = false) →
      Completes (exec .revocationDone s) (fun t => SameMemory s t ∧ (t.vi v).revoking = none ∧ (t.vi v).revdone = (s.vi v).revdone + 1)) ∧
    (∀ (i g h : Nat) p, let x := tget {} (s.die s.ev.die).streams s.ev.id
      let b := s.cb g h
      x.subs.find? (fun e => e.1 == s.ev.slot) = some (s.ev.slot, g, h) → firstIdx (fun p => !p.2.2.2.contains s.ev.slot) x.pages = some i → x.pages[i]? = some p →
      b.resQ = [] → b.undoR = [] → 1 ≤ b.freePages → s.writeHeld (2 ^ 63) (.sram g (b.pageOff b.resv)) p.2.1.length = none → s.fencedTile g = false → (s.tile g).gated = false →
      Completes (exec .streamDelivery s) (fun t => (t.cb g h).resv = b.resv + 1 ∧
        (∀ q ∈ (tget {} (t.die s.ev.die).streams s.ev.id).pages, q ∈ x.pages ∨ q = (p.1, p.2.1, p.2.2.1, sadd p.2.2.2 s.ev.slot))))

/-- R286, R287, R291 and R293: the collective engine's events complete. The engine reads the source of an own transfer and keeps it for the collective of its
job tag, tag, use and member set; a share of another member is kept, and a corrupt cell fails the collective and its one own transfer with code 0x06
and is reported. A member whose result is whole notifies the coordinator; the coordinator counts the notices, and with the last one commit is sent to
every other member and held, as it is by a member that commit reaches; the next bytes of a result are written at RES. Before commit, the loss of a
member or an abort fails the collective. When the coordinator is lost the next-lowest member takes over: the others note it, it asks every survivor,
who answers whether it holds commit, and one that does makes it commit.
Model's choices used: log entries 40, 66. -/
def Obligations.CollectiveEventsComplete : Prop :=
  ∀ (s : State),
    let e := s.ev
    let me := s.md.number
    let kept (t : State) (c : Coll) (p : Coll → Prop) : Prop := ∃ y ∈ t.colls, y.same c = true ∧ p y
    let sent (t : State) (c : Coll) (dst kind : Nat) : Prop :=
      ∃ p ∈ t.md.outbox, p.cls = cCOL ∧ p.dst = dst ∧ p.kind = kind ∧ p.addr = c.tag * 65536 + c.use ∧ p.tag = c.job
    let toAll (t : State) (c : Coll) (kind : Nat) : Prop := ∀ m ∈ selMembers c.sel, m ≠ me → sent t c m kind
    let stops (t : State) (c : Coll) (code : Nat) : Prop := ∀ gt x, s.colXfers c = [(gt, x)] → x.code = 0 →
      ∃ y, (x.id % 1024, y) ∈ (t.tile gt).xfers ∧ y.id = x.id ∧ y.stop = true ∧ y.code = code
    (e.src = me →
      (∀ x bs s1 x1, s.colReadable e.gt e.index = some x → s.colSource e.gt x = .inl (bs, s1, x1) → (∀ d ∈ s.colls, d.sameUse (s.collOf x) = false) →
        Completes (exec .colExchange s) (fun t => SameMemory s t ∧ kept t (s.collOf x) (fun c =>
          c.xfer = some (e.gt, x.id) ∧ (c.source = bs ∨ c.failed = some 6) ∧ (mvOpc x.regs ≠ 0x10 → c.source = bs ∧ c.failed = none)))) ∧
      (∀ c, s.coll? = some c → c.isOver = false →
        (∀ gt x bs l, c.commit = false → me ∉ c.ready → s.colXfer c = some (gt, x) → s.colResult c = .ok bs → s.reach x (colRes x.record) bs.length = .ok l →
          (c.coordinator ≠ me → Completes (exec .collectiveReady s) (fun t => SameMemory s t ∧ sent t c c.coordinator kReady ∧ kept t c (fun y => y.ready = sadd c.ready me))) ∧
          (c.coordinator = me → Completes (exec .collectiveReady s) (fun t => SameMemory s t ∧ kept t c (fun y => y.ready = sadd c.ready me ∧
            (y.commit = true ↔ ∀ n ∈ selMembers c.sel, n ∈ sadd c.ready me))))) ∧
        (∀ gt x bs l k, c.commit = true → s.colXfer c = some (gt, x) → s.colResult c = .ok bs → x.done < bs.length →
          let a := colRes x.record + x.done
          let n := min 64 (bs.length - x.done)
          let g := s.gtOf x.vi a
          s.reach x a n = .ok l → s.writeHeld (2 ^ 63) (.sram g (aOff a)) n = none → WritesAt s (.sram g (aOff a)) n k →
          Completes (exec .collectiveCommit s) (fun t => (∀ i, i < n → t.byteAt (k + i) = bs.getD (x.done + i) 0) ∧
            (∀ z, z < k ∨ k + n ≤ z → t.byteAt z = s.byteAt z) ∧ kept t c (fun y => y.commit = true ∧ y.written = (x.done + n == bs.length)))) ∧
        (c.commit = false → c.coordinator = me → e.index ∈ selMembers c.sel → e.index ≠ me →
          Completes (exec .collectiveAbort s) (fun t => SameMemory s t ∧ kept t c (fun y => y.failed = some 6 ∧ e.index ∈ y.lost) ∧ toAll t c kAbort ∧ stops t c 6)) ∧
        (c.coordinator = e.index → e.index ≠ me → let c1 := { c with lost := sadd c.lost e.index }
          (c1.coordinator ≠ me → Completes (exec .coordinatorTakeover s) (fun t => SameMemory s t ∧ kept t c (fun y => y = c1))) ∧
          (c1.coordinator = me → Completes (exec .coordinatorTakeover s) (fun t => SameMemory s t ∧ toAll t c kQuery ∧
            (c.commit = true → kept t c (fun y => y.commit = true)) ∧ kept t c (fun y => e.index ∈ y.lost)))))) ∧
    (e.src ≠ me → ∀ x s1 kinds, s.colPacket kinds = some (x, s1) → let c := s.collFor x
      (kinds = [kShare] → c.commit = false → c.isOver = false → x.src ∈ selMembers c.sel → me ∈ selMembers c.sel → s.rivals c = [] →
        c.share x.src (x.code / 8) (x.code % 8) ((x.data.toNat >>> 704) % 2 ^ 32) = none → (∀ h ∈ c.heads, h.2 = (x.data.toNat >>> 736) % 2 ^ 128) →
        (c.xfer = none → (x.code % 8 = shCell → readCell true (wireCell (x.data.setWidth 704)) ≠ .corrupt) →
          Completes (exec .colExchange s) (fun t => SameMemory s t ∧ kept t c (fun y =>
            y.shares = c.shares ++ [(x.src, x.code, (x.data.toNat >>> 704) % 2 ^ 32, x.data.setWidth 704)]))) ∧
        (x.code % 8 = shCell → readCell true (wireCell (x.data.setWidth 704)) = .corrupt →
          Completes (exec .colExchange s) (fun t => SameMemory s t ∧ kept t c (fun y => y.failed = some 6) ∧ stops t c 6 ∧ t.md.colReports = s.md.colReports + 1))) ∧
      (kinds = [kReady] → c.commit = false → c.isOver = false →
        Completes (exec .collectiveReady s) (fun t => SameMemory s t ∧ kept t c (fun y => y.ready = sadd c.ready x.src ∧
          (y.commit = true ↔ ∀ n ∈ selMembers c.sel, n ∈ sadd c.ready x.src)) ∧ ((∀ n ∈ selMembers c.sel, n ∈ sadd c.ready x.src) → toAll t c kCommit))) ∧
      (kinds = [kCommit] → c.commit = false → c.isOver = false →
        Completes (exec .collectiveCommit s) (fun t => SameMemory s t ∧ kept t c (fun y => y.commit = true) ∧ toAll t c kCommit)) ∧
      (kinds = [kAbort] → c.commit = false → c.isOver = false →
        Completes (exec .collectiveAbort s) (fun t => SameMemory s t ∧ kept t c (fun y => y.failed = some x.code) ∧ stops t c x.code)) ∧
      (kinds = [kQuery, kAnswer] → x.kind = kQuery →
        Completes (exec .coordinatorTakeover s) (fun t => SameMemory s t ∧ sent t c x.src kAnswer ∧ kept t c (fun y => y.commit = c.commit))) ∧
      (kinds = [kQuery, kAnswer] → x.kind = kAnswer → x.code = 1 → c.isOver = false →
        Completes (exec .coordinatorTakeover s) (fun t => SameMemory s t ∧ kept t c (fun y => y.commit = true) ∧ toAll t c kCommit)))

/-- R131, R409, R412, R420, R377, R378, R380 and R374: translation walks, pre-emption and trap handlers. A miss that no walk in flight serves starts one,
which reads the page table, or is posted to the host; its leaf reaches the translation cache of a task that waits, unless TLBINV dropped
it, and the task is ready; a failed walk keeps the translation fault for its tasks. A served pre-emption request leaves the queue, and
its task, where the request is good and no trailing copy is behind, is pre-empted, once the status can be reported; resuming readies it with no line of its workspace loaded; a trapped task's handler starts with R374's registers.
Model's choices used: log entries 10, 66. -/
def Obligations.TranslationAndPreemptionEventsComplete : Prop :=
  ∀ (s : State),
    let v := s.ev.vi
    let gt := s.ev.gt
    let delivered (t : State) (w : Walk) (r : Option (DWord × Nat × Nat)) : Prop :=
      SameMemory s t ∧
      (∀ k u p, k ∈ w.wps → s.task? k = some u → u.status = .parked (.walk p) → ∃ y, t.task? k = some y ∧ y.status = .ready ∧ y.pc = u.pc ∧ y.g = u.g) ∧
      (∀ leaf base size, r = some (leaf, base, size) → w.dropped = false →
        ∀ u ∈ s.tasks, u.key ∈ w.wps → ⟨w.vi, w.region, base, size, leaf⟩ ∈ (t.tile (s.taskGt u)).tlb) ∧
      (r = none → ∃ y ∈ t.md.walks, y.tag = w.tag ∧ y.result = some none ∧ y.wps = w.wps)
    (∀ u page, s.task? s.ev.key = some u → s.walkWanted u = some page →
      let vi := page / 2 ^ 26
      let region := page / 2 ^ 24 % 4
      let off := page % 2 ^ 24 * 2 ^ 16
      let host : Bool := (s.vi vi).assist / 2 % 2 == 1
      (s.md.walks.any (fun w => w.serves vi region off) = false → (host = true ∨ (s.walkerFree page = true ∧ ∀ p, s.pageWalk vi region off ≠ .park p)) →
        Completes (exec .translationWalk s) (fun t => SameMemory s t ∧ ∃ w ∈ t.md.walks, w.wps = [u.key] ∧ w.vi = vi ∧ w.region = region ∧ w.offset = off ∧ w.host = host ∧
          w.result = none ∧ w.read = if host then none else (s.pageWalk vi region off).reading)) ∧
      (∀ w ∈ s.md.walks, w.serves vi region off = true →
        Completes (exec .translationWalk s) (fun t => SameMemory s t ∧ { w with wps := w.wps ++ [u.key] } ∈ t.md.walks))) ∧
    (∀ w r, s.md.walks.find? (fun w => w.tag == s.ev.id && w.result.isNone) = some w → w.read = some r →
      Completes (exec .walkComplete s) (fun t => delivered t w r)) ∧
    (∀ w, s.md.walks.find? (fun w => w.host && w.tag == s.ev.id % 65536 && w.result.isNone) = some w →
      Completes (exec .hwalk s) (fun t => delivered t w (hostLeaf s.md.hleaf w.offset))) ∧
    (s.md.walks.find? (fun w => w.host && w.tag == s.ev.id % 65536 && w.result.isNone) = none → exec .hwalk s = .next s) ∧
    (∀ r rest d, (s.vi v).preq = r :: rest → r % 32 = 0 → s.hwRead v r 4 = .ok d → s.runWait v (nthDw d 1).toNat saveBytes true = none →
      let s0 := (s.modVi v (fun x => { x with preq := rest })).wake (fun t p => t.vi == v && p == Park.hostQueue 2)
      let reported (x : State) : Prop := ∀ p, x.hwStatus v (nthDw d 2).toNat (s.preemptStatus v d) ≠ .park p
      (s.preemptStatus v d ≠ 0 → reported s0 → Completes (exec .preemption s) (fun t => (t.vi v).preq = rest)) ∧
      (∀ u, s.preemptStatus v d = 0 → s0.task? (v * 2 ^ 56 + bits (nthDw d 0) 0 56) = some u → (∀ n, u.status ≠ .parked (.discard n)) → u.caughtUp = true →
        (∀ c ∈ s.cmdsOf u, c.phase ≠ .begun) → reported (s0.preemptTask u (nthDw d 1).toNat) →
        Completes (exec .preemption s) (fun t => (t.vi v).preq = rest ∧ ∃ y, t.task? u.key = some y ∧ y.status = .preempted ∧ y.sch.saved = true ∧ y.pc = u.pc))) ∧
    ((s.vi v).preq.length < 16 →
      Completes (exec .preemptionQueueStore s) (fun t => SameMemory s t ∧ t.tasks = s.tasks ∧ (t.vi v).preq = (s.vi v).preq ++ [s.ev.value])) ∧
    (∀ u, 16 ≤ (s.vi v).preq.length → s.task? s.ev.key = some u →
      Completes (exec .preemptionQueueStore s) (fun t => SameMemory s t ∧ (t.vi v).preq = (s.vi v).preq ∧
        t.task? s.ev.key = some { u with status := .parked (.hostQueue 2), snaps := [], sch := { u.sch with why := some (.hostQueue 2) } })) ∧
    (∀ u, s.task? (v * 2 ^ 56 + s.ev.value % 2 ^ 56) = some u → u.status = .preempted →
      Completes (exec .resume s) (fun t => SameMemory s t ∧ ∃ y, t.task? u.key = some y ∧ y.status = .ready ∧ y.absentLines = areaLines ∧ y.pc = u.pc)) ∧
    (∀ u, bit (s.vi v).trapcfg 63 = false → s.handlerRuns v gt = false → s.nextTrapped v gt = some u →
      let base := u.wp.toNat / 2 ^ 25 * 2 ^ 25
      let wp := BitVec.ofNat 56 (base + bits (s.vi v).trapcfg 32 25)
      Completes (exec .trapHandlerStart s) (fun t => NewWorkspace s t (s.gtOf v wp.toNat) (aOff wp.toNat) ∧ (∃ y, t.task? u.key = some y ∧ y.sch.served = true) ∧
        ∃ y ∈ t.others, y.kind = .trapHandler u.key ∧ y.status = .ready ∧ y.vi = v ∧ y.wp = wp ∧
          y.pc = BitVec.ofNat 56 (base + bits (s.vi v).trapcfg 0 25) ∧ y.g[0].toNat = bits (s.wsWord gt (aOff u.wp.toNat) 0x1400).1 0 8 ∧
          y.g[1] = u.wp.setWidth 64 ∧ y.g[2] = (s.wsWord gt (aOff u.wp.toNat) 0x1408).1 ∧ y.g[3] = 0 ∧ y.prio = 3))

/-- R101, R119 to R122 and R130: requests for a line of this module, its own or another module's, that its home serves, nothing else of the line being in
progress. A line that no one else holds goes out in E, one that others share or that is protected or reserved in S; one that the own cache holds is
granted in S, M becoming O and E becoming S; one in O whose data memory has is granted in S, and one that another module holds in E, M or O is
forwarded to it. A GetM is granted in M when no other module holds the line, and waits for the holders that it invalidates otherwise; of a protected line
it is answered that stores go through. A frame that is being moved and a wrong job tag turn another module's request away. A write-back changes memory
and ends its sender's hold, as the notice of an eviction does; the own cache gives a line up; an invalidated line is dropped and acknowledged, with the data
of an M or O line; a directory eviction invalidates every holder.
Model's choices used: log entries 55, 66, 79. -/
def Obligations.LineEventsComplete : Prop :=
  ∀ (s : State),
    let e := s.ev
    let me := s.md.number
    let own (t : State) (home mma : Nat) : DLine := tget {} t.md.dcache (lineKey home mma)
    let sent (t : State) (cls dst kind mma : Nat) : Prop := ∃ p ∈ t.md.outbox, p.cls = cls ∧ p.dst = dst ∧ p.kind = kind ∧ p.addr = mma
    let without (t : State) (mma m : Nat) : Prop := (∀ k, k ∈ (t.dirOf mma).sharers ↔ k ∈ (s.dirOf mma).sharers ∧ k ≠ m) ∧
      (t.dirOf mma).owner = (match (s.dirOf mma).owner with | some o => if o.1 = m then none else some o | none => none)
    let asks (w : Bool) (src seq mma tag : Nat) (up : Bool) : Prop := let kind := if w then kGetM else kGetS
      (e.src = me ∧ src = me ∧ ∃ p, s.md.outbox.find? (fun p => p.cls == cREQ && p.dst == me && p.kind == kind && p.seq == e.seq) = some p ∧
        seq = p.seq ∧ mma = lineOf p.addr ∧ tag = p.tag ∧ up = (p.code == 1)) ∨
      (e.src ≠ me ∧ ∃ x s1, s.taken [kind] = some (x, s1) ∧ src = x.src ∧ seq = x.seq ∧ mma = lineOf x.addr ∧ tag = x.index ∧ up = (x.code == 1))
    (∀ w src seq mma tag up, asks w src seq mma tag up →
      let row : Instr := if w then .getm else .gets
      let d := s.dirOf mma
      let others := s.otherHolders mma true
      let plain : Prop := s.frameKind (mma / 2 ^ 21) ≠ 1
      let granted (t : State) (st kind : Nat) : Prop := SameMemory s t ∧ (src = me → (own t me mma).state = st) ∧
        (src ≠ me → ∃ p ∈ t.md.outbox, p.cls = cRSP ∧ p.dst = src ∧ p.kind = kind ∧ p.addr = mma ∧ p.re = seq ∧ p.data = s.lineData mma ∧ p.marks = s.lineMarks mma)
      (s.frameBusy (mma / 2 ^ 21) = true →
        (src = me → exec row s = .next s) ∧ (src ≠ me → Completes (exec row s) (fun t => SameMemory s t ∧ ∃ p ∈ t.md.outbox, p.cls = cRSP ∧ p.dst = src ∧ p.kind = kRefuse))) ∧
      (s.frameBusy (mma / 2 ^ 21) = false → s.tagOk mma tag = false → src ≠ me → Completes (exec row s) (fun t => SameMemory s t ∧ sent t cRSP src kViolation mma)) ∧
      (s.frameBusy (mma / 2 ^ 21) = false → s.tagOk mma tag = true → d.serving = none → (∀ st, d.owner = some (src, st) → src = me ∨ (w = true ∧ up = true ∧ st = 4)) →
        (w = false →
          (d.owner = none →
            ((∀ k ∈ d.sharers, k = src) → plain → s.lineReserved mma = false →
              Completes (exec row s) (fun t => (t.dirOf mma).owner = some (src, 2) ∧ (t.dirOf mma).sharers = [] ∧ granted t 2 kDataE)) ∧
            ((∃ k ∈ d.sharers, k ≠ src) ∨ ¬ plain ∨ s.lineReserved mma = true →
              Completes (exec row s) (fun t => (t.dirOf mma).owner = none ∧ (t.dirOf mma).sharers = sadd d.sharers src ∧ granted t 1 kData))) ∧
          (∀ st, src ≠ me → d.owner = some (me, st) →
            Completes (exec row s) (fun t => granted t 1 kData ∧ src ∈ (t.dirOf mma).sharers ∧ (own t me mma).state = (if st = 2 then 1 else 4) ∧
              (t.dirOf mma).owner = (if st = 2 then none else some (me, 4)))) ∧
          (∀ o st, d.owner = some (o, st) → o ≠ src → o ≠ me →
            (d.clean = true → Completes (exec row s) (fun t => granted t 1 kData ∧ (t.dirOf mma).owner = some (o, st) ∧ (t.dirOf mma).sharers = sadd d.sharers src)) ∧
            (d.clean = false → Completes (exec row s) (fun t => SameMemory s t ∧ (t.dirOf mma).owner = some (o, st) ∧ (t.dirOf mma).serving = some (src, seq, 0) ∧ sent t cSNP o kForward mma)))) ∧
        (w = true →
          (src ≠ me → ¬ plain → Completes (exec row s) (fun t => SameMemory s t ∧ sent t cRSP src kThrough mma ∧ t.dirOf mma = d)) ∧
          (plain → s.lineReserved mma = false → (∀ h ∈ others, h = src) →
            Completes (exec row s) (fun t => (t.dirOf mma).owner = some (src, 3) ∧ (t.dirOf mma).sharers = [] ∧ granted t 3 kDataM)) ∧
          (plain → s.lineReserved mma = false → (∃ h ∈ others, h ≠ src) →
            Completes (exec row s) (fun t => SameMemory s t ∧ (t.dirOf mma).serving = some (src, seq, 1) ∧ ∀ h ∈ others, h ≠ src → sent t cSNP h kInval mma))))) ∧
    (e.src ≠ me →
      (∀ x s1, let mma := lineOf x.addr
        (s.dirOf mma).serving = none →
        (∀ st, s.taken [kWriteBack] = some (x, s1) → s.frameBusy (mma / 2 ^ 21) = false → (s.dirOf mma).owner = some (x.src, st) →
          Completes (exec .writeBack s) (fun t => without t mma x.src ∧ (∀ j, j < 128 → t.byteAt (s.hbmKey mma + j) = BitVec.ofNat 8 (x.data.toNat / 256 ^ j)) ∧
            (∀ z, z < s.hbmKey mma ∨ s.hbmKey mma + 128 ≤ z → t.byteAt z = s.byteAt z) ∧ ∃ p ∈ t.md.outbox, p.cls = cRSP ∧ p.dst = x.src ∧ p.kind = kAck ∧ p.re = x.seq)) ∧
        (s.taken [kEvict] = some (x, s1) →
          Completes (exec .eviction s) (fun t => SameMemory s t ∧ without t mma x.src ∧ ∃ p ∈ t.md.outbox, p.cls = cRSP ∧ p.dst = x.src ∧ p.kind = kAck ∧ p.re = x.seq))) ∧
      (∀ x s1, s.taken [kInval] = some (x, s1) → let mma := lineOf x.addr
        let l := own s x.src mma
        Completes (exec .invalidation s) (fun t => SameMemory s t ∧ own t x.src mma = {} ∧ ∃ p ∈ t.md.outbox, p.cls = cRSP ∧ p.dst = x.src ∧ p.kind = kForwarded ∧ p.addr = mma ∧
          p.code = (if l.state = 0 then 16 else if 3 ≤ l.state then 8 else 0) ∧ (3 ≤ l.state → p.data = l.data ∧ p.marks = l.marks)))) ∧
    (let mma := lineOf e.addr
     let l := own s e.index mma
     (e.src = me → s.asking e.index mma = false →
      (l.state = 3 ∨ l.state = 4 → Completes (exec .writeBack s) (fun t => SameMemory s t ∧ own t e.index mma = {} ∧ (e.index = me → without t mma me) ∧
        (e.index ≠ me → ∃ p ∈ t.md.outbox, p.cls = cREQ ∧ p.dst = e.index ∧ p.kind = kWriteBack ∧ p.addr = mma ∧ p.data = l.data ∧ p.marks = l.marks))) ∧
      (l.state = 1 ∨ l.state = 2 → Completes (exec .eviction s) (fun t => SameMemory s t ∧ own t e.index mma = {} ∧ (e.index = me → without t mma me) ∧
        (e.index ≠ me → l.state = 2 → sent t cREQ e.index kEvict mma)))) ∧
     ((s.dirOf mma).serving = none → s.frameBusy (mma / 2 ^ 21) = false →
      Completes (exec .directoryEviction s) (fun t => SameMemory s t ∧ me ∉ (t.dirOf mma).sharers ∧ (∀ o, (t.dirOf mma).owner = some o → o.1 ≠ me) ∧
        ∀ h ∈ s.otherHolders mma true, sent t cSNP h kInval mma)))

/-- R112, R114 to R116, R123 and R124: packets. A packet is dropped, and counted by its I/O die, by the first of R123's three rules that applies to it, and
otherwise accepted: a new request is recorded and stands ready to be served, a repeated one is answered from the record; a line that arrives enters the
domain cache and its home is told; a packet of an ordered class is taken in its flow's order and kept back otherwise; an acknowledged announcement is
owed no more. A packet that announces a new incarnation enters it in the tables of all four I/O dies and is acknowledged. A resent request counts its
sends, and the eighth is reported; a module that changes incarnation advances it by one and announces it to every other present module; a
replayed flit is counted; a port that fails is dark; a packet whose minimal routes are both closed leaves by the row peer with the most credits.
Model's choices used: log entries 56, 66, 80, 83, 86. -/
def Obligations.PacketEventsComplete : Prop :=
  ∀ (s : State),
    let e := s.ev
    let m := s.md
    let inc : BitVec 16 := BitVec.ofNat 16 e.srcInc
    let forMe : Prop := BitVec.ofNat 16 e.dstInc = m.incarnation
    let recorded := tget 0 m.peers (1024 * (e.id % 4) + e.src)
    let dropped (c : Nat) : Prop := Completes (exec .packetArrival s) (fun t => t = { s with md := { m with counters := t.md.counters } } ∧
      ∀ k, tget 0 t.md.counters k = tget 0 m.counters k + (if k = 8 * (e.id % 4) + c then 1 else 0))
    let only (t : State) (y : Module) : Prop := t = { s with md := y }
    let mma := lineOf e.addr
    (earlier inc recorded = true → dropped 5) ∧
    (earlier inc recorded = false → ¬ forMe → dropped 6) ∧
    (earlier recorded inc = true → forMe → e.kind ≠ kInc → dropped 7) ∧
    (e.kind = kInc → earlier inc recorded = false → inc ≠ recorded → forMe →
      Completes (exec .packetArrival s) (fun t => (∀ k, k < 4 → tget 0 t.md.peers (1024 * k + e.src) = inc) ∧
        (∀ p, (∀ k, k < 4 → p ≠ 1024 * k + e.src) → tget 0 t.md.peers p = tget 0 m.peers p) ∧
        ∃ p ∈ t.md.outbox, p.cls = cMGT ∧ p.dst = e.src ∧ p.kind = kIncAck)) ∧
    (inc = recorded → forMe →
      (e.cls = cREQ → let r := m.served.find? (fun r => r.src == e.src && r.agent == e.gt && r.seq == e.seq)
        (r = none → e.kind ≠ kReserve → e.kind ≠ kRetire → e.kind ≠ kShareDelta → Completes (exec .packetArrival s) (fun t => only t { m with
          served := m.served ++ [{ src := e.src, agent := e.gt, seq := e.seq, kind := e.kind }], inbox := m.inbox ++ [e] })) ∧
        (∀ x a, r = some x → x.answer = some a → e.kind ≠ kGetS → e.kind ≠ kGetM → e.kind ≠ kReserve →
          Completes (exec .packetArrival s) (fun t => SameMemory s t ∧ t.md.inbox = m.inbox ∧
            ∃ p ∈ t.md.outbox, p.cls = cRSP ∧ p.dst = e.src ∧ p.kind = a.1 ∧ p.re = e.seq ∧ p.data = a.2.2.1))) ∧
      (∀ p, e.cls = cRSP → e.kind = kData → s.dline p.dst mma = {} →
        m.outbox.find? (fun p => p.cls == cREQ && p.seq == e.offset && (p.kind == kGetS || p.kind == kGetM) && lineOf p.addr == mma) = some p →
        Completes (exec .packetArrival s) (fun t => SameMemory s t ∧ t.dline p.dst mma = { state := 1, data := e.data, marks := BitVec.ofNat 16 e.value } ∧
          ∃ q ∈ t.md.outbox, q.cls = cRSP ∧ q.dst = p.dst ∧ q.kind = kForwarded ∧ q.addr = mma ∧ q.re = p.seq ∧ q.code = 32)) ∧
      (e.cls = cSNP → e.kind = kInval → Completes (exec .packetArrival s) (fun t => only t { m with inbox := m.inbox ++ [e] })) ∧
      (e.cls ≠ cREQ → e.cls ≠ cRSP → e.cls ≠ cSNP → m.early = [] → e.seq < 2 ^ 32 → let want := tget 0 m.inFlows (flowKey e.cls e.src e.gt e.die)
        (e.seq = want → e.kind = kIncAck → Completes (exec .packetArrival s) (fun t => SameMemory s t ∧ ∀ p, p ∈ t.md.announce ↔ p ∈ m.announce ∧ p ≠ e.src)) ∧
        (e.seq = want → e.kind ≠ kIncAck → e.kind ≠ kInc → Completes (exec .packetArrival s) (fun t => SameMemory s t ∧ t.md.inbox = m.inbox ++ [e] ∧ t.md.early = [])) ∧
        (want < e.seq → e.seq < want + 2 ^ 31 → Completes (exec .packetArrival s) (fun t => only t { m with early := [e] })))) ∧
    (∀ p, m.outbox.find? (fun p => p.cls == cREQ && p.seq == e.seq && p.dst != m.number) = some p →
      Completes (exec .requestResend s) (fun t => SameMemory s t ∧
        { p with sends := p.sends + 1, route := none, inc := m.incarnation, expect := m.peerInc p.dst } ∈ t.md.outbox ∧ (p.sends = 7 → p.seq ∈ t.md.unanswered))) ∧
    (s.voted = true → Completes (exec .incarnationChange s) (fun t => SameMemory s t ∧ t.md.incarnation = m.incarnation + 1 ∧
      (∀ p, p ∈ t.md.announce ↔ p ∈ m.present ∧ p ≠ m.number) ∧
      ∀ p ∈ m.present, p ≠ m.number → ∃ q ∈ t.md.outbox, q.cls = cMGT ∧ q.dst = p ∧ q.kind = kInc ∧ q.data = (m.incarnation + 1).setWidth 1024)) ∧
    exec .linkReplay s = .next { s with md := { m with replays := m.replays + 1 } } ∧
    (e.id < 64 → Completes (exec .linkPortFailure s) (fun t => t = { s with md := { m with darkPorts := t.md.darkPorts } } ∧ ∀ k, k ∈ t.md.darkPorts ↔ k = e.id ∨ k ∈ m.darkPorts)) ∧
    (∀ p g, m.outbox.find? (fun p => p.cls == e.cls && p.seq == e.seq && p.dst == e.src && p.route.isNone) = some p → p.dst ≠ m.number →
      (∀ r ∈ m.minimal p.dst, m.open_ p r = false) → (m.announce = [] ∨ p.cls = cMGT) →
      let i := e.index
      i / 32 = m.number / 32 → i ≠ m.number → i ≠ p.dst → m.litPort i = some g → p.flits ≤ m.creditSum g p.cls →
      (∀ j h, j / 32 = m.number / 32 → j ≠ m.number → j ≠ p.dst → m.litPort j = some h → m.creditSum h p.cls ≤ m.creditSum g p.cls ∧ (j < i → m.creditSum h p.cls < m.creditSum g p.cls)) →
      Completes (exec .detour s) (fun t => SameMemory s t ∧ (p.cls = cREQ → { p with route := some [i, p.dst] } ∈ t.md.outbox) ∧ (p.cls ≠ cREQ → p ∉ t.md.outbox) ∧
        ∃ u ∈ t.md.links, u.port = g ∧ u.cls = p.cls ∧ u.own + u.shared = p.flits))

/-- R104, R105, R120, R393 and R397: a store that is sent through to a protected frame puts its bytes in place, and leaves a delta, not yet acknowledged, for
each parity holder that is not lost, P's being the XOR of the granule's old and new bytes; its writer is acknowledged after them. At a parity holder the
granule becomes the XOR of its bytes and the delta, which is kept and acknowledged. A member declared lost is lost until it is rebuilt; a
rebuilt granule holds the bytes that arrived, or poison; a parity holder passes the unretired deltas of a lost home to the other holder, and their
requesters' tags are recorded at its replacement. A request that recovery fails ends what waits for it: the transfer with code 0x06, the load or atomic at
its next execution, the store, which is over and is reported, the MSEND with status 3.
Model's choices used: log entries 66, 86, 87. -/
def Obligations.ErasureAndRemoteFailureEventsComplete : Prop :=
  ∀ (s : State),
    let e := s.ev
    let m := s.md
    let gran (t : State) (g : Nat) : Nat := ofBytes ((t.fetch (t.hbmKey g) 64).map (·.1))
    (∀ x s1, s.taken [kStore] = some (x, s1) →
      let a := x.addr % 2 ^ 40
      let n := min x.size (64 - a % 64)
      let g := a / 64 * 64
      let i := a / 2 ^ 21
      let delta (t : State) (w : Nat) : Prop := ∃ d ∈ t.md.deltas, d.granule = g ∧ d.weight = w ∧ d.acked = false ∧ d.req = tagOf x.src x.gt x.seq ∧
        (w = 0 → d.data = BitVec.ofNat 512 (gran s g ^^^ gran t g)) ∧
        ∃ p ∈ t.md.outbox, p.cls = cREQ ∧ p.dst = m.member ((i + w) % 10) ∧ p.kind = kDelta ∧ p.addr = g ∧ p.data = d.data.setWidth 1024
      s.frameKind i = 1 → 0 < x.size → s.frameBusy i = false → s.tagOk a x.index = true → s.heldBy (fun _ => true) (.hbm a) n = none →
      (∀ y ∈ linesOf a n, s.remoteHeld y true = false) →
      Completes (exec .protectedWrite s) (fun t => (∀ j, j < n → t.byteAt (s.hbmKey a + j) = BitVec.ofNat 8 (x.data.toNat / 256 ^ j)) ∧
        (∀ z, z < s.hbmKey a ∨ s.hbmKey a + n ≤ z → t.byteAt z = s.byteAt z) ∧
        (i % 10 ∉ m.lostMembers → delta t 0) ∧ ((i + 1) % 10 ∉ m.lostMembers → delta t 1) ∧
        (i % 10 ∉ m.lostMembers ∨ (i + 1) % 10 ∉ m.lostMembers → ∃ k, (k, x) ∈ t.md.writers))) ∧
    (∀ x s1, s.taken [kDelta] = some (x, s1) →
      let g := x.addr % 2 ^ 40 / 64 * 64
      let i := g / 2 ^ 21
      s.frameKind i = 2 → (m.pos = i % 10 ∨ m.pos = (i + 1) % 10) → s.frameBusy i = false →
      Completes (exec .parityDelta s) (fun t => (∀ j, j < 64 → t.byteAt (s.hbmKey g + j) = s.byteAt (s.hbmKey g + j) ^^^ BitVec.ofNat 8 (x.data.toNat / 256 ^ j)) ∧
        (∀ z, z < s.hbmKey g ∨ s.hbmKey g + 64 ≤ z → t.byteAt z = s.byteAt z) ∧
        (∃ h ∈ t.md.kept, h.home = x.src ∧ h.seq = x.seq ∧ h.granule = g ∧ h.data = x.data.setWidth 512) ∧
        ∃ p ∈ t.md.outbox, p.cls = cRSP ∧ p.dst = x.src ∧ p.kind = kDeltaAck ∧ p.addr = g ∧ p.re = x.seq)) ∧
    (s.voted = true → e.id < 10 →
      Completes (exec .memberLoss s) (fun t => SameMemory s t ∧ ∀ k, k ∈ t.md.lostMembers ↔ k = e.id ∨ k ∈ m.lostMembers)) ∧
    (e.id ∈ m.lostMembers → e.id ∉ m.pendingRebuild →
      (e.kind = 0 → Completes (exec .erasureRebuild s) (fun t => SameMemory s t ∧ ∀ k, k ∈ t.md.lostMembers ↔ k ≠ e.id ∧ k ∈ m.lostMembers)) ∧
      (e.kind = 2 → Completes (exec .erasureRebuild s) (fun t => SameMemory s t ∧ ∀ h ∈ m.kept, h.home = m.member e.id →
        let i := h.granule / 2 ^ 21
        let p := if m.pos = i % 10 then (i + 1) % 10 else i % 10
        p ∉ m.lostMembers → ∃ q ∈ t.md.outbox, q.cls = cREQ ∧ q.dst = m.member p ∧ q.kind = kShareDelta ∧ q.addr = h.granule ∧ q.data = h.data.setWidth 1024))) ∧
    (let g := e.addr % 2 ^ 40 / 64 * 64
     e.kind = 1 → Completes (exec .erasureRebuild s) (fun t =>
      (∀ j, j < 64 → t.byteAt (s.hbmKey g + j) = (if e.ok then BitVec.ofNat 8 (e.data.toNat / 256 ^ j) else 0) ∧ t.marked (s.hbmKey g + j) = !e.ok) ∧
      (∀ z, z < s.hbmKey g ∨ s.hbmKey g + 64 ≤ z → t.byteAt z = s.byteAt z))) ∧
    (e.kind = 3 → (∀ r ∈ m.served, ¬ (r.src = e.src ∧ r.agent = e.gt ∧ r.seq = e.seq)) →
      exec .erasureRebuild s = .next { s with md := { m with served := m.served ++ [{ src := e.src, agent := e.gt, seq := e.seq, kind := kStore, answer := some (kAck, e.addr, 0, 0, 0) }] } }) ∧
    (∀ x, e.kind = 3 → s.xfer? e.gt e.id = some x → x.code = 0 → (mvDkind x.regs = 4 → s.colXfers (s.collOf x) = [(e.gt, x)]) →
      Completes (exec .remoteFailure s) (fun t => SameMemory s t ∧ ∃ y, (x.id % 1024, y) ∈ (t.tile e.gt).xfers ∧ y.id = x.id ∧ y.stop = true ∧ y.code = 6)) ∧
    (∀ y, e.kind = 1 → s.stores.find? (fun y => y.key == e.key && y.addr == e.addr) = some y →
      Completes (exec .remoteFailure s) (fun t => SameMemory s t ∧ t.stores = s.stores.erase y ∧ ∀ u, s.task? e.key = some u → u.sch.failedStore = none →
        ∃ z, t.task? e.key = some z ∧ z.sch.failedStore = some e.addr ∧ z.g = u.g)) ∧
    (∀ u, s.task? e.key = some u →
      ((∃ l w, u.status = .parked (.line l w)) ∨ (∃ w, u.status = .parked (.grant w)) → e.kind = 0 →
        Completes (exec .remoteFailure s) (fun t => SameMemory s t ∧ ∃ y, t.task? e.key = some y ∧ y.status = .ready ∧ y.sch.failedAccess = some e.addr ∧ y.pc = u.pc)) ∧
      (e.kind = 2 → u.sch.sending = true →
        Completes (exec .remoteFailure s) (fun t => SameMemory s t ∧ ∃ y, t.task? e.key = some y ∧ y.sch.reply = some 3 ∧ y.g = u.g)))

/-- R97, R99 to R101, R106, R107, R109 and R398: frames of memory. A page-move record is read and checked whole, and begins with its status; its next frame
is marked busy, and then, no earlier access to it being still to complete, copied byte for byte, bound to its new place and freed; when none is left the
record reports its status. A scrub finding of memory is counted, an uncorrectable burst is rebuilt or poisoned; an uncorrectable error of a slice or of
a peer's line in the domain cache poisons its 64 bytes; and a failed stack's plain frames are poisoned.
Model's choices used: log entries 20, 57, 58, 66, 82. -/
def Obligations.PageEventsComplete : Prop :=
  ∀ (s : State),
    let e := s.ev
    let v := e.vi
    let x := s.vi v
    (x.pmq.length < 16 → Completes (exec .pageMoveQueueStore s) (fun t => SameMemory s t ∧ t.tasks = s.tasks ∧ (t.vi v).pmq = x.pmq ++ [e.value])) ∧
    (∀ u, 16 ≤ x.pmq.length → s.task? e.key = some u →
      Completes (exec .pageMoveQueueStore s) (fun t => SameMemory s t ∧ (t.vi v).pmq = x.pmq ∧
        t.task? e.key = some { u with status := .parked (.hostQueue 1), snaps := [], sch := { u.sch with why := some (.hostQueue 1) } })) ∧
    (∀ r rest d, x.move = none → x.pmq = r :: rest → r % 32 = 0 → s.hwRead v r 4 = .ok d →
      Completes (exec .pageMoveRecord s) (fun t => SameMemory s t ∧ (t.vi v).pmq = rest ∧ (t.vi v).move = some
        { first := bits (nthDw d 0) 0 19, count := bits (nthDw d 0) 32 20, dstack := bits (nthDw d 1) 16 4, dframe := bits (nthDw d 1) 0 15, stat := (nthDw d 2).toNat,
          moved := if s.pageMoveStatus v d = 0 then 0 else bits (nthDw d 0) 32 20, status := s.pageMoveStatus v d })) ∧
    (∀ p, x.move = some p → p.count ≤ p.moved → let rest := s.modVi v (fun x => { x with move := none })
      (∀ s1, rest.hwStatus v p.stat p.status = .ok s1 → exec .frameMove s = .next s1) ∧
      (∀ c, rest.hwStatus v p.stat p.status = .trap c → Completes (exec .frameMove s) (fun t => (t.vi v).move = none))) ∧
    (∀ p, x.move = some p → p.moved < p.count → p.first + p.moved < 2 ^ 19 → let f := p.first + p.moved
      let dst := p.dstack * 32768 + p.dframe + p.moved
      (s.frameBusy f = false → Completes (exec .frameMove s) (fun t => SameMemory s t ∧ t.frameBusy f = true ∧ t.framePhys f = s.framePhys f ∧ (t.vi v).move = some p)) ∧
      (s.frameBusy f = true → s.frameInUse f = false → dst < 2 ^ 19 → Memory.wf s.mem = true →
          Completes (exec .frameMove s) (fun t => t.frameBusy f = false ∧ t.framePhys f = dst ∧ t.frameKind f = s.frameKind f ∧ (t.vi v).move = some { p with moved := p.moved + 1 } ∧
            (∀ j, j < 2 ^ 21 → t.byteAt (frameKey dst + j) = s.byteAt (frameKey (s.framePhys f) + j)) ∧
            (∀ z, z < frameKey dst ∨ frameKey dst + 2 ^ 21 ≤ z → t.byteAt z = s.byteAt z)))) ∧
    (let a := e.addr % 2 ^ 40 / 64 * 64
     let f := a / 2 ^ 21
     let stack := s.framePhys f / 32768
     let log := tget (0, 0, 0) s.md.scrubLog stack
     let poisons (t : State) (k : Nat) : Prop := t.mem = s.mem ∧ (∀ j, j < 64 → t.marked (k + j) = true) ∧ ∀ z, z < k ∨ k + 64 ≤ z → t.marked z = s.marked z
     (e.cls = 1 → e.kind = 2 → Completes (exec .scrubRead s) (fun t => poisons t (sramKey e.gt (e.offset % 2 ^ 25 / 64 * 64)))) ∧
     (e.cls = 2 → e.kind = 2 → (s.dline e.index a).state ≠ 0 → e.index ≠ s.md.number →
       Completes (exec .scrubRead s) (fun t => SameMemory s t ∧ ∀ i, i < 8 → (t.dline e.index a).marks.getLsbD (a % 128 / 8 + i) = true)) ∧
     (e.cls = 0 → s.frameBusy f = true ∨ e.kind = 0 → exec .scrubRead s = .next s) ∧
     (e.cls = 0 → s.frameBusy f = false →
       (e.kind = 1 → Completes (exec .scrubRead s) (fun t => SameMemory s t ∧ tget (0, 0, 0) t.md.scrubLog stack = (log.1 + 1, log.2.1, log.2.2))) ∧
       (e.kind = 2 → s.frameKind f ≠ 0 → e.ok = true → Completes (exec .scrubRead s) (fun t => SameMemory s t ∧ tget (0, 0, 0) t.md.scrubLog stack = (log.1, log.2.1 + 1, log.2.2))) ∧
       (e.kind = 2 → s.frameKind f = 0 ∨ e.ok = false → Completes (exec .scrubRead s) (fun t => poisons t (s.hbmKey a) ∧ tget (0, 0, 0) t.md.scrubLog stack = (log.1, log.2.1, log.2.2 + 1))))) ∧
    (e.id < 16 → Completes (exec .hbmStackFailure s) (fun t => t.mem = s.mem ∧ ∀ f, s.framePhys f / 32768 = e.id → s.frameKind f = 0 →
      ∀ j, j < 2 ^ 21 → t.marked (frameKey (s.framePhys f) + j) = true))

/-- R16 to R20, R391 to R396, R413 to R415 and R417: what the service processors do. A reset fences and quarantines every tile of the rectangle; a vote
quarantines a tile or releases it; a structural test, of a tile or of a socket that holds no logical die, appends its entry, and a fail of a
quarantined tile makes it failed. A die is retired in three steps: it is fenced, its tasks gone; it is bound to a spare socket, or made vacant, in a new map
epoch; the fence is released; in host-assisted mode the first waits for the approval. A die is evacuated; and boot, firmware and attestation take their
effect.
Model's choices used: log entries 60, 61, 65, 66. -/
def Obligations.RecoveryEventsComplete : Prop :=
  ∀ (s : State),
    let e := s.ev
    let m := s.md
    let d := e.die
    let bound (t : State) (k : Nat) : Prop := t.md.epoch = (m.epoch + 1) % 65536 ∧ t.dieEntry d = BitVec.ofNat 32 (2 ^ 31 + k + (m.epoch + 1) % 65536 * 64)
    let fenced (t : State) : Prop := (∀ u ∈ t.tasks, u ∈ s.tasks ∧ s.taskGt u / 128 ≠ d) ∧ (d, false) ∈ t.md.retiring ∧ t.dieEntry d = s.dieEntry d
    let step : Option (Nat × Bool) := m.retiring.find? (fun e => e.1 == d)
    Completes (exec .rectangleReset s) (fun t => ∀ g ∈ s.rectOf e.gt, (t.tile g).quarantined = true ∧ (t.tile g).resetting = true) ∧
    (s.voted = true →
      Completes (exec .quarantine s) (fun t => (t.tile e.gt).quarantined = true) ∧
      (let tiles := if e.kind = 1 then s.rectOf e.gt else [e.gt]
       (∀ g ∈ tiles, (s.tile g).quarantined = true ∧ (s.tile g).failed = false) →
        Completes (exec .quarantineRelease s) (fun t => ∀ g ∈ tiles, (t.tile g).quarantined = false ∧ (t.tile g).resetting = false))) ∧
    (e.kind ≤ 5 → e.code ≤ 2 → (e.write = false → m.modassist / 8 % 2 = 1 → 256 * e.gt + e.kind ∈ m.testUnits) → (e.write = true → s.testSocket e.die e.kind = true) →
      Completes (exec .structuralTest s) (fun t => SameMemory s t ∧ t.md.testIdx = m.testIdx + 1 ∧
        (m.testIdx % 4096, testEntry m.testIdx e.kind (if e.write then e.die else s.socketOf (e.gt / 128)) (if 4 ≤ e.kind then 0 else e.gt % 128) e.index e.code, dw e.time) ∈ t.md.tests ∧
        (e.code = 1 → e.write = false → e.kind < 4 → (s.tile e.gt).quarantined = true → (t.tile e.gt).failed = true ∧ (t.die (e.gt / 128)).degraded = true))) ∧
    (s.voted = true → step = none → d < 32 → s.dieValid d = true →
      (m.modassist % 2 = 1 → Completes (exec .dieRetirement s) (fun t => SameMemory s t ∧ t.tasks = s.tasks ∧ d ∈ t.md.pendingSparing)) ∧
      (m.modassist % 2 = 0 → Completes (exec .dieRetirement s) fenced)) ∧
    (d ∈ m.pendingSparing → Completes (exec .sparingApproval s) (fun t => fenced t ∧ d ∉ t.md.pendingSparing)) ∧
    (s.voted = true → step = some (d, false) →
      (s.isSpare e.index = true → s.anySpare = true → Completes (exec .dieRetirement s) (fun t => SameMemory s t ∧ bound t e.index ∧ (d, true) ∈ t.md.retiring)) ∧
      (s.anySpare = false → Completes (exec .dieRetirement s) (fun t => SameMemory s t ∧ t.md.epoch = (m.epoch + 1) % 65536 ∧ (t.dieEntry d).getLsbD 31 = false ∧
        (∀ v n, (t.vi v).ldie n ≠ some d) ∧ (d, true) ∈ t.md.retiring))) ∧
    (step = some (d, true) → Completes (exec .dieRetirement s) (fun t => (∀ b, (d, b) ∉ t.md.retiring) ∧ t.dieEntry d = s.dieEntry d)) ∧
    (s.voted = true → (s.die d).degraded = true → s.isSpare e.index = true →
      (∀ x ∈ s.vis, (∃ c ∈ x.2.ctx, c.2.getLsbD 31 = true ∧ c.2.toNat % 32 = d) → s.isStopped x.1 = true) →
      Completes (exec .dieEvacuation s) (fun t => bound t e.index ∧ (t.die d).degraded = false ∧ ∀ g, g / 128 = d → (t.tile g).failed = false)) ∧
    Completes (exec .heldState s) (fun t => SameMemory s t ∧ t.tasks = s.tasks ∧ t.md.held = true) ∧
    (e.id ∈ m.voters → 3 ∉ m.voters → e.id ≠ 3 →
      Completes (exec .voterReplacement s) (fun t => ∀ k, k ∈ t.md.voters ↔ k = 3 ∨ (k ≠ e.id ∧ k ∈ m.voters))) ∧
    (m.booted = false →
      (e.ok = true → Completes (exec .boot s) (fun t => SameMemory s t ∧ t.md.booted = true ∧ t.md.held = false ∧ t.md.fwPending = none ∧
        (∀ k, k < 32 → t.dieEntry k = bootEntry k) ∧
        (∀ ver, m.fwPending = some (ver, true) → t.md.fwActive = 1 - m.fwActive ∧ t.md.fwVersion = ver))) ∧
      (e.ok = false → exec .boot s = .next { s with md := { m with held := true } })) ∧
    exec .firmwareUpdate s = .next { s with md := { m with fwPending := some (e.value, e.ok) } } ∧
    Completes (exec .attestationRequest s) (fun t => SameMemory s t ∧ ∃ n, t.md.attest = some (e.data.setWidth 384, Config.serialNumber, m.measurement, m.epoch, m.incarnation, n))

/-- R94, R95, R140, R402 to R407 and R312: the host's requests and its VI blocks. A frozen aperture answers an error; a read of written SRAM is answered with its
bytes, or with the status of poisoned data, and a write puts its bytes in place; a launch window queues a record and its head enters the
launch table or is refused and counted; each register of a VI's block takes its value, a clashing job tag none; ALLOC and FREE by the host act as the
instructions do.
Model's choices used: log entries 11, 62, 64, 66. -/
def Obligations.HostRequestEventsComplete : Prop :=
  ∀ (s : State), s.ev.vi < 64 →
    let e := s.ev
    let v := e.vi
    let x := s.vi v
    let answer (st : Nat) (d : BitVec 1024) : State := { s with md := { s.md with hostReply := (v, st, d) } }
    let only (t : State) (y : Vi) : Prop := t = { s with vis := t.vis } ∧ ∀ w, t.vi w = if w = v then y else s.vi w
    (0 < e.size → e.size ≤ 128 →
      (e.id ∈ x.frozenPorts → exec .hostRequest s = .next (answer 1 0)) ∧
      (∀ gt off k, e.id ∉ x.frozenPorts → (e.size ≤ 8 → e.addr % e.size = 0) →
        s.check ⟨v, true, 0⟩ 0 (if e.write then rWR else rRD) e.addr e.size = .ok (.sram gt off) →
        (e.write = false → ReadsAt s (.sram gt off) e.size k →
          ((s.fetch k e.size).any (·.2) = true → exec .hostRequest s = .next (answer 2 0)) ∧
          ((s.fetch k e.size).any (·.2) = false → Completes (exec .hostRequest s) (fun t => ∃ d, t = answer 0 d ∧
            ∀ j, j < e.size → BitVec.ofNat 8 (d.toNat / 256 ^ j) = s.byteAt (k + j)))) ∧
        (e.write = true → s.writeHeld (2 ^ 63) (.sram gt off) e.size = none → WritesAt s (.sram gt off) e.size k →
          Completes (exec .hostRequest s) (fun t => t.md = { s.md with hostReply := (v, 0, 0) } ∧
            (∀ j, j < e.size → t.byteAt (k + j) = BitVec.ofNat 8 (e.data.toNat / 256 ^ j)) ∧ ∀ z, z < k ∨ k + e.size ≤ z → t.byteAt z = s.byteAt z)))) ∧
    (let w := e.index
     let l := tget {} x.lwin w
     (w < 4 → e.id ∉ x.frozenPorts → e.size = 64 → e.offset % 64 = 0 → e.offset < 0xF80 → l.queue.length < 64 →
      (∀ y ∈ x.launches, y.dep ≠ 0 → y.addr ≠ slotAddr w e.offset) →
      Completes (exec .launchWindowWrite s) (fun t => only t { x with lwin := (t.vi v).lwin } ∧
        ∀ k, tget {} (t.vi v).lwin k = if k = w then { l with queue := l.queue ++ [(e.offset, e.data.setWidth 512)] } else tget {} x.lwin k)) ∧
     (∀ off rec_ rest, l.queue = (off, rec_) :: rest → let r := dwordsOf 8 (toBytes 64 rec_.toNat)
      (x.stop = false → recCheck s v true r = none → ¬ (recPlace r = 0 ∧ x.assist / 8 % 2 = 1) → recBsp r = false →
        (recDep r ≠ 0 → ∀ y ∈ x.launches, y.dep ≠ 0 → y.addr ≠ slotAddr w off) → x.launches.length < 256 → x.launches.length < x.quotaLaunch →
        Completes (exec .hostLaunchStart s) (fun t => SameMemory s t ∧ ∃ id, (t.vi v).launches = x.launches ++ [{ id := id, record := r, addr := slotAddr w off, dep := recDep r }] ∧
          tget {} (t.vi v).lwin w = { l with queue := rest, last := id })) ∧
      (x.stop = true ∨ recCheck s v true r ≠ none →
        Completes (exec .hostLaunchStart s) (fun t => (t.vi v).launches = x.launches ∧ tget {} (t.vi v).lwin w = { l with queue := rest, refused := min (l.refused + 1) 0xFFFF })))) ∧
    Completes (exec .viEnable s) (fun t => only t { x with enable := true, evidx := if x.enable then x.evidx else 0 }) ∧
    Completes (exec .viStop s) (fun t => only t { x with stop := true }) ∧
    (s.quiet v = true → Completes (exec .viStopped s) (fun t => only t { x with stopped := true })) ∧
    ((e.value % 65536 = 0 ∨ ∀ y ∈ s.vis, y.1 ≠ v → y.2.enable = true → y.2.jobtag ≠ e.value % 65536) →
      Completes (exec .jobtagWrite s) (fun t => only t { x with jobtag := e.value % 65536 })) ∧
    (∀ y ∈ s.vis, e.value % 65536 ≠ 0 → y.1 ≠ v → y.2.enable = true → y.2.jobtag = e.value % 65536 →
      Completes (exec .jobtagWrite s) (fun t => (t.vi v).jobtag = x.jobtag ∧ (bits s.md.hcserr 56 8 < 255 → bits t.md.hcserr 56 8 = bits s.md.hcserr 56 8 + 1))) ∧
    Completes (exec .frzclr s) (fun t => only t { x with frozenPorts := [], frz0 := 0, frz1 := 0 }) ∧
    (let b : BitVec 32 := BitVec.ofNat 32 e.value &&& 0x8000001F#32
     e.vdie < 64 → s.isStopped v = true → (b.getLsbD 31 = true → ∀ c ∈ x.ctx, c.1 ≠ e.vdie → c.2.getLsbD 31 = true → c.2.toNat % 32 ≠ b.toNat % 32) →
     Completes (exec .contextEntryWrite s) (fun t => only t { x with ctx := (t.vi v).ctx } ∧ ∀ k, tget 0 (t.vi v).ctx k = if k = e.vdie then b else tget 0 x.ctx k)) ∧
    (let ga := bits x.halloca 0 56
     let f := aOff ga / 256
     let n := (e.size + 255) / 256
     ∀ gt off, s.check1 ⟨v, true, 0⟩ 0 rRD ga = .ok (.sram gt off) → 0 < e.size → e.size ≤ 25165312 → ga % 256 = 0 → 0 < f → f + n ≤ 98303 →
      (∀ i, f ≤ i → i < f + n → x.covers (aVdie ga) i = true) →
      (bit x.halloca 63 = false → s.allocStatus gt f n = 0 → x.granules + n ≤ x.quotaGran →
        Completes (exec .hostAlloc s) (fun t => SameMemory s t ∧ (∀ i, f ≤ i → i < f + n → t.gran gt i = ⟨1, false⟩) ∧ t.vi v = { x with granules := x.granules + n, hallocst := 0x8000000000000000 })) ∧
      (bit x.halloca 63 = true → s.freeStatus gt f n = 0 →
        Completes (exec .hostFree s) (fun t => SameMemory s t ∧ (∀ i, f ≤ i → i < f + n → t.gran gt i = {}) ∧ t.vi v = { x with granules := x.granules - n, hallocst := 0x8000000000000000 })))

/-- R102, R263, R319, R336, R373, R396, R399, R400 and R409 to R412: writes that a supervisor or the host makes. A control-space register takes its value; a
trap configuration within its limits takes effect and another is refused; a mailbox, stream, work-queue or rectangle entry that passes R400's
checks takes its value; a cancelled launch starts no further task; a frame takes its KIND; an erasure group is set up; HEACT acts on the
task that HEWP names.
Model's choices used: log entries 63, 66. -/
def Obligations.ControlWriteEventsComplete : Prop :=
  ∀ (s : State),
    let e := s.ev
    let v := e.vi
    let x := s.vi v
    let d := dw e.value
    let m := s.md
    let only (t : State) (y : Vi) : Prop := t = { s with vis := t.vis } ∧ ∀ w, t.vi w = if w = v then y else s.vi w
    let onlyMd (t : State) : Prop := t = { s with md := t.md }
    (e.kind = 0 → e.index = 0 → e.vdie = 0 →
      (e.offset = 0x00 → Completes (exec .controlSpaceWrite s) (fun t => only t { x with root1 := d })) ∧
      (e.offset = 0x08 → Completes (exec .controlSpaceWrite s) (fun t => only t { x with root2 := d })) ∧
      (e.offset = 0x10 → Completes (exec .controlSpaceWrite s) (fun t => only t { x with htbase := d })) ∧
      (e.offset = 0x20 → x.revq.length + (if x.revoking.isSome then 1 else 0) < 16 → Completes (exec .controlSpaceWrite s) (fun t => only t { x with revq := x.revq ++ [d.toNat] })) ∧
      (e.offset = 0x80 → Completes (exec .controlSpaceWrite s) (fun t => only t { x with evctr := d })) ∧
      (e.offset = 0x28 ∨ e.offset = 0x78 → exec .controlSpaceWrite s = .next s)) ∧
    (e.kind = 1 → (e.addr = 4096 * v + 0x10 → v < 64 → Completes (exec .controlSpaceWrite s) (fun t => only t { x with quotaGran := bits d 32 32, quotaLaunch := bits d 0 9 })) ∧
      (e.addr = 0x40060 → Completes (exec .controlSpaceWrite s) (fun t => onlyMd t ∧ t.md = { m with hewp := d &&& 0x3FFFFFFFFFFFFFFF })) ∧
      (e.addr = 0x40100 → Completes (exec .controlSpaceWrite s) (fun t => onlyMd t ∧ t.md = { m with hleaf := d }))) ∧
    (trapCfgOk d = true → Completes (exec .trapConfigurationWrite s) (fun t => only t { x with trapcfg := d &&& 0x81FFFFFFFFFFFFFF })) ∧
    (trapCfgOk d = false → Completes (exec .trapConfigurationWrite s) (fun t => (t.vi v).trapcfg = x.trapcfg ∧ t.tasks = s.tasks)) ∧
    (∀ die, x.ldie e.vdie = some die →
      (let gt := die * 128 + e.index % 128
       let n := e.id % 16
       let b := s.mail gt n
       (bit b.dw0 63 = true → bits b.dw0 57 6 = v) → b.posts = [] → b.handler = none → (∀ g ∈ s.msgs, g.held = false) →
       let put (y : Mailbox) : Prop := Completes (exec .mailboxEntryWrite s) (fun t => SameMemory s t ∧ t.tasks = s.tasks ∧ t.mail gt n = y)
       (e.kind % 4 = 0 → (bit d 63 = false → put { b with dw0 := 0 }) ∧
         (bit d 63 = true → bits d 57 6 = v → mailPlaces e.vdie (e.index % 128) (bit d 56) b = true → put { b with dw0 := d &&& 0xFFC0001F00000000 })) ∧
       (bit b.dw0 63 = false → let x := d &&& 0x00FFFFFFFFFFFFFF
         (e.kind % 4 = 1 → put { b with dw1 := x }) ∧ (e.kind % 4 = 2 → put { b with dw2 := x }) ∧ (e.kind % 4 = 3 → put { b with dw3 := x })) ∧
       (bit b.dw0 63 = true → e.kind % 4 ≠ 0 → Completes (exec .mailboxEntryWrite s) (fun t => ∀ g k, (t.mail g k) = s.mail g k))) ∧
      (let b := tget {} (s.die die).streams (e.id % 256)
       (bit b.entry 63 = true → stOwner b.entry = v) → b.subs = [] → b.pages = [] → s.publishing die (e.id % 256) = false →
       (bit d 63 = true → stOwner d = v → 8 ≤ stPlog d → stPlog d ≤ 16 → 1 ≤ stSubs d → stSubs d ≤ 128 → 1 ≤ stQuota d → stQuota d ≤ 16384 →
         Completes (exec .streamEntryWrite s) (fun t => SameMemory s t ∧ tget {} (t.die die).streams (e.id % 256) = { entry := d &&& 0xFFF0FF00FFFE0000 })) ∧
       (bit d 63 = false → Completes (exec .streamEntryWrite s) (fun t => SameMemory s t ∧ tget {} (t.die die).streams (e.id % 256) = {}))) ∧
      (let n := e.id % 64
       let b := tget {} (s.die die).wq n
       let lcap := bits d 16 4
       (b.valid = true → b.owner = v) → b.items = [] → (∀ u ∈ s.tasks, u.status ≠ .parked (.queueFull die n) ∧ u.status ≠ .parked (.queueEmpty die n)) →
       (bit d 63 = true → bits d 57 6 = v → lcap ≠ 0 → ((s.die die).wq.filter (fun e => e.2.valid && e.1 != n)).foldl (fun t e => t + 2 ^ e.2.lcap) 0 + 2 ^ lcap ≤ 131072 →
         Completes (exec .workQueueConfigWrite s) (fun t => SameMemory s t ∧ tget {} (t.die die).wq n = { valid := true, owner := v, closed := bit d 56, lcap := lcap, items := [] })) ∧
       (bit d 63 = false → Completes (exec .workQueueConfigWrite s) (fun t => SameMemory s t ∧ tget {} (t.die die).wq n = {}))) ∧
      (let n := e.id % 128
       let d' := d &&& 0x8000000000003FFF
       x.rect = true → (∀ r ∈ (s.die die).rects, r.1 ≠ n → ∀ i, i < 128 → ¬ (rectCovers r.2 i = true ∧ rectCovers d' i = true)) →
       (∀ i, i < 128 → (rectCovers (tget 0 (s.die die).rects n) i = true ∨ rectCovers d' i = true) → (s.tile (die * 128 + i)).resetting = false ∧ (s.tile (die * 128 + i)).quarantined = false) →
       Completes (exec .rectangleWrite s) (fun t => SameMemory s t ∧ ∀ k, tget 0 (t.die die).rects k = if k = n then d' else tget 0 (s.die die).rects k))) ∧
    (∀ l, x.launches.find? (fun l => l.id == e.value % 2 ^ 32) = some l →
      Completes (exec .lcancel s) (fun t => t.tasks = s.tasks ∧ ∀ y ∈ (t.vi v).launches, y.id = l.id → y.cancelled = true ∧ y.waiting = [] ∧ y.held = [])) ∧
    (e.id ∈ m.pendingRebuild → Completes (exec .rebuildStart s) (fun t => onlyMd t ∧ SameMemory s t ∧ e.id ∉ t.md.pendingRebuild)) ∧
    (s.eraskindBad d = false → (∀ y ∈ m.dir, bits d 0 19 ≤ y.1 * 128 / 2 ^ 21 → y.1 * 128 / 2 ^ 21 < bits d 0 19 + bits d 44 20 → y.2.owner = none) →
      Completes (exec .eraskind s) (fun t => t.tasks = s.tasks ∧ ∀ f, bits d 0 19 ≤ f → f < bits d 0 19 + bits d 44 20 →
      t.frameKind f = (if bits d 40 2 = 0 then 0 else if m.pos = f % 10 ∨ m.pos = (f + 1) % 10 then 2 else 1))) ∧
    (s.anyProtected = false → Completes (exec .erasgrpSet s) (fun t => onlyMd t ∧ t.md.erasgrp.toNat = 2 ^ 62 + e.value % 16 ∧
      ∀ p, p < 10 → m.member p ≠ m.number → ∃ y ∈ t.md.outbox, y.cls = cMGT ∧ y.dst = m.member p)) ∧
    (bit m.erasgrp 62 = true → m.member m.pos = m.number →
      (∀ p, p < 10 → m.member p = m.number ∨ ∃ y, m.inbox.reverse.find? (fun y => y.kind == kList && y.src == m.member p) = some y ∧ y.data = m.memberList ∧ y.addr = p) →
      Completes (exec .erasureGroupMatch s) (fun t => onlyMd t ∧ bit t.md.erasgrp 63 = true ∧ bits t.md.erasgrp 0 63 = bits m.erasgrp 0 63)) ∧
    Completes (exec .heqack s) (fun t => onlyMd t ∧ t.md.heqack = BitVec.ofNat 32 e.value ∧ (m.heqWait = [] → t.md = { m with heqack := BitVec.ofNat 32 e.value })) ∧
    (let done (s : State) (st : Nat) : State := { s with md := { s.md with hestat := dw (2 ^ 63 + st) } }
     (s.trapped? (bits m.hewp 56 6) (bits m.hewp 0 56) = none → exec .heactResume s = .next (done s 1) ∧ exec .heactEnd s = .next (done s 1) ∧ exec .heactDiscard s = .next (done s 1)) ∧
     (∀ u, s.trapped? (bits m.hewp 56 6) (bits m.hewp 0 56) = some u →
      (s.eretOk u 0 = true → Completes (exec .heactResume s) (fun t => t.md = { m with hestat := 0x8000000000000000 } ∧
        ∃ y, t.task? u.key = some y ∧ y.status = .ready ∧ y.pc.toNat = ((s.wsWord (s.taskGt u) (aOff u.wp.toNat) 0x1408).1).toNat % 2 ^ 56 / 2 * 2)) ∧
      (s.eretOk u 0 = false → exec .heactResume s = .next (done s 2)) ∧
      exec .heactEnd s = .next (done (s.finishTrap u 1) 0) ∧
      (0 < u.depth → exec .heactDiscard s = .next (done (s.finishTrap u 2) 0)) ∧
      (u.depth = 0 → exec .heactDiscard s = .next (done s 2))))

/-- R325: PAND, POR and PNOT. Each word of major 0x19 with minor 0x10, 0x11 or 0x12 whose predicate fields are within P0–P7 (and, for PNOT, whose b is
0) is that instruction and any other such word is none; where its guard lets it run it writes Pd, its taint the OR of those of the
predicates read, and nothing else but the advance. -/
def Obligations.PredicateLogicAsEncoded : Prop :=
  (∀ (b a d : BitVec 5) (q : BitVec 4),
    let w (minor : Nat) : Nat := minor * 2 ^ 26 + b.toNat * 2 ^ 21 + a.toNat * 2 ^ 16 + d.toNat * 2 ^ 11 + q.toNat * 2 ^ 7 + 0x33
    let ok : Prop := b.toNat < 8 ∧ a.toNat < 8 ∧ d.toNat < 8
    (ok → decodeTableWord 32 (w 0x10) = some (.pand (b.setWidth 3) (a.setWidth 3) (d.setWidth 3) q) ∧
      decodeTableWord 32 (w 0x11) = some (.por (b.setWidth 3) (a.setWidth 3) (d.setWidth 3) q) ∧
      decodeTableWord 32 (w 0x12) = if b = 0 then some (.pnot (a.setWidth 3) (d.setWidth 3) q) else none) ∧
    (¬ ok → decodeTableWord 32 (w 0x10) = none ∧ decodeTableWord 32 (w 0x11) = none ∧ decodeTableWord 32 (w 0x12) = none)) ∧
  (∀ (b a d : BitVec 3) (q : BitVec 4) (s : State), Runs s q →
    let sets (i : Instr) (v tn : Bool) : Prop := Completes (exec i s) (fun t => WritesP s t [] d v tn 4)
    sets (.pand b a d q) (s.cur.rdP a.toNat && s.cur.rdP b.toNat) (s.cur.taintP a.toNat || s.cur.taintP b.toNat) ∧
    sets (.por b a d q) (s.cur.rdP a.toNat || s.cur.rdP b.toNat) (s.cur.taintP a.toNat || s.cur.taintP b.toNat) ∧
    sets (.pnot a d q) (!s.cur.rdP a.toNat) (s.cur.taintP a.toNat))

/-- R40 with R39, R36, R49, R52 and R203: an instruction whose guard is false only advances PC by 4, whatever its operands, its queue and its memory
hold. A guard on a tainted predicate is the nondeterminism fault in deterministic mode. The checks of the encoding come before the guard: bytes that
are no instruction (once a trailing copy has caught up, R389), a form that only a supervisor may execute, and a type in SR.VTYPE that the
instruction does not accept. -/
def Obligations.FalseGuardOnlyAdvances : Prop :=
  (∀ (i : Instr) (q : BitVec 4) (s : State), guardOf i = some q →
    (supervisorOnly i = true → s.cur.sup = false → Traps i s 0x02 0 0) ∧
    (typedVector i = true → s.vtypeOk = false → Traps i s 0x01 0 0) ∧
    ((supervisorOnly i = true → s.cur.sup = true) → (typedVector i = true → s.vtypeOk = true) →
      (s.cur.guardTainted q = false → s.cur.guard q = false → exec i s = .next { s with cur := { s.cur with pc := s.cur.pc + 4 }, stalled := false }) ∧
      (s.cur.det = true → q ≠ 0 → s.cur.taintP (q.toNat % 8) = true → Traps i s 0x0E 0 (dw (96 + q.toNat % 8)))) ∧
    (s.cur.guard q = true ↔ q = 0 ∨ (8 ≤ q.toNat ∧ s.cur.rdP (q.toNat - 8) = true) ∨ (q ≠ 0 ∧ q.toNat < 8 ∧ s.cur.rdP q.toNat = false))) ∧
  (∀ (s s1 : State) (bs : List Byte) (w : BitVec 32) (long : Nat), Fetches s s1 bs → decode bs = .illegal w long → s1.cur.caughtUp = true →
    step s = settled s (exec .illegalInstruction (s1.illegalIn w long)))

/-- R52, R92, R201, R203, R207, R324, R326 and R419 with R371: where a supervisor's form, a load, a store, a compare or a transfer stops. A task that is
no supervisor takes the privilege fault at TLBINV and ERET, and at a WRSR of SR.POIS or SR.TAINT, whatever their guards. A poisoned base register is the poison
trap and a tainted one, in deterministic mode, the nondeterminism fault, INFO naming the register; an address that fails its check is that
check's fault and a misaligned one the misaligned-access fault, ADDR holding it; a poisoned compare operand traps; a transfer through a
target that is not prepared is the unprepared-target fault.
Model's choices used: log entry 45. -/
def Obligations.PrivilegeAndOperandFaultsTrap : Prop :=
  (∀ (e a : BitVec 5) (q : BitVec 4) (s : State), s.cur.sup = false →
    Traps (.tlbinv e a q) s 0x02 0 0 ∧ Traps (.eret e a q) s 0x02 0 0 ∧ (e = 3 ∨ e = 4 → Traps (.wrsr e a q) s 0x02 0 0)) ∧
  ∀ (i : BitVec 8) (c n : BitVec 3) (b t : BitVec 5) (q : BitVec 4) (s : State), Runs s q →
    let base (ins : Instr) : Prop :=
      ((s.cur.rdG b).p = true → Traps ins s 0x0D 0 (dw b.toNat)) ∧
      ((s.cur.rdG b).p = false → s.cur.det = true → (s.cur.rdG b).t = true → Traps ins s 0x0E 0 (dw b.toNat))
    let addr (ins : Instr) (right size : Nat) : Prop :=
      let a := (s.gv b + BitVec.ofInt 64 (i.toInt * size)).toNat
      CleanG s [b] →
      (∀ x, s.check s.cur.who (s.taskGt s.cur) right a size = .trap x → 4 ≤ x → x ≤ 8 → Traps ins s x (dw a) 0) ∧
      (∀ l, s.check s.cur.who (s.taskGt s.cur) right a size = .ok l → a % size ≠ 0 → Traps ins s 0x06 (dw a) 0)
    (base (.ldB i b t q) ∧ base (.ldH i b t q) ∧ base (.ldW i b t q) ∧ base (.ldD i b t q) ∧ base (.ldNb i b t q) ∧ base (.ldNh i b t q) ∧ base (.ldNw i b t q) ∧ base (.ldAcq i c b t q)) ∧
    (addr (.ldH i b t q) rRD 2 ∧ addr (.ldW i b t q) rRD 4 ∧ addr (.ldD i b t q) rRD 8 ∧ addr (.ldNh i b t q) rRD 2 ∧ addr (.ldNw i b t q) rRD 4 ∧ addr (.ldAcq i c b t q) rRD 8) ∧
    (base (.stB i b t q) ∧ base (.stH i b t q) ∧ base (.stW i b t q) ∧ base (.stD i b t q)) ∧
    ((s.cur.det && (s.cur.rdG t).t) = false → addr (.stH i b t q) rWR 2 ∧ addr (.stW i b t q) rWR 4 ∧ addr (.stD i b t q) rWR 8) ∧
    (∀ ins ∈ [Instr.stB i b t q, .stH i b t q, .stW i b t q, .stD i b t q], CleanG s [b] → s.cur.det = true → (s.cur.rdG t).t = true → Traps ins s 0x0E 0 (dw t.toNat)) ∧
    (∀ ins ∈ [Instr.cmpEq t b n q, .cmpNe t b n q, .cmpLt t b n q, .cmpGe t b n q, .cmpLtn t b n q, .cmpGen t b n q], (s.cur.rdG b).p = true → Traps ins s 0x0D 0 (dw b.toNat)) ∧
    (s.cur.prepared n = false → Traps (.br n q) s 0x0C 0 0 ∧ Traps (.brl n t q) s 0x0C 0 0 ∧
      (s.cur.rdP c.toNat = true → (s.cur.det && s.cur.taintP c.toNat) = false → Traps (.brP n c q) s 0x0C 0 0) ∧
      (s.cur.rdP c.toNat = false → (s.cur.det && s.cur.taintP c.toNat) = false → Traps (.brNp n c q) s 0x0C 0 0) ∧
      (CleanG s [t] → s.gv t ≠ 1 → Traps (.brdec n t q) s 0x0C 0 0))

/-- R372 and R374: what taking a trap leaves. The trap record at WP + 0x1400 holds DEPTH, CLASS and CODE, EPC, IWORD, ADDR and INFO, and zeros after
them; the task is trapped at EPC with its registers as they were, the poison tags having gone to the marks of its workspace (R187); with HOST = 1
the host is told and no handler starts, and with HOST = 0 a handler of the VI runs on the tile. Stated for a task whose workspace lines are all
present, its trap-record granule written, on a tile without windows, and a trap configuration that a write can set (R373: TWOFF is 8 KiB aligned).
-/
def Obligations.TakingATrapWritesItsRecord : Prop :=
  ∀ (s : State) (x : TrapInfo) (epc iword : Nat) (u : Task), s.task? u.key = some u → u.absentLines = [] → (∀ w, u.kind ≠ .trapHandler w) →
    let gt := s.taskGt u
    let b := aOff u.wp.toNat
    b % 8192 = 0 → bits (s.vi u.vi).trapcfg 32 25 % 8192 = 0 → (s.tile gt).win = [] → (s.gran gt (b / 256 + 20)).state = 2 → u.depth < 9 → x.cls < 4 → x.code < 256 → epc < 2 ^ 56 → iword < 2 ^ 32 →
    let t := s.takeTrap u.key x epc iword
    let reads (off : Nat) (v : DWord) : Prop := t.wsWord gt b off = (v, false)
    reads 0x1400 (dw (u.depth * 4096 + x.cls * 1024 + x.code)) ∧ reads 0x1408 (dw epc) ∧ reads 0x1410 (dw iword) ∧ reads 0x1418 x.addr ∧ reads 0x1420 x.info ∧
    (∀ i, 5 ≤ i → i < 32 → reads (0x1400 + 8 * i) 0) ∧
    (bits (s.vi u.vi).trapcfg 32 25 ≠ b → ∃ y, t.task? u.key = some y ∧ y.status = .trapped ∧ y.pc = BitVec.ofNat 56 epc ∧ y.g = u.g ∧ y.t = u.t ∧ y.m = u.m ∧ y.v = u.v ∧
      y.box = u.box ∧ y.scope = u.scope ∧ y.hw = u.hw ∧ y.mx = u.mx ∧ y.mv = u.mv ∧ y.st = { u.st with crust := y.st.crust, pois := y.st.pois }) ∧
    ((s.vi u.vi).trapToHost x.code = true → t.md.heqidx = s.md.heqidx + 1 ∨ t.md.heqWait ≠ []) ∧
    ((s.vi u.vi).trapToHost x.code = false → t.handlerRuns u.vi gt = true)

/-- R61, R24, R206, R270 and R342: an instruction that parks leaves its task as it was, at its own address, with the instruction to execute again
(in a handler the wait is a fault instead), and one whose engine queue is full stays for the slot's next turn with nothing changed: MBR of an empty
box, MXWAIT with a command of the block still queued, and a vector instruction that finds its queue full. MBW to a full box is the illegal-operand
fault. -/
def Obligations.ParkAndRetryChangeNothing : Prop :=
  ∀ (a d : BitVec 5) (n : BitVec 2) (z : BitVec 3) (q : BitVec 4) (s : State),
    (∀ i, s.vFull = true → (plainVector i = true ∨ (shortVector i = true ∧ acceptsIntFlt (BitVec.ofNat 5 (bits s.cur.st.vtype 0 5)) = true)) →
      exec i s = .next { s with stalled := true }) ∧
    (Runs s q →
      let waits (i : Instr) (p : Park) : Prop :=
        (s.cur.hnd = false → exec i s = .next { s with cur := { s.cur with status := .parked p, snaps := [], sch := { s.cur.sch with again := some i, why := some p } }, stalled := false }) ∧
        (s.cur.hnd = true → Traps i s 0x0F 0 0)
      ((s.cur.box[n.toNat]).full = false → waits (.mbr n d q) (.box n.toNat)) ∧
      (s.cur.claims z.toNat = true → s.cur.view z.toNat ≤ 3 → s.blockBusy z.toNat = true → waits (.mxwait z q) (.block z.toNat)) ∧
      ((s.cur.box[n.toNat]).full = true → Traps (.mbw a n q) s 0x0B 0 0))

/-- R27, R94, R97, R122, R134, R142, R263, R310, R319, R399 and R404: the machine right after reset. No task exists; no virtual die is bound; every granule is
free with its crust bit 0; no buffer, window, stream or work queue is valid; the home map is the identity with every frame plain and not busy;
the counters are 0; the idle interval is 65,536 cycles; no VI is enabled.
Model's choices used: log entry 12. -/
def Obligations.ResetState : Prop :=
  let s := State.reset
  s.tasks = [] ∧
  (∀ v, (s.vi v).enable = false ∧ (s.vi v).stop = false ∧ ∀ n, (s.vi v).ldie n = none) ∧
  (∀ gt i, s.gran gt i = ⟨0, false⟩) ∧
  (∀ gt h, (s.cb gt h).valid = false) ∧ (∀ gt w, (s.win gt w).valid = false) ∧
  (∀ d n, (s.die d).streams = [] ∧ (tget {} (s.die d).wq n).valid = false ∧ (tget 0 (s.die d).rects n) = 0) ∧
  (∀ f, f < 2 ^ 19 → s.framePhys f = f ∧ s.frameKind f = 0 ∧ s.frameBusy f = false ∧ (s.home f).getLsbD 31 = true) ∧
  (∀ k, tget 0 s.md.counters k = 0) ∧ s.md.idle = 65536

/-- Log entry 1 (the model's choice of what an unwritten byte reads as) and R108: the memory form holds right after reset. -/
def Obligations.MemoryFormAtReset : Prop := State.reset.MemoryForm

/-- R23, R32, R33, R51, R61, R195 and R329: a step runs the decoded instruction. When the next move is a resident task's turn, nothing stands before its issue and
its fetched bytes decode to an instruction, no request of which has failed and no register-cache line of which is absent, the step is that
instruction's execution on the state whose tile has counted the turn, with what goes on by itself at the end of every step (`settled`) and, for a
redundant task, what R210 has its two copies do (`paired`). One whose line is absent keeps the instruction and waits for the line, and a readied
task executes the instruction that it keeps again, without a new fetch. Bytes that are no instruction run the illegal-instruction row. An instruction of
two bytes, and one of four, is fetched whole from one held copy of the code. An event is its row's execution with its inputs. A late
turn is that turn with its plain store kept, and a kept store is let go by a move of its own.
Model's choices used: log entries 7, 8, 15, 73, 85. -/
def Obligations.StepRunsTheDecodedInstruction : Prop :=
  (∀ (s s1 : State) (bs : List Byte), Fetches s s1 bs →
    (∀ i len, decode bs = .ok i len → s1.failedHere = none →
      (s1.lineWait i = none → step s = settled s (paired i s1 (exec i s1)) ∧ (s1.cur.twin = none → step s = settled s (exec i s1))) ∧
      (∀ l, s1.lineWait i = some l → step s = settled s (.next (s1.linePark i l)))) ∧
    (∀ w long, decode bs = .illegal w long → s1.cur.caughtUp = true → step s = settled s (exec .illegalInstruction (s1.illegalIn w long)))) ∧
  (∀ (s s1 : State) (i : Instr), Issues s s1 → s1.cur.sch.again = some i → let s2 := s1.takeAgain
    s2.failedHere = none → s2.lineWait i = none → step s = settled s (paired i s2 (exec i s2))) ∧
  (∀ (s : State) (u : Task) (bs : List Byte), let x := u.pc.toNat
    s.fetchCheck u x 2 = none → s.heldCode u x 2 = some bs →
    ((bs.headD 0).getLsbD 0 = false → s.fetchInstr u = .bytes bs) ∧
    (∀ cs, (bs.headD 0).getLsbD 0 = true → s.fetchCheck u ((x + 2) % 2 ^ 56) 2 = none → s.heldCode u x 4 = some cs → s.fetchInstr u = .bytes cs)) ∧
  (∀ (s : State) (i : Instr) (x : EvIn), s.nextMove = .event i x → step s = settled s (exec i { s.popAgenda.tick with ev := x })) ∧
  (∀ (s : State) (k : Nat), s.nextMove = .late k →
    (∀ t, moveNext { s with agenda := .issue k :: s.agenda.tail, defer := true } = .next t → step s = .next ({ t with defer := false }.settle s))) ∧
  (∀ (s : State) (n : Nat), s.nextMove = .store n → step s = .next ((s.popAgenda.freeStore n).settle s))

/-- R34, R39 and the examples of R37, R217, R241, R324, R325 and R376: words that the spec writes out decode to the instructions it says. -/
def Obligations.SpecExampleWordsDecode : Prop :=
  decodeTableWord 16 0x14E0 = some (.addS 5 7) ∧ decodeTableWord 16 0x246A = some (.shlS 9 3) ∧ decodeTableWord 16 0x082E = some (.movS 2 1) ∧
  decodeTableWord 16 0x000E = some .nop ∧ decodeTableWord 16 0x0000 = none ∧ decodeTableWord 16 0x1070 = some (.vaddS 4 3) ∧
  decodeTableWord 16 0x085E = some (.vxorS 2 2) ∧
  decodeTableWord 32 0x28C51833 = some (.cmpLt 6 5 3 0) ∧ decodeTableWord 32 0x21271033 = some (.cmpEq 9 7 2 0) ∧
  decodeTableWord 32 0x40620833 = some (.pand 3 2 1 0) ∧ decodeTableWord 32 0x48052033 = some (.pnot 5 4 0) ∧
  decodeTableWord 32 0x0401007B = some (.eret 0 1 0) ∧ decodeTableWord 32 0x0441007B = some (.eret 2 1 0) ∧
  decodeTableWord 32 0xFFFFFFFF = none

/-- R31 to R48: decode and encode agree. Every well-formed instruction that has an encoding is decoded from its own bytes, whatever bytes follow,
and any bytes that decode are the encoding of the instruction they decode to: no word has two readings, and no bit of it is dropped. -/
def Obligations.DecodeAndEncodeAgree : Prop :=
  (∀ (i : Instr) (rest : List Byte), Instr.wf i = true → Instr.length i ≠ 0 → decode (encode i ++ rest) = .ok i (Instr.length i)) ∧
  (∀ (bs : List Byte) (i : Instr) (n : Nat), decode bs = .ok i n → Instr.wf i = true ∧ n = Instr.length i ∧ bs.take n = encode i)

/-- R108 with log entry 1: every step keeps the memory form, so that memory and the poison marks always stand in their one canonical form. -/
def Obligations.StepKeepsMemoryForm : Prop :=
  ∀ (s t : State), s.MemoryForm → step s = .next t → t.MemoryForm
end

