-- ==== Sys2Proof/Laws/Maps.lean ====
section
/-! SUPPORT. Laws of bit fields, of tables keyed by a number, and of little-endian bytes. -/

namespace Sys2Proof.Machine

/-! ## Bits -/

theorem bit_setBit (x : DWord) (n : Nat) (b : Bool) (j : Nat) (hn : n < 64) : bit (setBit x n b) j = if j = n then b else bit x j := by
  unfold bit setBit
  by_cases hj : j < 64
  · cases b <;> simp [hj]
    · by_cases h : j = n
      · subst h; simp
      · simp [h]; intro _; omega
    · by_cases h : j = n
      · subst h; simp
      · simp [h]; intro _; omega
  · have h1 : j ≠ n := by omega
    rw [BitVec.getLsbD_of_ge _ _ (by omega), if_neg h1, BitVec.getLsbD_of_ge _ _ (by omega)]

/-! ## Tables -/

section Tables

variable {α : Type} {d : α}

theorem tget_tinsert (t : List (Nat × α)) (a k : Nat) (v : α) : tget d (tinsert t a v) k = if k = a then v else tget d t k := by
  induction t with
  | nil => simp [tinsert, tget, eq_comm]
  | cons e r ih =>
    obtain ⟨b, w⟩ := e
    simp only [tinsert]
    split
    · by_cases hk : k = a
      · simp [tget, hk]
      · simp [tget, Ne.symm hk, hk]
    · split
      · rename_i h; subst h
        by_cases hk : k = a
        · simp [tget, hk]
        · simp [tget, Ne.symm hk, hk]
      · simp only [tget, ih]
        by_cases hb : b = k
        · subst hb; rename_i h1 h2; simp [Ne.symm h2]
        · simp [hb]

theorem tget_filter (t : List (Nat × α)) (a k : Nat) : tget d (t.filter (fun e => e.1 ≠ a)) k = if k = a then d else tget d t k := by
  induction t with
  | nil => simp [tget]
  | cons e r ih =>
    obtain ⟨b, w⟩ := e
    by_cases hb : b = a
    · subst hb
      simp only [ne_eq, not_true_eq_false, decide_false, Bool.false_eq_true, not_false_eq_true, List.filter_cons_of_neg] at ih ⊢
      rw [ih]
      by_cases hk : k = b
      · simp [hk]
      · simp [hk, tget, Ne.symm hk]
    · have : decide ((b, w).1 ≠ a) = true := by simpa using hb
      rw [List.filter_cons_of_pos (by simpa using hb)]
      simp only [tget, ih]
      by_cases hk : b = k
      · subst hk; simp [hb]
      · simp [hk]

variable [DecidableEq α]

/-- A read after a write gives the value written, and every other key is left alone. -/
theorem tget_tset (t : List (Nat × α)) (a k : Nat) (v : α) : tget d (tset d t a v) k = if k = a then v else tget d t k := by
  unfold tset
  split
  · rename_i h; subst h; exact tget_filter t a k
  · exact tget_tinsert t a k v

theorem tget_tmod (t : List (Nat × α)) (a k : Nat) (f : α → α) : tget d (tmod d t a f) k = if k = a then f (tget d t a) else tget d t k :=
  tget_tset t a k _

omit [DecidableEq α] in
theorem rising_cons (k : Nat) (v : α) (r : List (Nat × α)) : rising ((k, v) :: r) = true ↔ rising r = true ∧ ∀ e ∈ r.head?, k < e.1 := by
  cases r with
  | nil => simp [rising]
  | cons e r => obtain ⟨k', v'⟩ := e; simp [rising, and_comm]

omit [DecidableEq α] in
theorem rising_tinsert (t : List (Nat × α)) (a : Nat) (v : α) (h : rising t = true) : rising (tinsert t a v) = true := by
  induction t with
  | nil => rfl
  | cons e r ih =>
    obtain ⟨b, w⟩ := e
    rw [rising_cons] at h
    simp only [tinsert]
    split
    · rename_i hab; rw [rising_cons, rising_cons]; exact ⟨h, by simpa using hab⟩
    · split
      · rename_i h1; subst h1; rw [rising_cons]; exact h
      · rw [rising_cons]
        refine ⟨ih h.1, ?_⟩
        cases r with
        | nil => simp [tinsert]; omega
        | cons e' r' =>
          obtain ⟨b', w'⟩ := e'
          have := h.2 (b', w') (by simp)
          simp only [tinsert]
          split
          · simp; omega
          · split
            · simp; omega
            · simpa using this

omit [DecidableEq α] in
theorem rising_lt (t : List (Nat × α)) (k : Nat) (v : α) (h : rising ((k, v) :: t) = true) : ∀ e ∈ t, k < e.1 := by
  induction t generalizing k v with
  | nil => simp
  | cons e r ih =>
    obtain ⟨b, w⟩ := e
    rw [rising_cons] at h
    have hb : k < b := h.2 (b, w) (by simp)
    intro x hx
    rcases List.mem_cons.1 hx with rfl | hx
    · exact hb
    · exact lt_trans hb (ih b w h.1 x hx)

omit [DecidableEq α] in
theorem rising_filter (p : Nat × α → Bool) (t : List (Nat × α)) (h : rising t = true) : rising (t.filter p) = true := by
  induction t with
  | nil => rfl
  | cons e r ih =>
    obtain ⟨b, w⟩ := e
    have h2 := rising_lt r b w h
    rw [rising_cons] at h
    by_cases hp : p (b, w) = true
    · rw [List.filter_cons_of_pos hp, rising_cons]
      refine ⟨ih h.1, ?_⟩
      intro x hx
      exact h2 x (List.mem_of_mem_filter (List.mem_of_mem_head? hx))
    · rw [List.filter_cons_of_neg hp]; exact ih h.1

omit [DecidableEq α] in
theorem mem_tinsert (t : List (Nat × α)) (a : Nat) (v : α) (e : Nat × α) (h : e ∈ tinsert t a v) : e = (a, v) ∨ e ∈ t := by
  induction t with
  | nil => simpa [tinsert] using h
  | cons x r ih =>
    obtain ⟨b, w⟩ := x
    simp only [tinsert] at h
    split at h
    · simpa using h
    · split at h
      · rcases List.mem_cons.1 h with rfl | h
        · exact .inl rfl
        · exact .inr (List.mem_cons_of_mem _ h)
      · rcases List.mem_cons.1 h with rfl | h
        · exact .inr (List.mem_cons_self ..)
        · rcases ih h with h | h
          · exact .inl h
          · exact .inr (List.mem_cons_of_mem _ h)

/-- A write keeps the canonical form. -/
theorem tableWf_tset (t : List (Nat × α)) (a : Nat) (v : α) (h : tableWf d t = true) : tableWf d (tset d t a v) = true := by
  simp only [tableWf, Bool.and_eq_true, List.all_eq_true] at h ⊢
  unfold tset
  split
  · exact ⟨rising_filter _ t h.1, fun e he => h.2 e (List.mem_of_mem_filter he)⟩
  · rename_i hv
    refine ⟨rising_tinsert t a v h.1, fun e he => ?_⟩
    rcases mem_tinsert t a v e he with rfl | he
    · simpa using hv
    · exact h.2 e he

end Tables

/-! ## Bytes -/

@[simp] theorem toBytes_length (n x : Nat) : (toBytes n x).length = n := by
  induction n generalizing x with
  | zero => rfl
  | succ n ih => simp [toBytes, ih]

/-- Byte i of a number. -/
theorem toBytes_getElem (n x i : Nat) (h : i < (toBytes n x).length) : (toBytes n x)[i] = BitVec.ofNat 8 (x / 256 ^ i) := by
  induction n generalizing x i with
  | zero => simp [toBytes] at h
  | succ n ih =>
    cases i with
    | zero => simp [toBytes]
    | succ i =>
      simp only [toBytes, List.getElem_cons_succ]
      rw [ih, Nat.div_div_eq_div_mul, pow_succ']

/-- The bytes of a number hold it, wrapped to their width. -/
theorem ofBytes_toBytes (n x : Nat) : ofBytes (toBytes n x) = x % 256 ^ n := by
  induction n generalizing x with
  | zero => simp [toBytes, ofBytes, Nat.mod_one]
  | succ n ih =>
    have h8 : (BitVec.ofNat 8 x).toNat = x % 256 := BitVec.toNat_ofNat x 8
    rw [toBytes, ofBytes, ih, h8, pow_succ', Nat.mod_mul]

theorem ofBytes_lt (l : List Byte) : ofBytes l < 256 ^ l.length := by
  induction l with
  | nil => simp [ofBytes]
  | cons b r ih =>
    simp only [ofBytes, List.length_cons, pow_succ']
    have := b.isLt
    omega

end Sys2Proof.Machine
end

