-- ==== Sys2Proof/Laws/State.lean ====
section
/-! SUPPORT. What each update of the state does to each field, by unfolding, so that no later proof opens a record update. -/

namespace Sys2Proof.Machine

variable (s : State)

/-! ## modCur -/

@[simp] theorem State.modCur_cur (f : Task → Task) : (s.modCur f).cur = f s.cur := rfl
@[simp] theorem State.modCur_others (f : Task → Task) : (s.modCur f).others = s.others := rfl
@[simp] theorem State.modCur_mem (f : Task → Task) : (s.modCur f).mem = s.mem := rfl
@[simp] theorem State.modCur_poison (f : Task → Task) : (s.modCur f).poison = s.poison := rfl
@[simp] theorem State.modCur_tiles (f : Task → Task) : (s.modCur f).tiles = s.tiles := rfl
@[simp] theorem State.modCur_dies (f : Task → Task) : (s.modCur f).dies = s.dies := rfl
@[simp] theorem State.modCur_vis (f : Task → Task) : (s.modCur f).vis = s.vis := rfl
@[simp] theorem State.modCur_md (f : Task → Task) : (s.modCur f).md = s.md := rfl
@[simp] theorem State.modCur_resv (f : Task → Task) : (s.modCur f).resv = s.resv := rfl
@[simp] theorem State.modCur_stores (f : Task → Task) : (s.modCur f).stores = s.stores := rfl
@[simp] theorem State.modCur_owedBumps (f : Task → Task) : (s.modCur f).owedBumps = s.owedBumps := rfl
@[simp] theorem State.modCur_owedLeaves (f : Task → Task) : (s.modCur f).owedLeaves = s.owedLeaves := rfl
@[simp] theorem State.modCur_msgs (f : Task → Task) : (s.modCur f).msgs = s.msgs := rfl
@[simp] theorem State.modCur_colls (f : Task → Task) : (s.modCur f).colls = s.colls := rfl
@[simp] theorem State.modCur_tagUses (f : Task → Task) : (s.modCur f).tagUses = s.tagUses := rfl
@[simp] theorem State.modCur_agenda (f : Task → Task) : (s.modCur f).agenda = s.agenda := rfl
@[simp] theorem State.modCur_ev (f : Task → Task) : (s.modCur f).ev = s.ev := rfl
@[simp] theorem State.modCur_stalled (f : Task → Task) : (s.modCur f).stalled = s.stalled := rfl
@[simp] theorem State.modCur_defer (f : Task → Task) : (s.modCur f).defer = s.defer := rfl
@[simp] theorem State.modCur_clock (f : Task → Task) : (s.modCur f).clock = s.clock := rfl
@[simp] theorem State.modCur_fresh (f : Task → Task) : (s.modCur f).fresh = s.fresh := rfl

/-! ## modTile -/

@[simp] theorem State.modTile_cur (g : Nat) (f : Tile → Tile) : (s.modTile g f).cur = s.cur := rfl
@[simp] theorem State.modTile_others (g : Nat) (f : Tile → Tile) : (s.modTile g f).others = s.others := rfl
@[simp] theorem State.modTile_mem (g : Nat) (f : Tile → Tile) : (s.modTile g f).mem = s.mem := rfl
@[simp] theorem State.modTile_poison (g : Nat) (f : Tile → Tile) : (s.modTile g f).poison = s.poison := rfl
@[simp] theorem State.modTile_tiles (g : Nat) (f : Tile → Tile) : (s.modTile g f).tiles = tmod {} s.tiles g f := rfl
@[simp] theorem State.modTile_dies (g : Nat) (f : Tile → Tile) : (s.modTile g f).dies = s.dies := rfl
@[simp] theorem State.modTile_vis (g : Nat) (f : Tile → Tile) : (s.modTile g f).vis = s.vis := rfl
@[simp] theorem State.modTile_md (g : Nat) (f : Tile → Tile) : (s.modTile g f).md = s.md := rfl
@[simp] theorem State.modTile_resv (g : Nat) (f : Tile → Tile) : (s.modTile g f).resv = s.resv := rfl
@[simp] theorem State.modTile_stores (g : Nat) (f : Tile → Tile) : (s.modTile g f).stores = s.stores := rfl
@[simp] theorem State.modTile_owedBumps (g : Nat) (f : Tile → Tile) : (s.modTile g f).owedBumps = s.owedBumps := rfl
@[simp] theorem State.modTile_owedLeaves (g : Nat) (f : Tile → Tile) : (s.modTile g f).owedLeaves = s.owedLeaves := rfl
@[simp] theorem State.modTile_msgs (g : Nat) (f : Tile → Tile) : (s.modTile g f).msgs = s.msgs := rfl
@[simp] theorem State.modTile_colls (g : Nat) (f : Tile → Tile) : (s.modTile g f).colls = s.colls := rfl
@[simp] theorem State.modTile_tagUses (g : Nat) (f : Tile → Tile) : (s.modTile g f).tagUses = s.tagUses := rfl
@[simp] theorem State.modTile_agenda (g : Nat) (f : Tile → Tile) : (s.modTile g f).agenda = s.agenda := rfl
@[simp] theorem State.modTile_ev (g : Nat) (f : Tile → Tile) : (s.modTile g f).ev = s.ev := rfl
@[simp] theorem State.modTile_stalled (g : Nat) (f : Tile → Tile) : (s.modTile g f).stalled = s.stalled := rfl
@[simp] theorem State.modTile_defer (g : Nat) (f : Tile → Tile) : (s.modTile g f).defer = s.defer := rfl
@[simp] theorem State.modTile_clock (g : Nat) (f : Tile → Tile) : (s.modTile g f).clock = s.clock := rfl
@[simp] theorem State.modTile_fresh (g : Nat) (f : Tile → Tile) : (s.modTile g f).fresh = s.fresh := rfl

/-! ## modDie -/

@[simp] theorem State.modDie_cur (g : Nat) (f : Die → Die) : (s.modDie g f).cur = s.cur := rfl
@[simp] theorem State.modDie_others (g : Nat) (f : Die → Die) : (s.modDie g f).others = s.others := rfl
@[simp] theorem State.modDie_mem (g : Nat) (f : Die → Die) : (s.modDie g f).mem = s.mem := rfl
@[simp] theorem State.modDie_poison (g : Nat) (f : Die → Die) : (s.modDie g f).poison = s.poison := rfl
@[simp] theorem State.modDie_tiles (g : Nat) (f : Die → Die) : (s.modDie g f).tiles = s.tiles := rfl
@[simp] theorem State.modDie_dies (g : Nat) (f : Die → Die) : (s.modDie g f).dies = tmod {} s.dies g f := rfl
@[simp] theorem State.modDie_vis (g : Nat) (f : Die → Die) : (s.modDie g f).vis = s.vis := rfl
@[simp] theorem State.modDie_md (g : Nat) (f : Die → Die) : (s.modDie g f).md = s.md := rfl
@[simp] theorem State.modDie_resv (g : Nat) (f : Die → Die) : (s.modDie g f).resv = s.resv := rfl
@[simp] theorem State.modDie_stores (g : Nat) (f : Die → Die) : (s.modDie g f).stores = s.stores := rfl
@[simp] theorem State.modDie_owedBumps (g : Nat) (f : Die → Die) : (s.modDie g f).owedBumps = s.owedBumps := rfl
@[simp] theorem State.modDie_owedLeaves (g : Nat) (f : Die → Die) : (s.modDie g f).owedLeaves = s.owedLeaves := rfl
@[simp] theorem State.modDie_msgs (g : Nat) (f : Die → Die) : (s.modDie g f).msgs = s.msgs := rfl
@[simp] theorem State.modDie_colls (g : Nat) (f : Die → Die) : (s.modDie g f).colls = s.colls := rfl
@[simp] theorem State.modDie_tagUses (g : Nat) (f : Die → Die) : (s.modDie g f).tagUses = s.tagUses := rfl
@[simp] theorem State.modDie_agenda (g : Nat) (f : Die → Die) : (s.modDie g f).agenda = s.agenda := rfl
@[simp] theorem State.modDie_ev (g : Nat) (f : Die → Die) : (s.modDie g f).ev = s.ev := rfl
@[simp] theorem State.modDie_stalled (g : Nat) (f : Die → Die) : (s.modDie g f).stalled = s.stalled := rfl
@[simp] theorem State.modDie_defer (g : Nat) (f : Die → Die) : (s.modDie g f).defer = s.defer := rfl
@[simp] theorem State.modDie_clock (g : Nat) (f : Die → Die) : (s.modDie g f).clock = s.clock := rfl
@[simp] theorem State.modDie_fresh (g : Nat) (f : Die → Die) : (s.modDie g f).fresh = s.fresh := rfl

/-! ## modVi -/

@[simp] theorem State.modVi_cur (g : Nat) (f : Vi → Vi) : (s.modVi g f).cur = s.cur := rfl
@[simp] theorem State.modVi_others (g : Nat) (f : Vi → Vi) : (s.modVi g f).others = s.others := rfl
@[simp] theorem State.modVi_mem (g : Nat) (f : Vi → Vi) : (s.modVi g f).mem = s.mem := rfl
@[simp] theorem State.modVi_poison (g : Nat) (f : Vi → Vi) : (s.modVi g f).poison = s.poison := rfl
@[simp] theorem State.modVi_tiles (g : Nat) (f : Vi → Vi) : (s.modVi g f).tiles = s.tiles := rfl
@[simp] theorem State.modVi_dies (g : Nat) (f : Vi → Vi) : (s.modVi g f).dies = s.dies := rfl
@[simp] theorem State.modVi_vis (g : Nat) (f : Vi → Vi) : (s.modVi g f).vis = tmod {} s.vis g f := rfl
@[simp] theorem State.modVi_md (g : Nat) (f : Vi → Vi) : (s.modVi g f).md = s.md := rfl
@[simp] theorem State.modVi_resv (g : Nat) (f : Vi → Vi) : (s.modVi g f).resv = s.resv := rfl
@[simp] theorem State.modVi_stores (g : Nat) (f : Vi → Vi) : (s.modVi g f).stores = s.stores := rfl
@[simp] theorem State.modVi_owedBumps (g : Nat) (f : Vi → Vi) : (s.modVi g f).owedBumps = s.owedBumps := rfl
@[simp] theorem State.modVi_owedLeaves (g : Nat) (f : Vi → Vi) : (s.modVi g f).owedLeaves = s.owedLeaves := rfl
@[simp] theorem State.modVi_msgs (g : Nat) (f : Vi → Vi) : (s.modVi g f).msgs = s.msgs := rfl
@[simp] theorem State.modVi_colls (g : Nat) (f : Vi → Vi) : (s.modVi g f).colls = s.colls := rfl
@[simp] theorem State.modVi_tagUses (g : Nat) (f : Vi → Vi) : (s.modVi g f).tagUses = s.tagUses := rfl
@[simp] theorem State.modVi_agenda (g : Nat) (f : Vi → Vi) : (s.modVi g f).agenda = s.agenda := rfl
@[simp] theorem State.modVi_ev (g : Nat) (f : Vi → Vi) : (s.modVi g f).ev = s.ev := rfl
@[simp] theorem State.modVi_stalled (g : Nat) (f : Vi → Vi) : (s.modVi g f).stalled = s.stalled := rfl
@[simp] theorem State.modVi_defer (g : Nat) (f : Vi → Vi) : (s.modVi g f).defer = s.defer := rfl
@[simp] theorem State.modVi_clock (g : Nat) (f : Vi → Vi) : (s.modVi g f).clock = s.clock := rfl
@[simp] theorem State.modVi_fresh (g : Nat) (f : Vi → Vi) : (s.modVi g f).fresh = s.fresh := rfl

/-! ## modMd -/

@[simp] theorem State.modMd_cur (f : Module → Module) : (s.modMd f).cur = s.cur := rfl
@[simp] theorem State.modMd_others (f : Module → Module) : (s.modMd f).others = s.others := rfl
@[simp] theorem State.modMd_mem (f : Module → Module) : (s.modMd f).mem = s.mem := rfl
@[simp] theorem State.modMd_poison (f : Module → Module) : (s.modMd f).poison = s.poison := rfl
@[simp] theorem State.modMd_tiles (f : Module → Module) : (s.modMd f).tiles = s.tiles := rfl
@[simp] theorem State.modMd_dies (f : Module → Module) : (s.modMd f).dies = s.dies := rfl
@[simp] theorem State.modMd_vis (f : Module → Module) : (s.modMd f).vis = s.vis := rfl
@[simp] theorem State.modMd_md (f : Module → Module) : (s.modMd f).md = f s.md := rfl
@[simp] theorem State.modMd_resv (f : Module → Module) : (s.modMd f).resv = s.resv := rfl
@[simp] theorem State.modMd_stores (f : Module → Module) : (s.modMd f).stores = s.stores := rfl
@[simp] theorem State.modMd_owedBumps (f : Module → Module) : (s.modMd f).owedBumps = s.owedBumps := rfl
@[simp] theorem State.modMd_owedLeaves (f : Module → Module) : (s.modMd f).owedLeaves = s.owedLeaves := rfl
@[simp] theorem State.modMd_msgs (f : Module → Module) : (s.modMd f).msgs = s.msgs := rfl
@[simp] theorem State.modMd_colls (f : Module → Module) : (s.modMd f).colls = s.colls := rfl
@[simp] theorem State.modMd_tagUses (f : Module → Module) : (s.modMd f).tagUses = s.tagUses := rfl
@[simp] theorem State.modMd_agenda (f : Module → Module) : (s.modMd f).agenda = s.agenda := rfl
@[simp] theorem State.modMd_ev (f : Module → Module) : (s.modMd f).ev = s.ev := rfl
@[simp] theorem State.modMd_stalled (f : Module → Module) : (s.modMd f).stalled = s.stalled := rfl
@[simp] theorem State.modMd_defer (f : Module → Module) : (s.modMd f).defer = s.defer := rfl
@[simp] theorem State.modMd_clock (f : Module → Module) : (s.modMd f).clock = s.clock := rfl
@[simp] theorem State.modMd_fresh (f : Module → Module) : (s.modMd f).fresh = s.fresh := rfl

/-! ## setGran -/

@[simp] theorem State.setGran_cur (g i : Nat) (x : Gran) : (s.setGran g i x).cur = s.cur := rfl
@[simp] theorem State.setGran_others (g i : Nat) (x : Gran) : (s.setGran g i x).others = s.others := rfl
@[simp] theorem State.setGran_mem (g i : Nat) (x : Gran) : (s.setGran g i x).mem = s.mem := rfl
@[simp] theorem State.setGran_poison (g i : Nat) (x : Gran) : (s.setGran g i x).poison = s.poison := rfl
@[simp] theorem State.setGran_tiles (g i : Nat) (x : Gran) : (s.setGran g i x).tiles = tmod {} s.tiles g (fun (t : Tile) => { t with gran := tset {} t.gran i x }) := rfl
@[simp] theorem State.setGran_dies (g i : Nat) (x : Gran) : (s.setGran g i x).dies = s.dies := rfl
@[simp] theorem State.setGran_vis (g i : Nat) (x : Gran) : (s.setGran g i x).vis = s.vis := rfl
@[simp] theorem State.setGran_md (g i : Nat) (x : Gran) : (s.setGran g i x).md = s.md := rfl
@[simp] theorem State.setGran_resv (g i : Nat) (x : Gran) : (s.setGran g i x).resv = s.resv := rfl
@[simp] theorem State.setGran_stores (g i : Nat) (x : Gran) : (s.setGran g i x).stores = s.stores := rfl
@[simp] theorem State.setGran_owedBumps (g i : Nat) (x : Gran) : (s.setGran g i x).owedBumps = s.owedBumps := rfl
@[simp] theorem State.setGran_owedLeaves (g i : Nat) (x : Gran) : (s.setGran g i x).owedLeaves = s.owedLeaves := rfl
@[simp] theorem State.setGran_msgs (g i : Nat) (x : Gran) : (s.setGran g i x).msgs = s.msgs := rfl
@[simp] theorem State.setGran_colls (g i : Nat) (x : Gran) : (s.setGran g i x).colls = s.colls := rfl
@[simp] theorem State.setGran_tagUses (g i : Nat) (x : Gran) : (s.setGran g i x).tagUses = s.tagUses := rfl
@[simp] theorem State.setGran_agenda (g i : Nat) (x : Gran) : (s.setGran g i x).agenda = s.agenda := rfl
@[simp] theorem State.setGran_ev (g i : Nat) (x : Gran) : (s.setGran g i x).ev = s.ev := rfl
@[simp] theorem State.setGran_stalled (g i : Nat) (x : Gran) : (s.setGran g i x).stalled = s.stalled := rfl
@[simp] theorem State.setGran_defer (g i : Nat) (x : Gran) : (s.setGran g i x).defer = s.defer := rfl
@[simp] theorem State.setGran_clock (g i : Nat) (x : Gran) : (s.setGran g i x).clock = s.clock := rfl
@[simp] theorem State.setGran_fresh (g i : Nat) (x : Gran) : (s.setGran g i x).fresh = s.fresh := rfl

/-! ## modCb -/

@[simp] theorem State.modCb_cur (g h : Nat) (f : CBuf → CBuf) : (s.modCb g h f).cur = s.cur := rfl
@[simp] theorem State.modCb_others (g h : Nat) (f : CBuf → CBuf) : (s.modCb g h f).others = s.others := rfl
@[simp] theorem State.modCb_mem (g h : Nat) (f : CBuf → CBuf) : (s.modCb g h f).mem = s.mem := rfl
@[simp] theorem State.modCb_poison (g h : Nat) (f : CBuf → CBuf) : (s.modCb g h f).poison = s.poison := rfl
@[simp] theorem State.modCb_tiles (g h : Nat) (f : CBuf → CBuf) : (s.modCb g h f).tiles = tmod {} s.tiles g (fun (t : Tile) => { t with cb := tmod {} t.cb h f }) := rfl
@[simp] theorem State.modCb_dies (g h : Nat) (f : CBuf → CBuf) : (s.modCb g h f).dies = s.dies := rfl
@[simp] theorem State.modCb_vis (g h : Nat) (f : CBuf → CBuf) : (s.modCb g h f).vis = s.vis := rfl
@[simp] theorem State.modCb_md (g h : Nat) (f : CBuf → CBuf) : (s.modCb g h f).md = s.md := rfl
@[simp] theorem State.modCb_resv (g h : Nat) (f : CBuf → CBuf) : (s.modCb g h f).resv = s.resv := rfl
@[simp] theorem State.modCb_stores (g h : Nat) (f : CBuf → CBuf) : (s.modCb g h f).stores = s.stores := rfl
@[simp] theorem State.modCb_owedBumps (g h : Nat) (f : CBuf → CBuf) : (s.modCb g h f).owedBumps = s.owedBumps := rfl
@[simp] theorem State.modCb_owedLeaves (g h : Nat) (f : CBuf → CBuf) : (s.modCb g h f).owedLeaves = s.owedLeaves := rfl
@[simp] theorem State.modCb_msgs (g h : Nat) (f : CBuf → CBuf) : (s.modCb g h f).msgs = s.msgs := rfl
@[simp] theorem State.modCb_colls (g h : Nat) (f : CBuf → CBuf) : (s.modCb g h f).colls = s.colls := rfl
@[simp] theorem State.modCb_tagUses (g h : Nat) (f : CBuf → CBuf) : (s.modCb g h f).tagUses = s.tagUses := rfl
@[simp] theorem State.modCb_agenda (g h : Nat) (f : CBuf → CBuf) : (s.modCb g h f).agenda = s.agenda := rfl
@[simp] theorem State.modCb_ev (g h : Nat) (f : CBuf → CBuf) : (s.modCb g h f).ev = s.ev := rfl
@[simp] theorem State.modCb_stalled (g h : Nat) (f : CBuf → CBuf) : (s.modCb g h f).stalled = s.stalled := rfl
@[simp] theorem State.modCb_defer (g h : Nat) (f : CBuf → CBuf) : (s.modCb g h f).defer = s.defer := rfl
@[simp] theorem State.modCb_clock (g h : Nat) (f : CBuf → CBuf) : (s.modCb g h f).clock = s.clock := rfl
@[simp] theorem State.modCb_fresh (g h : Nat) (f : CBuf → CBuf) : (s.modCb g h f).fresh = s.fresh := rfl

/-! ## modWin -/

@[simp] theorem State.modWin_cur (g h : Nat) (f : Win → Win) : (s.modWin g h f).cur = s.cur := rfl
@[simp] theorem State.modWin_others (g h : Nat) (f : Win → Win) : (s.modWin g h f).others = s.others := rfl
@[simp] theorem State.modWin_mem (g h : Nat) (f : Win → Win) : (s.modWin g h f).mem = s.mem := rfl
@[simp] theorem State.modWin_poison (g h : Nat) (f : Win → Win) : (s.modWin g h f).poison = s.poison := rfl
@[simp] theorem State.modWin_tiles (g h : Nat) (f : Win → Win) : (s.modWin g h f).tiles = tmod {} s.tiles g (fun (t : Tile) => { t with win := tmod {} t.win h f }) := rfl
@[simp] theorem State.modWin_dies (g h : Nat) (f : Win → Win) : (s.modWin g h f).dies = s.dies := rfl
@[simp] theorem State.modWin_vis (g h : Nat) (f : Win → Win) : (s.modWin g h f).vis = s.vis := rfl
@[simp] theorem State.modWin_md (g h : Nat) (f : Win → Win) : (s.modWin g h f).md = s.md := rfl
@[simp] theorem State.modWin_resv (g h : Nat) (f : Win → Win) : (s.modWin g h f).resv = s.resv := rfl
@[simp] theorem State.modWin_stores (g h : Nat) (f : Win → Win) : (s.modWin g h f).stores = s.stores := rfl
@[simp] theorem State.modWin_owedBumps (g h : Nat) (f : Win → Win) : (s.modWin g h f).owedBumps = s.owedBumps := rfl
@[simp] theorem State.modWin_owedLeaves (g h : Nat) (f : Win → Win) : (s.modWin g h f).owedLeaves = s.owedLeaves := rfl
@[simp] theorem State.modWin_msgs (g h : Nat) (f : Win → Win) : (s.modWin g h f).msgs = s.msgs := rfl
@[simp] theorem State.modWin_colls (g h : Nat) (f : Win → Win) : (s.modWin g h f).colls = s.colls := rfl
@[simp] theorem State.modWin_tagUses (g h : Nat) (f : Win → Win) : (s.modWin g h f).tagUses = s.tagUses := rfl
@[simp] theorem State.modWin_agenda (g h : Nat) (f : Win → Win) : (s.modWin g h f).agenda = s.agenda := rfl
@[simp] theorem State.modWin_ev (g h : Nat) (f : Win → Win) : (s.modWin g h f).ev = s.ev := rfl
@[simp] theorem State.modWin_stalled (g h : Nat) (f : Win → Win) : (s.modWin g h f).stalled = s.stalled := rfl
@[simp] theorem State.modWin_defer (g h : Nat) (f : Win → Win) : (s.modWin g h f).defer = s.defer := rfl
@[simp] theorem State.modWin_clock (g h : Nat) (f : Win → Win) : (s.modWin g h f).clock = s.clock := rfl
@[simp] theorem State.modWin_fresh (g h : Nat) (f : Win → Win) : (s.modWin g h f).fresh = s.fresh := rfl

/-! ## modBlk -/

@[simp] theorem State.modBlk_cur (g h : Nat) (f : Block → Block) : (s.modBlk g h f).cur = s.cur := rfl
@[simp] theorem State.modBlk_others (g h : Nat) (f : Block → Block) : (s.modBlk g h f).others = s.others := rfl
@[simp] theorem State.modBlk_mem (g h : Nat) (f : Block → Block) : (s.modBlk g h f).mem = s.mem := rfl
@[simp] theorem State.modBlk_poison (g h : Nat) (f : Block → Block) : (s.modBlk g h f).poison = s.poison := rfl
@[simp] theorem State.modBlk_tiles (g h : Nat) (f : Block → Block) : (s.modBlk g h f).tiles = tmod {} s.tiles g (fun (t : Tile) => { t with z := tmod {} t.z h f }) := rfl
@[simp] theorem State.modBlk_dies (g h : Nat) (f : Block → Block) : (s.modBlk g h f).dies = s.dies := rfl
@[simp] theorem State.modBlk_vis (g h : Nat) (f : Block → Block) : (s.modBlk g h f).vis = s.vis := rfl
@[simp] theorem State.modBlk_md (g h : Nat) (f : Block → Block) : (s.modBlk g h f).md = s.md := rfl
@[simp] theorem State.modBlk_resv (g h : Nat) (f : Block → Block) : (s.modBlk g h f).resv = s.resv := rfl
@[simp] theorem State.modBlk_stores (g h : Nat) (f : Block → Block) : (s.modBlk g h f).stores = s.stores := rfl
@[simp] theorem State.modBlk_owedBumps (g h : Nat) (f : Block → Block) : (s.modBlk g h f).owedBumps = s.owedBumps := rfl
@[simp] theorem State.modBlk_owedLeaves (g h : Nat) (f : Block → Block) : (s.modBlk g h f).owedLeaves = s.owedLeaves := rfl
@[simp] theorem State.modBlk_msgs (g h : Nat) (f : Block → Block) : (s.modBlk g h f).msgs = s.msgs := rfl
@[simp] theorem State.modBlk_colls (g h : Nat) (f : Block → Block) : (s.modBlk g h f).colls = s.colls := rfl
@[simp] theorem State.modBlk_tagUses (g h : Nat) (f : Block → Block) : (s.modBlk g h f).tagUses = s.tagUses := rfl
@[simp] theorem State.modBlk_agenda (g h : Nat) (f : Block → Block) : (s.modBlk g h f).agenda = s.agenda := rfl
@[simp] theorem State.modBlk_ev (g h : Nat) (f : Block → Block) : (s.modBlk g h f).ev = s.ev := rfl
@[simp] theorem State.modBlk_stalled (g h : Nat) (f : Block → Block) : (s.modBlk g h f).stalled = s.stalled := rfl
@[simp] theorem State.modBlk_defer (g h : Nat) (f : Block → Block) : (s.modBlk g h f).defer = s.defer := rfl
@[simp] theorem State.modBlk_clock (g h : Nat) (f : Block → Block) : (s.modBlk g h f).clock = s.clock := rfl
@[simp] theorem State.modBlk_fresh (g h : Nat) (f : Block → Block) : (s.modBlk g h f).fresh = s.fresh := rfl

/-! ## put -/

@[simp] theorem State.put_cur (k : Nat) (bs : List Byte) (m : List Bool) : (s.put k bs m).cur = s.cur := rfl
@[simp] theorem State.put_others (k : Nat) (bs : List Byte) (m : List Bool) : (s.put k bs m).others = s.others := rfl
@[simp] theorem State.put_mem (k : Nat) (bs : List Byte) (m : List Bool) : (s.put k bs m).mem = writeCells s.mem k bs := rfl
@[simp] theorem State.put_poison (k : Nat) (bs : List Byte) (m : List Bool) : (s.put k bs m).poison = markCells s.poison k m ((k % 8 + bs.length + 7) / 8) := rfl
@[simp] theorem State.put_tiles (k : Nat) (bs : List Byte) (m : List Bool) : (s.put k bs m).tiles = s.tiles := rfl
@[simp] theorem State.put_dies (k : Nat) (bs : List Byte) (m : List Bool) : (s.put k bs m).dies = s.dies := rfl
@[simp] theorem State.put_vis (k : Nat) (bs : List Byte) (m : List Bool) : (s.put k bs m).vis = s.vis := rfl
@[simp] theorem State.put_md (k : Nat) (bs : List Byte) (m : List Bool) : (s.put k bs m).md = s.md := rfl
@[simp] theorem State.put_resv (k : Nat) (bs : List Byte) (m : List Bool) : (s.put k bs m).resv = s.resv := rfl
@[simp] theorem State.put_stores (k : Nat) (bs : List Byte) (m : List Bool) : (s.put k bs m).stores = s.stores := rfl
@[simp] theorem State.put_owedBumps (k : Nat) (bs : List Byte) (m : List Bool) : (s.put k bs m).owedBumps = s.owedBumps := rfl
@[simp] theorem State.put_owedLeaves (k : Nat) (bs : List Byte) (m : List Bool) : (s.put k bs m).owedLeaves = s.owedLeaves := rfl
@[simp] theorem State.put_msgs (k : Nat) (bs : List Byte) (m : List Bool) : (s.put k bs m).msgs = s.msgs := rfl
@[simp] theorem State.put_colls (k : Nat) (bs : List Byte) (m : List Bool) : (s.put k bs m).colls = s.colls := rfl
@[simp] theorem State.put_tagUses (k : Nat) (bs : List Byte) (m : List Bool) : (s.put k bs m).tagUses = s.tagUses := rfl
@[simp] theorem State.put_agenda (k : Nat) (bs : List Byte) (m : List Bool) : (s.put k bs m).agenda = s.agenda := rfl
@[simp] theorem State.put_ev (k : Nat) (bs : List Byte) (m : List Bool) : (s.put k bs m).ev = s.ev := rfl
@[simp] theorem State.put_stalled (k : Nat) (bs : List Byte) (m : List Bool) : (s.put k bs m).stalled = s.stalled := rfl
@[simp] theorem State.put_defer (k : Nat) (bs : List Byte) (m : List Bool) : (s.put k bs m).defer = s.defer := rfl
@[simp] theorem State.put_clock (k : Nat) (bs : List Byte) (m : List Bool) : (s.put k bs m).clock = s.clock := rfl
@[simp] theorem State.put_fresh (k : Nat) (bs : List Byte) (m : List Bool) : (s.put k bs m).fresh = s.fresh := rfl

/-! ## chargeCur -/

@[simp] theorem State.chargeCur_cur (e : List DWord) : (s.chargeCur e).cur = s.cur.charge e := rfl
@[simp] theorem State.chargeCur_others (e : List DWord) : (s.chargeCur e).others = s.others := rfl
@[simp] theorem State.chargeCur_mem (e : List DWord) : (s.chargeCur e).mem = s.mem := rfl
@[simp] theorem State.chargeCur_poison (e : List DWord) : (s.chargeCur e).poison = s.poison := rfl
@[simp] theorem State.chargeCur_tiles (e : List DWord) : (s.chargeCur e).tiles = s.tiles := rfl
@[simp] theorem State.chargeCur_dies (e : List DWord) : (s.chargeCur e).dies = s.dies := rfl
@[simp] theorem State.chargeCur_vis (e : List DWord) : (s.chargeCur e).vis = s.vis := rfl
@[simp] theorem State.chargeCur_md (e : List DWord) : (s.chargeCur e).md = s.md := rfl
@[simp] theorem State.chargeCur_resv (e : List DWord) : (s.chargeCur e).resv = s.resv := rfl
@[simp] theorem State.chargeCur_stores (e : List DWord) : (s.chargeCur e).stores = s.stores := rfl
@[simp] theorem State.chargeCur_owedBumps (e : List DWord) : (s.chargeCur e).owedBumps = s.owedBumps := rfl
@[simp] theorem State.chargeCur_owedLeaves (e : List DWord) : (s.chargeCur e).owedLeaves = s.owedLeaves := rfl
@[simp] theorem State.chargeCur_msgs (e : List DWord) : (s.chargeCur e).msgs = s.msgs := rfl
@[simp] theorem State.chargeCur_colls (e : List DWord) : (s.chargeCur e).colls = s.colls := rfl
@[simp] theorem State.chargeCur_tagUses (e : List DWord) : (s.chargeCur e).tagUses = s.tagUses := rfl
@[simp] theorem State.chargeCur_agenda (e : List DWord) : (s.chargeCur e).agenda = s.agenda := rfl
@[simp] theorem State.chargeCur_ev (e : List DWord) : (s.chargeCur e).ev = s.ev := rfl
@[simp] theorem State.chargeCur_stalled (e : List DWord) : (s.chargeCur e).stalled = s.stalled := rfl
@[simp] theorem State.chargeCur_defer (e : List DWord) : (s.chargeCur e).defer = s.defer := rfl
@[simp] theorem State.chargeCur_clock (e : List DWord) : (s.chargeCur e).clock = s.clock := rfl
@[simp] theorem State.chargeCur_fresh (e : List DWord) : (s.chargeCur e).fresh = s.fresh := rfl

/-! ## advance -/

@[simp] theorem State.advance_cur (n : Nat) : (s.advance n).cur = { s.cur with pc := s.cur.pc + BitVec.ofNat 56 n } := rfl
@[simp] theorem State.advance_others (n : Nat) : (s.advance n).others = s.others := rfl
@[simp] theorem State.advance_mem (n : Nat) : (s.advance n).mem = s.mem := rfl
@[simp] theorem State.advance_poison (n : Nat) : (s.advance n).poison = s.poison := rfl
@[simp] theorem State.advance_tiles (n : Nat) : (s.advance n).tiles = s.tiles := rfl
@[simp] theorem State.advance_dies (n : Nat) : (s.advance n).dies = s.dies := rfl
@[simp] theorem State.advance_vis (n : Nat) : (s.advance n).vis = s.vis := rfl
@[simp] theorem State.advance_md (n : Nat) : (s.advance n).md = s.md := rfl
@[simp] theorem State.advance_resv (n : Nat) : (s.advance n).resv = s.resv := rfl
@[simp] theorem State.advance_stores (n : Nat) : (s.advance n).stores = s.stores := rfl
@[simp] theorem State.advance_owedBumps (n : Nat) : (s.advance n).owedBumps = s.owedBumps := rfl
@[simp] theorem State.advance_owedLeaves (n : Nat) : (s.advance n).owedLeaves = s.owedLeaves := rfl
@[simp] theorem State.advance_msgs (n : Nat) : (s.advance n).msgs = s.msgs := rfl
@[simp] theorem State.advance_colls (n : Nat) : (s.advance n).colls = s.colls := rfl
@[simp] theorem State.advance_tagUses (n : Nat) : (s.advance n).tagUses = s.tagUses := rfl
@[simp] theorem State.advance_agenda (n : Nat) : (s.advance n).agenda = s.agenda := rfl
@[simp] theorem State.advance_ev (n : Nat) : (s.advance n).ev = s.ev := rfl
@[simp] theorem State.advance_stalled (n : Nat) : (s.advance n).stalled = false := rfl
@[simp] theorem State.advance_defer (n : Nat) : (s.advance n).defer = s.defer := rfl
@[simp] theorem State.advance_clock (n : Nat) : (s.advance n).clock = s.clock := rfl
@[simp] theorem State.advance_fresh (n : Nat) : (s.advance n).fresh = s.fresh := rfl

/-! ## tick -/

@[simp] theorem State.tick_cur : (s.tick).cur = s.cur := rfl
@[simp] theorem State.tick_others : (s.tick).others = s.others := rfl
@[simp] theorem State.tick_mem : (s.tick).mem = s.mem := rfl
@[simp] theorem State.tick_poison : (s.tick).poison = s.poison := rfl
@[simp] theorem State.tick_tiles : (s.tick).tiles = s.tiles := rfl
@[simp] theorem State.tick_dies : (s.tick).dies = s.dies := rfl
@[simp] theorem State.tick_vis : (s.tick).vis = s.vis := rfl
@[simp] theorem State.tick_md : (s.tick).md = s.md := rfl
@[simp] theorem State.tick_resv : (s.tick).resv = s.resv := rfl
@[simp] theorem State.tick_stores : (s.tick).stores = s.stores := rfl
@[simp] theorem State.tick_owedBumps : (s.tick).owedBumps = s.owedBumps := rfl
@[simp] theorem State.tick_owedLeaves : (s.tick).owedLeaves = s.owedLeaves := rfl
@[simp] theorem State.tick_msgs : (s.tick).msgs = s.msgs := rfl
@[simp] theorem State.tick_colls : (s.tick).colls = s.colls := rfl
@[simp] theorem State.tick_tagUses : (s.tick).tagUses = s.tagUses := rfl
@[simp] theorem State.tick_agenda : (s.tick).agenda = s.agenda := rfl
@[simp] theorem State.tick_ev : (s.tick).ev = s.ev := rfl
@[simp] theorem State.tick_stalled : (s.tick).stalled = s.stalled := rfl
@[simp] theorem State.tick_defer : (s.tick).defer = s.defer := rfl
@[simp] theorem State.tick_clock : (s.tick).clock = s.clock := rfl
@[simp] theorem State.tick_fresh : (s.tick).fresh = s.fresh + 1 := rfl

/-! ## setG -/

@[simp] theorem State.setG_cur (d : BitVec 5) (x : RegV) : (s.setG d x).cur = s.cur.wrG d x := rfl
@[simp] theorem State.setG_others (d : BitVec 5) (x : RegV) : (s.setG d x).others = s.others := rfl
@[simp] theorem State.setG_mem (d : BitVec 5) (x : RegV) : (s.setG d x).mem = s.mem := rfl
@[simp] theorem State.setG_poison (d : BitVec 5) (x : RegV) : (s.setG d x).poison = s.poison := rfl
@[simp] theorem State.setG_tiles (d : BitVec 5) (x : RegV) : (s.setG d x).tiles = s.tiles := rfl
@[simp] theorem State.setG_dies (d : BitVec 5) (x : RegV) : (s.setG d x).dies = s.dies := rfl
@[simp] theorem State.setG_vis (d : BitVec 5) (x : RegV) : (s.setG d x).vis = s.vis := rfl
@[simp] theorem State.setG_md (d : BitVec 5) (x : RegV) : (s.setG d x).md = s.md := rfl
@[simp] theorem State.setG_resv (d : BitVec 5) (x : RegV) : (s.setG d x).resv = s.resv := rfl
@[simp] theorem State.setG_stores (d : BitVec 5) (x : RegV) : (s.setG d x).stores = s.stores := rfl
@[simp] theorem State.setG_owedBumps (d : BitVec 5) (x : RegV) : (s.setG d x).owedBumps = s.owedBumps := rfl
@[simp] theorem State.setG_owedLeaves (d : BitVec 5) (x : RegV) : (s.setG d x).owedLeaves = s.owedLeaves := rfl
@[simp] theorem State.setG_msgs (d : BitVec 5) (x : RegV) : (s.setG d x).msgs = s.msgs := rfl
@[simp] theorem State.setG_colls (d : BitVec 5) (x : RegV) : (s.setG d x).colls = s.colls := rfl
@[simp] theorem State.setG_tagUses (d : BitVec 5) (x : RegV) : (s.setG d x).tagUses = s.tagUses := rfl
@[simp] theorem State.setG_agenda (d : BitVec 5) (x : RegV) : (s.setG d x).agenda = s.agenda := rfl
@[simp] theorem State.setG_ev (d : BitVec 5) (x : RegV) : (s.setG d x).ev = s.ev := rfl
@[simp] theorem State.setG_stalled (d : BitVec 5) (x : RegV) : (s.setG d x).stalled = s.stalled := rfl
@[simp] theorem State.setG_defer (d : BitVec 5) (x : RegV) : (s.setG d x).defer = s.defer := rfl
@[simp] theorem State.setG_clock (d : BitVec 5) (x : RegV) : (s.setG d x).clock = s.clock := rfl
@[simp] theorem State.setG_fresh (d : BitVec 5) (x : RegV) : (s.setG d x).fresh = s.fresh := rfl

/-! ## setOwnLine -/

@[simp] theorem State.setOwnLine_cur (m a : Nat) (l : DLine) : (s.setOwnLine m a l).cur = s.cur := rfl
@[simp] theorem State.setOwnLine_others (m a : Nat) (l : DLine) : (s.setOwnLine m a l).others = s.others := rfl
@[simp] theorem State.setOwnLine_mem (m a : Nat) (l : DLine) : (s.setOwnLine m a l).mem = s.mem := rfl
@[simp] theorem State.setOwnLine_poison (m a : Nat) (l : DLine) : (s.setOwnLine m a l).poison = s.poison := rfl
@[simp] theorem State.setOwnLine_tiles (m a : Nat) (l : DLine) : (s.setOwnLine m a l).tiles = s.tiles := rfl
@[simp] theorem State.setOwnLine_dies (m a : Nat) (l : DLine) : (s.setOwnLine m a l).dies = s.dies := rfl
@[simp] theorem State.setOwnLine_vis (m a : Nat) (l : DLine) : (s.setOwnLine m a l).vis = s.vis := rfl
@[simp] theorem State.setOwnLine_md (m a : Nat) (l : DLine) : (s.setOwnLine m a l).md = { s.md with dcache := tset {} s.md.dcache (lineKey m a) l } := rfl
@[simp] theorem State.setOwnLine_resv (m a : Nat) (l : DLine) : (s.setOwnLine m a l).resv = s.resv := rfl
@[simp] theorem State.setOwnLine_stores (m a : Nat) (l : DLine) : (s.setOwnLine m a l).stores = s.stores := rfl
@[simp] theorem State.setOwnLine_owedBumps (m a : Nat) (l : DLine) : (s.setOwnLine m a l).owedBumps = s.owedBumps := rfl
@[simp] theorem State.setOwnLine_owedLeaves (m a : Nat) (l : DLine) : (s.setOwnLine m a l).owedLeaves = s.owedLeaves := rfl
@[simp] theorem State.setOwnLine_msgs (m a : Nat) (l : DLine) : (s.setOwnLine m a l).msgs = s.msgs := rfl
@[simp] theorem State.setOwnLine_colls (m a : Nat) (l : DLine) : (s.setOwnLine m a l).colls = s.colls := rfl
@[simp] theorem State.setOwnLine_tagUses (m a : Nat) (l : DLine) : (s.setOwnLine m a l).tagUses = s.tagUses := rfl
@[simp] theorem State.setOwnLine_agenda (m a : Nat) (l : DLine) : (s.setOwnLine m a l).agenda = s.agenda := rfl
@[simp] theorem State.setOwnLine_ev (m a : Nat) (l : DLine) : (s.setOwnLine m a l).ev = s.ev := rfl
@[simp] theorem State.setOwnLine_stalled (m a : Nat) (l : DLine) : (s.setOwnLine m a l).stalled = s.stalled := rfl
@[simp] theorem State.setOwnLine_defer (m a : Nat) (l : DLine) : (s.setOwnLine m a l).defer = s.defer := rfl
@[simp] theorem State.setOwnLine_clock (m a : Nat) (l : DLine) : (s.setOwnLine m a l).clock = s.clock := rfl
@[simp] theorem State.setOwnLine_fresh (m a : Nat) (l : DLine) : (s.setOwnLine m a l).fresh = s.fresh := rfl

/-! ## modDir -/

@[simp] theorem State.modDir_cur (a : Nat) (f : Dir → Dir) : (s.modDir a f).cur = s.cur := rfl
@[simp] theorem State.modDir_others (a : Nat) (f : Dir → Dir) : (s.modDir a f).others = s.others := rfl
@[simp] theorem State.modDir_mem (a : Nat) (f : Dir → Dir) : (s.modDir a f).mem = s.mem := rfl
@[simp] theorem State.modDir_poison (a : Nat) (f : Dir → Dir) : (s.modDir a f).poison = s.poison := rfl
@[simp] theorem State.modDir_tiles (a : Nat) (f : Dir → Dir) : (s.modDir a f).tiles = s.tiles := rfl
@[simp] theorem State.modDir_dies (a : Nat) (f : Dir → Dir) : (s.modDir a f).dies = s.dies := rfl
@[simp] theorem State.modDir_vis (a : Nat) (f : Dir → Dir) : (s.modDir a f).vis = s.vis := rfl
@[simp] theorem State.modDir_md (a : Nat) (f : Dir → Dir) : (s.modDir a f).md = { s.md with dir := tmod {} s.md.dir (a / 128) f } := rfl
@[simp] theorem State.modDir_resv (a : Nat) (f : Dir → Dir) : (s.modDir a f).resv = s.resv := rfl
@[simp] theorem State.modDir_stores (a : Nat) (f : Dir → Dir) : (s.modDir a f).stores = s.stores := rfl
@[simp] theorem State.modDir_owedBumps (a : Nat) (f : Dir → Dir) : (s.modDir a f).owedBumps = s.owedBumps := rfl
@[simp] theorem State.modDir_owedLeaves (a : Nat) (f : Dir → Dir) : (s.modDir a f).owedLeaves = s.owedLeaves := rfl
@[simp] theorem State.modDir_msgs (a : Nat) (f : Dir → Dir) : (s.modDir a f).msgs = s.msgs := rfl
@[simp] theorem State.modDir_colls (a : Nat) (f : Dir → Dir) : (s.modDir a f).colls = s.colls := rfl
@[simp] theorem State.modDir_tagUses (a : Nat) (f : Dir → Dir) : (s.modDir a f).tagUses = s.tagUses := rfl
@[simp] theorem State.modDir_agenda (a : Nat) (f : Dir → Dir) : (s.modDir a f).agenda = s.agenda := rfl
@[simp] theorem State.modDir_ev (a : Nat) (f : Dir → Dir) : (s.modDir a f).ev = s.ev := rfl
@[simp] theorem State.modDir_stalled (a : Nat) (f : Dir → Dir) : (s.modDir a f).stalled = s.stalled := rfl
@[simp] theorem State.modDir_defer (a : Nat) (f : Dir → Dir) : (s.modDir a f).defer = s.defer := rfl
@[simp] theorem State.modDir_clock (a : Nat) (f : Dir → Dir) : (s.modDir a f).clock = s.clock := rfl
@[simp] theorem State.modDir_fresh (a : Nat) (f : Dir → Dir) : (s.modDir a f).fresh = s.fresh := rfl

/-! ## count -/

@[simp] theorem State.count_cur (a c : Nat) : (s.count a c).cur = s.cur := rfl
@[simp] theorem State.count_others (a c : Nat) : (s.count a c).others = s.others := rfl
@[simp] theorem State.count_mem (a c : Nat) : (s.count a c).mem = s.mem := rfl
@[simp] theorem State.count_poison (a c : Nat) : (s.count a c).poison = s.poison := rfl
@[simp] theorem State.count_tiles (a c : Nat) : (s.count a c).tiles = s.tiles := rfl
@[simp] theorem State.count_dies (a c : Nat) : (s.count a c).dies = s.dies := rfl
@[simp] theorem State.count_vis (a c : Nat) : (s.count a c).vis = s.vis := rfl
@[simp] theorem State.count_md (a c : Nat) : (s.count a c).md = { s.md with counters := tmod 0 s.md.counters (8 * ((a / 128) % 4) + c) (· + 1) } := rfl
@[simp] theorem State.count_resv (a c : Nat) : (s.count a c).resv = s.resv := rfl
@[simp] theorem State.count_stores (a c : Nat) : (s.count a c).stores = s.stores := rfl
@[simp] theorem State.count_owedBumps (a c : Nat) : (s.count a c).owedBumps = s.owedBumps := rfl
@[simp] theorem State.count_owedLeaves (a c : Nat) : (s.count a c).owedLeaves = s.owedLeaves := rfl
@[simp] theorem State.count_msgs (a c : Nat) : (s.count a c).msgs = s.msgs := rfl
@[simp] theorem State.count_colls (a c : Nat) : (s.count a c).colls = s.colls := rfl
@[simp] theorem State.count_tagUses (a c : Nat) : (s.count a c).tagUses = s.tagUses := rfl
@[simp] theorem State.count_agenda (a c : Nat) : (s.count a c).agenda = s.agenda := rfl
@[simp] theorem State.count_ev (a c : Nat) : (s.count a c).ev = s.ev := rfl
@[simp] theorem State.count_stalled (a c : Nat) : (s.count a c).stalled = s.stalled := rfl
@[simp] theorem State.count_defer (a c : Nat) : (s.count a c).defer = s.defer := rfl
@[simp] theorem State.count_clock (a c : Nat) : (s.count a c).clock = s.clock := rfl
@[simp] theorem State.count_fresh (a c : Nat) : (s.count a c).fresh = s.fresh := rfl

/-! ## takeAgain -/

@[simp] theorem State.takeAgain_cur : (s.takeAgain).cur = s.cur.modSch (fun x => { x with again := none }) := rfl
@[simp] theorem State.takeAgain_others : (s.takeAgain).others = s.others := rfl
@[simp] theorem State.takeAgain_mem : (s.takeAgain).mem = s.mem := rfl
@[simp] theorem State.takeAgain_poison : (s.takeAgain).poison = s.poison := rfl
@[simp] theorem State.takeAgain_tiles : (s.takeAgain).tiles = s.tiles := rfl
@[simp] theorem State.takeAgain_dies : (s.takeAgain).dies = s.dies := rfl
@[simp] theorem State.takeAgain_vis : (s.takeAgain).vis = s.vis := rfl
@[simp] theorem State.takeAgain_md : (s.takeAgain).md = s.md := rfl
@[simp] theorem State.takeAgain_resv : (s.takeAgain).resv = s.resv := rfl
@[simp] theorem State.takeAgain_stores : (s.takeAgain).stores = s.stores := rfl
@[simp] theorem State.takeAgain_owedBumps : (s.takeAgain).owedBumps = s.owedBumps := rfl
@[simp] theorem State.takeAgain_owedLeaves : (s.takeAgain).owedLeaves = s.owedLeaves := rfl
@[simp] theorem State.takeAgain_msgs : (s.takeAgain).msgs = s.msgs := rfl
@[simp] theorem State.takeAgain_colls : (s.takeAgain).colls = s.colls := rfl
@[simp] theorem State.takeAgain_tagUses : (s.takeAgain).tagUses = s.tagUses := rfl
@[simp] theorem State.takeAgain_agenda : (s.takeAgain).agenda = s.agenda := rfl
@[simp] theorem State.takeAgain_ev : (s.takeAgain).ev = s.ev := rfl
@[simp] theorem State.takeAgain_stalled : (s.takeAgain).stalled = s.stalled := rfl
@[simp] theorem State.takeAgain_defer : (s.takeAgain).defer = s.defer := rfl
@[simp] theorem State.takeAgain_clock : (s.takeAgain).clock = s.clock := rfl
@[simp] theorem State.takeAgain_fresh : (s.takeAgain).fresh = s.fresh := rfl

/-! ## Parts of a task -/

variable (t : Task)

@[simp] theorem Task.modSt_status (f : Status → Status) : (t.modSt f).status = t.status := rfl
@[simp] theorem Task.modSt_kind (f : Status → Status) : (t.modSt f).kind = t.kind := rfl
@[simp] theorem Task.modSt_vi (f : Status → Status) : (t.modSt f).vi = t.vi := rfl
@[simp] theorem Task.modSt_wp (f : Status → Status) : (t.modSt f).wp = t.wp := rfl
@[simp] theorem Task.modSt_slot (f : Status → Status) : (t.modSt f).slot = t.slot := rfl
@[simp] theorem Task.modSt_pc (f : Status → Status) : (t.modSt f).pc = t.pc := rfl
@[simp] theorem Task.modSt_g (f : Status → Status) : (t.modSt f).g = t.g := rfl
@[simp] theorem Task.modSt_t (f : Status → Status) : (t.modSt f).t = t.t := rfl
@[simp] theorem Task.modSt_m (f : Status → Status) : (t.modSt f).m = t.m := rfl
@[simp] theorem Task.modSt_v (f : Status → Status) : (t.modSt f).v = t.v := rfl
@[simp] theorem Task.modSt_box (f : Status → Status) : (t.modSt f).box = t.box := rfl
@[simp] theorem Task.modSt_scope (f : Status → Status) : (t.modSt f).scope = t.scope := rfl
@[simp] theorem Task.modSt_st (f : Status → Status) : (t.modSt f).st = f t.st := rfl
@[simp] theorem Task.modSt_mv (f : Status → Status) : (t.modSt f).mv = t.mv := rfl
@[simp] theorem Task.modSt_hw (f : Status → Status) : (t.modSt f).hw = t.hw := rfl
@[simp] theorem Task.modSt_mx (f : Status → Status) : (t.modSt f).mx = t.mx := rfl
@[simp] theorem Task.modSt_sch (f : Status → Status) : (t.modSt f).sch = t.sch := rfl
@[simp] theorem Task.modSt_red (f : Status → Status) : (t.modSt f).red = t.red := rfl
@[simp] theorem Task.modSt_snaps (f : Status → Status) : (t.modSt f).snaps = t.snaps := rfl
@[simp] theorem Task.modSt_absentLines (f : Status → Status) : (t.modSt f).absentLines = t.absentLines := rfl
@[simp] theorem Task.modSt_twin (f : Status → Status) : (t.modSt f).twin = t.twin := rfl

@[simp] theorem Task.modHw_status (f : HwArea → HwArea) : (t.modHw f).status = t.status := rfl
@[simp] theorem Task.modHw_kind (f : HwArea → HwArea) : (t.modHw f).kind = t.kind := rfl
@[simp] theorem Task.modHw_vi (f : HwArea → HwArea) : (t.modHw f).vi = t.vi := rfl
@[simp] theorem Task.modHw_wp (f : HwArea → HwArea) : (t.modHw f).wp = t.wp := rfl
@[simp] theorem Task.modHw_slot (f : HwArea → HwArea) : (t.modHw f).slot = t.slot := rfl
@[simp] theorem Task.modHw_pc (f : HwArea → HwArea) : (t.modHw f).pc = t.pc := rfl
@[simp] theorem Task.modHw_g (f : HwArea → HwArea) : (t.modHw f).g = t.g := rfl
@[simp] theorem Task.modHw_t (f : HwArea → HwArea) : (t.modHw f).t = t.t := rfl
@[simp] theorem Task.modHw_m (f : HwArea → HwArea) : (t.modHw f).m = t.m := rfl
@[simp] theorem Task.modHw_v (f : HwArea → HwArea) : (t.modHw f).v = t.v := rfl
@[simp] theorem Task.modHw_box (f : HwArea → HwArea) : (t.modHw f).box = t.box := rfl
@[simp] theorem Task.modHw_scope (f : HwArea → HwArea) : (t.modHw f).scope = t.scope := rfl
@[simp] theorem Task.modHw_st (f : HwArea → HwArea) : (t.modHw f).st = t.st := rfl
@[simp] theorem Task.modHw_mv (f : HwArea → HwArea) : (t.modHw f).mv = t.mv := rfl
@[simp] theorem Task.modHw_hw (f : HwArea → HwArea) : (t.modHw f).hw = f t.hw := rfl
@[simp] theorem Task.modHw_mx (f : HwArea → HwArea) : (t.modHw f).mx = t.mx := rfl
@[simp] theorem Task.modHw_sch (f : HwArea → HwArea) : (t.modHw f).sch = t.sch := rfl
@[simp] theorem Task.modHw_red (f : HwArea → HwArea) : (t.modHw f).red = t.red := rfl
@[simp] theorem Task.modHw_snaps (f : HwArea → HwArea) : (t.modHw f).snaps = t.snaps := rfl
@[simp] theorem Task.modHw_absentLines (f : HwArea → HwArea) : (t.modHw f).absentLines = t.absentLines := rfl
@[simp] theorem Task.modHw_twin (f : HwArea → HwArea) : (t.modHw f).twin = t.twin := rfl

@[simp] theorem Task.modSch_status (f : Sched → Sched) : (t.modSch f).status = t.status := rfl
@[simp] theorem Task.modSch_kind (f : Sched → Sched) : (t.modSch f).kind = t.kind := rfl
@[simp] theorem Task.modSch_vi (f : Sched → Sched) : (t.modSch f).vi = t.vi := rfl
@[simp] theorem Task.modSch_wp (f : Sched → Sched) : (t.modSch f).wp = t.wp := rfl
@[simp] theorem Task.modSch_slot (f : Sched → Sched) : (t.modSch f).slot = t.slot := rfl
@[simp] theorem Task.modSch_pc (f : Sched → Sched) : (t.modSch f).pc = t.pc := rfl
@[simp] theorem Task.modSch_g (f : Sched → Sched) : (t.modSch f).g = t.g := rfl
@[simp] theorem Task.modSch_t (f : Sched → Sched) : (t.modSch f).t = t.t := rfl
@[simp] theorem Task.modSch_m (f : Sched → Sched) : (t.modSch f).m = t.m := rfl
@[simp] theorem Task.modSch_v (f : Sched → Sched) : (t.modSch f).v = t.v := rfl
@[simp] theorem Task.modSch_box (f : Sched → Sched) : (t.modSch f).box = t.box := rfl
@[simp] theorem Task.modSch_scope (f : Sched → Sched) : (t.modSch f).scope = t.scope := rfl
@[simp] theorem Task.modSch_st (f : Sched → Sched) : (t.modSch f).st = t.st := rfl
@[simp] theorem Task.modSch_mv (f : Sched → Sched) : (t.modSch f).mv = t.mv := rfl
@[simp] theorem Task.modSch_hw (f : Sched → Sched) : (t.modSch f).hw = t.hw := rfl
@[simp] theorem Task.modSch_mx (f : Sched → Sched) : (t.modSch f).mx = t.mx := rfl
@[simp] theorem Task.modSch_sch (f : Sched → Sched) : (t.modSch f).sch = f t.sch := rfl
@[simp] theorem Task.modSch_red (f : Sched → Sched) : (t.modSch f).red = t.red := rfl
@[simp] theorem Task.modSch_snaps (f : Sched → Sched) : (t.modSch f).snaps = t.snaps := rfl
@[simp] theorem Task.modSch_absentLines (f : Sched → Sched) : (t.modSch f).absentLines = t.absentLines := rfl
@[simp] theorem Task.modSch_twin (f : Sched → Sched) : (t.modSch f).twin = t.twin := rfl

@[simp] theorem Task.setPc_status (x : BitVec 56) : (t.setPc x).status = t.status := rfl
@[simp] theorem Task.setPc_kind (x : BitVec 56) : (t.setPc x).kind = t.kind := rfl
@[simp] theorem Task.setPc_vi (x : BitVec 56) : (t.setPc x).vi = t.vi := rfl
@[simp] theorem Task.setPc_wp (x : BitVec 56) : (t.setPc x).wp = t.wp := rfl
@[simp] theorem Task.setPc_slot (x : BitVec 56) : (t.setPc x).slot = t.slot := rfl
@[simp] theorem Task.setPc_pc (x : BitVec 56) : (t.setPc x).pc = x := rfl
@[simp] theorem Task.setPc_g (x : BitVec 56) : (t.setPc x).g = t.g := rfl
@[simp] theorem Task.setPc_t (x : BitVec 56) : (t.setPc x).t = t.t := rfl
@[simp] theorem Task.setPc_m (x : BitVec 56) : (t.setPc x).m = t.m := rfl
@[simp] theorem Task.setPc_v (x : BitVec 56) : (t.setPc x).v = t.v := rfl
@[simp] theorem Task.setPc_box (x : BitVec 56) : (t.setPc x).box = t.box := rfl
@[simp] theorem Task.setPc_scope (x : BitVec 56) : (t.setPc x).scope = t.scope := rfl
@[simp] theorem Task.setPc_st (x : BitVec 56) : (t.setPc x).st = t.st := rfl
@[simp] theorem Task.setPc_mv (x : BitVec 56) : (t.setPc x).mv = t.mv := rfl
@[simp] theorem Task.setPc_hw (x : BitVec 56) : (t.setPc x).hw = t.hw := rfl
@[simp] theorem Task.setPc_mx (x : BitVec 56) : (t.setPc x).mx = t.mx := rfl
@[simp] theorem Task.setPc_sch (x : BitVec 56) : (t.setPc x).sch = t.sch := rfl
@[simp] theorem Task.setPc_red (x : BitVec 56) : (t.setPc x).red = t.red := rfl
@[simp] theorem Task.setPc_snaps (x : BitVec 56) : (t.setPc x).snaps = t.snaps := rfl
@[simp] theorem Task.setPc_absentLines (x : BitVec 56) : (t.setPc x).absentLines = t.absentLines := rfl

@[simp] theorem Task.charge_status (e : List DWord) : (t.charge e).status = t.status := by rw [Task.charge]; split <;> rfl
@[simp] theorem Task.charge_kind (e : List DWord) : (t.charge e).kind = t.kind := by rw [Task.charge]; split <;> rfl
@[simp] theorem Task.charge_vi (e : List DWord) : (t.charge e).vi = t.vi := by rw [Task.charge]; split <;> rfl
@[simp] theorem Task.charge_wp (e : List DWord) : (t.charge e).wp = t.wp := by rw [Task.charge]; split <;> rfl
@[simp] theorem Task.charge_slot (e : List DWord) : (t.charge e).slot = t.slot := by rw [Task.charge]; split <;> rfl
@[simp] theorem Task.charge_pc (e : List DWord) : (t.charge e).pc = t.pc := by rw [Task.charge]; split <;> rfl
@[simp] theorem Task.charge_g (e : List DWord) : (t.charge e).g = t.g := by rw [Task.charge]; split <;> rfl
@[simp] theorem Task.charge_t (e : List DWord) : (t.charge e).t = t.t := by rw [Task.charge]; split <;> rfl
@[simp] theorem Task.charge_m (e : List DWord) : (t.charge e).m = t.m := by rw [Task.charge]; split <;> rfl
@[simp] theorem Task.charge_v (e : List DWord) : (t.charge e).v = t.v := by rw [Task.charge]; split <;> rfl
@[simp] theorem Task.charge_box (e : List DWord) : (t.charge e).box = t.box := by rw [Task.charge]; split <;> rfl
@[simp] theorem Task.charge_scope (e : List DWord) : (t.charge e).scope = t.scope := by rw [Task.charge]; split <;> rfl
@[simp] theorem Task.charge_mv (e : List DWord) : (t.charge e).mv = t.mv := by rw [Task.charge]; split <;> rfl
@[simp] theorem Task.charge_hw (e : List DWord) : (t.charge e).hw = t.hw := by rw [Task.charge]; split <;> rfl
@[simp] theorem Task.charge_mx (e : List DWord) : (t.charge e).mx = t.mx := by rw [Task.charge]; split <;> rfl
@[simp] theorem Task.charge_red (e : List DWord) : (t.charge e).red = t.red := by rw [Task.charge]; split <;> rfl
@[simp] theorem Task.charge_snaps (e : List DWord) : (t.charge e).snaps = t.snaps := by rw [Task.charge]; split <;> rfl
@[simp] theorem Task.charge_absentLines (e : List DWord) : (t.charge e).absentLines = t.absentLines := by rw [Task.charge]; split <;> rfl
@[simp] theorem Task.charge_twin (e : List DWord) : (t.charge e).twin = t.twin := by rw [Task.charge]; split <;> rfl

end Sys2Proof.Machine
end

