-- ==== Sys2Proof/Laws/Memory.lean ====
section
/-! SUPPORT. Laws of memory: every memory operation keeps the canonical form, a read after a write gives what was written, and a write
leaves every other byte alone. -/

namespace Sys2Proof.Machine

theorem writeCells_wf (m : List Host.Cell) (k : Nat) (bs : List Byte) (h : Memory.wf m = true) : Memory.wf (writeCells m k bs) = true := by
  induction bs generalizing m k with
  | nil => exact h
  | cons b r ih => exact ih _ _ (tableWf_tset m k b h)

theorem put_wf (s : State) (k : Nat) (bs : List Byte) (marks : List Bool) (h : Memory.wf s.mem = true) :
    Memory.wf (s.put k bs marks).mem = true := writeCells_wf _ _ _ h

theorem reset_wf : Memory.wf State.reset.mem = true := rfl

/-- The byte at an address after a run of bytes is written at k. -/
theorem tget_writeCells (m : List Host.Cell) (k : Nat) (bs : List Byte) (a : Nat) :
    tget unlistedByte (writeCells m k bs) a = if h : k ≤ a ∧ a < k + bs.length then bs[a - k]'(by omega) else tget unlistedByte m a := by
  induction bs generalizing m k with
  | nil => rw [dif_neg (by simp)]; rfl
  | cons b r ih =>
    rw [writeCells, ih, tget_tset]
    by_cases h1 : a = k
    · subst h1; simp
    · by_cases h2 : k + 1 ≤ a ∧ a < k + 1 + r.length
      · have h3 : k ≤ a ∧ a < k + (b :: r).length := by simp; omega
        have e : a - k = (a - (k + 1)) + 1 := by omega
        rw [dif_pos h2, dif_pos h3]
        simp only [e, List.getElem_cons_succ]
      · have h3 : ¬(k ≤ a ∧ a < k + (b :: r).length) := by simp; omega
        rw [dif_neg h2, dif_neg h3, if_neg h1]

/-- A byte that a write covers reads as written. -/
theorem byteAt_put_in (s : State) (k : Nat) (bs : List Byte) (marks : List Bool) (i : Nat) (h : i < bs.length) :
    (s.put k bs marks).byteAt (k + i) = bs[i] := by
  have h2 : k ≤ k + i ∧ k + i < k + bs.length := by omega
  simp only [State.byteAt, State.put_mem, tget_writeCells, dif_pos h2]
  congr 1; omega

/-- A byte outside a write reads as before. -/
theorem byteAt_put_out (s : State) (k : Nat) (bs : List Byte) (marks : List Bool) (a : Nat) (h : a < k ∨ k + bs.length ≤ a) :
    (s.put k bs marks).byteAt a = s.byteAt a := by
  have h2 : ¬(k ≤ a ∧ a < k + bs.length) := by omega
  simp only [State.byteAt, State.put_mem, tget_writeCells, dif_neg h2]

/-- A run of bytes reads as it was written. -/
theorem fetch_put (s : State) (k : Nat) (bs : List Byte) (marks : List Bool) :
    ((s.put k bs marks).fetch k bs.length).map (·.1) = bs := by
  apply List.ext_getElem
  · simp [State.fetch]
  · intro i h1 h2
    simp only [State.fetch, List.map_map, List.getElem_map, List.getElem_range, Function.comp]
    exact byteAt_put_in s k bs marks i h2

theorem sameMemory_of_eq {s t : State} (h1 : t.mem = s.mem) (h2 : t.poison = s.poison) : SameMemory s t :=
  fun k => ⟨by simp [State.byteAt, h1], by simp [State.marked, h2]⟩

theorem SameMemory.refl (s : State) : SameMemory s s := fun _ => ⟨rfl, rfl⟩

/-! ## Operations that write memory -/

theorem sramWrite1_wf (s : State) (ag vd gt : Nat) (own : List (Nat × Nat)) (off : Nat) (bs : List Byte) (marks : List Bool)
    (h : Memory.wf s.mem = true) : Memory.wf (s.sramWrite1 ag vd gt own off bs marks).s.mem = true := by
  unfold State.sramWrite1
  split
  · exact h
  · dsimp only
    split
    · rw [State.setGran_mem]; exact put_wf _ _ _ _ (put_wf _ _ _ _ h)
    · split
      · exact put_wf _ _ _ _ h
      · exact h

/-- A fold keeps what each of its steps keeps. -/
theorem foldl_keeps {α β : Type} (p : β → Prop) (f : β → α → β) (l : List α) (b : β) (hb : p b) (hf : ∀ b a, p b → p (f b a)) :
    p (l.foldl f b) := by
  induction l generalizing b with
  | nil => exact hb
  | cons a r ih => exact ih _ (hf b a hb)

theorem sramWrite_wf (s : State) (ag vd gt : Nat) (own : List (Nat × Nat)) (off : Nat) (bs : List Byte) (marks : List Bool)
    (h : Memory.wf s.mem = true) : Memory.wf (s.sramWrite ag vd gt own off bs marks).s.mem = true :=
  foldl_keeps (fun (w : Wr) => Memory.wf w.s.mem = true) _ _ _ h (fun _ _ hw => sramWrite1_wf _ _ _ _ _ _ _ _ hw)

theorem parity_mem (s : State) (mma req : Nat) (word : Option DWord) (old new : Nat) : (s.parity mma req word old new).mem = s.mem := rfl
theorem parity_poison (s : State) (mma req : Nat) (word : Option DWord) (old new : Nat) : (s.parity mma req word old new).poison = s.poison := rfl

theorem hbmWrite_wf (s : State) (req : Nat) (word : Option DWord) (mma : Nat) (bs : List Byte) (marks : List Bool) (h : Memory.wf s.mem = true) :
    Memory.wf (s.hbmWrite req word mma bs marks).mem = true := by
  unfold State.hbmWrite
  dsimp only
  refine foldl_keeps (fun (x : State) => Memory.wf x.mem = true) _ _ _ ?_ (fun x n hx => ?_)
  · split
    · exact put_wf _ _ _ _ h
    · exact put_wf _ _ _ _ (put_wf _ _ _ _ h)
  · split
    · rw [parity_mem]; exact hx
    · exact hx

/-- A write inside one unprotected frame puts its bytes there and does nothing else. -/
theorem hbmWrite_eq (s : State) (req : Nat) (word : Option DWord) (mma : Nat) (bs : List Byte) (marks : List Bool) (hm : marks.length = bs.length)
    (h : mma % 2 ^ 21 + bs.length ≤ 2 ^ 21) (hk : s.frameKind (mma / 2 ^ 21) ≠ 1) :
    s.hbmWrite req word mma bs marks = s.put (s.hbmKey mma) bs marks := by
  have h1 : bs.length ≤ 2 ^ 21 - mma % 2 ^ 21 := by omega
  have h2 : marks.length ≤ 2 ^ 21 - mma % 2 ^ 21 := by omega
  unfold State.hbmWrite
  dsimp only
  rw [List.take_of_length_le h1, List.take_of_length_le h2, if_pos h1]
  have key : ∀ (l : List Nat), (∀ n ∈ l, n < (mma % 64 + bs.length + 63) / 64) → ∀ x : State, l.foldl (fun x n =>
      if s.frameKind ((mma / 64 + n) * 64 / 2 ^ 21) = 1 then
        x.parity ((mma / 64 + n) * 64) req word (ofBytes ((s.fetch (s.hbmKey ((mma / 64 + n) * 64)) 64).map (·.1)))
          (ofBytes (((s.put (s.hbmKey mma) bs marks).fetch ((s.put (s.hbmKey mma) bs marks).hbmKey ((mma / 64 + n) * 64)) 64).map (·.1)))
      else x) x = x := by
    intro l
    induction l with
    | nil => intro _ x; rfl
    | cons n r ih =>
      intro hl x
      have hn := hl n List.mem_cons_self
      have e : (mma / 64 + n) * 64 / 2 ^ 21 = mma / 2 ^ 21 := by omega
      rw [List.foldl_cons, if_neg (by rw [e]; exact hk)]
      exact ih (fun m hm => hl m (List.mem_cons_of_mem _ hm)) x
  exact key _ (fun n hn => List.mem_range.1 hn) _

/-- The domain cache and the directory change without memory (R118, R119). -/
@[simp] theorem dropOwn_mem (s : State) (mma : Nat) : (s.dropOwn mma).mem = s.mem := by unfold State.dropOwn; split <;> simp
@[simp] theorem dropOwn_poison (s : State) (mma : Nat) : (s.dropOwn mma).poison = s.poison := by unfold State.dropOwn; split <;> simp
@[simp] theorem giveUp_mem (s : State) (home mma : Nat) : (s.giveUp home mma).mem = s.mem := by
  simp only [State.giveUp]
  repeat' split
  all_goals simp
@[simp] theorem giveUp_poison (s : State) (home mma : Nat) : (s.giveUp home mma).poison = s.poison := by
  simp only [State.giveUp]
  repeat' split
  all_goals simp
theorem install_same (s : State) (home mma : Nat) (l : DLine) : SameMemory s (s.install home mma l) := by
  apply sameMemory_of_eq <;> simp only [State.install] <;> (repeat' split) <;> simp

theorem homePut_wf (s : State) (req : Nat) (word : Option DWord) (mma : Nat) (bs : List Byte) (marks : List Bool) (h : Memory.wf s.mem = true) :
    Memory.wf (s.homePut req word mma bs marks).s.mem = true := by
  unfold State.homePut
  split
  · exact h
  · exact hbmWrite_wf _ _ _ _ _ _ (foldl_keeps (fun (x : State) => Memory.wf x.mem = true) _ _ _ h (fun _ _ hx => by simpa using hx))

@[simp] theorem linePut_mem (s : State) (m mma : Nat) (bs : List Byte) (marks : List Bool) : (s.linePut m mma bs marks).mem = s.mem :=
  foldl_keeps (fun (x : State) => x.mem = s.mem) _ _ _ rfl (fun _ _ hx => by simpa only [State.modMd_mem] using hx)

@[simp] theorem sendThrough_mem (s : State) (q : Option Asker) (gt tag m mma : Nat) (bs : List Byte) (marks : List Bool) :
    (s.sendThrough q gt tag m mma bs marks).1.mem = s.mem := by
  unfold State.sendThrough
  refine foldl_keeps (fun (r : State × List Nat) => r.1.mem = s.mem) _ _ _ ?_ (fun _ _ hr => by simpa only [State.modMd_mem] using hr)
  exact foldl_keeps (fun (x : State) => x.mem = s.mem) _ _ _ rfl (fun _ _ hx => by simpa only [State.setOwnLine_mem] using hx)

theorem writeLoc_wf (s : State) (w : Master) (ag vd : Nat) (own : List (Nat × Nat)) (l : Loc) (bs : List Byte) (marks : List Bool)
    (h : Memory.wf s.mem = true) : Memory.wf (s.writeLoc w ag vd own l bs marks).s.mem = true := by
  unfold State.writeLoc
  dsimp only
  split
  · exact sramWrite_wf _ _ _ _ _ _ _ _ h
  · exact homePut_wf _ _ _ _ _ _ h
  · split
    · exact homePut_wf _ _ _ _ _ _ h
    · split
      · exact h
      · split
        · exact hbmWrite_wf _ _ _ _ _ _ (foldl_keeps (fun (x : State) => Memory.wf x.mem = true) _ _ _ h (fun _ _ hx => by simpa only [State.modMd_mem] using hx))
        · split
          · simpa only [sendThrough_mem] using h
          · simpa only [linePut_mem] using h
  · exact h

end Sys2Proof.Machine
end

