-- ==== Sys2Proof/Laws/Ops.lean ====
section
/-! SUPPORT. What each shared operation can do: register reads and writes, guards, and how an instruction ends. -/

namespace Sys2Proof.Machine

/-! ## G registers -/

theorem noteReads_dead (t : Task) (ns : List (BitVec 5)) (h : ns.all t.liveG = false) :
    t.noteReads ns = t.modSt (fun x => { x with tstat := setBit x.tstat 16 true }) := by simp [Task.noteReads, h]

theorem noteReads_live (t : Task) (ns : List (BitVec 5)) (h : ns.all t.liveG = true) : t.noteReads ns = t := by simp [Task.noteReads, h]

/-- Everything a G write after register reads does. -/
theorem writesG_intro (s : State) (reads : List (BitVec 5)) (d : BitVec 5) (x : RegV) (len : Nat) :
    WritesG s (({ s with cur := (s.cur.noteReads reads).wrG d x } : State).advance len) reads d x len := by
  have hd : d.toNat < 64 := by omega
  have key : ∀ br bl : Bool, reads.all s.cur.liveG = br → s.cur.liveG d = bl →
      WritesG s (({ s with cur := (s.cur.noteReads reads).wrG d x } : State).advance len) reads d x len := by
    intro br bl hr hl
    have hl2 : bit s.cur.scope d.toNat = bl := hl
    have e : (s.cur.noteReads reads).wrG d x = Task.wrG (if br then s.cur else s.cur.modSt (fun x => { x with tstat := setBit x.tstat 16 true })) d x := by
      rw [Task.noteReads, hr]
    rw [e]
    cases br <;> cases bl
    all_goals
      simp only [Task.wrG, Task.liveG, hl2, Task.modSt, if_true, if_false, Bool.false_eq_true]
      refine ⟨rfl, fun k => ⟨rfl, rfl⟩, rfl, ?_, ?_, ?_, ?_⟩
      · intro r
        by_cases h : r = d
        · subst h; simp [hl, State.advance]
        · have : ¬ d.toNat = r.toNat := fun e => h (BitVec.eq_of_toNat_eq e.symm)
          simp [State.advance, h, this]
      · intro j; simp [hl, State.advance, bit_setBit, hd]
      · intro j; simp [hl, State.advance, bit_setBit, hd, Task.det]
      · intro j; by_cases h16 : j = 16 <;> by_cases h17 : j = 17 <;> simp [hl, hr, State.advance, bit_setBit, h16, h17]
  exact key _ _ rfl rfl

/-! ## Guards -/

@[simp] theorem guard_zero (t : Task) : t.guard 0 = true := by simp [Task.guard]
@[simp] theorem guardTainted_zero (t : Task) : t.guardTainted 0 = false := by simp [Task.guardTainted]
theorem runs_zero (s : State) : Runs s 0 := ⟨guardTainted_zero _, guard_zero _⟩

/-- An instruction whose guard lets it run does what its body says. -/
theorem run_of_runs (i : Instr) (q : BitVec 4) (s : State) (body : State → Act) (h : Runs s q) : run i q s body = finish i (body s) := by
  simp [run, h.1, h.2]

/-- An instruction without a guard runs as one whose guard is 0. -/
theorem run0_eq (i : Instr) (s : State) (body : State → Act) : run0 i s body = run i 0 s body := (run_of_runs i 0 s body (runs_zero s)).symm

/-! ## Two-operand and one-operand scalar instructions -/

theorem finish_alu2 (i : Instr) (a b d : BitVec 5) (f : DWord → DWord → DWord) (s : State) :
    Completes (finish i (alu2 a b d f s)) (fun t => WritesG s t [a, b] d
      ⟨f (s.gv a) (s.gv b), [a, b].any (fun r => (s.cur.rdG r).p), [a, b].any (fun r => (s.cur.rdG r).t)⟩ (Instr.length i)) := by
  refine ⟨_, rfl, ?_⟩
  simpa [State.gv] using writesG_intro s [a, b] d ⟨f (s.gv a) (s.gv b), (s.cur.rdG a).p || (s.cur.rdG b).p, (s.cur.rdG a).t || (s.cur.rdG b).t⟩ (Instr.length i)

theorem finish_alu1 (i : Instr) (a d : BitVec 5) (f : DWord → DWord) (s : State) :
    Completes (finish i (alu1 a d f s)) (fun t => WritesG s t [a] d
      ⟨f (s.gv a), [a].any (fun r => (s.cur.rdG r).p), [a].any (fun r => (s.cur.rdG r).t)⟩ (Instr.length i)) := by
  refine ⟨_, rfl, ?_⟩
  simpa [State.gv] using writesG_intro s [a] d ⟨f (s.gv a), (s.cur.rdG a).p, (s.cur.rdG a).t⟩ (Instr.length i)

theorem finish_setG (i : Instr) (d : BitVec 5) (v : DWord) (s : State) :
    Completes (finish i (.next (s.setG d ⟨v, false, false⟩))) (fun t => WritesG s t [] d ⟨v, false, false⟩ (Instr.length i)) :=
  ⟨_, rfl, writesG_intro s [] d ⟨v, false, false⟩ (Instr.length i)⟩

/-- A two-operand row, once its function is known to give the stated value. -/
theorem scalarRow_alu2 (i : Instr) (q : BitVec 4) (a b d : BitVec 5) (f : DWord → DWord → DWord) (g : State → DWord)
    (he : ∀ s, exec i s = run i q s (alu2 a b d f)) (hg : ∀ s, f (s.gv a) (s.gv b) = g s) : ScalarRow i q [a, b] d g := by
  intro s h
  rw [he, run_of_runs _ _ _ _ h, ← hg]
  exact finish_alu2 i a b d f s

theorem scalarRow_alu1 (i : Instr) (q : BitVec 4) (a d : BitVec 5) (f : DWord → DWord) (g : State → DWord)
    (he : ∀ s, exec i s = run i q s (alu1 a d f)) (hg : ∀ s, f (s.gv a) = g s) : ScalarRow i q [a] d g := by
  intro s h
  rw [he, run_of_runs _ _ _ _ h, ← hg]
  exact finish_alu1 i a d f s

theorem scalarRow0_alu2 (i : Instr) (a b d : BitVec 5) (f : DWord → DWord → DWord) (g : State → DWord)
    (he : ∀ s, exec i s = run0 i s (alu2 a b d f)) (hg : ∀ s, f (s.gv a) (s.gv b) = g s) : ScalarRow i 0 [a, b] d g :=
  scalarRow_alu2 i 0 a b d f g (fun s => (he s).trans (run0_eq i s _)) hg

theorem scalarRow0_alu1 (i : Instr) (a d : BitVec 5) (f : DWord → DWord) (g : State → DWord)
    (he : ∀ s, exec i s = run0 i s (alu1 a d f)) (hg : ∀ s, f (s.gv a) = g s) : ScalarRow i 0 [a] d g :=
  scalarRow_alu1 i 0 a d f g (fun s => (he s).trans (run0_eq i s _)) hg

/-- A row that forms its value from no register, clearing the tags (R200). -/
theorem scalarRow0_const (i : Instr) (d : BitVec 5) (f g : State → DWord)
    (he : ∀ s, exec i s = run0 i s (fun s => .next (s.setG d ⟨f s, false, false⟩))) (hg : ∀ s, f s = g s) : ScalarRow i 0 [] d g := by
  intro s _
  rw [he, ← hg]
  exact finish_setG i d (f s) s

end Sys2Proof.Machine
end

