-- ==== Sys2Proof/Laws/Access.lean ====
section
/-! SUPPORT. Loads and stores of written memory: what a read gives there and what a write leaves. -/

namespace Sys2Proof.Machine

/-! ## Operand checks -/

/-- Clean registers pass the checks of R201 and R203. -/
theorem checkRegs_clean (s : State) (ns : List (BitVec 5)) (k : Act) (h : CleanG s ns) : checkRegs s ns k = k := by
  have h1 : ns.find? (fun n => (s.cur.rdG n).p) = none := by simpa using fun n hn => (h n hn).1
  have h2 : ns.find? (fun n => s.cur.det && (s.cur.rdG n).t) = none := by
    rw [List.find?_eq_none]; intro n hn; rw [(h n hn).2]; simp
  simp [checkRegs, h1, h2]

/-- Data without taint passes the check of R203. -/
theorem checkTaint_clean (s : State) (n : BitVec 5) (k : Act) (h : (s.cur.det && (s.cur.rdG n).t) = false) : checkTaint s [n] k = k := by
  simp [checkTaint, List.find?, h]

theorem CleanG.cons {s : State} {n : BitVec 5} {ns : List (BitVec 5)} (h : CleanG s (n :: ns)) : CleanG s ns :=
  fun m hm => h m (List.mem_cons_of_mem _ hm)

/-- Without earlier engine accesses and outstanding stores a strong event does not wait (R226, R356). -/
theorem releaseWait_of (s : State) (k : Act) (h : ReleaseFree s) : releaseWait s k = k := by
  simp [releaseWait, h.1, h.2]

/-- An access that meets no command and no outstanding store of its task, and follows no strong event still to come, does not wait (R207, R226,
R356). -/
theorem accessWait_of (s : State) (l : Loc) (n : Nat) (k : Act) (h : AccessFree s l n) : accessWait s l n k = k := by
  have h2 : (s.storesOf s.cur.key).any (fun x => s.storeMeets x l n) = false := by simpa using fun x hx => (h.2.2 x hx).1
  have h3 : s.strongStore = false := by simpa [State.strongStore] using fun x hx => (h.2.2 x hx).2
  simp [accessWait, h.1, h.2.1, h2, h3]

/-! ## Chunks -/

theorem granChunks_one (f off n : Nat) (h0 : 0 < n) (h : off % 256 + n ≤ 256) : granChunks (f + 2) off n = [(off, n)] := by
  have e : min n (256 - off % 256) = n := by omega
  simp [granChunks, e, Nat.pos_iff_ne_zero.1 h0]

@[simp] theorem chargeCur_nil (s : State) : s.chargeCur [] = s := by
  unfold State.chargeCur Task.charge
  split
  · simp [Task.modSch]
  · simp [Task.modSt, addCrusts]

/-! ## Reads -/

/-- Inside one frame the bytes behind the home map are consecutive. -/
theorem hbmFetch_eq (s : State) (mma n : Nat) (h : mma % 2 ^ 21 + n ≤ 2 ^ 21) : s.hbmFetch mma n = s.fetch (s.hbmKey mma) n := by
  simp only [State.hbmFetch, State.fetch]
  apply List.map_congr_left
  intro i hi
  have hi := List.mem_range.1 hi
  have e1 : (mma + i) / 2 ^ 21 = mma / 2 ^ 21 := by omega
  have e2 : (mma + i) % 2 ^ 21 = mma % 2 ^ 21 + i := by omega
  have e : s.hbmKey (mma + i) = s.hbmKey mma + i := by simp only [State.hbmKey, e1, e2]; omega
  rw [e]

/-- A read of written memory gives its bytes with their marks. -/
theorem readLoc_of_ReadsAt (s : State) (ag vd : Nat) (l : Loc) (n k : Nat) (h0 : 0 < n) (h : ReadsAt s l n k) :
    s.readLoc .task ag vd [] l n = { bytes := s.fetch k n } := by
  cases l with
  | sram gt off =>
    obtain ⟨o, h1, h2, h3, h4, rfl⟩ := h
    simp only [State.readLoc, State.sramRead, granChunks_one _ _ _ h0 h1, List.foldl_cons, List.foldl_nil, State.sramRead1, h2, h3, State.withLive, h4]
    simp
  | hbm mma =>
    obtain ⟨h0', h1, rfl⟩ := h
    have hf : (linesOf mma n).find? (fun x => s.remoteHeld x false) = none := by simpa using h1
    simp only [State.readLoc, hf, hbmFetch_eq s mma n h0']
  | peer m mma => exact h.elim
  | ctrl a b c => exact h.elim

theorem countHits_of_ReadsAt (s u : State) (missed : Bool) (l : Loc) (n k : Nat) (h : ReadsAt s l n k) : u.countHits missed l n = u := by
  cases l <;> first | rfl | exact h.elim

theorem ReadsAt.notCtrl {s : State} {l : Loc} {n k : Nat} (h : ReadsAt s l n k) : l.isCtrl = false := by
  cases l <;> first | rfl | exact h.elim

/-- A load of written memory writes its register. -/
theorem loadAct_of_ReadsAt (acq signed : Bool) (n c : Nat) (i : BitVec 8) (b t : BitVec 5) (s : State) (l : Loc) (k : Nat) (hb : CleanG s [b])
    (h0 : 0 < n) (hm : (memAddr (s.gv b) i n).toNat % n = 0)
    (hc : s.check s.cur.who (s.taskGt s.cur) rRD (memAddr (s.gv b) i n).toNat n = .ok l) (hu : AccessFree s l n)
    (ha : acq = true → ReleaseFree s) (hr : ReadsAt s l n k) :
    loadAct acq signed n c i b t s = .next ({ s with cur := (s.cur.noteReads [b]).wrG t (RegV.mk
      (if (s.fetch k n).any (·.2) then 0 else extend signed n (ofBytes ((s.fetch k n).map (·.1)))) ((s.fetch k n).any (·.2)) false) } : State) := by
  have hr1 := readLoc_of_ReadsAt s 0 (aVdie (memAddr (s.cur.rdG b).v i n).toNat) l n k h0 hr
  unfold State.gv at hm hc
  have hw (k : Act) : (if acq then releaseWait s k else k) = k := by
    cases acq with
    | true => simp [releaseWait_of s k (ha rfl)]
    | false => rfl
  simp only [loadAct, checkRegs_clean s [b] _ hb, hc, chkAct, hm, ne_eq, not_true_eq_false, if_false, hw]
  cases l with
  | ctrl _ _ _ => exact hr.elim
  | peer _ _ => exact hr.elim
  | sram gt off => simp only [accessWait_of s _ _ _ hu, hr1, chargeCur_nil]; rfl
  | hbm mma => simp only [accessWait_of s _ _ _ hu, hr1, chargeCur_nil]; rfl

/-! ## Writes -/

/-- What dropping a line from the module's own domain cache may change: the cache, the directory and the counters (R119, R122). -/
theorem dropOwn_eq (s : State) (mma : Nat) :
    ∃ dc di co, s.dropOwn mma = { s with md := { s.md with dcache := dc, dir := di, counters := co } } := by
  unfold State.dropOwn
  split
  · exact ⟨s.md.dcache, _, s.md.counters, rfl⟩
  · refine ⟨tset {} s.md.dcache (lineKey s.md.number mma) {}, tmod {} s.md.dir (mma / 128) (·.without s.md.number),
      tmod 0 s.md.counters (8 * ((mma / 128) % 4) + 3) (· + 1), ?_⟩
    simp only [State.setOwnLine, State.modDir, State.count, State.modMd]

theorem dropOwns_eq (s : State) (ls : List Nat) :
    ∃ dc di co, ls.foldl (fun x y => x.dropOwn y) s = { s with md := { s.md with dcache := dc, dir := di, counters := co } } := by
  refine foldl_keeps (fun (x : State) => ∃ dc di co, x = { s with md := { s.md with dcache := dc, dir := di, counters := co } }) _ _ s ⟨_, _, _, rfl⟩ ?_
  rintro x y ⟨dc, di, co, rfl⟩
  obtain ⟨dc', di', co', e⟩ := dropOwn_eq ({ s with md := { s.md with dcache := dc, dir := di, counters := co } }) y
  exact ⟨dc', di', co', e⟩

/-- A write that takes no number awaits no acknowledgement. -/
theorem openWrites_nil (s old : State) (h : s.md.nextWrite = old.md.nextWrite) : s.openWrites old = [] := by simp [State.openWrites, h]

/-- A write inside one unprotected frame that no other module holds a line of puts its bytes there, and awaits no acknowledgement (R119). -/
theorem homePut_eq (s : State) (req : Nat) (word : Option DWord) (mma : Nat) (bs : List Byte) (marks : List Bool) (hm : marks.length = bs.length)
    (h : mma % 2 ^ 21 + bs.length ≤ 2 ^ 21) (hr : ∀ x ∈ linesOf mma bs.length, s.remoteHeld x true = false) (hk : s.frameKind (mma / 2 ^ 21) ≠ 1) :
    ∃ dc di co, s.homePut req word mma bs marks =
      { s := ({ s with md := { s.md with dcache := dc, dir := di, counters := co } } : State).put (s.hbmKey mma) bs marks } := by
  have hf : (linesOf mma bs.length).find? (fun x => s.remoteHeld x true) = none := by simpa using hr
  obtain ⟨dc, di, co, e⟩ := dropOwns_eq s (linesOf mma bs.length)
  refine ⟨dc, di, co, ?_⟩
  simp only [State.homePut, hf]
  have ew := hbmWrite_eq { s with md := { s.md with dcache := dc, dir := di, counters := co } } req word mma bs marks hm h hk
  rw [e, ew, openWrites_nil _ s (by rfl)]
  rfl

/-- A write of written memory puts its bytes there. -/
theorem writeLoc_of_WritesAt (s : State) (w : Master) (ag vd : Nat) (l : Loc) (bs : List Byte) (marks : List Bool) (k : Nat) (h0 : 0 < bs.length)
    (hm : marks.length = bs.length) (h : WritesAt s l bs.length k) :
    ∃ dc di co, s.writeLoc w ag vd [] l bs marks = { s := ({ s with md := { s.md with dcache := dc, dir := di, counters := co } } : State).put k bs marks } := by
  cases l with
  | sram gt off =>
    obtain ⟨o, h1, h2, h3, rfl⟩ := h
    refine ⟨s.md.dcache, s.md.dir, s.md.counters, ?_⟩
    simp only [State.writeLoc, State.sramWrite, granChunks_one _ _ _ h0 h1, List.foldl_cons, List.foldl_nil, State.sramWrite1, h2, h3]
    simp [List.take_of_length_le, hm]
  | hbm mma =>
    obtain ⟨h0', h1, h2, rfl⟩ := h
    exact homePut_eq s _ none mma bs marks hm h0' h1 h2
  | peer m mma => exact h.elim
  | ctrl a b c => exact h.elim

/-! ## Poison marks -/

theorem mem_sadd (t : List Nat) (a x : Nat) : x ∈ sadd t a ↔ x = a ∨ x ∈ t := by
  induction t with
  | nil => simp [sadd]
  | cons k r ih =>
    simp only [sadd]
    split
    · simp
    · split
      · rename_i h; subst h; simp
      · simp [ih]; tauto

theorem mem_sdel (t : List Nat) (a x : Nat) : x ∈ sdel t a ↔ x ≠ a ∧ x ∈ t := by simp [sdel, and_comm]

/-- A doubleword that a write does not touch keeps its mark. -/
theorem markCells_out (p : List Nat) (k : Nat) (marks : List Bool) (todo x : Nat) (h : x < k / 8 ∨ k / 8 + todo ≤ x) :
    x ∈ markCells p k marks todo ↔ x ∈ p := by
  induction todo with
  | zero => rfl
  | succ n ih =>
    have hx : x ≠ k / 8 + n := by omega
    have := ih (by omega)
    simp only [markCells]
    split
    · rw [mem_sadd]; simp [hx, this]
    · split
      · rw [mem_sdel]; simp [hx, this]
      · exact this

/-- A doubleword that a poisoned byte reaches takes the mark, and one that is written clean as a whole loses it (R109). -/
theorem markCells_in (p : List Nat) (k : Nat) (marks : List Bool) (todo d : Nat) (h : d < todo) :
    k / 8 + d ∈ markCells p k marks todo ↔
      ((marks.take ((k / 8 + d) * 8 + 8 - k)).drop ((k / 8 + d) * 8 - k)).any id = true ∨
      (k / 8 + d ∈ p ∧ ((marks.take ((k / 8 + d) * 8 + 8 - k)).drop ((k / 8 + d) * 8 - k)).length ≠ 8) := by
  induction todo with
  | zero => omega
  | succ n ih =>
    simp only [markCells]
    by_cases e : d = n
    · subst e
      have hn := markCells_out p k marks d (k / 8 + d) (by omega)
      split
      · rename_i h1; rw [mem_sadd]; simp_all
      · rename_i h1
        split
        · rename_i h2; rw [mem_sdel]; simp_all
        · rename_i h2; rw [hn]; simp_all
    · have := ih (by omega)
      have hx : k / 8 + d ≠ k / 8 + n := by omega
      split
      · rw [mem_sadd, this]; exact ⟨fun h => h.resolve_left hx, .inr⟩
      · split
        · rw [mem_sdel, this]; exact ⟨And.right, fun h => ⟨hx, h⟩⟩
        · exact this

theorem marked_iff (s : State) (k : Nat) : s.marked k = true ↔ k / 8 ∈ s.poison := by simp [State.marked]

end Sys2Proof.Machine
end

