-- ==== Sys2Proof/Laws/Engines.lean ====
section
/-! SUPPORT. What issuing an engine command does. -/

namespace Sys2Proof.Machine

/-- What reading registers does: DEADREAD, when one of them is dead (R198). -/
theorem tstat_note (t : Task) (gs : List (BitVec 5)) (j : Nat) : bit (t.noteReads gs).st.tstat j = (bit t.st.tstat j || (decide (j = 16) && !gs.all t.liveG)) := by
  rw [Task.noteReads]
  split
  · rename_i h; simp [h]
  · rename_i h; simp [h, bit_setBit]; by_cases hj : j = 16 <;> simp [hj]
theorem note_other (t : Task) (gs : List (BitVec 5)) : t.noteReads gs = { t with st := { t.st with tstat := (t.noteReads gs).st.tstat } } := by
  rw [Task.noteReads]; split <;> rfl

/-- SR.RSEQ after an instruction that rounds (R80). -/
theorem bump_eq (t : Task) (r : Bool) (rm : Nat) : t.bumpSeq r rm = { t with st := { t.st with rseq := if (r && rm == 5) then (t.st.rseq + 1) &&& 0xFFFFFFFF else t.st.rseq } } := by
  rw [Task.bumpSeq]; simp only [rmSR]; by_cases h : (r && rm == 5) = true <;> simp only [h, Task.modSt, if_true, if_false, Bool.false_eq_true]

/-- Everything that issuing an engine command does. -/
theorem enters_intro (s : State) (vec : Bool) (i : Instr) (gs : List (BitVec 5)) (c : Cmd) (op : RegV) (r : Bool) (rm : Nat)
    (hc : c = if isVextr i then s.mkCmd i {} op else s.mkCmd i op {}) :
    Enters s (({ (if vec then s.pushV c else s.pushM c) with cur := (s.cur.noteReads gs).bumpSeq r rm } : State).advance (Instr.length i)) vec i gs op (r && rm == 5) := by
  rw [bump_eq, note_other]
  have hq : c.instr = i ∧ c.phase = .queued ∧ c.seq = s.clock ∧ c.vi = s.cur.vi ∧ c.wp = s.cur.wp ∧ c.slot = s.cur.slot ∧
      (if isVextr i then c.gb = op.v ∧ c.poisB = op.p ∧ c.taintB = op.t else c.ga = op.v ∧ c.poisA = op.p ∧ c.taintA = op.t) ∧
      c.mode = s.cur.st.mode ∧ c.vtype = s.cur.st.vtype ∧ c.rkey = s.cur.st.rkey ∧ c.rseq = s.cur.st.rseq ∧ c.mx = s.cur.mx ∧ c.depth = s.cur.depth := by
    rw [hc]; cases h : isVextr i <;> exact ⟨rfl, rfl, rfl, rfl, rfl, rfl, ⟨rfl, rfl, rfl⟩, rfl, rfl, rfl, rfl, rfl, rfl⟩
  obtain ⟨h1, h2, h3, h4, h5, h6, h7, h8, h9, h10, h11, h12, h13⟩ := hq
  cases vec
  · refine ⟨rfl, fun k => ⟨rfl, rfl⟩, rfl, fun j => ?_, rfl, c, h1, h2, h3, h4, h5, h6, h7, h8, h9, h10, h11, h12, h13, fun g => ?_⟩
    · rw [← tstat_note]; rfl
    · refine (tget_tmod s.tiles (s.taskGt s.cur) g (fun (t : Tile) => { t with mq := t.mq ++ [c] })).trans ?_
      split
      · rename_i h; rw [h]; rfl
      · rfl
  · refine ⟨rfl, fun k => ⟨rfl, rfl⟩, rfl, fun j => ?_, rfl, c, h1, h2, h3, h4, h5, h6, h7, h8, h9, h10, h11, h12, h13, fun g => ?_⟩
    · rw [← tstat_note]; rfl
    · refine (tget_tmod s.tiles (s.taskGt s.cur) g (fun (t : Tile) => { t with vq := t.vq ++ [c] })).trans ?_
      split
      · rename_i h; rw [h]; rfl
      · rfl

end Sys2Proof.Machine
end

