-- ==== Sys2Proof/Laws/PerInstr.lean ====
section
/-! SUPPORT. Per-instruction laws: every instruction's encoding has the length of its format (R32), and an event has none. -/

namespace Sys2Proof.Laws

/-- An instruction's bytes are as many as its length says, 2 or 4 for an encoded row and none for an event (R32). -/
def LengthOk.Statement (i : Instr) : Prop := (encode i).length = Instr.length i ∧ (Instr.length i = 0 ∨ Instr.length i = 2 ∨ Instr.length i = 4)

theorem LengthOk.addS (s : BitVec 5) (d : BitVec 5) : LengthOk.Statement (.addS s d) := ⟨rfl, .inr (.inl rfl)⟩
theorem LengthOk.subS (s : BitVec 5) (d : BitVec 5) : LengthOk.Statement (.subS s d) := ⟨rfl, .inr (.inl rfl)⟩
theorem LengthOk.andS (s : BitVec 5) (d : BitVec 5) : LengthOk.Statement (.andS s d) := ⟨rfl, .inr (.inl rfl)⟩
theorem LengthOk.orS (s : BitVec 5) (d : BitVec 5) : LengthOk.Statement (.orS s d) := ⟨rfl, .inr (.inl rfl)⟩
theorem LengthOk.xorS (s : BitVec 5) (d : BitVec 5) : LengthOk.Statement (.xorS s d) := ⟨rfl, .inr (.inl rfl)⟩
theorem LengthOk.shlS (s : BitVec 5) (d : BitVec 5) : LengthOk.Statement (.shlS s d) := ⟨rfl, .inr (.inl rfl)⟩
theorem LengthOk.shrS (s : BitVec 5) (d : BitVec 5) : LengthOk.Statement (.shrS s d) := ⟨rfl, .inr (.inl rfl)⟩
theorem LengthOk.movS (s : BitVec 5) (d : BitVec 5) : LengthOk.Statement (.movS s d) := ⟨rfl, .inr (.inl rfl)⟩
theorem LengthOk.nop : LengthOk.Statement (.nop) := ⟨rfl, .inr (.inl rfl)⟩
theorem LengthOk.vaddS (s : BitVec 4) (d : BitVec 4) : LengthOk.Statement (.vaddS s d) := ⟨rfl, .inr (.inl rfl)⟩
theorem LengthOk.vsubS (s : BitVec 4) (d : BitVec 4) : LengthOk.Statement (.vsubS s d) := ⟨rfl, .inr (.inl rfl)⟩
theorem LengthOk.vmulS (s : BitVec 4) (d : BitVec 4) : LengthOk.Statement (.vmulS s d) := ⟨rfl, .inr (.inl rfl)⟩
theorem LengthOk.vminS (s : BitVec 4) (d : BitVec 4) : LengthOk.Statement (.vminS s d) := ⟨rfl, .inr (.inl rfl)⟩
theorem LengthOk.vmaxS (s : BitVec 4) (d : BitVec 4) : LengthOk.Statement (.vmaxS s d) := ⟨rfl, .inr (.inl rfl)⟩
theorem LengthOk.vandS (s : BitVec 4) (d : BitVec 4) : LengthOk.Statement (.vandS s d) := ⟨rfl, .inr (.inl rfl)⟩
theorem LengthOk.vorS (s : BitVec 4) (d : BitVec 4) : LengthOk.Statement (.vorS s d) := ⟨rfl, .inr (.inl rfl)⟩
theorem LengthOk.vxorS (s : BitVec 4) (d : BitVec 4) : LengthOk.Statement (.vxorS s d) := ⟨rfl, .inr (.inl rfl)⟩
theorem LengthOk.add (b : BitVec 5) (a : BitVec 5) (d : BitVec 5) (q : BitVec 4) : LengthOk.Statement (.add b a d q) := ⟨rfl, .inr (.inr rfl)⟩
theorem LengthOk.sub (b : BitVec 5) (a : BitVec 5) (d : BitVec 5) (q : BitVec 4) : LengthOk.Statement (.sub b a d q) := ⟨rfl, .inr (.inr rfl)⟩
theorem LengthOk.and (b : BitVec 5) (a : BitVec 5) (d : BitVec 5) (q : BitVec 4) : LengthOk.Statement (.and b a d q) := ⟨rfl, .inr (.inr rfl)⟩
theorem LengthOk.or (b : BitVec 5) (a : BitVec 5) (d : BitVec 5) (q : BitVec 4) : LengthOk.Statement (.or b a d q) := ⟨rfl, .inr (.inr rfl)⟩
theorem LengthOk.xor (b : BitVec 5) (a : BitVec 5) (d : BitVec 5) (q : BitVec 4) : LengthOk.Statement (.xor b a d q) := ⟨rfl, .inr (.inr rfl)⟩
theorem LengthOk.andn (b : BitVec 5) (a : BitVec 5) (d : BitVec 5) (q : BitVec 4) : LengthOk.Statement (.andn b a d q) := ⟨rfl, .inr (.inr rfl)⟩
theorem LengthOk.orn (b : BitVec 5) (a : BitVec 5) (d : BitVec 5) (q : BitVec 4) : LengthOk.Statement (.orn b a d q) := ⟨rfl, .inr (.inr rfl)⟩
theorem LengthOk.xnor (b : BitVec 5) (a : BitVec 5) (d : BitVec 5) (q : BitVec 4) : LengthOk.Statement (.xnor b a d q) := ⟨rfl, .inr (.inr rfl)⟩
theorem LengthOk.shl (b : BitVec 5) (a : BitVec 5) (d : BitVec 5) (q : BitVec 4) : LengthOk.Statement (.shl b a d q) := ⟨rfl, .inr (.inr rfl)⟩
theorem LengthOk.shr (b : BitVec 5) (a : BitVec 5) (d : BitVec 5) (q : BitVec 4) : LengthOk.Statement (.shr b a d q) := ⟨rfl, .inr (.inr rfl)⟩
theorem LengthOk.sra (b : BitVec 5) (a : BitVec 5) (d : BitVec 5) (q : BitVec 4) : LengthOk.Statement (.sra b a d q) := ⟨rfl, .inr (.inr rfl)⟩
theorem LengthOk.ror (b : BitVec 5) (a : BitVec 5) (d : BitVec 5) (q : BitVec 4) : LengthOk.Statement (.ror b a d q) := ⟨rfl, .inr (.inr rfl)⟩
theorem LengthOk.min (b : BitVec 5) (a : BitVec 5) (d : BitVec 5) (q : BitVec 4) : LengthOk.Statement (.min b a d q) := ⟨rfl, .inr (.inr rfl)⟩
theorem LengthOk.max (b : BitVec 5) (a : BitVec 5) (d : BitVec 5) (q : BitVec 4) : LengthOk.Statement (.max b a d q) := ⟨rfl, .inr (.inr rfl)⟩
theorem LengthOk.minn (b : BitVec 5) (a : BitVec 5) (d : BitVec 5) (q : BitVec 4) : LengthOk.Statement (.minn b a d q) := ⟨rfl, .inr (.inr rfl)⟩
theorem LengthOk.maxn (b : BitVec 5) (a : BitVec 5) (d : BitVec 5) (q : BitVec 4) : LengthOk.Statement (.maxn b a d q) := ⟨rfl, .inr (.inr rfl)⟩
theorem LengthOk.mul (b : BitVec 5) (a : BitVec 5) (d : BitVec 5) (q : BitVec 4) : LengthOk.Statement (.mul b a d q) := ⟨rfl, .inr (.inr rfl)⟩
theorem LengthOk.mulh (b : BitVec 5) (a : BitVec 5) (d : BitVec 5) (q : BitVec 4) : LengthOk.Statement (.mulh b a d q) := ⟨rfl, .inr (.inr rfl)⟩
theorem LengthOk.mulhn (b : BitVec 5) (a : BitVec 5) (d : BitVec 5) (q : BitVec 4) : LengthOk.Statement (.mulhn b a d q) := ⟨rfl, .inr (.inr rfl)⟩
theorem LengthOk.div (b : BitVec 5) (a : BitVec 5) (d : BitVec 5) (q : BitVec 4) : LengthOk.Statement (.div b a d q) := ⟨rfl, .inr (.inr rfl)⟩
theorem LengthOk.divn (b : BitVec 5) (a : BitVec 5) (d : BitVec 5) (q : BitVec 4) : LengthOk.Statement (.divn b a d q) := ⟨rfl, .inr (.inr rfl)⟩
theorem LengthOk.rem (b : BitVec 5) (a : BitVec 5) (d : BitVec 5) (q : BitVec 4) : LengthOk.Statement (.rem b a d q) := ⟨rfl, .inr (.inr rfl)⟩
theorem LengthOk.remn (b : BitVec 5) (a : BitVec 5) (d : BitVec 5) (q : BitVec 4) : LengthOk.Statement (.remn b a d q) := ⟨rfl, .inr (.inr rfl)⟩
theorem LengthOk.mov (a : BitVec 5) (d : BitVec 5) (q : BitVec 4) : LengthOk.Statement (.mov a d q) := ⟨rfl, .inr (.inr rfl)⟩
theorem LengthOk.clz (a : BitVec 5) (d : BitVec 5) (q : BitVec 4) : LengthOk.Statement (.clz a d q) := ⟨rfl, .inr (.inr rfl)⟩
theorem LengthOk.ctz (a : BitVec 5) (d : BitVec 5) (q : BitVec 4) : LengthOk.Statement (.ctz a d q) := ⟨rfl, .inr (.inr rfl)⟩
theorem LengthOk.popc (a : BitVec 5) (d : BitVec 5) (q : BitVec 4) : LengthOk.Statement (.popc a d q) := ⟨rfl, .inr (.inr rfl)⟩
theorem LengthOk.brev (a : BitVec 5) (d : BitVec 5) (q : BitVec 4) : LengthOk.Statement (.brev a d q) := ⟨rfl, .inr (.inr rfl)⟩
theorem LengthOk.bswap (a : BitVec 5) (d : BitVec 5) (q : BitVec 4) : LengthOk.Statement (.bswap a d q) := ⟨rfl, .inr (.inr rfl)⟩
theorem LengthOk.sext (e : BitVec 5) (a : BitVec 5) (d : BitVec 5) (q : BitVec 4) : LengthOk.Statement (.sext e a d q) := ⟨rfl, .inr (.inr rfl)⟩
theorem LengthOk.zext (e : BitVec 5) (a : BitVec 5) (d : BitVec 5) (q : BitVec 4) : LengthOk.Statement (.zext e a d q) := ⟨rfl, .inr (.inr rfl)⟩
theorem LengthOk.shadd1 (b : BitVec 5) (a : BitVec 5) (d : BitVec 5) (q : BitVec 4) : LengthOk.Statement (.shadd1 b a d q) := ⟨rfl, .inr (.inr rfl)⟩
theorem LengthOk.shadd2 (b : BitVec 5) (a : BitVec 5) (d : BitVec 5) (q : BitVec 4) : LengthOk.Statement (.shadd2 b a d q) := ⟨rfl, .inr (.inr rfl)⟩
theorem LengthOk.shadd3 (b : BitVec 5) (a : BitVec 5) (d : BitVec 5) (q : BitVec 4) : LengthOk.Statement (.shadd3 b a d q) := ⟨rfl, .inr (.inr rfl)⟩
theorem LengthOk.shadd4 (b : BitVec 5) (a : BitVec 5) (d : BitVec 5) (q : BitVec 4) : LengthOk.Statement (.shadd4 b a d q) := ⟨rfl, .inr (.inr rfl)⟩
theorem LengthOk.mksa (b : BitVec 5) (a : BitVec 5) (d : BitVec 5) (q : BitVec 4) : LengthOk.Statement (.mksa b a d q) := ⟨rfl, .inr (.inr rfl)⟩
theorem LengthOk.addi (i : BitVec 15) (s : BitVec 5) (d : BitVec 5) : LengthOk.Statement (.addi i s d) := ⟨rfl, .inr (.inr rfl)⟩
theorem LengthOk.andi (i : BitVec 15) (s : BitVec 5) (d : BitVec 5) : LengthOk.Statement (.andi i s d) := ⟨rfl, .inr (.inr rfl)⟩
theorem LengthOk.ori (i : BitVec 15) (s : BitVec 5) (d : BitVec 5) : LengthOk.Statement (.ori i s d) := ⟨rfl, .inr (.inr rfl)⟩
theorem LengthOk.xori (i : BitVec 15) (s : BitVec 5) (d : BitVec 5) : LengthOk.Statement (.xori i s d) := ⟨rfl, .inr (.inr rfl)⟩
theorem LengthOk.shli (i : BitVec 6) (s : BitVec 5) (d : BitVec 5) : LengthOk.Statement (.shli i s d) := ⟨rfl, .inr (.inr rfl)⟩
theorem LengthOk.shri (i : BitVec 6) (s : BitVec 5) (d : BitVec 5) : LengthOk.Statement (.shri i s d) := ⟨rfl, .inr (.inr rfl)⟩
theorem LengthOk.srai (i : BitVec 6) (s : BitVec 5) (d : BitVec 5) : LengthOk.Statement (.srai i s d) := ⟨rfl, .inr (.inr rfl)⟩
theorem LengthOk.muli (i : BitVec 15) (s : BitVec 5) (d : BitVec 5) : LengthOk.Statement (.muli i s d) := ⟨rfl, .inr (.inr rfl)⟩
theorem LengthOk.li (i : BitVec 20) (d : BitVec 5) : LengthOk.Statement (.li i d) := ⟨rfl, .inr (.inr rfl)⟩
theorem LengthOk.lix (i : BitVec 20) (d : BitVec 5) : LengthOk.Statement (.lix i d) := ⟨rfl, .inr (.inr rfl)⟩
theorem LengthOk.lpc (i : BitVec 20) (d : BitVec 5) : LengthOk.Statement (.lpc i d) := ⟨rfl, .inr (.inr rfl)⟩
theorem LengthOk.ldB (i : BitVec 8) (b : BitVec 5) (t : BitVec 5) (q : BitVec 4) : LengthOk.Statement (.ldB i b t q) := ⟨rfl, .inr (.inr rfl)⟩
theorem LengthOk.ldH (i : BitVec 8) (b : BitVec 5) (t : BitVec 5) (q : BitVec 4) : LengthOk.Statement (.ldH i b t q) := ⟨rfl, .inr (.inr rfl)⟩
theorem LengthOk.ldW (i : BitVec 8) (b : BitVec 5) (t : BitVec 5) (q : BitVec 4) : LengthOk.Statement (.ldW i b t q) := ⟨rfl, .inr (.inr rfl)⟩
theorem LengthOk.ldD (i : BitVec 8) (b : BitVec 5) (t : BitVec 5) (q : BitVec 4) : LengthOk.Statement (.ldD i b t q) := ⟨rfl, .inr (.inr rfl)⟩
theorem LengthOk.ldNb (i : BitVec 8) (b : BitVec 5) (t : BitVec 5) (q : BitVec 4) : LengthOk.Statement (.ldNb i b t q) := ⟨rfl, .inr (.inr rfl)⟩
theorem LengthOk.ldNh (i : BitVec 8) (b : BitVec 5) (t : BitVec 5) (q : BitVec 4) : LengthOk.Statement (.ldNh i b t q) := ⟨rfl, .inr (.inr rfl)⟩
theorem LengthOk.ldNw (i : BitVec 8) (b : BitVec 5) (t : BitVec 5) (q : BitVec 4) : LengthOk.Statement (.ldNw i b t q) := ⟨rfl, .inr (.inr rfl)⟩
theorem LengthOk.stB (i : BitVec 8) (b : BitVec 5) (t : BitVec 5) (q : BitVec 4) : LengthOk.Statement (.stB i b t q) := ⟨rfl, .inr (.inr rfl)⟩
theorem LengthOk.stH (i : BitVec 8) (b : BitVec 5) (t : BitVec 5) (q : BitVec 4) : LengthOk.Statement (.stH i b t q) := ⟨rfl, .inr (.inr rfl)⟩
theorem LengthOk.stW (i : BitVec 8) (b : BitVec 5) (t : BitVec 5) (q : BitVec 4) : LengthOk.Statement (.stW i b t q) := ⟨rfl, .inr (.inr rfl)⟩
theorem LengthOk.stD (i : BitVec 8) (b : BitVec 5) (t : BitVec 5) (q : BitVec 4) : LengthOk.Statement (.stD i b t q) := ⟨rfl, .inr (.inr rfl)⟩
theorem LengthOk.ldAcq (i : BitVec 8) (c : BitVec 3) (b : BitVec 5) (t : BitVec 5) (q : BitVec 4) : LengthOk.Statement (.ldAcq i c b t q) := ⟨rfl, .inr (.inr rfl)⟩
theorem LengthOk.stRel (i : BitVec 8) (c : BitVec 3) (b : BitVec 5) (t : BitVec 5) (q : BitVec 4) : LengthOk.Statement (.stRel i c b t q) := ⟨rfl, .inr (.inr rfl)⟩
theorem LengthOk.scopeOpen (a : BitVec 5) (q : BitVec 4) : LengthOk.Statement (.scopeOpen a q) := ⟨rfl, .inr (.inr rfl)⟩
theorem LengthOk.scopeClose (a : BitVec 5) (q : BitVec 4) : LengthOk.Statement (.scopeClose a q) := ⟨rfl, .inr (.inr rfl)⟩
theorem LengthOk.mbr (a : BitVec 2) (d : BitVec 5) (q : BitVec 4) : LengthOk.Statement (.mbr a d q) := ⟨rfl, .inr (.inr rfl)⟩
theorem LengthOk.mbw (a : BitVec 5) (d : BitVec 2) (q : BitVec 4) : LengthOk.Statement (.mbw a d q) := ⟨rfl, .inr (.inr rfl)⟩
theorem LengthOk.alloc (b : BitVec 5) (a : BitVec 5) (d : BitVec 5) (q : BitVec 4) : LengthOk.Statement (.alloc b a d q) := ⟨rfl, .inr (.inr rfl)⟩
theorem LengthOk.free (b : BitVec 5) (a : BitVec 5) (d : BitVec 5) (q : BitVec 4) : LengthOk.Statement (.free b a d q) := ⟨rfl, .inr (.inr rfl)⟩
theorem LengthOk.rsv (a : BitVec 5) (d : BitVec 5) (q : BitVec 4) : LengthOk.Statement (.rsv a d q) := ⟨rfl, .inr (.inr rfl)⟩
theorem LengthOk.relw (b : BitVec 5) (a : BitVec 5) (q : BitVec 4) : LengthOk.Statement (.relw b a q) := ⟨rfl, .inr (.inr rfl)⟩
theorem LengthOk.reln (a : BitVec 5) (q : BitVec 4) : LengthOk.Statement (.reln a q) := ⟨rfl, .inr (.inr rfl)⟩
theorem LengthOk.casW (b : BitVec 5) (a : BitVec 5) (d : BitVec 5) (q : BitVec 4) : LengthOk.Statement (.casW b a d q) := ⟨rfl, .inr (.inr rfl)⟩
theorem LengthOk.casD (b : BitVec 5) (a : BitVec 5) (d : BitVec 5) (q : BitVec 4) : LengthOk.Statement (.casD b a d q) := ⟨rfl, .inr (.inr rfl)⟩
theorem LengthOk.amoAdd (r : BitVec 1) (w : BitVec 1) (b : BitVec 5) (a : BitVec 5) (d : BitVec 5) (q : BitVec 4) : LengthOk.Statement (.amoAdd r w b a d q) := ⟨rfl, .inr (.inr rfl)⟩
theorem LengthOk.amoAnd (r : BitVec 1) (w : BitVec 1) (b : BitVec 5) (a : BitVec 5) (d : BitVec 5) (q : BitVec 4) : LengthOk.Statement (.amoAnd r w b a d q) := ⟨rfl, .inr (.inr rfl)⟩
theorem LengthOk.amoOr (r : BitVec 1) (w : BitVec 1) (b : BitVec 5) (a : BitVec 5) (d : BitVec 5) (q : BitVec 4) : LengthOk.Statement (.amoOr r w b a d q) := ⟨rfl, .inr (.inr rfl)⟩
theorem LengthOk.amoXor (r : BitVec 1) (w : BitVec 1) (b : BitVec 5) (a : BitVec 5) (d : BitVec 5) (q : BitVec 4) : LengthOk.Statement (.amoXor r w b a d q) := ⟨rfl, .inr (.inr rfl)⟩
theorem LengthOk.amoMin (r : BitVec 1) (w : BitVec 1) (b : BitVec 5) (a : BitVec 5) (d : BitVec 5) (q : BitVec 4) : LengthOk.Statement (.amoMin r w b a d q) := ⟨rfl, .inr (.inr rfl)⟩
theorem LengthOk.amoMax (r : BitVec 1) (w : BitVec 1) (b : BitVec 5) (a : BitVec 5) (d : BitVec 5) (q : BitVec 4) : LengthOk.Statement (.amoMax r w b a d q) := ⟨rfl, .inr (.inr rfl)⟩
theorem LengthOk.amoMinn (r : BitVec 1) (w : BitVec 1) (b : BitVec 5) (a : BitVec 5) (d : BitVec 5) (q : BitVec 4) : LengthOk.Statement (.amoMinn r w b a d q) := ⟨rfl, .inr (.inr rfl)⟩
theorem LengthOk.amoMaxn (r : BitVec 1) (w : BitVec 1) (b : BitVec 5) (a : BitVec 5) (d : BitVec 5) (q : BitVec 4) : LengthOk.Statement (.amoMaxn r w b a d q) := ⟨rfl, .inr (.inr rfl)⟩
theorem LengthOk.amoSwap (r : BitVec 1) (w : BitVec 1) (b : BitVec 5) (a : BitVec 5) (d : BitVec 5) (q : BitVec 4) : LengthOk.Statement (.amoSwap r w b a d q) := ⟨rfl, .inr (.inr rfl)⟩
theorem LengthOk.fence (c : BitVec 3) (q : BitVec 4) : LengthOk.Statement (.fence c q) := ⟨rfl, .inr (.inr rfl)⟩
theorem LengthOk.fenceSc (c : BitVec 3) (q : BitVec 4) : LengthOk.Statement (.fenceSc c q) := ⟨rfl, .inr (.inr rfl)⟩
theorem LengthOk.bprep (i : BitVec 20) (d : BitVec 3) : LengthOk.Statement (.bprep i d) := ⟨rfl, .inr (.inr rfl)⟩
theorem LengthOk.bprepr (a : BitVec 5) (d : BitVec 3) (q : BitVec 4) : LengthOk.Statement (.bprepr a d q) := ⟨rfl, .inr (.inr rfl)⟩
theorem LengthOk.cmpEq (b : BitVec 5) (a : BitVec 5) (d : BitVec 3) (q : BitVec 4) : LengthOk.Statement (.cmpEq b a d q) := ⟨rfl, .inr (.inr rfl)⟩
theorem LengthOk.cmpNe (b : BitVec 5) (a : BitVec 5) (d : BitVec 3) (q : BitVec 4) : LengthOk.Statement (.cmpNe b a d q) := ⟨rfl, .inr (.inr rfl)⟩
theorem LengthOk.cmpLt (b : BitVec 5) (a : BitVec 5) (d : BitVec 3) (q : BitVec 4) : LengthOk.Statement (.cmpLt b a d q) := ⟨rfl, .inr (.inr rfl)⟩
theorem LengthOk.cmpGe (b : BitVec 5) (a : BitVec 5) (d : BitVec 3) (q : BitVec 4) : LengthOk.Statement (.cmpGe b a d q) := ⟨rfl, .inr (.inr rfl)⟩
theorem LengthOk.cmpLtn (b : BitVec 5) (a : BitVec 5) (d : BitVec 3) (q : BitVec 4) : LengthOk.Statement (.cmpLtn b a d q) := ⟨rfl, .inr (.inr rfl)⟩
theorem LengthOk.cmpGen (b : BitVec 5) (a : BitVec 5) (d : BitVec 3) (q : BitVec 4) : LengthOk.Statement (.cmpGen b a d q) := ⟨rfl, .inr (.inr rfl)⟩
theorem LengthOk.pand (b : BitVec 3) (a : BitVec 3) (d : BitVec 3) (q : BitVec 4) : LengthOk.Statement (.pand b a d q) := ⟨rfl, .inr (.inr rfl)⟩
theorem LengthOk.por (b : BitVec 3) (a : BitVec 3) (d : BitVec 3) (q : BitVec 4) : LengthOk.Statement (.por b a d q) := ⟨rfl, .inr (.inr rfl)⟩
theorem LengthOk.pnot (a : BitVec 3) (d : BitVec 3) (q : BitVec 4) : LengthOk.Statement (.pnot a d q) := ⟨rfl, .inr (.inr rfl)⟩
theorem LengthOk.br (a : BitVec 3) (q : BitVec 4) : LengthOk.Statement (.br a q) := ⟨rfl, .inr (.inr rfl)⟩
theorem LengthOk.brP (a : BitVec 3) (d : BitVec 3) (q : BitVec 4) : LengthOk.Statement (.brP a d q) := ⟨rfl, .inr (.inr rfl)⟩
theorem LengthOk.brNp (a : BitVec 3) (d : BitVec 3) (q : BitVec 4) : LengthOk.Statement (.brNp a d q) := ⟨rfl, .inr (.inr rfl)⟩
theorem LengthOk.brl (a : BitVec 3) (d : BitVec 5) (q : BitVec 4) : LengthOk.Statement (.brl a d q) := ⟨rfl, .inr (.inr rfl)⟩
theorem LengthOk.brdec (a : BitVec 3) (d : BitVec 5) (q : BitVec 4) : LengthOk.Statement (.brdec a d q) := ⟨rfl, .inr (.inr rfl)⟩
theorem LengthOk.iinv (q : BitVec 4) : LengthOk.Statement (.iinv q) := ⟨rfl, .inr (.inr rfl)⟩
theorem LengthOk.launch (a : BitVec 5) (d : BitVec 5) (q : BitVec 4) : LengthOk.Statement (.launch a d q) := ⟨rfl, .inr (.inr rfl)⟩
theorem LengthOk.spawn (a : BitVec 5) (q : BitVec 4) : LengthOk.Statement (.spawn a q) := ⟨rfl, .inr (.inr rfl)⟩
theorem LengthOk.exit (q : BitVec 4) : LengthOk.Statement (.exit q) := ⟨rfl, .inr (.inr rfl)⟩
theorem LengthOk.yield (q : BitVec 4) : LengthOk.Statement (.yield q) := ⟨rfl, .inr (.inr rfl)⟩
theorem LengthOk.qdist (a : BitVec 5) (d : BitVec 5) (q : BitVec 4) : LengthOk.Statement (.qdist a d q) := ⟨rfl, .inr (.inr rfl)⟩
theorem LengthOk.join (e : BitVec 5) (a : BitVec 5) (q : BitVec 4) : LengthOk.Statement (.join e a q) := ⟨rfl, .inr (.inr rfl)⟩
theorem LengthOk.leave (q : BitVec 4) : LengthOk.Statement (.leave q) := ⟨rfl, .inr (.inr rfl)⟩
theorem LengthOk.gbar (a : BitVec 5) (q : BitVec 4) : LengthOk.Statement (.gbar a q) := ⟨rfl, .inr (.inr rfl)⟩
theorem LengthOk.sstep (e : BitVec 5) (a : BitVec 5) (d : BitVec 5) (q : BitVec 4) : LengthOk.Statement (.sstep e a d q) := ⟨rfl, .inr (.inr rfl)⟩
theorem LengthOk.ddec (e : BitVec 5) (a : BitVec 5) (q : BitVec 4) : LengthOk.Statement (.ddec e a q) := ⟨rfl, .inr (.inr rfl)⟩
theorem LengthOk.dadd (a : BitVec 5) (d : BitVec 5) (q : BitVec 4) : LengthOk.Statement (.dadd a d q) := ⟨rfl, .inr (.inr rfl)⟩
theorem LengthOk.waitc (e : BitVec 5) (a : BitVec 5) (d : BitVec 5) (q : BitVec 4) : LengthOk.Statement (.waitc e a d q) := ⟨rfl, .inr (.inr rfl)⟩
theorem LengthOk.msend (a : BitVec 5) (d : BitVec 5) (q : BitVec 4) : LengthOk.Statement (.msend a d q) := ⟨rfl, .inr (.inr rfl)⟩
theorem LengthOk.wpush (a : BitVec 5) (d : BitVec 5) (q : BitVec 4) : LengthOk.Statement (.wpush a d q) := ⟨rfl, .inr (.inr rfl)⟩
theorem LengthOk.wpop (e : BitVec 3) (a : BitVec 5) (d : BitVec 5) (q : BitVec 4) : LengthOk.Statement (.wpop e a d q) := ⟨rfl, .inr (.inr rfl)⟩
theorem LengthOk.wpopNb (e : BitVec 3) (a : BitVec 5) (d : BitVec 5) (q : BitVec 4) : LengthOk.Statement (.wpopNb e a d q) := ⟨rfl, .inr (.inr rfl)⟩
theorem LengthOk.wclose (a : BitVec 5) (q : BitVec 4) : LengthOk.Statement (.wclose a q) := ⟨rfl, .inr (.inr rfl)⟩
theorem LengthOk.vadd (y : BitVec 5) (m : BitVec 3) (b : BitVec 4) (a : BitVec 4) (d : BitVec 4) : LengthOk.Statement (.vadd y m b a d) := ⟨rfl, .inr (.inr rfl)⟩
theorem LengthOk.vsub (y : BitVec 5) (m : BitVec 3) (b : BitVec 4) (a : BitVec 4) (d : BitVec 4) : LengthOk.Statement (.vsub y m b a d) := ⟨rfl, .inr (.inr rfl)⟩
theorem LengthOk.vmul (y : BitVec 5) (m : BitVec 3) (b : BitVec 4) (a : BitVec 4) (d : BitVec 4) : LengthOk.Statement (.vmul y m b a d) := ⟨rfl, .inr (.inr rfl)⟩
theorem LengthOk.vfma (y : BitVec 5) (m : BitVec 3) (b : BitVec 4) (a : BitVec 4) (d : BitVec 4) : LengthOk.Statement (.vfma y m b a d) := ⟨rfl, .inr (.inr rfl)⟩
theorem LengthOk.vfms (y : BitVec 5) (m : BitVec 3) (b : BitVec 4) (a : BitVec 4) (d : BitVec 4) : LengthOk.Statement (.vfms y m b a d) := ⟨rfl, .inr (.inr rfl)⟩
theorem LengthOk.vmin (y : BitVec 5) (m : BitVec 3) (b : BitVec 4) (a : BitVec 4) (d : BitVec 4) : LengthOk.Statement (.vmin y m b a d) := ⟨rfl, .inr (.inr rfl)⟩
theorem LengthOk.vmax (y : BitVec 5) (m : BitVec 3) (b : BitVec 4) (a : BitVec 4) (d : BitVec 4) : LengthOk.Statement (.vmax y m b a d) := ⟨rfl, .inr (.inr rfl)⟩
theorem LengthOk.vabs (y : BitVec 5) (m : BitVec 3) (a : BitVec 4) (d : BitVec 4) : LengthOk.Statement (.vabs y m a d) := ⟨rfl, .inr (.inr rfl)⟩
theorem LengthOk.vneg (y : BitVec 5) (m : BitVec 3) (a : BitVec 4) (d : BitVec 4) : LengthOk.Statement (.vneg y m a d) := ⟨rfl, .inr (.inr rfl)⟩
theorem LengthOk.vadds (y : BitVec 5) (m : BitVec 3) (b : BitVec 4) (a : BitVec 4) (d : BitVec 4) : LengthOk.Statement (.vadds y m b a d) := ⟨rfl, .inr (.inr rfl)⟩
theorem LengthOk.vsubs (y : BitVec 5) (m : BitVec 3) (b : BitVec 4) (a : BitVec 4) (d : BitVec 4) : LengthOk.Statement (.vsubs y m b a d) := ⟨rfl, .inr (.inr rfl)⟩
theorem LengthOk.vdiv (y : BitVec 5) (m : BitVec 3) (b : BitVec 4) (a : BitVec 4) (d : BitVec 4) : LengthOk.Statement (.vdiv y m b a d) := ⟨rfl, .inr (.inr rfl)⟩
theorem LengthOk.vsqrt (y : BitVec 5) (m : BitVec 3) (a : BitVec 4) (d : BitVec 4) : LengthOk.Statement (.vsqrt y m a d) := ⟨rfl, .inr (.inr rfl)⟩
theorem LengthOk.vrcp (y : BitVec 5) (m : BitVec 3) (a : BitVec 4) (d : BitVec 4) : LengthOk.Statement (.vrcp y m a d) := ⟨rfl, .inr (.inr rfl)⟩
theorem LengthOk.vrsq (y : BitVec 5) (m : BitVec 3) (a : BitVec 4) (d : BitVec 4) : LengthOk.Statement (.vrsq y m a d) := ⟨rfl, .inr (.inr rfl)⟩
theorem LengthOk.vexp2 (y : BitVec 5) (m : BitVec 3) (a : BitVec 4) (d : BitVec 4) : LengthOk.Statement (.vexp2 y m a d) := ⟨rfl, .inr (.inr rfl)⟩
theorem LengthOk.vlog2 (y : BitVec 5) (m : BitVec 3) (a : BitVec 4) (d : BitVec 4) : LengthOk.Statement (.vlog2 y m a d) := ⟨rfl, .inr (.inr rfl)⟩
theorem LengthOk.vcmpEq (y : BitVec 5) (m : BitVec 3) (b : BitVec 4) (a : BitVec 4) (d : BitVec 2) : LengthOk.Statement (.vcmpEq y m b a d) := ⟨rfl, .inr (.inr rfl)⟩
theorem LengthOk.vcmpNe (y : BitVec 5) (m : BitVec 3) (b : BitVec 4) (a : BitVec 4) (d : BitVec 2) : LengthOk.Statement (.vcmpNe y m b a d) := ⟨rfl, .inr (.inr rfl)⟩
theorem LengthOk.vcmpLt (y : BitVec 5) (m : BitVec 3) (b : BitVec 4) (a : BitVec 4) (d : BitVec 2) : LengthOk.Statement (.vcmpLt y m b a d) := ⟨rfl, .inr (.inr rfl)⟩
theorem LengthOk.vcmpLe (y : BitVec 5) (m : BitVec 3) (b : BitVec 4) (a : BitVec 4) (d : BitVec 2) : LengthOk.Statement (.vcmpLe y m b a d) := ⟨rfl, .inr (.inr rfl)⟩
theorem LengthOk.vcmpUn (y : BitVec 5) (m : BitVec 3) (b : BitVec 4) (a : BitVec 4) (d : BitVec 2) : LengthOk.Statement (.vcmpUn y m b a d) := ⟨rfl, .inr (.inr rfl)⟩
theorem LengthOk.vsel (y : BitVec 5) (m : BitVec 2) (b : BitVec 4) (a : BitVec 4) (d : BitVec 4) : LengthOk.Statement (.vsel y m b a d) := ⟨rfl, .inr (.inr rfl)⟩
theorem LengthOk.vclass (y : BitVec 5) (m : BitVec 3) (a : BitVec 4) (d : BitVec 4) : LengthOk.Statement (.vclass y m a d) := ⟨rfl, .inr (.inr rfl)⟩
theorem LengthOk.vand (y : BitVec 5) (m : BitVec 3) (b : BitVec 4) (a : BitVec 4) (d : BitVec 4) : LengthOk.Statement (.vand y m b a d) := ⟨rfl, .inr (.inr rfl)⟩
theorem LengthOk.vor (y : BitVec 5) (m : BitVec 3) (b : BitVec 4) (a : BitVec 4) (d : BitVec 4) : LengthOk.Statement (.vor y m b a d) := ⟨rfl, .inr (.inr rfl)⟩
theorem LengthOk.vxor (y : BitVec 5) (m : BitVec 3) (b : BitVec 4) (a : BitVec 4) (d : BitVec 4) : LengthOk.Statement (.vxor y m b a d) := ⟨rfl, .inr (.inr rfl)⟩
theorem LengthOk.vnot (y : BitVec 5) (m : BitVec 3) (a : BitVec 4) (d : BitVec 4) : LengthOk.Statement (.vnot y m a d) := ⟨rfl, .inr (.inr rfl)⟩
theorem LengthOk.vshl (y : BitVec 5) (m : BitVec 3) (b : BitVec 4) (a : BitVec 4) (d : BitVec 4) : LengthOk.Statement (.vshl y m b a d) := ⟨rfl, .inr (.inr rfl)⟩
theorem LengthOk.vshr (y : BitVec 5) (m : BitVec 3) (b : BitVec 4) (a : BitVec 4) (d : BitVec 4) : LengthOk.Statement (.vshr y m b a d) := ⟨rfl, .inr (.inr rfl)⟩
theorem LengthOk.vsra (y : BitVec 5) (m : BitVec 3) (b : BitVec 4) (a : BitVec 4) (d : BitVec 4) : LengthOk.Statement (.vsra y m b a d) := ⟨rfl, .inr (.inr rfl)⟩
theorem LengthOk.vld (i : BitVec 8) (b : BitVec 5) (t : BitVec 4) (q : BitVec 4) : LengthOk.Statement (.vld i b t q) := ⟨rfl, .inr (.inr rfl)⟩
theorem LengthOk.vst (i : BitVec 8) (b : BitVec 5) (t : BitVec 4) (q : BitVec 4) : LengthOk.Statement (.vst i b t q) := ⟨rfl, .inr (.inr rfl)⟩
theorem LengthOk.vgath (b : BitVec 4) (a : BitVec 5) (d : BitVec 4) (q : BitVec 4) : LengthOk.Statement (.vgath b a d q) := ⟨rfl, .inr (.inr rfl)⟩
theorem LengthOk.vscat (b : BitVec 4) (a : BitVec 5) (d : BitVec 4) (q : BitVec 4) : LengthOk.Statement (.vscat b a d q) := ⟨rfl, .inr (.inr rfl)⟩
theorem LengthOk.vbcast (a : BitVec 5) (d : BitVec 4) (q : BitVec 4) : LengthOk.Statement (.vbcast a d q) := ⟨rfl, .inr (.inr rfl)⟩
theorem LengthOk.vextr (b : BitVec 5) (a : BitVec 4) (d : BitVec 2) (q : BitVec 4) : LengthOk.Statement (.vextr b a d q) := ⟨rfl, .inr (.inr rfl)⟩
theorem LengthOk.vperm (y : BitVec 5) (m : BitVec 3) (b : BitVec 4) (a : BitVec 4) (d : BitVec 4) : LengthOk.Statement (.vperm y m b a d) := ⟨rfl, .inr (.inr rfl)⟩
theorem LengthOk.vslide (y : BitVec 5) (m : BitVec 3) (b : BitVec 4) (a : BitVec 4) (d : BitVec 4) : LengthOk.Statement (.vslide y m b a d) := ⟨rfl, .inr (.inr rfl)⟩
theorem LengthOk.vzip (y : BitVec 5) (b : BitVec 4) (a : BitVec 4) (d : BitVec 3) : LengthOk.Statement (.vzip y b a d) := ⟨rfl, .inr (.inr rfl)⟩
theorem LengthOk.vuzp (y : BitVec 5) (b : BitVec 4) (a : BitVec 4) (d : BitVec 3) : LengthOk.Statement (.vuzp y b a d) := ⟨rfl, .inr (.inr rfl)⟩
theorem LengthOk.vldc (h : BitVec 5) (r : BitVec 4) (q : BitVec 4) : LengthOk.Statement (.vldc h r q) := ⟨rfl, .inr (.inr rfl)⟩
theorem LengthOk.vldcKeep (h : BitVec 5) (r : BitVec 4) (q : BitVec 4) : LengthOk.Statement (.vldcKeep h r q) := ⟨rfl, .inr (.inr rfl)⟩
theorem LengthOk.vstc (h : BitVec 5) (r : BitVec 4) (q : BitVec 4) : LengthOk.Statement (.vstc h r q) := ⟨rfl, .inr (.inr rfl)⟩
theorem LengthOk.vred (y : BitVec 5) (m : BitVec 3) (a : BitVec 4) (d : BitVec 4) : LengthOk.Statement (.vred y m a d) := ⟨rfl, .inr (.inr rfl)⟩
theorem LengthOk.vredBox (y : BitVec 5) (m : BitVec 3) (b : BitVec 2) (a : BitVec 4) : LengthOk.Statement (.vredBox y m b a) := ⟨rfl, .inr (.inr rfl)⟩
theorem LengthOk.vrmin (y : BitVec 5) (m : BitVec 3) (a : BitVec 4) (d : BitVec 4) : LengthOk.Statement (.vrmin y m a d) := ⟨rfl, .inr (.inr rfl)⟩
theorem LengthOk.vrminBox (y : BitVec 5) (m : BitVec 3) (b : BitVec 2) (a : BitVec 4) : LengthOk.Statement (.vrminBox y m b a) := ⟨rfl, .inr (.inr rfl)⟩
theorem LengthOk.vrmax (y : BitVec 5) (m : BitVec 3) (a : BitVec 4) (d : BitVec 4) : LengthOk.Statement (.vrmax y m a d) := ⟨rfl, .inr (.inr rfl)⟩
theorem LengthOk.vrmaxBox (y : BitVec 5) (m : BitVec 3) (b : BitVec 2) (a : BitVec 4) : LengthOk.Statement (.vrmaxBox y m b a) := ⟨rfl, .inr (.inr rfl)⟩
theorem LengthOk.vscan (y : BitVec 5) (m : BitVec 3) (a : BitVec 4) (d : BitVec 4) : LengthOk.Statement (.vscan y m a d) := ⟨rfl, .inr (.inr rfl)⟩
theorem LengthOk.vxacc (m : BitVec 3) (z : BitVec 1) (a : BitVec 4) (d : BitVec 3) : LengthOk.Statement (.vxacc m z a d) := ⟨rfl, .inr (.inr rfl)⟩
theorem LengthOk.vxdrain (y : BitVec 5) (c : BitVec 1) (h : BitVec 1) (a : BitVec 3) (d : BitVec 4) : LengthOk.Statement (.vxdrain y c h a d) := ⟨rfl, .inr (.inr rfl)⟩
theorem LengthOk.vtopk (y : BitVec 5) (m : BitVec 3) (b : BitVec 4) (a : BitVec 4) (d : BitVec 3) : LengthOk.Statement (.vtopk y m b a d) := ⟨rfl, .inr (.inr rfl)⟩
theorem LengthOk.vquant (y : BitVec 5) (a : BitVec 4) (d : BitVec 4) : LengthOk.Statement (.vquant y a d) := ⟨rfl, .inr (.inr rfl)⟩
theorem LengthOk.vdeq (y : BitVec 5) (a : BitVec 4) (d : BitVec 4) : LengthOk.Statement (.vdeq y a d) := ⟨rfl, .inr (.inr rfl)⟩
theorem LengthOk.vcvt (s : BitVec 5) (y : BitVec 5) (m : BitVec 3) (a : BitVec 4) (d : BitVec 4) : LengthOk.Statement (.vcvt s y m a d) := ⟨rfl, .inr (.inr rfl)⟩
theorem LengthOk.mxcfg (a : BitVec 5) (d : BitVec 3) (q : BitVec 4) : LengthOk.Statement (.mxcfg a d q) := ⟨rfl, .inr (.inr rfl)⟩
theorem LengthOk.mxzero (d : BitVec 3) (q : BitVec 4) : LengthOk.Statement (.mxzero d q) := ⟨rfl, .inr (.inr rfl)⟩
theorem LengthOk.mxmac (d : BitVec 3) (q : BitVec 4) : LengthOk.Statement (.mxmac d q) := ⟨rfl, .inr (.inr rfl)⟩
theorem LengthOk.mxwait (d : BitVec 3) (q : BitVec 4) : LengthOk.Statement (.mxwait d q) := ⟨rfl, .inr (.inr rfl)⟩
theorem LengthOk.mxchk (a : BitVec 2) (d : BitVec 3) (q : BitVec 4) : LengthOk.Statement (.mxchk a d q) := ⟨rfl, .inr (.inr rfl)⟩
theorem LengthOk.mxa (n : BitVec 3) (h : BitVec 5) (q : BitVec 4) : LengthOk.Statement (.mxa n h q) := ⟨rfl, .inr (.inr rfl)⟩
theorem LengthOk.mxaKeep (n : BitVec 3) (h : BitVec 5) (q : BitVec 4) : LengthOk.Statement (.mxaKeep n h q) := ⟨rfl, .inr (.inr rfl)⟩
theorem LengthOk.mxaHold (n : BitVec 3) (h : BitVec 5) (q : BitVec 4) : LengthOk.Statement (.mxaHold n h q) := ⟨rfl, .inr (.inr rfl)⟩
theorem LengthOk.mxb (n : BitVec 3) (h : BitVec 5) (q : BitVec 4) : LengthOk.Statement (.mxb n h q) := ⟨rfl, .inr (.inr rfl)⟩
theorem LengthOk.mxbKeep (n : BitVec 3) (h : BitVec 5) (q : BitVec 4) : LengthOk.Statement (.mxbKeep n h q) := ⟨rfl, .inr (.inr rfl)⟩
theorem LengthOk.mxbHold (n : BitVec 3) (h : BitVec 5) (q : BitVec 4) : LengthOk.Statement (.mxbHold n h q) := ⟨rfl, .inr (.inr rfl)⟩
theorem LengthOk.mxdrain (k : BitVec 3) (n : BitVec 3) (h : BitVec 5) (r : BitVec 5) (q : BitVec 4) : LengthOk.Statement (.mxdrain k n h r q) := ⟨rfl, .inr (.inr rfl)⟩
theorem LengthOk.ufcfg (a : BitVec 5) (q : BitVec 4) : LengthOk.Statement (.ufcfg a q) := ⟨rfl, .inr (.inr rfl)⟩
theorem LengthOk.mxaUf (a : BitVec 5) (q : BitVec 4) : LengthOk.Statement (.mxaUf a q) := ⟨rfl, .inr (.inr rfl)⟩
theorem LengthOk.ssub (a : BitVec 5) (d : BitVec 5) (q : BitVec 4) : LengthOk.Statement (.ssub a d q) := ⟨rfl, .inr (.inr rfl)⟩
theorem LengthOk.sunsub (d : BitVec 5) (q : BitVec 4) : LengthOk.Statement (.sunsub d q) := ⟨rfl, .inr (.inr rfl)⟩
theorem LengthOk.mxbS (e : BitVec 5) (d : BitVec 5) (q : BitVec 4) : LengthOk.Statement (.mxbS e d q) := ⟨rfl, .inr (.inr rfl)⟩
theorem LengthOk.mxspill (a : BitVec 5) (d : BitVec 3) (q : BitVec 4) : LengthOk.Statement (.mxspill a d q) := ⟨rfl, .inr (.inr rfl)⟩
theorem LengthOk.mxfill (a : BitVec 5) (d : BitVec 3) (q : BitVec 4) : LengthOk.Statement (.mxfill a d q) := ⟨rfl, .inr (.inr rfl)⟩
theorem LengthOk.mvset (e : BitVec 5) (a : BitVec 5) (q : BitVec 4) : LengthOk.Statement (.mvset e a q) := ⟨rfl, .inr (.inr rfl)⟩
theorem LengthOk.mvget (e : BitVec 5) (d : BitVec 5) (q : BitVec 4) : LengthOk.Statement (.mvget e d q) := ⟨rfl, .inr (.inr rfl)⟩
theorem LengthOk.mvgo (d : BitVec 5) (q : BitVec 4) : LengthOk.Statement (.mvgo d q) := ⟨rfl, .inr (.inr rfl)⟩
theorem LengthOk.mvchain (a : BitVec 5) (d : BitVec 5) (q : BitVec 4) : LengthOk.Statement (.mvchain a d q) := ⟨rfl, .inr (.inr rfl)⟩
theorem LengthOk.mvtst (a : BitVec 5) (d : BitVec 5) (q : BitVec 4) : LengthOk.Statement (.mvtst a d q) := ⟨rfl, .inr (.inr rfl)⟩
theorem LengthOk.mvwait (a : BitVec 5) (d : BitVec 5) (q : BitVec 4) : LengthOk.Statement (.mvwait a d q) := ⟨rfl, .inr (.inr rfl)⟩
theorem LengthOk.bxinit (a : BitVec 5) (d : BitVec 5) (q : BitVec 4) : LengthOk.Statement (.bxinit a d q) := ⟨rfl, .inr (.inr rfl)⟩
theorem LengthOk.bxarv (e : BitVec 5) (a : BitVec 5) (d : BitVec 5) (q : BitVec 4) : LengthOk.Statement (.bxarv e a d q) := ⟨rfl, .inr (.inr rfl)⟩
theorem LengthOk.bxwait (e : BitVec 5) (a : BitVec 5) (d : BitVec 5) (q : BitVec 4) : LengthOk.Statement (.bxwait e a d q) := ⟨rfl, .inr (.inr rfl)⟩
theorem LengthOk.bxtst (e : BitVec 5) (a : BitVec 5) (d : BitVec 5) (q : BitVec 4) : LengthOk.Statement (.bxtst e a d q) := ⟨rfl, .inr (.inr rfl)⟩
theorem LengthOk.cbacqP (n : BitVec 3) (h : BitVec 5) (r : BitVec 5) (q : BitVec 4) : LengthOk.Statement (.cbacqP n h r q) := ⟨rfl, .inr (.inr rfl)⟩
theorem LengthOk.cbacqC (n : BitVec 3) (h : BitVec 5) (r : BitVec 5) (q : BitVec 4) : LengthOk.Statement (.cbacqC n h r q) := ⟨rfl, .inr (.inr rfl)⟩
theorem LengthOk.cbrelP (n : BitVec 3) (h : BitVec 5) (q : BitVec 4) : LengthOk.Statement (.cbrelP n h q) := ⟨rfl, .inr (.inr rfl)⟩
theorem LengthOk.cbrelC (n : BitVec 3) (h : BitVec 5) (q : BitVec 4) : LengthOk.Statement (.cbrelC n h q) := ⟨rfl, .inr (.inr rfl)⟩
theorem LengthOk.cbqry (k : BitVec 3) (h : BitVec 5) (r : BitVec 5) (q : BitVec 4) : LengthOk.Statement (.cbqry k h r q) := ⟨rfl, .inr (.inr rfl)⟩
theorem LengthOk.cbinitBuffer (a : BitVec 5) (q : BitVec 4) : LengthOk.Statement (.cbinitBuffer a q) := ⟨rfl, .inr (.inr rfl)⟩
theorem LengthOk.cbinitWindow (a : BitVec 5) (q : BitVec 4) : LengthOk.Statement (.cbinitWindow a q) := ⟨rfl, .inr (.inr rfl)⟩
theorem LengthOk.glaze (e : BitVec 5) (a : BitVec 4) (q : BitVec 4) : LengthOk.Statement (.glaze e a q) := ⟨rfl, .inr (.inr rfl)⟩
theorem LengthOk.rdsr (e : BitVec 5) (d : BitVec 5) (q : BitVec 4) : LengthOk.Statement (.rdsr e d q) := ⟨rfl, .inr (.inr rfl)⟩
theorem LengthOk.wrsr (e : BitVec 5) (a : BitVec 5) (q : BitVec 4) : LengthOk.Statement (.wrsr e a q) := ⟨rfl, .inr (.inr rfl)⟩
theorem LengthOk.tlbinv (e : BitVec 5) (a : BitVec 5) (q : BitVec 4) : LengthOk.Statement (.tlbinv e a q) := ⟨rfl, .inr (.inr rfl)⟩
theorem LengthOk.trap (e : BitVec 5) (a : BitVec 5) (q : BitVec 4) : LengthOk.Statement (.trap e a q) := ⟨rfl, .inr (.inr rfl)⟩
theorem LengthOk.eret (e : BitVec 5) (a : BitVec 5) (q : BitVec 4) : LengthOk.Statement (.eret e a q) := ⟨rfl, .inr (.inr rfl)⟩
theorem LengthOk.cdopen (a : BitVec 5) (q : BitVec 4) : LengthOk.Statement (.cdopen a q) := ⟨rfl, .inr (.inr rfl)⟩
theorem LengthOk.cdclose (d : BitVec 5) (q : BitVec 4) : LengthOk.Statement (.cdclose d q) := ⟨rfl, .inr (.inr rfl)⟩
theorem LengthOk.taskAdmission : LengthOk.Statement (.taskAdmission) := ⟨rfl, .inl rfl⟩
theorem LengthOk.taskReady : LengthOk.Statement (.taskReady) := ⟨rfl, .inl rfl⟩
theorem LengthOk.readyAging : LengthOk.Statement (.readyAging) := ⟨rfl, .inl rfl⟩
theorem LengthOk.rotation : LengthOk.Statement (.rotation) := ⟨rfl, .inl rfl⟩
theorem LengthOk.leadDistributorPlacement : LengthOk.Statement (.leadDistributorPlacement) := ⟨rfl, .inl rfl⟩
theorem LengthOk.taskInstantiation : LengthOk.Statement (.taskInstantiation) := ⟨rfl, .inl rfl⟩
theorem LengthOk.registerCacheFill : LengthOk.Statement (.registerCacheFill) := ⟨rfl, .inl rfl⟩
theorem LengthOk.snapshotFetch : LengthOk.Statement (.snapshotFetch) := ⟨rfl, .inl rfl⟩
theorem LengthOk.codeFetch : LengthOk.Statement (.codeFetch) := ⟨rfl, .inl rfl⟩
theorem LengthOk.tilePowerGating : LengthOk.Statement (.tilePowerGating) := ⟨rfl, .inl rfl⟩
theorem LengthOk.wake : LengthOk.Statement (.wake) := ⟨rfl, .inl rfl⟩
theorem LengthOk.wakeComplete : LengthOk.Statement (.wakeComplete) := ⟨rfl, .inl rfl⟩
theorem LengthOk.frequencyChange : LengthOk.Statement (.frequencyChange) := ⟨rfl, .inl rfl⟩
theorem LengthOk.powerLimit : LengthOk.Statement (.powerLimit) := ⟨rfl, .inl rfl⟩
theorem LengthOk.vectorCommandBegin : LengthOk.Statement (.vectorCommandBegin) := ⟨rfl, .inl rfl⟩
theorem LengthOk.vectorCommandComplete : LengthOk.Statement (.vectorCommandComplete) := ⟨rfl, .inl rfl⟩
theorem LengthOk.matrixCommandBegin : LengthOk.Statement (.matrixCommandBegin) := ⟨rfl, .inl rfl⟩
theorem LengthOk.matrixCommandComplete : LengthOk.Statement (.matrixCommandComplete) := ⟨rfl, .inl rfl⟩
theorem LengthOk.boxWrite : LengthOk.Statement (.boxWrite) := ⟨rfl, .inl rfl⟩
theorem LengthOk.cbGrant : LengthOk.Statement (.cbGrant) := ⟨rfl, .inl rfl⟩
theorem LengthOk.transferBegin : LengthOk.Statement (.transferBegin) := ⟨rfl, .inl rfl⟩
theorem LengthOk.moverTurn : LengthOk.Statement (.moverTurn) := ⟨rfl, .inl rfl⟩
theorem LengthOk.transferCompletion : LengthOk.Statement (.transferCompletion) := ⟨rfl, .inl rfl⟩
theorem LengthOk.chainDescriptorFetch : LengthOk.Statement (.chainDescriptorFetch) := ⟨rfl, .inl rfl⟩
theorem LengthOk.handleCacheFill : LengthOk.Statement (.handleCacheFill) := ⟨rfl, .inl rfl⟩
theorem LengthOk.revoke : LengthOk.Statement (.revoke) := ⟨rfl, .inl rfl⟩
theorem LengthOk.revocationDone : LengthOk.Statement (.revocationDone) := ⟨rfl, .inl rfl⟩
theorem LengthOk.streamDelivery : LengthOk.Statement (.streamDelivery) := ⟨rfl, .inl rfl⟩
theorem LengthOk.scrubRead : LengthOk.Statement (.scrubRead) := ⟨rfl, .inl rfl⟩
theorem LengthOk.protectedWrite : LengthOk.Statement (.protectedWrite) := ⟨rfl, .inl rfl⟩
theorem LengthOk.parityDelta : LengthOk.Statement (.parityDelta) := ⟨rfl, .inl rfl⟩
theorem LengthOk.memberLoss : LengthOk.Statement (.memberLoss) := ⟨rfl, .inl rfl⟩
theorem LengthOk.erasureRebuild : LengthOk.Statement (.erasureRebuild) := ⟨rfl, .inl rfl⟩
theorem LengthOk.pageMoveQueueStore : LengthOk.Statement (.pageMoveQueueStore) := ⟨rfl, .inl rfl⟩
theorem LengthOk.pageMoveRecord : LengthOk.Statement (.pageMoveRecord) := ⟨rfl, .inl rfl⟩
theorem LengthOk.frameMove : LengthOk.Statement (.frameMove) := ⟨rfl, .inl rfl⟩
theorem LengthOk.linkReplay : LengthOk.Statement (.linkReplay) := ⟨rfl, .inl rfl⟩
theorem LengthOk.packetArrival : LengthOk.Statement (.packetArrival) := ⟨rfl, .inl rfl⟩
theorem LengthOk.requestResend : LengthOk.Statement (.requestResend) := ⟨rfl, .inl rfl⟩
theorem LengthOk.gets : LengthOk.Statement (.gets) := ⟨rfl, .inl rfl⟩
theorem LengthOk.getm : LengthOk.Statement (.getm) := ⟨rfl, .inl rfl⟩
theorem LengthOk.writeBack : LengthOk.Statement (.writeBack) := ⟨rfl, .inl rfl⟩
theorem LengthOk.eviction : LengthOk.Statement (.eviction) := ⟨rfl, .inl rfl⟩
theorem LengthOk.invalidation : LengthOk.Statement (.invalidation) := ⟨rfl, .inl rfl⟩
theorem LengthOk.directoryEviction : LengthOk.Statement (.directoryEviction) := ⟨rfl, .inl rfl⟩
theorem LengthOk.incarnationChange : LengthOk.Statement (.incarnationChange) := ⟨rfl, .inl rfl⟩
theorem LengthOk.translationWalk : LengthOk.Statement (.translationWalk) := ⟨rfl, .inl rfl⟩
theorem LengthOk.walkComplete : LengthOk.Statement (.walkComplete) := ⟨rfl, .inl rfl⟩
theorem LengthOk.reservationGrant : LengthOk.Statement (.reservationGrant) := ⟨rfl, .inl rfl⟩
theorem LengthOk.reservationRelease : LengthOk.Statement (.reservationRelease) := ⟨rfl, .inl rfl⟩
theorem LengthOk.messageArrival : LengthOk.Statement (.messageArrival) := ⟨rfl, .inl rfl⟩
theorem LengthOk.msendReply : LengthOk.Statement (.msendReply) := ⟨rfl, .inl rfl⟩
theorem LengthOk.heldMessageBatch : LengthOk.Statement (.heldMessageBatch) := ⟨rfl, .inl rfl⟩
theorem LengthOk.handlerStart : LengthOk.Statement (.handlerStart) := ⟨rfl, .inl rfl⟩
theorem LengthOk.colExchange : LengthOk.Statement (.colExchange) := ⟨rfl, .inl rfl⟩
theorem LengthOk.collectiveReady : LengthOk.Statement (.collectiveReady) := ⟨rfl, .inl rfl⟩
theorem LengthOk.collectiveCommit : LengthOk.Statement (.collectiveCommit) := ⟨rfl, .inl rfl⟩
theorem LengthOk.collectiveAbort : LengthOk.Statement (.collectiveAbort) := ⟨rfl, .inl rfl⟩
theorem LengthOk.coordinatorTakeover : LengthOk.Statement (.coordinatorTakeover) := ⟨rfl, .inl rfl⟩
theorem LengthOk.trapHandlerStart : LengthOk.Statement (.trapHandlerStart) := ⟨rfl, .inl rfl⟩
theorem LengthOk.preemptionQueueStore : LengthOk.Statement (.preemptionQueueStore) := ⟨rfl, .inl rfl⟩
theorem LengthOk.preemption : LengthOk.Statement (.preemption) := ⟨rfl, .inl rfl⟩
theorem LengthOk.resume : LengthOk.Statement (.resume) := ⟨rfl, .inl rfl⟩
theorem LengthOk.domainDiscard : LengthOk.Statement (.domainDiscard) := ⟨rfl, .inl rfl⟩
theorem LengthOk.tieBreakComparison : LengthOk.Statement (.tieBreakComparison) := ⟨rfl, .inl rfl⟩
theorem LengthOk.rectangleReset : LengthOk.Statement (.rectangleReset) := ⟨rfl, .inl rfl⟩
theorem LengthOk.quarantine : LengthOk.Statement (.quarantine) := ⟨rfl, .inl rfl⟩
theorem LengthOk.quarantineRelease : LengthOk.Statement (.quarantineRelease) := ⟨rfl, .inl rfl⟩
theorem LengthOk.structuralTest : LengthOk.Statement (.structuralTest) := ⟨rfl, .inl rfl⟩
theorem LengthOk.dieRetirement : LengthOk.Statement (.dieRetirement) := ⟨rfl, .inl rfl⟩
theorem LengthOk.dieEvacuation : LengthOk.Statement (.dieEvacuation) := ⟨rfl, .inl rfl⟩
theorem LengthOk.heldState : LengthOk.Statement (.heldState) := ⟨rfl, .inl rfl⟩
theorem LengthOk.voterReplacement : LengthOk.Statement (.voterReplacement) := ⟨rfl, .inl rfl⟩
theorem LengthOk.remoteFailure : LengthOk.Statement (.remoteFailure) := ⟨rfl, .inl rfl⟩
theorem LengthOk.controlSpaceWrite : LengthOk.Statement (.controlSpaceWrite) := ⟨rfl, .inl rfl⟩
theorem LengthOk.trapConfigurationWrite : LengthOk.Statement (.trapConfigurationWrite) := ⟨rfl, .inl rfl⟩
theorem LengthOk.mailboxEntryWrite : LengthOk.Statement (.mailboxEntryWrite) := ⟨rfl, .inl rfl⟩
theorem LengthOk.streamEntryWrite : LengthOk.Statement (.streamEntryWrite) := ⟨rfl, .inl rfl⟩
theorem LengthOk.workQueueConfigWrite : LengthOk.Statement (.workQueueConfigWrite) := ⟨rfl, .inl rfl⟩
theorem LengthOk.rectangleWrite : LengthOk.Statement (.rectangleWrite) := ⟨rfl, .inl rfl⟩
theorem LengthOk.lcancel : LengthOk.Statement (.lcancel) := ⟨rfl, .inl rfl⟩
theorem LengthOk.hostRequest : LengthOk.Statement (.hostRequest) := ⟨rfl, .inl rfl⟩
theorem LengthOk.launchWindowWrite : LengthOk.Statement (.launchWindowWrite) := ⟨rfl, .inl rfl⟩
theorem LengthOk.hostLaunchStart : LengthOk.Statement (.hostLaunchStart) := ⟨rfl, .inl rfl⟩
theorem LengthOk.viEnable : LengthOk.Statement (.viEnable) := ⟨rfl, .inl rfl⟩
theorem LengthOk.viStop : LengthOk.Statement (.viStop) := ⟨rfl, .inl rfl⟩
theorem LengthOk.viStopped : LengthOk.Statement (.viStopped) := ⟨rfl, .inl rfl⟩
theorem LengthOk.jobtagWrite : LengthOk.Statement (.jobtagWrite) := ⟨rfl, .inl rfl⟩
theorem LengthOk.frzclr : LengthOk.Statement (.frzclr) := ⟨rfl, .inl rfl⟩
theorem LengthOk.contextEntryWrite : LengthOk.Statement (.contextEntryWrite) := ⟨rfl, .inl rfl⟩
theorem LengthOk.hostAlloc : LengthOk.Statement (.hostAlloc) := ⟨rfl, .inl rfl⟩
theorem LengthOk.hostFree : LengthOk.Statement (.hostFree) := ⟨rfl, .inl rfl⟩
theorem LengthOk.sparingApproval : LengthOk.Statement (.sparingApproval) := ⟨rfl, .inl rfl⟩
theorem LengthOk.rebuildStart : LengthOk.Statement (.rebuildStart) := ⟨rfl, .inl rfl⟩
theorem LengthOk.eraskind : LengthOk.Statement (.eraskind) := ⟨rfl, .inl rfl⟩
theorem LengthOk.erasgrpSet : LengthOk.Statement (.erasgrpSet) := ⟨rfl, .inl rfl⟩
theorem LengthOk.erasureGroupMatch : LengthOk.Statement (.erasureGroupMatch) := ⟨rfl, .inl rfl⟩
theorem LengthOk.heqack : LengthOk.Statement (.heqack) := ⟨rfl, .inl rfl⟩
theorem LengthOk.heactResume : LengthOk.Statement (.heactResume) := ⟨rfl, .inl rfl⟩
theorem LengthOk.heactEnd : LengthOk.Statement (.heactEnd) := ⟨rfl, .inl rfl⟩
theorem LengthOk.heactDiscard : LengthOk.Statement (.heactDiscard) := ⟨rfl, .inl rfl⟩
theorem LengthOk.hwalk : LengthOk.Statement (.hwalk) := ⟨rfl, .inl rfl⟩
theorem LengthOk.boot : LengthOk.Statement (.boot) := ⟨rfl, .inl rfl⟩
theorem LengthOk.firmwareUpdate : LengthOk.Statement (.firmwareUpdate) := ⟨rfl, .inl rfl⟩
theorem LengthOk.attestationRequest : LengthOk.Statement (.attestationRequest) := ⟨rfl, .inl rfl⟩
theorem LengthOk.illegalInstruction : LengthOk.Statement (.illegalInstruction) := ⟨rfl, .inl rfl⟩
theorem LengthOk.linkPortFailure : LengthOk.Statement (.linkPortFailure) := ⟨rfl, .inl rfl⟩
theorem LengthOk.hbmStackFailure : LengthOk.Statement (.hbmStackFailure) := ⟨rfl, .inl rfl⟩
theorem LengthOk.detour : LengthOk.Statement (.detour) := ⟨rfl, .inl rfl⟩

end Sys2Proof.Laws
end

