-- ==== Sys2Proof/Tests/Slice0.lean ====
section
/-! SUPPORT. The model's own tests: ill-formed terms that WellFormed refuses, words of the spec's examples as they decode, single steps
whose results the spec gives, and for each obligation with hypotheses a state and operands that meet them. -/

open Sys2Proof Sys2Proof.Machine

namespace Sys2Proof.Tests

-- a module of its own compiles in the memory limit of the check
set_option Elab.async false

/-! ## States -/

/-- A resident task of VI 0 on tile 0: PC 0x1000, WP 0x4000. -/
def base : State := State.reset.withFetchWord 32 0
def setG (s : State) (n : BitVec 5) (v : Nat) : State := s.modCur (fun t => t.wrG n ⟨BitVec.ofNat 64 v, false, false⟩)
/-- Eight bytes of data at 0x2000 of tile 0, in a written granule. -/
def data : State := base.placeCode 0x2000 [0x80, 1, 2, 3, 4, 5, 6, 0x87]
/-- The same with G1 naming the data, and SR.MODE and T0 as a running task may have them. -/
def atData : State := setG data 1 0x2000
/-- A translation of the first 2 MiB of region 1, with every right. -/
def mapped (s : State) : State := s.modTile 0 (fun x => { x with tlb := [⟨0, 1, 0, 2 ^ 21, 0xFC00000000000000⟩] })
def modSt (s : State) (f : Status → Status) : State := s.modCur (fun t => { t with st := f t.st })
/-- Deterministic mode. -/
def detMode (s : State) : State := modSt s (fun x => { x with mode := setBit x.mode 14 true })
def withEv (s : State) (x : EvIn) : State := { s with ev := x }
/-- Doublewords as bytes, for records in memory. -/
def dws (l : List Nat) : List Byte := l.flatMap (toBytes 8)
def nextState (o : Host.Outcome State Fault Refusal) : State := match o with | .next t => t | _ => {}
/-- The instruction moves its task past itself, without a trap, a wait or a full queue. -/
def passes (i : Instr) (s : State) : Bool :=
  match exec i s with | .next t => t.cur.status == .resident && t.cur.pc != s.cur.pc && !t.stalled | _ => false
def isNext (o : Host.Outcome State Fault Refusal) : Bool := match o with | .next _ => true | _ => false

theorem runs0 (s : State) : Runs s 0 := by simp [Runs, Task.guard, Task.guardTainted]
theorem clean_of (s : State) (ns : List (BitVec 5)) (h : ∀ n ∈ ns, (s.cur.rdG n).p = false ∧ (s.cur.det && (s.cur.rdG n).t) = false) : CleanG s ns := h
theorem reads_sram (s : State) (gt off n k : Nat) (h : off % 256 + n ≤ 256 ∧ (s.tile gt).redirect false off = .at_ off ∧ (s.gran gt (off / 256)).state = 2 ∧
    s.liveArea gt off = none ∧ k = sramKey gt off) : ReadsAt s (.sram gt off) n k := ⟨off, h⟩
theorem writes_sram (s : State) (gt off n k : Nat) (h : off % 256 + n ≤ 256 ∧ (s.tile gt).redirect true off = .at_ off ∧ (s.gran gt (off / 256)).state = 2 ∧
    k = sramKey gt off) : WritesAt s (.sram gt off) n k := ⟨off, h⟩
theorem access_free (s : State) (l : Loc) (n : Nat) (h : s.memBusy l n = false ∧ s.strongCmd = false ∧ s.storesOf s.cur.key = []) : AccessFree s l n :=
  ⟨h.1, h.2.1, by simp [h.2.2]⟩
theorem word_sram (s : State) (gt off k : Nat) (h : gt < 2 ^ 13 ∧ off < 2 ^ 25 ∧ s.fencedTile gt = false ∧ k = sramKey gt off / 8 * 8) : WordAtHome s (.sram gt off) k := h

/-- What the hardware's read of a record gives. -/
def got (c : Chk (List DWord)) : Option (List DWord) := match c with | .ok d => some d | _ => none


/-! ## Ill-formed terms (R41, R44, R45, R48, R220): one for each check -/

theorem test_wf_refuses_zero_short_form : Instr.wf (.addS 0 0) = false ∧ Instr.wf (.movS 0 0) = false := by decide +kernel
theorem test_wf_refuses_fields : Instr.wf (.sext 3 1 2 0) = false ∧ Instr.wf (.ldAcq 0 5 1 2 0) = false ∧ Instr.wf (.stRel 0 7 1 2 0) = false ∧
    Instr.wf (.amoAdd 0 1 1 2 3 0) = false ∧ Instr.wf (.fence 5 0) = false ∧ Instr.wf (.join 0 1 0) = false ∧ Instr.wf (.join 4 1 0) = false ∧
    Instr.wf (.sstep 4 1 2 0) = false ∧ Instr.wf (.waitc 5 1 2 0) = false ∧ Instr.wf (.waitc 0 1 2 0) = false ∧ Instr.wf (.bxwait 4 1 2 0) = false ∧
    Instr.wf (.glaze 0 1 0) = false ∧ Instr.wf (.rdsr 29 1 0) = false ∧ Instr.wf (.tlbinv 3 1 0) = false ∧ Instr.wf (.eret 3 1 0) = false ∧
    Instr.wf (.mxdrain 6 0 1 2 0) = false ∧ Instr.wf (.mxbS 24 1 0) = false ∧ Instr.wf (.mvset 11 1 0) = false := by decide +kernel
theorem test_wf_refuses_types : Instr.wf (.vadd 0x19 0 1 2 3) = false ∧ Instr.wf (.vadd 0x17 1 1 2 3) = false ∧ Instr.wf (.vadds 0x17 0 1 2 3) = false ∧
    Instr.wf (.vsqrt 3 0 1 2) = false ∧ Instr.wf (.vrcp 0x18 0 1 2) = false ∧ Instr.wf (.vtopk 0x18 0 1 2 3) = false ∧ Instr.wf (.vquant 0x17 1 2) = false ∧
    Instr.wf (.vcvt 0x17 0x17 0 1 2) = false ∧ Instr.wf (.vcvt 0x19 0x17 0 1 2) = false ∧ Instr.wf (.vxacc 1 0 1 2) = false ∧ Instr.wf (.vxdrain 0x17 0 1 2 3) = false := by decide +kernel

/-! ## Words of the spec's examples (the chapter of each family) -/

theorem test_decode_short_forms : decodeTableWord 16 0x14E0 = some (.addS 5 7) ∧ decodeTableWord 16 0x246A = some (.shlS 9 3) ∧
    decodeTableWord 16 0x1070 = some (.vaddS 4 3) ∧ decodeTableWord 16 0x085E = some (.vxorS 2 2) ∧ decodeTableWord 16 0x000E = some .nop ∧
    decodeTableWord 16 0 = none := by decide +kernel
theorem test_decode_scalar : decodeTableWord 32 0x00A73801 = some (.add 5 7 7 0) ∧ decodeTableWord 32 0x10A43803 = some (.div 5 4 7 0) ∧
    decodeTableWord 32 0x04061005 = some (.clz 6 2 0) ∧ decodeTableWord 32 0x18261005 = some (.sext 1 6 2 0) ∧
    decodeTableWord 32 0x08C52007 = some (.shadd3 6 5 4 0) ∧ decodeTableWord 32 0x20C52007 = some (.mksa 6 5 4 0) ∧
    decodeTableWord 32 0xFF386289 = some (.addi 0x7F9C 6 5) ∧ decodeTableWord 32 0x00183191 = some (.shli 12 3 3) ∧
    decodeTableWord 32 0xFFFF9219 = some (.li 0xFFFF9 4) ∧ decodeTableWord 32 0x8000121B = some (.lix 0x80001 4) := by decide +kernel
theorem test_decode_memory : decodeTableWord 32 0xFFC24021 = some (.ldNw 0xFF 2 8 0) ∧ decodeTableWord 32 0x7F091823 = some (.stB 0x7F 9 3 0) ∧
    decodeTableWord 32 0x00231025 = some (.ldAcq 0 1 3 2 0) ∧ decodeTableWord 32 0x01430827 = some (.stRel 1 2 3 1 0) ∧
    decodeTableWord 32 0x00050029 = some (.scopeOpen 5 0) ∧ decodeTableWord 32 0x0C061029 = some (.mbw 6 2 0) ∧
    decodeTableWord 32 0x10E62829 = some (.alloc 7 6 5 0) := by decide +kernel
theorem test_decode_atomics_and_fences : decodeTableWord 32 0x04C9002B = some (.relw 6 9 0) ∧ decodeTableWord 32 0x14C9282B = some (.casD 6 9 5 0) ∧
    decodeTableWord 32 0xC0C9282D = some (.amoAdd 1 1 6 9 5 0) ∧ decodeTableWord 32 0x00C9002D = some (.amoAdd 0 0 6 9 0 0) ∧
    decodeTableWord 32 0xE0C9282D = some (.amoSwap 1 1 6 9 5 0) ∧ decodeTableWord 32 0x2C00052F = some (.fenceSc 3 0xA) := by decide +kernel
theorem test_decode_control_flow : decodeTableWord 32 0x000020B1 = some (.bprep 2 1) ∧ decodeTableWord 32 0x00091033 = some (.bprepr 9 2 0) ∧
    decodeTableWord 32 0x28C51833 = some (.cmpLt 6 5 3 0) ∧ decodeTableWord 32 0x04031035 = some (.brP 3 2 0) ∧
    decodeTableWord 32 0x0C04F835 = some (.brl 4 31 0) ∧ decodeTableWord 32 0x10014035 = some (.brdec 1 8 0) ∧ decodeTableWord 32 0x37 = some (.iinv 0) := by decide +kernel
theorem test_decode_tasks : decodeTableWord 32 0x00093039 = some (.launch 9 6 0) ∧ decodeTableWord 32 0x10062839 = some (.qdist 6 5 0) ∧
    decodeTableWord 32 0x0C45383B = some (.sstep 2 5 7 0) ∧ decodeTableWord 32 0x0409503D = some (.dadd 9 10 0) ∧
    decodeTableWord 32 0x0869583D = some (.waitc 3 9 11 0) ∧ decodeTableWord 32 0x0C09303D = some (.msend 9 6 0) ∧
    decodeTableWord 32 0x0844303F = some (.wpopNb 2 4 6 0) := by decide +kernel
theorem test_decode_vector : decodeTableWord 32 0x05F190C1 = some (.vadd 0x17 6 3 2 1) ∧ decodeTableWord 32 0x05C32A43 = some (.vdiv 0x17 0 6 5 4) ∧
    decodeTableWord 32 0x15C190C5 = some (.vcmpLt 0x17 0 3 2 1) ∧ decodeTableWord 32 0x45E990C5 = some (.vsel 0x17 1 3 2 1) ∧
    decodeTableWord 32 0x02091049 = some (.vld 2 9 2 0) ∧ decodeTableWord 32 0x0049084D = some (.vgath 2 9 1 0) ∧
    decodeTableWord 32 0x0CE4084D = some (.vextr 7 4 1 0) ∧ decodeTableWord 32 0x01021851 = some (.vldcKeep 2 3 0) ∧
    decodeTableWord 32 0x05C40853 = some (.vredBox 0x17 0 0 1) ∧ decodeTableWord 32 0x05C0A955 = some (.vxacc 0 1 5 2) ∧
    decodeTableWord 32 0x05C3B257 = some (.vtopk 0x17 0 7 6 2) ∧ decodeTableWord 32 0xBD8010DD = some (.vcvt 0x17 0x16 0 2 1) ∧
    decodeTableWord 32 0x04C010D9 = some (.vquant 0x13 2 1) := by decide +kernel
theorem test_decode_matrix : decodeTableWord 32 0x00051061 = some (.mxcfg 5 2 0) ∧ decodeTableWord 32 0x08001061 = some (.mxmac 2 0) ∧
    decodeTableWord 32 0x01230063 = some (.mxaKeep 1 3 0) ∧ decodeTableWord 32 0x0A040063 = some (.mxbHold 0 4 0) ∧
    decodeTableWord 32 0x10253063 = some (.mxdrain 0 1 5 6 0) ∧ decodeTableWord 32 0x04080065 = some (.mxaUf 8 0) ∧
    decodeTableWord 32 0x08203067 = some (.mxbS 1 6 0) ∧ decodeTableWord 32 0x04091069 = some (.mxfill 9 2 0) := by decide +kernel
theorem test_decode_mover_and_slice : decodeTableWord 32 0x00E50071 = some (.mvset 7 5 0) ∧ decodeTableWord 32 0x0C093071 = some (.mvchain 9 6 0) ∧
    decodeTableWord 32 0x04295873 = some (.bxarv 1 9 11 0) ∧ decodeTableWord 32 0x10032875 = some (.cbqry 0 3 5 0) ∧
    decodeTableWord 32 0x00290077 = some (.cbinitWindow 9 0) ∧ decodeTableWord 32 0x04430077 = some (.glaze 2 3 0) := by decide +kernel
theorem test_decode_system : decodeTableWord 32 0x02E03879 = some (.rdsr 23 7 0) ∧ decodeTableWord 32 0x08050079 = some (.tlbinv 0 5 0) ∧
    decodeTableWord 32 0x0065007B = some (.trap 3 5 0) ∧ decodeTableWord 32 0x0400307D = some (.cdclose 6 0) := by decide +kernel

/-! ## Single steps -/

/-- R33: the word at PC runs; R215: LI −7. -/
theorem test_step_li : (nextState (step (State.reset.withFetchWord 32 0xFFFF9219))).gv 4 = 0xFFFFFFFFFFFFFFF9 ∧
    (nextState (step (State.reset.withFetchWord 32 0xFFFF9219))).cur.pc = 0x1004 := by decide +kernel
/-- R32: a short form moves past 2 bytes; R217. -/
theorem test_step_short_form : (nextState (step ((State.reset.withFetchWord 16 0x14E0).modCur (fun t => (t.wrG 5 ⟨3, false, false⟩).wrG 7 ⟨4, false, false⟩)))).gv 7 = 7 ∧
    (nextState (step (State.reset.withFetchWord 16 0x14E0))).cur.pc = 0x1002 := by decide +kernel
/-- R65's example: the quotient and the remainder of −7 and 2 are −3 and −1, and a division by 0 gives all ones. -/
theorem test_div : (nextState (exec (.div 5 4 7 0) (setG (setG base 4 (2 ^ 64 - 7)) 5 2))).gv 7 = 0xFFFFFFFFFFFFFFFD ∧
    (nextState (exec (.rem 5 4 7 0) (setG (setG base 4 (2 ^ 64 - 7)) 5 2))).gv 7 = 0xFFFFFFFFFFFFFFFF ∧
    (nextState (exec (.divn 5 4 7 0) (setG base 4 5))).gv 7 = 0xFFFFFFFFFFFFFFFF := by decide +kernel
/-- R216's example: tile 0x25 of virtual die 3, offset 0x1000. -/
theorem test_mksa : (nextState (exec (.mksa 6 5 4 0) (setG (setG base 5 421) 6 0x1000))).gv 4 = 0xD28000001000 := by decide +kernel
/-- R198: a write of a dead register is discarded and sets DEADWR. -/
theorem test_dead_register : (nextState (exec (.li 5 4) (base.modCur (fun t => { t with scope := 0 })))).gv 4 = 0 ∧
    bit (nextState (exec (.li 5 4) (base.modCur (fun t => { t with scope := 0 })))).cur.st.tstat 17 = true := by decide +kernel
/-- R207, R208: a signed byte, and a doubleword, lowest byte first. -/
theorem test_load : (nextState (exec (.ldB 0 1 2 0) atData)).gv 2 = 0xFFFFFFFFFFFFFF80 ∧
    (nextState (exec (.ldD 0 1 2 0) atData)).gv 2 = 0x8706050403020180 := by decide +kernel
/-- R209: a misaligned word is fault 0x06, precise, with its record in the workspace (R372, R374). -/
theorem test_load_misaligned_traps : (nextState (exec (.ldW 0 1 2 0) (setG data 1 0x2001))).cur.status = .trapped ∧
    (nextState (exec (.ldW 0 1 2 0) (setG data 1 0x2001))).cur.pc = 0x1000 := by decide +kernel
/-- R207: a store of a halfword; the bytes beside it stay. -/
theorem test_store : ((nextState (exec (.stH 1 1 3 0) (setG atData 3 0xABCD))).fetch 0x2000 8).map (·.1) = [0x80, 1, 0xCD, 0xAB, 4, 5, 6, 0x87] := by decide +kernel
/-- R136: the first store to an unwritten granule zero-fills the rest of it. -/
theorem test_store_unwritten : (nextState (exec (.stB 0 1 3 0) (setG (setG (base.setGran 0 32 { state := 1 }) 1 0x2000) 3 0xAB))).gran 0 32 = ⟨2, false⟩ := by decide +kernel
/-- R324: signed and unsigned compares of −1 and 1. -/
theorem test_compare : (nextState (exec (.cmpLt 6 5 3 0) (setG (setG base 5 (2 ^ 64 - 1)) 6 1))).cur.rdP 3 = true ∧
    (nextState (exec (.cmpLtn 6 5 3 0) (setG (setG base 5 (2 ^ 64 - 1)) 6 1))).cur.rdP 3 = false := by decide +kernel
/-- R323 and R326: BPREP counts halfwords from its own address, and BR goes there; BR through a target that is not prepared traps. -/
theorem test_branch : (nextState (exec (.br 1 0) (nextState (exec (.bprep 2 1) base)))).cur.pc = 0x1004 ∧
    (nextState (exec (.br 1 0) base)).cur.status = .trapped := by decide +kernel
/-- R348: an atomic add returns the old operand and keeps the other half of the doubleword. -/
theorem test_amo : (nextState (exec (.amoAdd 1 0 6 1 5 0) (setG atData 6 2))).gv 5 = 0x03020180 ∧
    ((nextState (exec (.amoAdd 1 0 6 1 5 0) (setG atData 6 2))).fetch 0x2000 8).map (·.1) = [0x82, 1, 2, 3, 4, 5, 6, 0x87] := by decide +kernel
/-- R39: with P0 clear, guard 8 + 0 stops the effect and the instruction only advances. -/
theorem test_false_guard : (nextState (exec (.ldD 0 1 2 8) atData)).gv 2 = 0 ∧ (nextState (exec (.ldD 0 1 2 8) atData)).cur.pc = 0x1004 := by decide +kernel
/-- R52: TLBINV of a task that is no supervisor is the privilege fault. -/
theorem test_privilege : (nextState (exec (.tlbinv 0 5 0) base)).cur.status = .trapped := by decide +kernel
/-- R206: MBW fills a box and MBR empties it; MBR of an empty one parks. -/
theorem test_boxes : (nextState (exec (.mbr 2 7 0) (nextState (exec (.mbw 6 2 0) (setG base 6 9))))).gv 7 = 9 ∧
    (nextState (exec (.mbr 2 7 0) base)).cur.status = .parked (.box 2) := by decide +kernel
/-- R228, R223: VADD enters the queue, begins and completes: lanes of FP32 1.0 and 2.0 give 3.0. -/
theorem test_vector_add :
    let s := base.modCur (fun t => { t with scope := t.scope ||| 0xFFFF00000000, v := (t.v.set 1 0x3F800000).set 2 0x40000000 })
    let t := nextState (exec .vectorCommandComplete (nextState (exec .vectorCommandBegin (nextState (exec (.vadd 0x17 0 2 1 3) s)))))
    t.cur.v[3].toNat % 2 ^ 32 = 0x40400000 := by decide +kernel
/-- R419: SR.FPFLAGS takes its writable bits. -/
theorem test_wrsr : (nextState (exec (.wrsr 1 6 0) (setG base 6 0xFFF))).cur.st.fpflags = 0x7F := by decide +kernel
/-- R371, R49: a word that is no instruction traps its task at its own address. -/
theorem test_illegal : (nextState (step (State.reset.withFetchWord 32 0xFFFFFFFF))).cur.status = .trapped ∧
    (nextState (step (State.reset.withFetchWord 32 0xFFFFFFFF))).cur.pc = 0x1000 := by decide +kernel

/-! ## Witnesses: states and operands that meet the hypotheses of the obligations, clause by clause, and run -/

/-- P0 is true, P1 false. -/
def withP : State := modSt base (fun x => { x with tstat := 1 })
/-- T1 to T7 prepared, T1 at 0x2000. -/
def withT : State := modSt (base.modCur (fun t => { t with t := t.t.set 1 0x2000 })) (fun x => { x with tstat := 0xFE01 })

/-- LogicAndShiftRowsComplete, MultiplyAndDivideRowsComplete and the other scalar rows: guard 0, a true predicate (8 + 0), a false one (1). -/
theorem witness_scalar_rows_guard : Runs base 0 ∧ Runs withP 8 ∧ Runs withP 1 := ⟨runs0 _, by unfold Runs; decide +kernel, by unfold Runs; decide +kernel⟩
/-- OneRegisterRowsComplete: sizes 0 and 2. AddressAndImmediateRowsComplete and ScalarShortFormsComplete have only the guard and r ≠ d. -/
theorem witness_one_register_sizes : (0 : BitVec 5).toNat < 3 ∧ (2 : BitVec 5).toNat < 3 ∧ (31 : BitVec 5) ≠ 0 := by decide
/-- PredicateRowsComplete. -/
theorem witness_predicate_rows : Runs withP 8 ∧ (withP.cur.rdG 5).p = false ∧ passes (.cmpEq 5 5 0 8) withP = true :=
  ⟨by unfold Runs; decide +kernel, by decide +kernel, by decide +kernel⟩
/-- TransferRowsComplete: every clause's conditions, at a prepared target, with either value of the predicate and of the count. -/
theorem witness_transfer_rows : Runs withT 0 ∧ CleanG withT [5] ∧ (withT.gv 5).toNat < 2 ^ 56 ∧ (withT.gv 5).getLsbD 0 = false ∧ withT.cur.prepared 1 = true ∧
    (withT.cur.det && withT.cur.taintP 0) = false ∧ withT.cur.rdP 0 = true ∧ withT.cur.rdP 1 = false ∧ (withT.gv 5 ≠ 1 → withT.cur.prepared 1 = true) ∧
    ((setG base 5 1).gv 5 ≠ 1 → (setG base 5 1).cur.prepared 1 = true) ∧ withT.storesOf withT.cur.key = [] ∧ passes (.brl 1 5 0) withT = true ∧ passes (.iinv 0) withT = true :=
  ⟨runs0 _, clean_of _ _ (by decide +kernel), by decide +kernel⟩
/-- LoadRowsComplete: written bytes of a slice, the last byte of a granule, and HBM. -/
theorem witness_load_rows : Runs atData 0 ∧ CleanG atData [1] ∧
    (atData.check atData.cur.who (atData.taskGt atData.cur) rRD 0x2000 8 = .ok (.sram 0 0x2000) ∧ AccessFree atData (.sram 0 0x2000) 8 ∧
      ReadsAt atData (.sram 0 0x2000) 8 0x2000) ∧
    ((setG data 1 0x20FF).check data.cur.who 0 rRD 0x20FF 1 = .ok (.sram 0 0x20FF) ∧ ReadsAt (setG data 1 0x20FF) (.sram 0 0x20FF) 1 0x20FF) ∧
    ((setG (mapped base) 1 (2 ^ 52)).check base.cur.who 0 rRD (2 ^ 52) 8 = .ok (.hbm 0) ∧ AccessFree (setG (mapped base) 1 (2 ^ 52)) (.hbm 0) 8 ∧
      ReadsAt (setG (mapped base) 1 (2 ^ 52)) (.hbm 0) 8 (2 ^ 40)) :=
  ⟨runs0 _, clean_of _ _ (by decide +kernel), ⟨by decide +kernel, access_free _ _ _ (by decide +kernel), reads_sram _ _ _ _ _ (by decide +kernel)⟩,
    ⟨by decide +kernel, reads_sram _ _ _ _ _ (by decide +kernel)⟩, ⟨by decide +kernel, access_free _ _ _ (by decide +kernel), by unfold ReadsAt; decide +kernel⟩⟩
/-- StoreRowsComplete. -/
theorem witness_store_rows : Runs atData 0 ∧ CleanG atData [1] ∧ (atData.cur.det && (atData.cur.rdG 3).t) = false ∧ atData.cur.depth = 0 ∧ (atData.cur.twin = none ∧ atData.defer = false ∧ (atData.storesOf atData.cur.key).length < 16) ∧
    atData.check atData.cur.who (atData.taskGt atData.cur) rWR 0x2000 8 = .ok (.sram 0 0x2000) ∧ secondRange atData (.sram 0 0x2000) = false ∧
    AccessFree atData (.sram 0 0x2000) 8 ∧ atData.writeHeld atData.cur.key (.sram 0 0x2000) 8 = none ∧ WritesAt atData (.sram 0 0x2000) 8 0x2000 ∧
    ReleaseFree atData ∧ passes (.stRel 0 1 1 3 0) atData = true :=
  ⟨runs0 _, clean_of _ _ (by decide +kernel), by decide +kernel, by decide +kernel, by decide +kernel, by decide +kernel, by decide +kernel, access_free _ _ _ (by decide +kernel),
    by decide +kernel, writes_sram _ _ _ _ _ (by decide +kernel), by unfold ReleaseFree; decide +kernel, by decide +kernel⟩
theorem witness_store_rows_hbm : WritesAt (mapped base) (.hbm (2 ^ 21 - 8)) 8 (2 ^ 40 + 2 ^ 21 - 8) := by unfold WritesAt; decide +kernel
/-- A store that the agenda lets later moves overtake: it stays outstanding and memory is as before (R362). -/
def lateTask : State := { atData with defer := true, agenda := [.issue 0x4000] }
theorem witness_late_store : lateTask.defer = true ∧ lateTask.storesOf lateTask.cur.key = [] ∧ passes (.stD 0 1 3 0) lateTask = true ∧
    (nextState (exec (.stD 0 1 3 0) lateTask)).stores.map (fun x => (x.late, x.performed)) = [(true, false)] ∧
    (nextState (exec (.stD 0 1 3 0) lateTask)).fetch 0x2000 8 = lateTask.fetch 0x2000 8 ∧
    (nextState (exec (.ldAcq 0 1 5 7 0) { (nextState (exec (.stD 0 1 3 0) lateTask)) with defer := false })).cur.status = .parked (.stores 0) := by decide +kernel
/-- AtomicRowsComplete: no reservation held, at either half of the doubleword and for both sizes. -/
theorem witness_atomic_rows : Runs atData 0 ∧ atData.cur.status = .resident ∧ atData.cur.depth = 0 ∧ atData.storesOf atData.cur.key = [] ∧ bit atData.cur.hw.rsv 63 = false ∧
    atData.resv.find? (fun y => y.addr == atData.wordKey (.sram 0 0x2000)) = none ∧ WordAtHome atData (.sram 0 0x2000) 0x2000 ∧ WordAtHome atData (.sram 0 0x2004) 0x2000 ∧
    atData.marked 0x2000 = false ∧ atData.memBusy (.sram 0 0x2000) 8 = false ∧ CleanG atData [1, 2, 3] ∧
    atData.atomicCheck 0x2000 8 = .ok (.sram 0 0x2000) ∧ atData.atomicCheck 0x2004 4 = .ok (.sram 0 0x2004) ∧ (atData.cmdsOf atData.cur).any (fun c => c.touchesMem atData) = false ∧
    passes (.amoMin 1 1 2 1 3 0) atData = true ∧ passes (.casD 2 1 3 0) atData = true :=
  ⟨runs0 _, by decide +kernel, by decide +kernel, by decide +kernel, by decide +kernel, by decide +kernel, word_sram _ _ _ _ (by decide +kernel), word_sram _ _ _ _ (by decide +kernel), by decide +kernel,
    by decide +kernel, clean_of _ _ (by decide +kernel), by decide +kernel⟩
theorem witness_atomic_rows_hbm : WordAtHome (mapped base) (.hbm 0x104) (2 ^ 40 + 0x100) := by unfold WordAtHome; decide +kernel
/-- The state after an RSV of the data, for RELW and RELN. -/
def reserved : State := nextState (exec (.rsv 1 3 0) atData)
theorem witness_release_rows : Runs reserved 0 ∧ reserved.cur.status = .resident ∧ bit reserved.cur.hw.rsv 63 = true ∧ bits (reserved.gv 1) 3 53 = bits reserved.cur.hw.rsv 3 53 ∧ (reserved.gv 1).toNat < 2 ^ 56 ∧
    (reserved.gv 1).toNat % 8 = 0 ∧ (reserved.cmdsOf reserved.cur).any (fun c => c.touchesMem reserved) = false ∧ reserved.storesOf reserved.cur.key = [] ∧ reserved.cur.depth = 0 ∧
    reserved.heldWord = some 0x400 ∧ WordAtHome reserved (wordLoc 0x400) 0x2000 ∧ CleanG reserved [1, 2] ∧
    passes (.relw 2 1 0) reserved = true ∧ passes (.reln 1 0) reserved = true :=
  ⟨runs0 _, by decide +kernel, by decide +kernel, by decide +kernel, by decide +kernel, by decide +kernel, by decide +kernel, by decide +kernel, by decide +kernel,
    by decide +kernel, word_sram _ _ _ _ (by decide +kernel), clean_of _ _ (by decide +kernel), by decide +kernel⟩
/-- IntegerVectorLanes: the narrowest and the widest integer types. -/
theorem witness_integer_lanes : acceptsInt 1 = true ∧ ({ ty := 1, ops := [], old := [], mask := 0 } : VEnv).ty = (1 : BitVec 5).toNat ∧ acceptsInt 12 = true := by decide

/-- VectorRowsIssue: a plain and a short instruction. -/
theorem witness_vector_rows : base.vFull = false ∧ plainVector (.vadd 0x17 6 3 2 1) = true ∧ shortVector (.vxorS 2 2) = true ∧
    acceptsIntFlt (BitVec.ofNat 5 (bits base.cur.st.vtype 0 5)) = true ∧ passes (.vtopk 0x17 0 7 6 2) base = true ∧ passes (.vmulS 1 2) base = true := by decide +kernel
/-- 256 bytes of data at 0x2000, named by G1; a buffer 2 of 256-byte pages. -/
def wideData : State := (setG (base.placeCode 0x2000 (List.replicate 256 7)) 1 0x2000).modCb 0 2 (fun _ => { valid := true, base := 0x10000, plog := 8, pages := 4 })
/-- The task holds blocks 0 to 4; its view of block 0 is narrow, of block 2 lane cells. Buffers 2 and 3, window 1, and bindings to buffer 2. -/
def matrixTask : State :=
  (((((base.modCur (fun t => { t with hw := { t.hw with claim := 0x1F }, mx := { t.mx with zmode := 0xC1, mxa := 0x8002, mxb := 0x8002 } })).modCb 0 2
    (fun _ => { valid := true, base := 0x10000, plog := 10, pages := 2 })).modCb 0 3 (fun _ => { valid := true, base := 0x20000, plog := 10, pages := 4 })).modWin 0 1
    (fun _ => { valid := true, base := 0x30000, size := 0x1000 })).modBlk 0 0 (fun _ => { mode := 1, config := 0x21 }))
/-- VectorMemoryRowsIssue: loads, stores, gathers, scatters, the G and page forms. -/
theorem witness_vector_memory : Runs wideData 0 ∧ (wideData.vFull = false ∧ wideData.strongStore = false) ∧ wideData.vCmds wideData.cur = [] ∧ wideData.cur.poisV 3 = false ∧
    (wideData.cur.det && wideData.cur.taintV 3) = false ∧ CleanG wideData [1] ∧ aRegion 0x2000 = 0 ∧ wideData.meetsSecond 0 0x2000 256 = false ∧
    wideData.check wideData.cur.who 0 rRD 0x2000 256 = .ok (.sram 0 0x2000) ∧ wideData.check wideData.cur.who 0 rWR 0x2000 256 = .ok (.sram 0 0x2000) ∧
    wideData.taskGt wideData.cur = 0 ∧ wideData.cur.depth = 0 ∧ acceptsIntFlt (BitVec.ofNat 5 (bits wideData.cur.st.vtype 0 5)) = true ∧
    (0x2000 % (tyWidth (bits wideData.cur.st.vtype 0 5) / 8) = 0 ∧ wideData.check1 wideData.cur.who 0 rRD 0x2000 = .ok (.sram 0 0x2000) ∧
      wideData.check1 wideData.cur.who 0 rWR 0x2000 = .ok (.sram 0 0x2000)) ∧
    ((wideData.cb 0 2).valid = true ∧ (wideData.cb 0 2).owner = wideData.cur.vi ∧ (wideData.cb 0 2).plog = 8) ∧
    passes (.vst 0 1 3 0) wideData = true ∧ passes (.vscat 3 1 2 0) wideData = true ∧ passes (.vstc 2 3 0) wideData = true :=
  ⟨runs0 _, by decide +kernel, by decide +kernel, by decide +kernel, by decide +kernel, clean_of _ _ (by decide +kernel), by decide +kernel⟩
theorem witness_vector_blocks : matrixTask.vFull = false ∧ matrixTask.cur.claims 2 = true ∧ matrixTask.cur.view 2 = 3 ∧ matrixTask.cur.view 2 ≠ 4 ∧
    passes (.vxacc 0 0 1 2) matrixTask = true ∧ passes (.vxdrain 0x17 0 0 2 1) matrixTask = true := by decide +kernel
/-- MatrixRowsComplete: a narrow INT8 configuration, both A bindings (the unfold one on a state with a geometry), and MXWAIT. -/
def unfoldTask : State := matrixTask.modCur (fun t => { t with mx := { t.mx with mxa := 0xC000, uf0 := 2 ^ 63 + 2 ^ 25 } })
theorem witness_matrix_rows : Runs matrixTask 0 ∧ CleanG matrixTask [5] ∧ matrixTask.cur.claims 0 = true ∧ matrixTask.mFull = false ∧ matrixTask.cur.view 0 = 1 ∧
    (cfgWide 0x21 = false ∧ cfgOk 0 0x21 = true ∧ (setG matrixTask 5 0x21).gv 5 = 0x21) ∧ (cfgWide 0x2D6 = true ∧ cfgOk 0 0x2D6 = true ∧ ∀ n, n < 5 → matrixTask.cur.claims n = true) ∧
    matrixTask.taskGt matrixTask.cur = 0 ∧ bit matrixTask.cur.mx.mxa 15 = true ∧ bit matrixTask.cur.mx.mxa 14 = false ∧ bit matrixTask.cur.mx.mxb 15 = true ∧ bit matrixTask.cur.mx.mxb 14 = false ∧
    ((matrixTask.cb 0 (bits matrixTask.cur.mx.mxb 0 5)).valid = true ∧ (matrixTask.cb 0 (bits matrixTask.cur.mx.mxb 0 5)).owner = matrixTask.cur.vi) ∧
    matrixTask.cfgAtIssue 0 = 0x21 ∧ matrixTask.macSizeOk matrixTask.cur.mx.mxb 0x21 (cfgSb 0x21) = true ∧ matrixTask.macSizeOk matrixTask.cur.mx.mxa 0x21 (cfgSa 0x21) = true ∧
    (unfoldTask.strongStore = false ∧ matrixTask.cmdsOf matrixTask.cur = [] ∧ matrixTask.storesOf matrixTask.cur.key = [] ∧ bit unfoldTask.cur.mx.mxa 14 = true ∧ bit unfoldTask.cur.mx.uf0 63 = true ∧ bits unfoldTask.cur.mx.uf0 25 5 = cfgFa 0x21 ∧ cfgSc 0x21 = false) ∧
    matrixTask.blockBusy 0 = false ∧ (matrixTask.blk 0 0).fkind = 0 ∧ passes (.mxmac 0 0) unfoldTask = true ∧ passes (.mxcfg 5 0 0) (setG matrixTask 5 0x2D6) = true :=
  ⟨runs0 _, clean_of _ _ (by decide +kernel), by decide +kernel⟩
/-- DrainAndImageRowsComplete: to a window, to buffer 3, an image, and an image's header. -/
def drainWin : State := setG matrixTask 6 (2 ^ 20 + 23 * 256)
def drainBuf : State := setG matrixTask 6 (23 * 256)
def fillTask : State := setG (matrixTask.placeCode 0x2000 ([0x21] ++ List.replicate 7 0 ++ [1] ++ List.replicate 55 0)) 6 0x2000
theorem witness_drain_rows : Runs drainWin 0 ∧ CleanG drainWin [6] ∧ drainWin.mFull = false ∧ drainWin.cur.depth = 0 ∧ drainWin.strongStore = false ∧ drainWin.blockBusy 0 = false ∧
    (let g := drainWin.gv 6
     bits g 57 7 = 0 ∧ bits g 21 11 = 0 ∧ bits g 13 4 = 0 ∧ bits g 3 5 = 0 ∧ drainType (bits g 8 5) = true ∧ bits g 0 3 = 0 ∧ bit g 20 = true ∧ bits g 32 25 % 256 = 0 ∧
      128 * tyWidth (bits g 8 5) = 4096 ∧ bits g 32 25 + 4096 ≤ (drainWin.win 0 1).size) ∧
    drainWin.cur.claims 0 = true ∧ drainWin.cur.view 0 = 1 ∧ (drainWin.blk 0 0).fkind = 0 ∧ (drainWin.win 0 1).valid = true ∧ (drainWin.win 0 1).owner = drainWin.cur.vi ∧
    (bit (drainBuf.gv 6) 20 = false ∧ (drainBuf.cb 0 3).valid = true ∧ (drainBuf.cb 0 3).owner = drainBuf.cur.vi ∧ ((3 : BitVec 3).toNat + 1) * 2 ^ (drainBuf.cb 0 3).plog = 4096 ∧
      (3 : BitVec 3).toNat + 1 ≤ (drainBuf.cb 0 3).pages) ∧
    passes (.mxdrain 5 0 1 6 0) drainWin = true ∧ passes (.mxdrain 0 3 3 6 0) drainBuf = true :=
  ⟨runs0 _, clean_of _ _ (by decide +kernel), by decide +kernel⟩
theorem witness_image_rows : Runs fillTask 0 ∧ CleanG fillTask [6] ∧ ReadsAt fillTask (.sram 0 0x2000) 64 0x2000 ∧ fillTask.blockBusy 0 = false ∧ fillTask.cur.claims 0 = true ∧
    fillTask.cur.view 0 = 1 ∧ aRegion 0x2000 = 0 ∧ fillTask.check fillTask.cur.who 0 rWR 0x2000 (imageSize 1) = .ok (.sram 0 0x2000) ∧
    fillTask.meetsSecond 0 0x2000 (imageSize 1) = false ∧ AccessFree fillTask (.sram 0 0x2000) 64 ∧ fillTask.cur.depth = 0 ∧ fillTask.strongStore = false ∧ fillTask.mFull = false ∧ fillTask.check fillTask.cur.who 0 rRD 0x2000 64 = .ok (.sram 0 0x2000) ∧
    fillHeadOk 0 (loadedDws 8 (fillTask.fetch 0x2000 64)) = true ∧ bits (nthDw (loadedDws 8 (fillTask.fetch 0x2000 64)) 1) 0 3 = 1 ∧
    fillTask.check fillTask.cur.who 0 rRD 0x2000 (imageSize 1) = .ok (.sram 0 0x2000) ∧
    passes (.mxspill 6 0 0) fillTask = true ∧ passes (.mxfill 6 0 0) fillTask = true :=
  ⟨runs0 _, clean_of _ _ (by decide +kernel), reads_sram _ _ _ _ _ (by decide +kernel), by decide +kernel, by decide +kernel, by decide +kernel, by decide +kernel, by decide +kernel,
    by decide +kernel, access_free _ _ _ (by decide +kernel), by decide +kernel⟩
/-- BindingRowsComplete. -/
theorem witness_binding_rows : Runs base 0 ∧ CleanG base [8] ∧ passes (.mxaUf 8 0) base = true ∧ passes (.mxbS 23 6 0) base = true :=
  ⟨runs0 _, clean_of _ _ (by decide +kernel), by decide +kernel⟩
/-- UnfoldAndSubscribeRowsComplete: a geometry of one 1 × 1 × 8 INT8 input; a stream 4 of VI 0 with slot 0 taken. -/
def geoData : State := setG (base.placeCode 0x2000 (dws [2 ^ 25, 8 * 2 ^ 32 + 2 ^ 16 + 1, 0x11, 0])) 1 0x2000
/-- Stream 4 of die 0: two slots of 1 KiB pages, slot 0 taken; buffer 2 of such pages. -/
def streamTask : State := (setG (matrixTask.modDie 0 (fun d => { d with streams := [(4, { entry := BitVec.ofNat 64 (2 ^ 63 + 10 * 2 ^ 52 + 2 * 2 ^ 40 + 8 * 2 ^ 17), subs := [(0, 5, 1)] })] })) 7 4)
def subscribed : State := nextState (exec (.ssub 7 2 0) streamTask)
theorem witness_unfold : Runs geoData 0 ∧ CleanG geoData [1] ∧ (geoData.gv 1).toNat % 8 = 0 ∧ ReadsAt geoData (.sram 0 0x2000) 32 0x2000 ∧
    geoData.check geoData.cur.who 0 rRD 0x2000 32 = .ok (.sram 0 0x2000) ∧ AccessFree geoData (.sram 0 0x2000) 32 ∧
    (let l := loadedDws 4 (geoData.fetch 0x2000 32)
     geoOk (nthDw l 0) (nthDw l 1) (nthDw l 2) (nthDw l 3) = true) ∧ passes (.ufcfg 1 0) geoData = true :=
  ⟨runs0 _, clean_of _ _ (by decide +kernel), by decide +kernel, reads_sram _ _ _ _ _ (by decide +kernel), by decide +kernel, access_free _ _ _ (by decide +kernel), by decide +kernel⟩
theorem witness_subscribe : Runs streamTask 0 ∧ CleanG streamTask [7] ∧ streamTask.cur.depth = 0 ∧ (streamTask.cb 0 2).valid = true ∧ (streamTask.cb 0 2).owner = streamTask.cur.vi ∧
    bits (streamTask.gv 7) 8 56 = 0 ∧ bits (streamTask.gv 7) 0 8 = 4 ∧
    (let x := tget {} (streamTask.die 0).streams 4
     bit x.entry 63 = true ∧ stOwner x.entry = streamTask.cur.vi ∧ (streamTask.cb 0 2).plog = stPlog x.entry ∧ 1 < stSubs x.entry ∧ (∀ e ∈ x.subs, e.1 ≠ 1) ∧ ∀ j, j < 1 → ∃ e ∈ x.subs, e.1 = j) ∧
    (streamTask.cb 0 2).prot = false ∧ (streamTask.cb 0 2).sub = none ∧
    ((subscribed.cb 0 2).sub = some (4, 1) ∧ subscribed.cur.depth = 0 ∧ (subscribed.tile 0).mq = [] ∧ passes (.sunsub 2 0) subscribed = true) :=
  ⟨runs0 _, clean_of _ _ (by decide +kernel), by decide +kernel⟩
/-- ScopeBoxAndFenceRowsComplete: a mask that opens V0 to V3 and stays within the footprint's bound or is admitted with it, a full and an empty box. -/
def scopeTask : State := setG (base.modCur (fun t => { t with scope := 0xFFFFFFFF, sch := { t.sch with foot := 4096 }, box := t.box.set 1 { value := 9, full := true } })) 5 0xF00000000
theorem witness_scope_box_fence : Runs scopeTask 0 ∧ CleanG scopeTask [5] ∧ bits (scopeTask.gv 5) 48 16 = 0 ∧ scopeTask.cmdsOf scopeTask.cur = [] ∧ scopeTask.storesOf scopeTask.cur.key = [] ∧
    footprintOf (scopeTask.cur.scope ||| scopeTask.gv 5) ≤ scopeTask.cur.sch.foot ∧ footprintOf (base.cur.scope ||| 3) ≤ footprintOf base.cur.scope ∧
    (scopeTask.cur.box[1]).full = true ∧ (scopeTask.cur.box[0]).full = false ∧ passes (.scopeOpen 5 0) scopeTask = true ∧ passes (.fenceSc 4 0) scopeTask = true :=
  ⟨runs0 _, clean_of _ _ (by decide +kernel), by decide +kernel⟩
/-- AllocAndFreeComplete: one granule, 40, with its two neighbours, and what FREE finds after that ALLOC. -/
def allocTask : State := setG (setG (base.modVi 0 (fun v => { v with quotaGran := 1 })) 1 (40 * 256)) 2 1
def allocated : State := nextState (exec (.alloc 2 1 3 0) allocTask)
theorem witness_alloc : Runs allocTask 0 ∧ CleanG allocTask [1, 2] ∧ allocTask.cur.depth = 0 ∧ ReleaseFree allocTask ∧
    allocTask.check1 allocTask.cur.who (allocTask.taskGt allocTask.cur) rRD (40 * 256) = .ok (.sram 0 (40 * 256)) ∧ aOff (40 * 256) / 256 = 40 ∧
    (∀ i, i < 1 → (allocTask.vi 0).covers (aVdie (40 * 256)) (40 + i) = true) ∧ (∀ i, i < 1 → allocTask.gran 0 (40 + i) = ⟨0, false⟩) ∧
    (allocTask.gran 0 39).state = 0 ∧ (allocTask.gran 0 41).state = 0 ∧ (allocTask.vi 0).granules + 1 ≤ (allocTask.vi 0).quotaGran :=
  ⟨runs0 _, clean_of _ _ (by decide +kernel), by decide +kernel, by unfold ReleaseFree; decide +kernel, by decide +kernel⟩
theorem witness_free : Runs allocated 0 ∧ ReleaseFree allocated ∧ (allocated.gv 1).toNat = 40 * 256 ∧ (allocated.gv 2).toNat = 1 ∧ (allocated.gran 0 39).crust = true ∧ (allocated.gran 0 41).crust = true ∧
    (∀ i, i < 1 → ((allocated.gran 0 (40 + i)).state = 1 ∨ (allocated.gran 0 (40 + i)).state = 2) ∧ (allocated.tile 0).inUse (40 + i) = false) ∧
    (nextState (exec (.free 2 1 3 0) allocated)).gran 0 40 = {} ∧ (nextState (exec (.free 2 1 3 0) allocated)).gran 0 39 = {} ∧
    (nextState (exec (.free 2 1 3 0) allocated)).gv 3 = 0 :=
  ⟨runs0 _, by unfold ReleaseFree; decide +kernel, by decide +kernel⟩
/-- BufferRowsComplete: buffer 2 of 4 pages, two filled and one taken; the scalar pages to release stand after an acquisition. -/
def bufTask : State := base.modCb 0 2 (fun _ => { valid := true, base := 0x10000, plog := 10, pages := 4, resv := 3, pushed := 2, taken := 1, scal := [1, 2] })
theorem witness_buffer_rows : Runs bufTask 0 ∧ (bufTask.cb 0 2).valid = true ∧ (bufTask.cb 0 2).owner = bufTask.cur.vi ∧ 1 ≤ (bufTask.cb 0 2).pages ∧ bufTask.cur.depth = 0 ∧
    (bufTask.cb 0 2).granted = [] ∧ (bufTask.cb 0 2).resQ = [] ∧ (bufTask.cb 0 2).acqQ = [] ∧ 1 ≤ (bufTask.cb 0 2).pages - ((bufTask.cb 0 2).resv - (bufTask.cb 0 2).popped) ∧
    1 ≤ (bufTask.cb 0 2).pushed - (bufTask.cb 0 2).taken ∧ 1 ≤ ((bufTask.cb 0 2).scalarPages 0).length ∧
    1 ≤ (((nextState (exec (.cbacqC 0 2 5 0) bufTask)).cb 0 2).scalarPages 1).length ∧ (bufTask.cmdsOf bufTask.cur).any (fun c => c.touchesMem bufTask) = false ∧ bufTask.storesOf bufTask.cur.key = [] ∧ (base.cb 0 31).valid = false ∧
    passes (.cbacqP 0 2 5 0) bufTask = true ∧ passes (.cbrelP 0 2 0) bufTask = true ∧ passes (.cbqry 7 2 5 0) bufTask = true :=
  ⟨runs0 _, by decide +kernel⟩
/-- DefinitionAndGlazeRowsComplete: definitions of buffer 5 (2 pages of 256 bytes over two ready granules at 0x3000), of window 3 (2 × 256 bytes there), and removals. -/
def defTask (l : List Nat) : State := setG (((base.placeCode 0x2000 (dws l)).setGran 0 48 { state := 2 }).setGran 0 49 { state := 1 }) 9 0x2000
def glazeTask : State := base.modWin 0 3 (fun _ => { valid := true, base := 0x30000, size := 0x100 })
/-- A descriptor at 0x2000: buffer 5 of two 256-byte pages at 0x3000, its removal, window 3 of two halves of 256 bytes, and its removal. -/
def defBuffer : State := defTask [5 * 2 ^ 32 + 0x3000, 8 * 2 ^ 9 + 2]
def dropBuffer : State := defTask [5 * 2 ^ 32, 0]
def defWindow : State := defTask [3 * 2 ^ 32 + 0x3000, 0x100]
def dropWindow : State := defTask [3 * 2 ^ 32, 0]
theorem witness_descriptor_read (l : List Nat) (h : (defTask l).check (defTask l).cur.who 0 rRD 0x2000 16 = .ok (.sram 0 0x2000) ∧
    ((defTask l).memBusy (.sram 0 0x2000) 16 = false ∧ (defTask l).strongCmd = false) ∧ (defTask l).storesOf (defTask l).cur.key = [] ∧ ((defTask l).cmdsOf (defTask l).cur).any (fun c => c.touchesMem (defTask l)) = false ∧ ((0x2000 % 256 + 16 ≤ 256 ∧ ((defTask l).tile 0).redirect false 0x2000 = .at_ 0x2000 ∧
      ((defTask l).gran 0 (0x2000 / 256)).state = 2 ∧ (defTask l).liveArea 0 0x2000 = none ∧ 0x2000 = sramKey 0 0x2000))) :
    ReadsAt (defTask l) (.sram 0 0x2000) 16 0x2000 ∧ AccessFree (defTask l) (.sram 0 0x2000) 16 ∧ ReleaseFree (defTask l) :=
  ⟨reads_sram _ _ _ _ _ h.2.2.2.2, access_free _ _ _ ⟨h.2.1.1, h.2.1.2, h.2.2.1⟩, h.2.2.2.1, h.2.2.1⟩
theorem witness_define_buffer : Runs defBuffer 0 ∧ CleanG defBuffer [9] ∧ defBuffer.cur.depth = 0 ∧ (ReadsAt defBuffer (.sram 0 0x2000) 16 0x2000 ∧ AccessFree defBuffer (.sram 0 0x2000) 16 ∧ ReleaseFree defBuffer) ∧
    (let ds := loadedDws 2 (defBuffer.fetch 0x2000 16)
     bits (nthDw ds 0) 32 5 = 5 ∧ bits (nthDw ds 1) 9 5 = 8 ∧ bits (nthDw ds 1) 0 9 = 2 ∧ bits (nthDw ds 0) 0 25 = 0x3000 ∧ bits (nthDw ds 0) 38 26 = 0 ∧ bits (nthDw ds 0) 25 7 = 0 ∧ bits (nthDw ds 1) 14 50 = 0) ∧
    defBuffer.rangeReady 0 0x3000 512 = true ∧ (defBuffer.tile 0).overlaps 0x3000 512 (some 5) none = false ∧ (defBuffer.cb 0 5).holds = [] ∧ (defBuffer.cb 0 5).sub = none ∧
    defBuffer.xfersInFlight = [] ∧ (defBuffer.tile 0).vq ++ (defBuffer.tile 0).mq = [] ∧ passes (.cbinitBuffer 9 0) defBuffer = true ∧ passes (.cbinitBuffer 9 0) dropBuffer = true :=
  ⟨runs0 _, clean_of _ _ (by decide +kernel), by decide +kernel, witness_descriptor_read _ (by decide +kernel), by decide +kernel⟩
theorem witness_define_window : Runs defWindow 0 ∧ CleanG defWindow [9] ∧ (ReadsAt defWindow (.sram 0 0x2000) 16 0x2000 ∧ AccessFree defWindow (.sram 0 0x2000) 16 ∧ ReleaseFree defWindow) ∧
    (let ds := loadedDws 2 (defWindow.fetch 0x2000 16)
     bits (nthDw ds 0) 32 4 = 3 ∧ bits (nthDw ds 1) 0 25 = 0x100 ∧ bits (nthDw ds 0) 36 28 = 0 ∧ bits (nthDw ds 0) 25 7 = 0 ∧ bits (nthDw ds 1) 25 39 = 0) ∧
    defWindow.winCmds 0 3 = [] ∧ defWindow.winXfers 0 3 = [] ∧ defWindow.rangeReady 0 0x3000 512 = true ∧ (defWindow.tile 0).overlaps 0x3000 512 none (some 3) = false ∧
    passes (.cbinitWindow 9 0) defWindow = true ∧ passes (.cbinitWindow 9 0) dropWindow = true :=
  ⟨runs0 _, clean_of _ _ (by decide +kernel), witness_descriptor_read _ (by decide +kernel), by decide +kernel⟩
theorem witness_glaze : Runs glazeTask 0 ∧ (glazeTask.win 0 3).valid = true ∧ (glazeTask.win 0 3).owner = glazeTask.cur.vi ∧ glazeTask.preserves 0 3 = false ∧
    glazeTask.cmdsOf glazeTask.cur = [] ∧ glazeTask.storesOf glazeTask.cur.key = [] ∧ glazeTask.winCmds 0 3 = [] ∧ glazeTask.winXfers 0 3 = [] ∧ glazeTask.cur.depth = 0 ∧ passes (.glaze 1 3 0) glazeTask = true :=
  ⟨runs0 _, by decide +kernel⟩

/-- The shadow set of a copy of 64 bytes from 0x2000 to 0x2100; of the same from handle 5; of a collective whose record stands at 0x2000. -/
def shadow (l : List Nat) (s : State) : State := s.modCur (fun t => { t with mv := { t.mv with regs := Vector.ofFn (fun i => dw (l.getD i.val 0)) } })
def copyTask : State := shadow [0x2000, 0x2100, 0, 64, 0x10001, 0, 0, 2 ^ 28] base
def handleTask : State := (shadow [0, 0x2100, 5, 64, 0x10001, 0, 0, 2 ^ 28 + 2 ^ 13] base).modTile 0 (fun x => { x with hcache := [(0, 5, 0xE000000000000000, 4096)] })
def collTask : State := shadow [0x2080, 0x2000, 0, 64, 0x10001, 0, 0, 2 ^ 28 + 4 * 2 ^ 15 + 0x10]
  (base.placeCode 0x2000 (dws [7 * 2 ^ 48 + 23 * 2 ^ 40, 2 ^ 32 + 1, 0x2040, 0, 16, 0, 0, 0]))
/-- The transfer that MVGO of copyTask left, queued, and as complete. -/
def copying : State := nextState (exec (.mvgo 6 0) copyTask)
def copied : State := copying.modTile 0 (fun x => { x with xfers := x.xfers.map (fun e => (e.1, { e.2 with state := 2 })) })
theorem witness_mover_registers : Runs base 0 ∧ (0 : Fin 11).val = (0 : BitVec 5).toNat ∧ (10 : Fin 11).val = (10 : BitVec 5).toNat ∧
    passes (.mvset 10 5 0) base = true ∧ passes (.mvget 10 5 0) base = true := ⟨runs0 _, by decide +kernel⟩
theorem witness_mover_status : Runs copying 0 ∧ (copying.cur.rdG 0).p = false ∧ (copying.gv 0).toNat < 2 ^ 16 ∧ (copying.xferStatus 0).isSome = true ∧ (copying.xferStatus 1) = none ∧
    ((copied.xferStatus 0).map Transfer.inFlight) = some false ∧ copied.cmdsOf copied.cur = [] ∧ copied.storesOf copied.cur.key = [] ∧ passes (.mvtst 0 5 0) copying = true ∧ passes (.mvwait 0 5 0) copied = true :=
  ⟨runs0 _, by decide +kernel⟩
theorem witness_mover_launch :
    (∀ s ∈ [copyTask, handleTask], s.xferRoom = true ∧ ((s.cmdsOf s.cur).any (fun c => c.touchesMem s) = false ∧ s.storesOf s.cur.key = []) ∧ ∀ n ∈ mvUsed s.cur.mv.regs, s.cur.mv.pois.getLsbD n = false ∧ (s.cur.det && s.cur.mv.taint.getLsbD n) = false) ∧
    mvSkind copyTask.cur.mv.regs = 0 ∧ mvSkind handleTask.cur.mv.regs = 1 ∧ mvDkind handleTask.cur.mv.regs = 0 ∧ (handleTask.tile 0).handle 0 (mvSh handleTask.cur.mv.regs) = some (0xE000000000000000, 4096) ∧
    copyTask.cur.depth = 0 ∧ copyTask.clearBad.xferCheck copyTask.cur.who 0 { vi := 0, wp := copyTask.cur.wp, regs := copyTask.cur.mv.regs } none none = none ∧
    (let e : DWord × DWord := (0xE000000000000000, 4096)
     handleTask.clearBad.xferCheck handleTask.cur.who 0 { vi := 0, wp := handleTask.cur.wp, regs := handleTask.cur.mv.regs, srcH := e } (some e) none = none) ∧
    passes (.mvgo 6 0) copyTask = true ∧ passes (.mvgo 6 0) handleTask = true := by decide +kernel
theorem witness_mover_collective : mvDkind collTask.cur.mv.regs = 4 ∧ mvDst collTask.cur.mv.regs = 0x2000 ∧ collTask.check collTask.cur.who 0 rRD 0x2000 64 = .ok (.sram 0 0x2000) ∧
    AccessFree collTask (.sram 0 0x2000) 64 ∧ ReadsAt collTask (.sram 0 0x2000) 64 0x2000 ∧
    collTask.clearBad.xferCheck collTask.cur.who 0 { vi := 0, wp := collTask.cur.wp, regs := collTask.cur.mv.regs } none none = none ∧
    collTask.recordOk collTask.cur.mv.regs (loadedDws 8 (collTask.fetch 0x2000 64)) = true ∧ passes (.mvgo 6 0) collTask = true :=
  ⟨by decide +kernel, by decide +kernel, by decide +kernel, access_free _ _ _ (by decide +kernel), reads_sram _ _ _ _ _ (by decide +kernel), by decide +kernel⟩
def chainTask : State := setG (shadow [0, 0, 0, 0, 0, 0, 0, 2 ^ 28] data) 9 0x2000
theorem witness_mover_chain : Runs chainTask 0 ∧ CleanG chainTask [9] ∧ chainTask.xferRoom = true ∧ (∀ n ∈ chUsed chainTask.cur.mv.regs, chainTask.cur.mv.pois.getLsbD n = false) ∧
    mvScope chainTask.cur.mv.regs = 1 ∧ mvMc chainTask.cur.mv.regs = false ∧ 0x2000 % 64 = 0 ∧ ReleaseFree chainTask ∧ chainTask.sideOk chainTask.cur.who 0 rRD (((0x2000 : Nat) : Int), ((0x2000 : Nat) : Int) + 63) = none ∧
    chainTask.wordOk chainTask.cur.who 0 (mvBar chainTask.cur.mv.regs) 32 = none ∧ chainTask.wordOk chainTask.cur.who 0 (mvCtr chainTask.cur.mv.regs) 8 = none ∧
    chainTask.cur.det = false ∧ chainTask.cur.depth = 0 ∧ passes (.mvchain 9 6 0) chainTask = true :=
  ⟨runs0 _, clean_of _ _ (by decide +kernel), by decide +kernel, by decide +kernel, by decide +kernel, by decide +kernel, by decide +kernel, by unfold ReleaseFree; decide +kernel, by decide +kernel⟩
/-- RecordsReadBack: the widest fields. -/
theorem witness_records : 2 ^ 40 - 1 < 2 ^ 40 ∧ ((s : State) → (s.bar 0).seats < 2 ^ 32) := ⟨by decide, fun s => by
  simp only [State.bar, barRead, bits]; exact Nat.mod_lt _ (by decide)⟩
/-- BarrierRowsComplete: a fresh barrier of one seat in a written granule; one whose round has completed. -/
def barTask : State := setG (setG (data.setBar 0x2000 ⟨0, 0, 1, 1, false, false, false, false⟩) 9 0x2000) 11 1
def barPassed : State := setG (data.setBar 0x2000 ⟨0, 1, 1, 1, false, false, false, false⟩) 9 0x2000
theorem witness_barrier : Runs barTask 0 ∧ CleanG barTask [9, 11] ∧ aRegion 0x2000 = 0 ∧ 0x2000 % 32 = 0 ∧ barTask.check barTask.cur.who 0 rAny 0x2000 32 = .ok (.sram 0 0x2000) ∧
    (barTask.tile 0).winAt 0x2000 = none ∧ (barTask.tile 0).inSecond 0x2000 = false ∧ barTask.check barTask.cur.who 0 rWR 0x2000 32 = .ok (.sram 0 0x2000) ∧
    (barTask.cur.twin = none ∧ barTask.defer = false ∧ barPassed.cmdsOf barPassed.cur = [] ∧ barPassed.storesOf barPassed.cur.key = []) ∧ ReleaseFree barTask ∧ AccessFree barTask (.sram 0 0x2000) 32 ∧ barTask.writeHeld barTask.cur.key (.sram 0 0x2000) 32 = none ∧ WritesAt barTask (.sram 0 0x2000) 32 0x2000 ∧
    (barTask.gran 0 (0x2000 / 256)).state = 2 ∧ inScope 1 0 0 = true ∧ (barTask.bar 0x2000).seats ≠ 0 ∧ barTask.cur.depth = 0 ∧ barTask.cur.sch.failedStore = none ∧
    bits barTask.cur.st.crust 56 8 = 0 ∧ bits barTask.cur.st.mverr 40 8 = 0 ∧ (barPassed.bar 0x2000).passed 0 = true ∧
    passes (.bxinit 9 11 0) barTask = true ∧ passes (.bxarv 1 9 11 0) barTask = true ∧ passes (.bxwait 1 9 10 0) barPassed = true ∧ passes (.bxtst 3 9 10 0) barTask = true :=
  ⟨runs0 _, clean_of _ _ (by decide +kernel), by decide +kernel, by decide +kernel, by decide +kernel, by decide +kernel, by decide +kernel, by decide +kernel, by decide +kernel,
    by unfold ReleaseFree; decide +kernel, access_free _ _ _ (by decide +kernel), by decide +kernel, writes_sram _ _ _ _ _ (by decide +kernel), by decide +kernel⟩
theorem witness_waitc : CleanG barPassed [9, 10] ∧ barPassed.check barPassed.cur.who 0 rRD 0x2000 8 = .ok (.sram 0 0x2000) ∧ ReleaseFree barPassed ∧
    waitScopeOk 1 0 (.sram 0 0x2000) = true ∧ ReadsAt barPassed (.sram 0 0x2000) 8 0x2000 ∧ (barPassed.fetch 0x2000 8).any (·.2) = false ∧
    0 ≤ (BitVec.ofNat 64 (ofBytes ((barPassed.fetch 0x2000 8).map (·.1))) - barPassed.gv 10).toInt ∧ passes (.waitc 1 9 10 0) barPassed = true :=
  ⟨clean_of _ _ (by decide +kernel), by decide +kernel, by unfold ReleaseFree; decide +kernel, by decide +kernel, reads_sram _ _ _ _ _ (by decide +kernel), by decide +kernel⟩
/-- ExitYieldAndDistanceComplete: the placed task as a spawned one, alone; virtual die 0 bound, 5 not. -/
def spawned : State := setG (base.modCur (fun t => { t with kind := .spawned })) 5 (5 * 2 ^ 8)
theorem witness_exit : Runs spawned 0 ∧ spawned.cmdsOf spawned.cur = [] ∧ spawned.storesOf spawned.cur.key = [] ∧ spawned.cur.hw.group = 0 ∧ bits spawned.cur.st.crust 56 8 = 0 ∧ spawned.cur.sch.failedStore = none ∧ bits spawned.cur.st.mverr 40 8 = 0 ∧
    spawned.cur.depth = 0 ∧ bit spawned.cur.hw.rsv 63 = false ∧ spawned.cur.status = .resident ∧ spawned.cur.kind = .spawned ∧ spawned.others = [] ∧ spawned.cur.hnd = false ∧
    (nextState (exec (.exit 0) spawned)).cur.status = .absent ∧ (nextState (exec (.yield 0) spawned)).cur.status = .ready :=
  ⟨runs0 _, by decide +kernel⟩
theorem witness_distance : bits (spawned.gv 5) 6 2 = 0 ∧ bits (spawned.gv 5) 14 50 = 0 ∧ (spawned.vi 0).ldie (bits (spawned.gv 5) 0 6) = some 0 ∧
    (spawned.vi 0).ldie (bits (spawned.gv 5) 8 6) = none ∧ (base.vi 0).ldie (bits (base.gv 5) 8 6) = some 0 ∧ passes (.qdist 5 6 0) spawned = true := by decide +kernel

/-- LaunchAndSpawnComplete: a launch record at 0x2000 (direct placement, one task on tile 1), and descriptors of tasks that are ready, and held. -/
def hostVi (s : State) : State := s.modVi 0 (fun v => { v with quotaLaunch := 4, assist := 0 })
def record : List Nat := [0x1000, 0, 77, 0x10 * 2 ^ 40 + 2 ^ 36 + 2 * 2 ^ 16, 1, 2 ^ 4 + 1, 0, 0]
def launchTask : State := setG (hostVi (base.placeCode 0x2000 (dws record))) 9 0x2000
def spawnTask (dep : Nat) : State := setG (base.placeCode 0x2000 (dws [0x1000, 0x10000, dep, 5, 0, 6, 7, 8])) 9 0x2000
theorem witness_launch : Runs launchTask 0 ∧ launchTask.cur.depth = 0 ∧ CleanG launchTask [9] ∧ ReleaseFree launchTask ∧
    launchTask.check launchTask.cur.who 0 rRD 0x2000 64 = .ok (.sram 0 0x2000) ∧ AccessFree launchTask (.sram 0 0x2000) 64 ∧ ReadsAt launchTask (.sram 0 0x2000) 64 0x2000 ∧
    (let ds := loadedDws 8 (launchTask.fetch 0x2000 64)
     recCheck launchTask 0 launchTask.cur.sup ds = none ∧ recPlace ds = 2 ∧ recDep ds = 0 ∧ recBsp ds = false) ∧
    (launchTask.vi 0).stop = false ∧ (launchTask.vi 0).launches.length < (launchTask.vi 0).quotaLaunch ∧ passes (.launch 9 6 0) launchTask = true :=
  ⟨runs0 _, by decide +kernel, clean_of _ _ (by decide +kernel), by unfold ReleaseFree; decide +kernel, by decide +kernel, access_free _ _ _ (by decide +kernel), reads_sram _ _ _ _ _ (by decide +kernel), by decide +kernel⟩
theorem witness_spawn (n : Nat) (h : n = 0 ∨ n = 1) : CleanG (spawnTask n) [9] ∧ ReadsAt (spawnTask n) (.sram 0 0x2000) 64 0x2000 ∧
    (spawnTask n).check (spawnTask n).cur.who 0 rRD 0x2000 64 = .ok (.sram 0 0x2000) ∧
    spawnCheck (spawnTask n) (loadedDws 8 ((spawnTask n).fetch 0x2000 64)) = none ∧ bits (nthDw (loadedDws 8 ((spawnTask n).fetch 0x2000 64)) 2) 0 32 = n ∧
    bits (nthDw (loadedDws 8 ((spawnTask n).fetch 0x2000 64)) 4) 0 56 = 0 ∧ ((spawnTask n).tile 0).pend = [] ∧ passes (.spawn 9 0) (spawnTask n) = true := by
  rcases h with rfl | rfl <;> exact ⟨clean_of _ _ (by decide +kernel), reads_sram _ _ _ _ _ (by decide +kernel), by decide +kernel⟩
/-- GroupRowsComplete: a group of two at 0x2000 in scope 1, of which the task is the last to arrive, the first, or has arrived and been released; and one empty. -/
def grpTask (g : Grp) (own arrival : Nat) : State :=
  (setG (data.setGrp 0x2000 g) 9 0x2000).modCur (fun t => { t with hw := { t.hw with group := BitVec.ofNat 64 own, arrival := BitVec.ofNat 64 arrival } })
def grpLast : State := setG (grpTask ⟨1, 2, 0, 0, false, 1, 0, 0, 0⟩ 0x2000 0) 5 1
def grpVote : State := setG (grpTask ⟨1, 2, 0, 2, true, 1, 0, 5, 0⟩ 0x2000 0) 5 1
def grpFirst : State := setG (grpTask ⟨0, 2, 0, 0, false, 1, 0, 0, 0⟩ 0x2000 0) 5 1
def grpTurned : State := setG (grpTask ⟨0, 2, 1, 0, false, 1, 1, 0, 3⟩ 0x2000 1) 5 1
def grpEmpty : State := grpTask ⟨0, 0, 0, 0, false, 0, 0, 0, 0⟩ 0 0
theorem witness_group_join : Runs grpEmpty 0 ∧ grpEmpty.cur.depth = 0 ∧ grpEmpty.cur.det = false ∧ ((grpEmpty.cmdsOf grpEmpty.cur).any (fun c => c.touchesMem grpEmpty) = false ∧ grpEmpty.storesOf grpEmpty.cur.key = []) ∧ (grpEmpty.cur.rdG 9).p = false ∧
    grpEmpty.grpCheck grpEmpty.cur.who 0 0x2000 = .ok 0x2000 ∧ grpEmpty.cur.hw.group = 0 ∧ inScope 1 0 (0x2000 / 2 ^ 25) = true ∧ (grpEmpty.grp 0x2000).members = 0 ∧
    (grpFirst.grp 0x2000).scope = 1 ∧ grpFirst.cur.hw.group ≠ 0 ∧ passes (.join 1 9 0) grpEmpty = true ∧ passes (.leave 0) grpFirst = true := ⟨runs0 _, by decide +kernel⟩
theorem witness_group_arrive : CleanG grpLast [5] ∧ grpLast.cmdsOf grpLast.cur = [] ∧ grpLast.storesOf grpLast.cur.key = [] ∧ bits grpLast.cur.st.crust 56 8 = 0 ∧ grpLast.cur.sch.failedStore = none ∧ bits grpLast.cur.st.mverr 40 8 = 0 ∧
    grpLast.cur.hw.group ≠ 0 ∧ grpLast.grpCheck grpLast.cur.who 0 grpLast.cur.hw.group.toNat = .ok 0x2000 ∧ bit grpLast.cur.hw.arrival 0 = false ∧
    (grpLast.grp 0x2000).arrived + 1 = (grpLast.grp 0x2000).members ∧ (grpLast.grp 0x2000).vset = false ∧ (grpLast.gv 5).toNat = 1 - (grpLast.grp 0x2000).parity ∧
    (grpFirst.grp 0x2000).arrived + 1 < (grpFirst.grp 0x2000).members ∧ grpFirst.cur.hnd = false ∧
    (bit grpTurned.cur.hw.arrival 0 = true ∧ (grpTurned.grp 0x2000).parity ≠ bits grpTurned.cur.hw.arrival 1 1 ∧ (grpTurned.gv 5).toNat < 2 ∧ (grpTurned.grp 0x2000).parity ≠ 1 - (grpTurned.gv 5).toNat) ∧
    (nextState (exec (.sstep 2 5 7 0) grpVote)).gv 7 = 6 ∧ passes (.gbar 5 0) grpLast = true ∧ passes (.sstep 2 5 7 0) grpTurned = true ∧ passes (.gbar 5 0) grpTurned = true ∧
    (nextState (exec (.gbar 5 0) grpFirst)).cur.status = .parked (.phase 0x2000 0) := ⟨clean_of _ _ (by decide +kernel), by decide +kernel⟩
/-- DependenceAndQueueRowsComplete: a launch named 0x2000 with a count of 4; a work queue 3 of die 0 with one item, empty, and closed. -/
def depTask : State := setG (setG (base.modVi 0 (fun v => { v with launches := [{ id := 1, record := record.map dw, addr := 0x2000, dep := 4 }] })) 9 0x2000) 10 1
def wqTask (w : WorkQ) : State := setG (base.modDie 0 (fun d => { d with wq := [(3, w)] })) 4 3
theorem witness_dependence : Runs depTask 0 ∧ CleanG depTask [9, 10] ∧ dependOk 0x2000 = true ∧ depTask.cur.depth = 0 ∧
    (((depTask.vi 0).launches.find? (fun y => y.dep != 0 && y.addr == 0x2000)).map Launch.dep) = some 4 ∧ (3 : BitVec 5).toNat + 1 ≤ 4 ∧ 0 < (depTask.gv 10).toNat ∧
    ((base.vi 0).launches = [] ∧ (base.tiles.all (fun y => y.2.pend.isEmpty)) = true ∧ (base.vi 0).evctr = 0) ∧
    passes (.ddec 3 9 0) depTask = true ∧ passes (.dadd 9 10 0) depTask = true ∧ passes (.ddec 3 9 0) (setG base 9 0x2000) = true := ⟨runs0 _, clean_of _ _ (by decide +kernel), by decide +kernel⟩
theorem witness_work_queue : bits 3 6 2 = 0 ∧ bits 3 14 50 = 0 ∧ (base.vi 0).ldie (bits 3 8 6) = some 0 ∧ ((wqTask { valid := true, lcap := 1 }).gv 4) = 3 ∧
    tget {} ((wqTask { valid := true, lcap := 1 }).die 0).wq (bits 3 0 6) = { valid := true, lcap := 1 } ∧ ((wqTask { valid := true, lcap := 1 }).cur.rdG 4).p = false ∧
    passes (.wpush 5 4 0) (wqTask { valid := true, lcap := 1, items := [(8, true)] }) = true ∧ passes (.wclose 4 0) (wqTask { valid := true, lcap := 1 }) = true ∧
    passes (.wpop 2 4 6 0) (wqTask { valid := true, lcap := 1, items := [(8, false)] }) = true ∧ passes (.wpop 2 4 6 0) (wqTask { valid := true, lcap := 1, closed := true }) = true ∧
    passes (.wpopNb 2 4 6 0) (wqTask { valid := true, lcap := 1 }) = true := by decide +kernel
/-- MsendSendsAndCompletes: G6 names mailbox 2 of tile 0 of virtual die 0; a task whose reply has come. -/
def sendTask : State := setG atData 6 0
def repliedTask : State := sendTask.modCur (fun t => { t with sch := { t.sch with reply := some 0, sending := true } })
def sent : State := nextState (exec (.msend 1 6 0) (setG (base.placeCode 0x2000 (List.replicate 64 1)) 1 0x2000))
theorem witness_msend : Runs sendTask 0 ∧ sendTask.cur.sch.reply = none ∧ sendTask.cur.sch.sending = false ∧ sendTask.cur.depth = 0 ∧ ReleaseFree sendTask ∧
    CleanG sendTask [1, 6] ∧ destOk (sendTask.gv 6) = true ∧ sendTask.destModule (sendTask.gv 6) = sendTask.md.number ∧ (sendTask.gv 1).toNat % 64 = 0 ∧
    sendTask.check sendTask.cur.who 0 rRD 0x2000 64 = .ok (.sram 0 0x2000) ∧ AccessFree sendTask (.sram 0 0x2000) 64 ∧ ReadsAt sendTask (.sram 0 0x2000) 64 0x2000 ∧
    repliedTask.cur.sch.reply = some 0 ∧ passes (.msend 1 6 0) repliedTask = true ∧ sent.cur.status = .parked .reply ∧ sent.msgs.length = 1 :=
  ⟨runs0 _, by decide +kernel, by decide +kernel, by decide +kernel, by unfold ReleaseFree; decide +kernel, clean_of _ _ (by decide +kernel), by decide +kernel, by decide +kernel, by decide +kernel, by decide +kernel,
    access_free _ _ _ (by decide +kernel), reads_sram _ _ _ _ _ (by decide +kernel), by decide +kernel⟩
/-- StatusRegisterRowsComplete and TlbinvDropsWhatItNames: a supervisor, with a cached translation of its own. -/
def supTask : State := modSt (mapped base) (fun x => { x with mode := setBit x.mode 15 true })
theorem witness_status_registers : Runs supTask 0 ∧ supTask.cmdsOf supTask.cur = [] ∧ supTask.vCmds supTask.cur = [] ∧ supTask.cur.sup = true ∧ CleanG supTask [6] ∧ bits (supTask.gv 6) 0 3 < 6 ∧
    passes (.rdsr 28 6 0) supTask = true ∧ (∀ e : BitVec 5, e.toNat < 10 → passes (.wrsr e 6 0) supTask = true) := ⟨runs0 _, by decide +kernel, by decide +kernel, by decide +kernel, clean_of _ _ (by decide +kernel), by decide +kernel⟩
def supInv : State := setG supTask 5 (2 ^ 52 + 8)
theorem witness_tlbinv : supInv.cur.sup = true ∧ Runs supInv 0 ∧ supInv.cur.depth = 0 ∧ CleanG supInv [5] ∧ ReleaseFree supInv ∧ (supInv.gv 5).toNat < 2 ^ 56 ∧
    aRegion (supInv.gv 5).toNat = 1 ∧ (supTask.gv 5).toNat = 0 ∧ supInv.md.walks = [] ∧ (∀ e, e < 3 → supInv.undrained supInv.cur.vi e (supInv.gv 5).toNat = false) ∧
    ((nextState (exec (.tlbinv 0 5 0) supInv)).tile 0).tlb = [] := ⟨by decide +kernel, runs0 _, by decide +kernel, clean_of _ _ (by decide +kernel), by unfold ReleaseFree; decide +kernel, by decide +kernel⟩

/-- TrapAndEretComplete: a supervisor beside a trapped task whose WP G1 holds, with EPC 0x1004 in its record; a task that traps itself. -/
def trappedTask : Task := { base.cur with status := .trapped, wp := 0x8000, scope := 0xFFFFFFFF }
def eretTask : State :=
  let s := setG { supTask with others := [trappedTask] } 1 0x8000
  (s.placeCode 0x9400 (dws [0x18, 0x1004])).placeCode 0x8000 (dws [])
theorem not_handler (s : State) (h : s.cur.kind = .launched) (w : Nat) : s.cur.kind ≠ .trapHandler w := by rw [h]; exact fun x => by cases x
theorem witness_trap : base.cur.status = .resident ∧ (∀ w, base.cur.kind ≠ .trapHandler w) ∧ Runs base 0 ∧ (base.vi 0).trapToHost 0x18 = true ∧
    (nextState (exec (.trap 3 5 0) base)).cur.status = .trapped ∧ (nextState (exec (.trap 3 5 0) base)).cur.pc = 0x1004 := ⟨by decide +kernel, not_handler base (by decide +kernel), runs0 _, by decide +kernel⟩
theorem witness_eret : eretTask.cur.sup = true ∧ eretTask.cur.status = .resident ∧ Runs eretTask 0 ∧ ReleaseFree eretTask ∧ CleanG eretTask [1] ∧
    (eretTask.trapped? eretTask.cur.vi (eretTask.gv 1).toNat) = some trappedTask ∧ eretTask.eretOk trappedTask 0 = true ∧ passes (.eret 0 1 0) eretTask = true ∧
    ((nextState (exec (.eret 0 1 0) eretTask)).others.map (fun t => (t.status, t.pc))) = [(.ready, 0x1004)] :=
  ⟨by decide +kernel, by decide +kernel, runs0 _, by unfold ReleaseFree; decide +kernel, clean_of _ _ (by decide +kernel), by decide +kernel⟩
/-- ContainmentRowsComplete: level 1 open with its area at the start of region 1; a second level at 0x4000 of it; two levels open. -/
def domTask : State := setG ((mapped base).modCur (fun t => { t with hw := { t.hw with cdnest := 1, cdAddr := t.hw.cdAddr.set 0 (2 ^ 52) } })) 1 (2 ^ 52 + 0x4000)
def domTask2 : State := domTask.modCur (fun t => { t with hw := { t.hw with cdnest := 2, cdAddr := t.hw.cdAddr.set 1 (2 ^ 52 + 0x4000) } })
theorem witness_domain_area : ∀ j, j < 0x1A80 → domTask.check1 domTask.cur.who (domTask.taskGt domTask.cur) rWR (2 ^ 52 + 0x4000 + j) = .ok (.hbm (0x4000 + j)) := by
  have h : ∀ a, a < 106 → ∀ b, b < 64 → domTask.check1 domTask.cur.who (domTask.taskGt domTask.cur) rWR (2 ^ 52 + 0x4000 + (64 * a + b)) = .ok (.hbm (0x4000 + (64 * a + b))) := by decide +kernel
  intro j hj
  have := h (j / 64) (by omega) (j % 64) (by omega)
  rwa [Nat.div_add_mod] at this
theorem witness_cdopen : domTask.cur.status = .resident ∧ (domTask.cmdsOf domTask.cur = [] ∧ domTask.storesOf domTask.cur.key = []) ∧ Runs domTask 0 ∧ domTask.cur.depth = 1 ∧ bit domTask.cur.hw.rsv 63 = false ∧ domTask.cur.hnd = false ∧ CleanG domTask [1] ∧
    domTask.xfersOf domTask.cur 0 = [] ∧ aRegion (domTask.gv 1).toNat = 1 ∧ (domTask.gv 1).toNat % 64 = 0 ∧ AccessFree domTask (.hbm 0x4000) 64 ∧ (∀ x ∈ linesOf 0x4000 64, domTask.remoteHeld x false = false) ∧
    domTask.check domTask.cur.who (domTask.taskGt domTask.cur) rRD (domTask.gv 1).toNat 64 = .ok (.hbm 0x4000) ∧
    (∀ i, i < 8 → nthDw (loadedDws 8 (domTask.hbmFetch 0x4000 64)) i = 0) ∧ passes (.cdopen 1 0) domTask = true ∧ (nextState (exec (.cdopen 1 0) domTask)).cur.depth = 2 :=
  ⟨by decide +kernel, by decide +kernel, runs0 _, by decide +kernel, by decide +kernel, by decide +kernel, clean_of _ _ (by decide +kernel), by decide +kernel, by decide +kernel, by decide +kernel,
    access_free _ _ _ (by decide +kernel), by decide +kernel⟩
theorem witness_cdclose : domTask.cur.sch.closing = none ∧ domTask.cur.sch.swaps = [] ∧ domTask.cur.sch.reply = none ∧ domTask.cur.sch.sending = false ∧ bits domTask.cur.st.crust 56 8 = 0 ∧
    domTask.cur.sch.failedStore = none ∧ bits domTask.cur.st.mverr 40 8 = 0 ∧ domTask.xfersOf domTask.cur 1 = [] ∧ domTask.cur.red.tie = none ∧ domTask2.cur.depth = 2 ∧ domTask.owin domTask.cur % 65536 = 0 ∧
    bits (domTask.domWord domTask.cur 1 10) 8 8 = 0 ∧ passes (.cdclose 6 0) domTask = true ∧ passes (.cdclose 6 0) domTask2 = true ∧
    (nextState (exec (.cdclose 6 0) domTask)).cur.depth = 0 ∧ (nextState (exec (.cdclose 6 0) domTask2)).cur.depth = 1 := by decide +kernel
/-- EngineEventsComplete: a VADD queued and begun, an MXCFG and an MXZERO queued and begun, and a VRED whose result waits for box 0. -/
def vecLive : State := base.modCur (fun t => { t with scope := t.scope ||| 0xFFFF00000000 })
def vQueued : State := nextState (exec (.vadd 0x17 0 2 1 3) vecLive)
def vBegun : State := nextState (exec .vectorCommandBegin vQueued)
def mQueued (i : Instr) : State := nextState (exec i (setG matrixTask 5 0x21))
def zBegun : State := nextState (exec .matrixCommandBegin (mQueued (.mxzero 0 0)))
def redWaits : State :=
  let s := vecLive.modCur (fun t => { t with box := t.box.set 0 { full := true } })
  (nextState (exec .vectorCommandComplete (nextState (exec .vectorCommandBegin (nextState (exec (.vredBox 0x17 0 0 1) s)))))).modCur (fun t => { t with box := t.box.set 0 {} })
theorem witness_vector_form : ∃ f, vForm (.vadd 0x17 0 2 1 3) 0 0x17 = some f ∧ f.mem = .none ∧ f.z = none ∧ f.box = none ∧ f.mdst = none ∧ f.dsts = [3] ∧
    (∀ e, (f.eff e).bad = none) ∧ ∀ e, ∃ x, (f.eff e).v = [x] := ⟨_, rfl, rfl, rfl, rfl, rfl, rfl, fun _ => rfl, fun _ => ⟨_, rfl⟩⟩
/-- The command at the head of slot 0's queue, with what the statement asks of it. -/
def headIs (s : State) (vec : Bool) (i : Instr) (p : Phase) : Bool :=
  let q := if vec then (s.tile 0).vq else (s.tile 0).mq
  match headCmd q 0 with
  | some c => decide (c.instr = i) && decide (c.phase = p) && (p != .queued || (if vec then s.vNext 0 else s.mNext 0) == some 0) && c.grants.isEmpty &&
    (match s.task? c.key with | some u => u.status == .resident && u.absentLines.isEmpty && !u.det && !(u.box[0]).full | none => false)
  | none => false
theorem witness_vector_events : headIs vQueued true (.vadd 0x17 0 2 1 3) .queued = true ∧ headIs vBegun true (.vadd 0x17 0 2 1 3) .begun = true ∧ vBegun.cur.liveV 3 = true ∧
    ((nextState (exec .vectorCommandComplete vBegun)).tile 0).vq = [] := by decide +kernel
theorem witness_matrix_events : headIs (mQueued (.mxcfg 5 2 0)) false (.mxcfg 5 2 0) .queued = true ∧ cfgWide 0x21 = false ∧
    (nextState (exec .matrixCommandBegin (mQueued (.mxcfg 5 2 0)))).blk 0 2 = { mode := 1, config := 0x21 } ∧
    headIs zBegun false (.mxzero 0 0) .begun = true ∧ ((headCmd (zBegun.tile 0).mq 0).bind Cmd.result) = none ∧ ((nextState (exec .matrixCommandComplete zBegun)).tile 0).mq = [] := by decide +kernel
theorem witness_box_event : headIs redWaits true (.vredBox 0x17 0 0 1) .boxWait = true ∧ ((headCmd (redWaits.tile 0).vq 0).bind Cmd.result) = some (0, 0, false, false) ∧
    ((nextState (exec .boxWrite redWaits)).cur.box[0]).full = true := by decide +kernel
/-- SchedulerEventsComplete: beside the resident task another, which the event names. -/
def other (f : Task → Task) : Task := f { base.cur with wp := 0x8000, slot := 1, status := .ready }
def beside (s : State) (u : Task) : State := withEv { s with others := [u] } { key := 0x8000, slot := 1 }
def late (s : State) : State := s.modTile 0 (fun x => { x with cycle := 65536 })
def boxed : State := beside base (other (fun t => { t with status := .parked (.box 3), box := t.box.set 3 { full := true } }))
def aging : State := late (beside base (other (fun t => { t with sch := { t.sch with level := 2 } })))
def absent : State := beside base (other (fun t => { t with status := .parked (.regLine 7), absentLines := [7, 8] }))
def admits : State := beside base (other id)
def rotates : State := (late (beside base (other (fun t => { t with sch := { t.sch with level := 3 } })))).modTile 0 (fun x => { x with headSince := some (0x8000, 0) })
theorem witness_scheduler : boxed.task? 0x8000 = some (other (fun t => { t with status := .parked (.box 3), box := t.box.set 3 { full := true } })) ∧
    boxed.others.map (fun u => (boxed.parkHolds u (.box 3), u.sch.joining)) = [(true, 0)] ∧ aging.others.map (fun u => (u.status, u.sch.level, decide (65536 ≤ aging.waited u))) = [(.ready, 2, true)] ∧
    absent.others.map Task.status = [.parked (.regLine 7)] ∧ absent.usedLines 0 + 2 ≤ 512 ∧ (absent.usedLines 0 = 8 ∨ 0 < absent.usedLines 0) ∧ isNext (exec .taskReady boxed) = true ∧ isNext (exec .readyAging aging) = true ∧ isNext (exec .registerCacheFill absent) = true := by decide +kernel
theorem witness_admission : admits.slotFree 0 1 = true ∧ (admits.tile 0).quarantined = false ∧ (admits.tile 0).gated = false ∧ admits.admitted 0 1 = some (other id) ∧ (other id).sch.saved = false ∧ (other id).absentLines = [] ∧
    admits.task? (other id).key = some (other id) ∧ (nextState (exec .taskAdmission admits)).cur.key = 0x8000 := by decide +kernel
theorem witness_rotation : (rotates.eligibleHead 0).map Task.key = some 0x8000 ∧ (rotates.tile 0).headSince = some (0x8000, 0) ∧ 65536 ≤ (rotates.tile 0).cycle.toNat - 0 ∧
    (rotates.rotated 0).map Task.key = some 0x4000 ∧ (rotates.tile 0).waitHead = none ∧ (rotates.task? 0x4000).isSome = true ∧ isNext (exec .rotation rotates) = true := by decide +kernel
/-- DistributorAndPowerEventsComplete: the launch of `record` with its only task to place, and placed; tiles 5 and 6; island 3. -/
def placing (x : Launch) : State := withEv (base.modVi 0 (fun v => { v with launches := [x] })) { id := 1 }
def unplaced : Launch := { id := 1, record := record.map dw, addr := 0x2000 }
def waiting : Launch := { id := 1, record := record.map dw, addr := 0x2000, placed := 1, waiting := [(0, 0)] }
theorem witness_placement : unplaced.dep = 0 ∧ unplaced.cancelled = false ∧ (placing waiting).heldCause 0 (0, 1) = 0 ∧ (placing unplaced).heldCause 0 ((tileSet unplaced.record).getD (placeOf unplaced.record 1 0) (0, 0)) = 0 ∧ recPlace unplaced.record ≠ 0 ∧ unplaced.placed < recCount unplaced.record ∧
    tileSet unplaced.record = [(0, 1)] ∧ isNext (exec .leadDistributorPlacement (placing unplaced)) = true ∧
    (placing waiting).gtAt 0 (0, 1) = some 1 ∧ (placing waiting).frameFree 1 (waiting.frameOff 0) waiting.frameLen = true ∧ ((placing waiting).tile 1).gated = false ∧ recGrec waiting.record = 0 ∧
    ((placing waiting).tile 1).win = [] ∧ (nextState (exec .taskInstantiation (placing waiting))).others.map (fun u => (u.pc, u.g.toList.getD 2 0)) = [(0x1000, 77)] := by decide +kernel
def tile5 (f : Tile → Tile) : State := withEv (base.modTile 5 f) { gt := 5, id := 3, value := 2000 }
theorem witness_power : (tile5 (fun x => { x with cycle := 65536 })).tileIdle 5 = true ∧ (tile5 (fun x => { x with cycle := 65536 })).asksTile 5 = false ∧ (3 : Nat) < 56 ∧ isNext (exec .tilePowerGating (tile5 (fun x => { x with cycle := 65536 }))) = true ∧
    isNext (exec .wake (tile5 (fun x => { x with gated := true }))) = true ∧ isNext (exec .wakeComplete (tile5 (fun x => { x with gated := true, waking := true }))) = true ∧
    2000 ≤ (tile5 id).md.ceilOf 3 ∧ 2000 < (tile5 id).md.freqOf 3 ∧ isNext (exec .frequencyChange (tile5 id)) = true ∧ isNext (exec .powerLimit (tile5 id)) = true := by decide +kernel
/-- FetchGrantAndReservationEventsComplete. -/
def snapTask : State := withEv (withT.placeCode 0x2000 (List.replicate 64 1)) { key := 0x4000, index := 1 }
def codeTask : State := withEv (base.modCur (fun t => { t with status := .parked .code })) { key := 0x4000 }
theorem witness_fetch_events : (snapTask.task? 0x4000).map (fun u => (u.status, u.prepared 1, snapTask.codeLine u (u.target 1).toNat 32 == some (List.replicate 64 1))) = some (.resident, true, true) ∧
    (codeTask.task? 0x4000).map (fun u => (codeTask.codeLine u 0x1000 32).isSome) = some true ∧ isNext (exec .snapshotFetch snapTask) = true ∧ isNext (exec .codeFetch codeTask) = true := by decide +kernel
def grants (k : Nat) : State := withEv (bufTask.modCb 0 2 (fun b => { b with resQ := [(.task 0x4000, 1)], acqQ := [(.task 0x4000, 1)] })) { id := 2, kind := k }
theorem witness_grants : 1 ≤ (bufTask.cb 0 2).freePages ∧ 1 ≤ (bufTask.cb 0 2).filled ∧ (grants 0).cb 0 2 = { bufTask.cb 0 2 with resQ := [(.task 0x4000, 1)], acqQ := [(.task 0x4000, 1)] } ∧ isNext (exec .cbGrant (grants 0)) = true ∧ isNext (exec .cbGrant (grants 1)) = true := by decide +kernel
def waiters (h : Option Nat) (l : List Nat) (src : Nat) : State :=
  withEv ({ base.modCur (fun t => { t with status := .parked (.grant 0x400) }) with resv := [{ addr := 0x400, holder := h, waiters := l }] }) { addr := 0x400, src := src }
/-- A word of this module's HBM that module 1's agent 5 asks for with its request 9, or holds; the packet by which it releases it. -/
def away : Nat := awayKey + (9 * 2 ^ 13 + 5) * 1024 + 1
def awayWord (h : Option Nat) (l : List Nat) : State :=
  { base.modMd (fun m => { m with present := [0, 1], inbox := [{ src := 1, gt := 5, seq := 3, kind := kRelease, addr := 0x40, code := 1, data := 7 }] }) with resv := [{ addr := 2 ^ 57 + 8, holder := h, waiters := l }] }
/-- A word of module 1 that the task waits for, and the grant that has come. -/
def granted : State :=
  withEv ({ base.modMd (fun m => { m with outbox := [{ cls := cREQ, dst := 1, seq := 4, kind := kReserve, addr := 0x40, req := some (.task 0x4000) }], inbox := [{ src := 1, seq := 3, kind := kGrant, addr := 0x40, offset := 4, data := 7 }] }) with resv := [{ addr := 2 ^ 60 + 2 ^ 40 + 8, holder := none, waiters := [0x4000] }] }) { src := 1, seq := 3 }
theorem witness_reservations : (0x4000 : Nat) < awayKey ∧ (waiters none [0x4000] 0).ev.src = (waiters none [0x4000] 0).md.number ∧
    (nextState (exec .reservationGrant (waiters none [0x4000] 0))).cur.status = .ready ∧
    awayKey ≤ away ∧ wordLoc (2 ^ 57 + 8) = .hbm 0x40 ∧ base.frameBusy 0 = false ∧ base.remoteHeld 0x40 true = false ∧
    ((nextState (exec .reservationGrant (withEv (awayWord none [away]) { addr := 2 ^ 57 + 8 }))).resv.map Reserv.holder = [some away]) ∧
    (base.task? 5).isNone = true ∧ base.storesOf 5 = [] ∧ (waiters (some 5) [] 0).locBusy (wordLoc 0x400) = false ∧ (base.tile (base.gtOf 0 5)).vq ++ (base.tile (base.gtOf 0 5)).mq = [] ∧
    (nextState (exec .reservationRelease (waiters (some 5) [] 0))).resv = [] ∧ isNext (exec .reservationRelease (waiters (some 5) [] 0)) = true := by decide +kernel
theorem witness_reservations_away : ((granted.taken [kGrant]).map (fun r => (r.1.src, r.1.offset))) = some (1, 4) ∧
    (nextState (exec .reservationGrant granted)).resv.map (fun r => (r.granted, r.value)) = [(true, 7)] ∧
    (((withEv (awayWord (some away) []) { src := 1, seq := 3 }).taken [kRelease]).map (fun r => r.1.addr)) = some 0x40 ∧
    ((awayWord (some away) []).resv.any (fun r => r.addr == 2 ^ 57 + 8 && r.holder.any (fun k => decide (awayKey ≤ k) && k % 1024 == 1 && k / 1024 % 2 ^ 13 == 5)) = true) ∧
    (nextState (exec .reservationRelease (withEv (awayWord (some away) []) { src := 1, seq := 3 }))).byteAt (2 ^ 40 + 0x40) = 7 := by decide +kernel
theorem witness_illegal : base.cur.status = .resident ∧ (∀ w, base.cur.kind ≠ .trapHandler w) ∧ (base.vi 0).trapToHost 1 = true := ⟨by decide +kernel, not_handler base (by decide +kernel), by decide +kernel⟩
/-- MessageEventsComplete: a message to mailbox 2 of tile 0, which is unusable, or usable with buffer 2; its reply; a held batch; a published page for a handler. -/
def letter : Msg := { id := 4, src := 0, key := 0x4000, sender := 0, vi := some 0, dest := 2, payload := List.replicate 64 1, marks := List.replicate 64 false, seq := 0, tindex := 5, seed := 9, det := false, held := false }
def mailTask (b : Mailbox) (m : Msg) : State :=
  withEv { ((base.setGran 0 257 { state := 2 }).modTile 0 (fun x => { x with mbox := [(2, b)] })).modCb 0 2 (fun _ => { valid := true, base := 0x10000, plog := 8, pages := 4, resv := 1, pushed := 1 }) with msgs := [m] } { id := 4 }
def usable : Mailbox := { dw0 := BitVec.ofNat 64 (2 ^ 63 + 2 * 2 ^ 32) }
theorem witness_messages : (mailTask {} letter).ev.kind ≠ 1 ∧ (mailTask {} letter).ev.src = (mailTask {} letter).md.number ∧ (mailTask {} letter).fencedTile 0 = false ∧
    ((mailTask {} letter).tile 0).gated = false ∧ letter.vi = some 0 ∧ (∀ h ∈ (mailTask {} letter).msgs, ¬ h.id < 4) ∧ ((mailTask usable letter).cb 0 usable.buf).undoR = [] ∧
    1 ≤ ((mailTask usable letter).cb 0 usable.buf).freePages ∧ (mailTask {} letter).msgs.find? (fun g => g.id == 4 && !g.arrived) = some letter ∧ (mailTask {} letter).mailOf letter = some (0, 2) ∧ (mailTask {} letter).mailUsable 0 {} = false ∧
    (mailTask usable letter).mailUsable 0 usable = true ∧ usable.owner = 0 ∧ ((mailTask usable letter).cb 0 usable.buf).resQ = [] ∧
    (nextState (exec .messageArrival (mailTask {} letter))).msgs.map Msg.reply = [some 2] ∧ (nextState (exec .messageArrival (mailTask usable letter))).msgs.map Msg.reply = [some 0] ∧
    (nextState (exec .messageArrival (mailTask usable letter))).byteAt 0x10100 = 1 := by decide +kernel
def answered : State := (mailTask usable { letter with arrived := true, reply := some 0 }).modCur (fun t => { t with status := .parked .reply, sch := { t.sch with sending := true } })
def heldBatch : State := withEv (mailTask usable { letter with arrived := true, held := true, page := some 0, group := 0x2000, phase := 7 }) { id := 2, addr := 0x2000, seq := 7 }
def posted : State := withEv (mailTask { dw0 := BitVec.ofNat 64 (2 ^ 63 + 2 ^ 56 + 2 * 2 ^ 32), dw2 := 0x1000, dw3 := 0xC000, posts := [{ page := 0, det := false, seed := 9, tindex := 5, seq := 1 }] } letter) { id := 2 }
theorem witness_replies : (answered.task? 0x4000).map (fun u => (u.sch.sending, u.sch.sentId)) = some (true, letter.num) ∧ letter.src = answered.md.number ∧
    (answered.msgs.find? (fun g => g.id == 4 && g.reply.isSome && !g.replied)).isSome = true ∧ (nextState (exec .msendReply answered)).cur.sch.reply = some 0 ∧
    (heldBatch.heldBatch 0 2 0x2000 7).length = 1 ∧ (heldBatch.grp 0x2000).step ≠ 7 ∧ (nextState (exec .heldMessageBatch heldBatch)).msgs.map Msg.held = [false] ∧
    (posted.mail 0 2).hmode = true ∧ (posted.mail 0 2).handler = none ∧ pagePast (posted.cb 0 2).pushed 0 = true ∧ pagePast (posted.cb 0 2).taken 0 = false ∧ (posted.cb 0 2).acqQ = [] ∧ (posted.cb 0 2).taken = 0 ∧ 1 ≤ (posted.cb 0 2).filled ∧
    ((posted.mail 0 2).posts.map (fun p => posted.task? (posted.handlerTask 0 2 (posted.mail 0 2) p).key)) = [none] ∧
    (posted.tile 0).win = [] ∧ (nextState (exec .handlerStart posted)).others.map (fun u => (u.pc, u.wp)) = [(0x1000, 0xC000)] := by decide +kernel
/-- DiscardEventsComplete: a level whose commands are over, in its first run; a tie-break whose third signature agrees with the leading copy's, and with the trailing one's. -/
def discarding : State := withEv (domTask.modCur (fun t => { t with status := .parked (.discard 1) })) { key := 0x4000 }
def tied (x : DWord) : State := withEv (base.modCur (fun t => { t with red := { t.red with tie := some (5, 6, 1), sig3 := some x } })) { key := 0x4000 }
theorem witness_discards : (discarding.task? 0x4000).map (fun u => (u.status, discarding.discardReady u 1, bits (discarding.domWord u 1 9) 56 8)) = some (.parked (.discard 1), true, 0) ∧
    discarding.ev.kind ≠ 1 ∧ (nextState (exec .domainDiscard discarding)).cur.depth = 1 ∧ ((tied 5).task? 0x4000).map (fun u => u.red.sig3) = some (some 5) ∧
    (nextState (exec .tieBreakComparison (tied 5))).md.suspects = [8] ∧ (nextState (exec .tieBreakComparison (tied 6))).md.suspects = [0] := by decide +kernel
/-- MoverEventsComplete: the copy of `copyTask` queued, moving, and at its end without and with a counter; a chain's descriptor fetched, and failed; a handle's entry in HBM; a revocation; a stored page. -/
def moving : State := nextState (exec .transferBegin (withEv copying {}))
def ended (ctr : Nat) : State := (withEv (copying.placeCode 0x2200 (dws [0xFF])) {}).modTile 0 (fun x => { x with xfers := x.xfers.map (fun e => (e.1, { e.2 with
  state := 1, done := 64, read := 64, regs := e.2.regs.set 9 (dw ctr) })) })
def chainAhead (c : Nat) : State := withEv (nextState (exec (.mvchain 9 6 0) chainTask)) {} |>.modTile 0 (fun x => { x with xfers := x.xfers.map (fun e => (e.1, { e.2 with
  state := 1, ahead := some { desc := [0x2000, 0x2100, 0, 64, 0x10001, 0, 0, 2 ^ 28], code := c } })) })
theorem witness_mover_events : ((copying.inOrder 0).find? (fun t => t.state == 0)).map (fun t => (t.isChain, copying.xferHeld 0 t)) = some (false, false) ∧ (copying.inOrder 0).countP (fun u => u.state == 1) < 8 ∧ isNext (exec .transferBegin (withEv copying {})) = true ∧
    (moving.nextTurn 0).isSome = true ∧ isNext (exec .moverTurn moving) = true ∧
    (∀ c ∈ [0, 0x2200], ((ended c).xfer? 0 0).map (fun x => (x.isChain || x.stop || !x.crusts.isEmpty, x.state, x.atEnd, x.code)) = some (false, 1, true, 0) ∧
      ((ended c).xfer? 0 0).map (fun x => ((ended c).awaits x.ids x.reqs, mvBar x.regs)) = some (([], []), 0)) ∧
    (match (ended 0x2200).wordAt 0 0 0x2200 8 with | .at_ k => k | _ => 0) = 0x2200 ∧ (nextState (exec .transferCompletion (ended 0x2200))).byteAt 0x2201 = 1 ∧ isNext (exec .transferCompletion (ended 0)) = true := by decide +kernel
theorem witness_chain_events : (∀ c ∈ [0, 9], ((chainAhead c).xfer? 0 0).map (fun x => (x.isChain, x.state, x.stop, x.inForce, x.code)) = some (true, 1, false, false, 0)) ∧ ((chainAhead 9).vi 0).evctr = 0 ∧
    isNext (exec .chainDescriptorFetch (chainAhead 0)) = true ∧ isNext (exec .chainDescriptorFetch (chainAhead 9)) = true := by decide +kernel
def handles : State := withEv (base.modVi 0 (fun v => { v with htcount := 8, revq := [3, 4] })) { index := 3 }
def handleInHbm : State := withEv ((base.modVi 0 (fun v => { v with htcount := 8 })).put (2 ^ 40 + 64) (dws [0xE000000000000000, 4096, 0, 0]) (List.replicate 32 false)) { index := 2 }
def revoking : State := withEv (base.modVi 0 (fun v => { v with revoking := some 3 })) {}
def stored : State := withEv (subscribed.modDie 0 (fun d => { d with streams := d.streams.map (fun e => (e.1, { e.2 with pages := [(0x4000, List.replicate 1024 7, List.replicate 1024 false, [])] })) })) { id := 4, slot := 1 }
theorem witness_handle_events : (handles.vi 0).revoking = none ∧ (handles.vi 0).revq = [3, 4] ∧ handles.memWait (handles.handleAt 0 3) 8 true = none ∧ handleInHbm.handleWait 0 2 = none ∧ isNext (exec .revoke handles) = true ∧ (revoking.vi 0).revoking = some 3 ∧ revoking.xfersInFlight = [] ∧
    isNext (exec .revocationDone revoking) = true ∧ handleInHbm.handleEntry 0 2 = some (0xE000000000000000, 4096) ∧ isNext (exec .handleCacheFill handleInHbm) = true := by decide +kernel
theorem witness_stream_delivery : (tget {} (stored.die 0).streams 4).subs.find? (fun e => e.1 == 1) = some (1, 0, 2) ∧ firstIdx (fun p => !p.2.2.2.contains 1) (tget {} (stored.die 0).streams 4).pages = some 0 ∧
    (stored.cb 0 2).resQ = [] ∧ (stored.cb 0 2).undoR = [] ∧ 1 ≤ (stored.cb 0 2).freePages ∧ stored.fencedTile 0 = false ∧ (stored.tile 0).gated = false ∧
    (stored.writeHeld (2 ^ 63) (.sram 0 ((stored.cb 0 2).pageOff (stored.cb 0 2).resv)) 1024) = none ∧
    isNext (exec .streamDelivery stored) = true := by decide +kernel
/-- CollectiveEventsComplete: the collective of `collTask` alone with its own source; and, as coordinator or member, one of modules 0 and 1. -/
def collBegun : State := nextState (exec .transferBegin (withEv (nextState (exec (.mvgo 6 0) (collTask.setGran 0 32 { state := 2 }))) {}))
def collEv : EvIn := { id := 7, value := 2 ^ 32 + 1 }
def collRead : State := withEv (nextState (exec .colExchange collBegun)) collEv
def collReady : State := nextState (exec .collectiveReady collRead)
/-- The collective of tag 7 with members 0 to n − 1 on module `num`, its own source read and every final share there. -/
def selOf (n : Nat) : Nat := 2 ^ 32 + 2 ^ n - 1
def member (num n : Nat) (f : Coll → Coll) (e : EvIn) : State :=
  withEv { collBegun.modMd (fun m => { m with number := num, present := [0, 1, 2] }) with colls := [f { tag := 7, sel := dw (selOf n), xfer := some (0, 0), shares := (List.range 16).map (fun i => (shareOwner (dw (selOf n)) num i, 16, i, cellWire {})) }] } { e with id := 7, value := selOf n }
/-- A packet of tag 7 from module 1 that has come in to module 0. -/
def colIn (k code : Nat) (wire : Nat) (f : Coll → Coll) : State :=
  withEv { collBegun.modMd (fun m => { m with present := [0, 1, 2], inbox := [{ cls := cCOL, src := 1, gt := agentIo 3, die := agentIo 3, kind := k, addr := 7 * 65536, code := code, data := BitVec.ofNat 1024 (selOf 2 * 2 ^ 864 + wire) }] }) with colls := [f { tag := 7, sel := dw (selOf 2) }] } { src := 1, id := 7 }
def outKinds (s : State) : List (Nat × Nat) := s.md.outbox.map (fun p => (p.dst, p.kind))
theorem witness_collective_own : (collBegun.colReadable 0 0).isSome = true ∧ ((collBegun.colReadable 0 0).map (fun x => match collBegun.colSource 0 x with | .inl y => y.1.length | .inr _ => 0)) = some 64 ∧
    collBegun.ev.src = collBegun.md.number ∧ collBegun.colls = [] ∧ (collRead.coll?.map (fun c => (c.isOver, c.commit, c.ready, c.coordinator, match collRead.colResult c with | .ok bs => bs.length | _ => 0))) = some (false, false, [], 0, 64) ∧
    (collReady.coll?.map (fun c => (c.isOver, c.commit, c.ready))) = some (false, true, [0]) ∧ isNext (exec .collectiveCommit collReady) = true := by decide +kernel
theorem witness_collective_result : (collReady.coll?.bind collReady.colXfer).map (fun x => (x.1, x.2.done, colRes x.2.record, x.2.vi, match collReady.reach x.2 (colRes x.2.record + x.2.done) 64 with | .ok _ => true | _ => false)) =
      some (0, 0, 0x2040, 0, true) ∧ collReady.gtOf 0 0x2040 = 0 ∧ collReady.writeHeld (2 ^ 63) (.sram 0 0x2040) 64 = none := by decide +kernel
theorem witness_collective_place : WritesAt collReady (.sram 0 0x2040) 64 0x2040 := writes_sram _ _ _ _ _ (by decide +kernel)
theorem witness_collective_member : ((member 1 2 id {}).coll?.map (fun c => (c.isOver, c.ready, c.coordinator, match (member 1 2 id {}).colResult c with | .ok bs => bs.length | _ => 0))) = some (false, [], 0, 64) ∧
    outKinds (nextState (exec .collectiveReady (member 1 2 id { src := 1 }))) = [(0, kReady)] ∧
    outKinds (nextState (exec .collectiveAbort (member 0 2 id { index := 1 }))) = [(1, kAbort)] ∧
    (nextState (exec .coordinatorTakeover (member 2 3 id { src := 2, index := 0 }))).colls.map (fun c => (c.lost, c.coordinator)) = [([0], 1)] ∧
    outKinds (nextState (exec .coordinatorTakeover (member 1 3 id { src := 1, index := 0 }))) = [(0, kQuery), (2, kQuery)] := by decide +kernel
theorem witness_collective_packets : ((colIn kShare 3 5 id).colPacket [kShare]).isSome = true ∧ (((colIn kShare 3 5 id).colPacket [kShare]).map (fun x => ((colIn kShare 3 5 id).rivals ((colIn kShare 3 5 id).collFor x.1)).length)) = some 0 ∧
    1 ∈ selMembers (dw (selOf 2)) ∧ 0 ∈ selMembers (dw (selOf 2)) ∧ (nextState (exec .colExchange (colIn kShare 3 5 id))).colls.map (fun c => c.shares) = [[(1, 3, 0, 5)]] ∧
    readCell true (wireCell (BitVec.ofNat 704 1)) = .corrupt ∧ (nextState (exec .colExchange (colIn kShare 0 1 id))).md.colReports = 1 ∧
    (nextState (exec .collectiveReady (colIn kReady 0 0 (fun c => { c with ready := [0] })))).colls.map Coll.commit = [true] ∧
    outKinds (nextState (exec .collectiveCommit (colIn kCommit 0 0 id))) = [(1, kCommit)] ∧ (nextState (exec .collectiveAbort (colIn kAbort 6 0 id))).colls.map Coll.failed = [some 6] ∧
    outKinds (nextState (exec .coordinatorTakeover (colIn kQuery 0 0 id))) = [(1, kAnswer)] ∧ (nextState (exec .coordinatorTakeover (colIn kAnswer 1 0 id))).colls.map Coll.commit = [true] := by decide +kernel
/-- TranslationAndPreemptionEventsComplete: a task whose page has no walk, or one in flight; a walk that has read its leaf, or the fault, and one posted to the host. -/
def walkPage : Nat := walkKey 0 1 0
def missing (l : List Walk) (a : Nat) : State := withEv ((base.modCur (fun t => { t with status := .parked (.walk walkPage) })).modMd (fun m => { m with walks := l }) |>.modVi 0 (fun v => { v with assist := a })) { key := 0x4000 }
def aWalk : Walk := { tag := 0, vi := 0, region := 1, offset := 0, wps := [] }
def waited : Walk := { aWalk with wps := [0x4000] }
theorem witness_walks : ((missing [] 0).task? 0x4000).bind (missing [] 0).walkWanted = some walkPage ∧ (missing [] 0).walkerFree walkPage = true ∧
    walkPage / 2 ^ 26 = 0 ∧ walkPage / 2 ^ 24 % 4 = 1 ∧ ((missing [] 2).vi 0).assist / 2 % 2 = 1 ∧ aWalk.serves 0 1 0 = true ∧
    isNext (exec .translationWalk (missing [] 0)) = true ∧ isNext (exec .translationWalk (missing [] 2)) = true ∧ isNext (exec .translationWalk (missing [aWalk] 0)) = true ∧
    (∀ r ∈ [none, some (0xFC00000000000000, 0, 2 ^ 21)], isNext (exec .walkComplete (missing [{ waited with read := some r }] 0)) = true) ∧
    isNext (exec .hwalk (missing [{ waited with host := true }] 2)) = true ∧ (missing [] 0).md.walks = [] := by decide +kernel
/-- A request record at 0x2000 that names a task on tile 0 and a save area; the tasks that it names; a trapped task without a handler. -/
def preempts (l : List Nat) : State :=
  withEv (beside ((base.placeCode 0x2000 (dws l)).modVi 0 (fun v => { v with preq := [0x2000] })) (other id)) {}
def preemptBad : State := preempts [0x8000, 0x10, 0, 1]
def resumes : State := withEv (beside base (other (fun t => { t with status := .preempted }))) { value := 0x8000, key := 0x8000 }
def queueFull : State := withEv (base.modVi 0 (fun v => { v with preq := List.replicate 16 0, pmq := List.replicate 16 0 })) { key := 0x4000 }
def trapped0 : State := withEv ({ base with others := [trappedTask] }.modVi 0 (fun v => { v with trapcfg := BitVec.ofNat 64 (0xC000 * 2 ^ 32 + 0x3000) })) {}
theorem witness_preemption_queue : (base.vi 0).preq.length < 16 ∧ 16 ≤ (queueFull.vi 0).preq.length ∧ (queueFull.task? 0x4000).isSome = true ∧ isNext (exec .preemptionQueueStore base) = true ∧
    (nextState (exec .preemptionQueueStore queueFull)).cur.status = .parked (.hostQueue 2) := by decide +kernel
theorem witness_preemption : (got (preemptBad.hwRead 0 0x2000 4)).map (preemptBad.preemptStatus 0) = some 1 ∧ (preemptBad.vi 0).preq = [0x2000] ∧ isNext (exec .preemption preemptBad) = true ∧
    (resumes.task? 0x8000).map Task.status = some .preempted ∧ (nextState (exec .resume resumes)).others.map Task.status = [.ready] := by decide +kernel
theorem witness_trap_handler : bit (trapped0.vi 0).trapcfg 63 = false ∧ trapped0.handlerRuns 0 0 = false ∧ trapped0.nextTrapped 0 0 = some trappedTask ∧ (trapped0.tile 0).win = [] ∧
    (nextState (exec .trapHandlerStart trapped0)).others.map (fun u => (u.pc, u.wp, u.g.toList.getD 1 0)) = [(0x1000, 0x8000, 0), (0x3000, 0xC000, 0x8000)] := by decide +kernel
/-- The save area in region 1, which a page table at the start of HBM maps. -/
def preemptGood : State := (preempts [0x8000, 2 ^ 52 + 0x100000, 0, 0]).put (2 ^ 40) (dws [0xFC00000000000000]) (List.replicate 8 false)
theorem witness_preemption_served : (got (preemptGood.hwRead 0 0x2000 4)).map (preemptGood.preemptStatus 0) = some 0 ∧ (preemptGood.task? 0x8000).map (fun u => (u.status, (preemptGood.cmdsOf u).isEmpty)) = some (.ready, true) := by decide +kernel
/-- Nothing of either request waits, and its status can be reported, before and after the task is pre-empted. -/
def reports (c : Chk State) : Bool := match c with | .park _ => false | _ => true
def waitsNot (s : State) : Bool :=
  match got (s.hwRead 0 0x2000 4) with
  | some d => (s.runWait 0 (nthDw d 1).toNat saveBytes true).isNone && reports (s.hwStatus 0 (nthDw d 2).toNat (s.preemptStatus 0 d))
  | none => false
theorem witness_preemption_bad_reports : waitsNot preemptBad = true := by decide +kernel
theorem witness_preemption_good_reports : waitsNot preemptGood = true := by decide +kernel
theorem witness_preemption_task : (preemptGood.task? 0x8000).map (fun u => (u.caughtUp, reports ((preemptGood.preemptTask u (2 ^ 52 + 0x100000)).hwStatus 0 0 0))) = some (true, true) := by
  decide +kernel
theorem witness_preemption_runs : (match exec .preemption preemptGood with | .next t => (t.others.map Task.status, (t.vi 0).preq) | _ => ([], [])) = ([.preempted], []) := by decide +kernel
theorem witness_walks_parts : (missing [waited] 0).md.walks.find? (fun w => w.tag == 0 && w.result.isNone) = some waited ∧ (match (missing [] 0).pageWalk 0 1 0 with | .park _ => false | _ => true) = true ∧
    (missing [{ waited with host := true }] 2).md.walks.find? (fun w => w.host && w.tag == 0 % 65536 && w.result.isNone) = some { waited with host := true } ∧
    (nextState (exec .translationWalk (missing [] 0))).md.walks.length = 1 ∧ (nextState (exec .translationWalk (missing [aWalk] 0))).md.walks.map (fun w => w.wps) = [[0x4000]] := by decide +kernel
/-- LineEventsComplete: line 0 of this module's memory, in a plain frame of VI 0; module 1 as requester, with each state of the directory. -/
def homeOf (kind busy : Nat) : BitVec 32 := BitVec.ofNat 32 (2 ^ 31 + busy * 2 ^ 24 + kind * 2 ^ 22)
/-- A request of kind k for line 0 that module `src` makes: its packet has come in, or it stands among the module's own. -/
def lineAsk (k src : Nat) (d : Dir) (frame busy own : Nat) : State :=
  withEv (base.modMd (fun m => { m with homeMap := [(0, homeOf frame busy)], dir := [(0, d)], present := [0, 1, 2], dcache := if own = 0 then [] else [(lineKey 0 0, { state := own })]
                                        outbox := if src = 0 then [{ cls := cREQ, dst := 0, seq := 3, kind := k, addr := 0 }] else []
                                        inbox := if src = 0 then [] else [{ src := src, seq := 3, kind := k }] })) { src := src, seq := 3 }
/-- Packets that the next state adds to those of another: destination and kind. -/
def newOut (i : Instr) (s : State) : List (Nat × Nat) := (outKinds (nextState (exec i s))).filter (fun x => !(outKinds s).contains x)
theorem witness_lines : (lineAsk kGetS 1 {} 0 0 0).frameBusy 0 = false ∧ (lineAsk kGetS 1 {} 0 0 0).tagOk 0 0 = true ∧ (lineAsk kGetS 1 {} 0 0 0).frameKind 0 ≠ 1 ∧ (lineAsk kGetS 1 {} 0 0 0).lineReserved 0 = false ∧
    ((lineAsk kGetS 1 {} 0 0 0).taken [kGetS]).map (fun r => (r.1.src, lineOf r.1.addr, r.1.index, r.1.code)) = some (1, 0, 0, 0) ∧ (lineAsk kGetM 1 { sharers := [2] } 0 0 0).otherHolders 0 true = [2] ∧
    newOut .gets (lineAsk kGetS 1 {} 0 0 0) = [(1, kDataE)] ∧ newOut .gets (lineAsk kGetS 1 { sharers := [2] } 0 0 0) = [(1, kData)] ∧ newOut .gets (lineAsk kGetS 1 {} 1 0 0) = [(1, kData)] ∧
    newOut .gets (lineAsk kGetS 1 { owner := some (0, 3) } 0 0 3) = [(1, kData)] ∧ newOut .gets (lineAsk kGetS 1 { owner := some (2, 4), clean := true } 0 0 0) = [(1, kData)] ∧
    newOut .gets (lineAsk kGetS 1 { owner := some (2, 3) } 0 0 0) = [(2, kForward)] := by decide +kernel
theorem witness_lines_more : newOut .getm (lineAsk kGetM 1 { sharers := [1] } 0 0 0) = [(1, kDataM)] ∧ newOut .getm (lineAsk kGetM 1 { sharers := [2] } 0 0 0) = [(2, kInval)] ∧
    newOut .getm (lineAsk kGetM 1 {} 1 0 0) = [(1, kThrough)] ∧ newOut .gets (lineAsk kGetS 1 {} 0 1 0) = [(1, kRefuse)] ∧
    newOut .gets ((lineAsk kGetS 1 {} 0 0 0).modVi 0 (fun v => { v with jobtag := 9 })) = [(1, kViolation)] ∧
    ((nextState (exec .gets (lineAsk kGetS 0 {} 0 0 0))).dline 0 0).state = 2 ∧ ((nextState (exec .getm (lineAsk kGetM 0 {} 0 0 0))).dline 0 0).state = 3 ∧
    newOut .getm (lineAsk kGetM 0 { owner := some (2, 3) } 0 0 0) = [(2, kInval)] ∧ isNext (exec .gets (lineAsk kGetS 0 {} 0 1 0)) = true := by decide +kernel
/-- A line of module 1, or of this one, in the module's own domain cache. -/
def ownLine (home st : Nat) (e : EvIn) : State :=
  withEv (base.modMd (fun m => { m with dcache := [(lineKey home 0, { state := st })], dir := if home = 0 then [(0, { owner := some (0, st) })] else []
                                        inbox := [{ src := 1, seq := 3, kind := kInval }] })) e
theorem witness_line_moves : (lineAsk kWriteBack 1 { owner := some (1, 3) } 0 0 0).dirOf 0 = { owner := some (1, 3) } ∧ newOut .writeBack (lineAsk kWriteBack 1 { owner := some (1, 3) } 0 0 0) = [(1, kAck)] ∧
    newOut .eviction (lineAsk kEvict 1 { owner := some (1, 2) } 0 0 0) = [(1, kAck)] ∧ newOut .writeBack (ownLine 1 3 { index := 1 }) = [(1, kWriteBack)] ∧ newOut .eviction (ownLine 1 2 { index := 1 }) = [(1, kEvict)] ∧
    isNext (exec .writeBack (ownLine 0 4 {})) = true ∧ isNext (exec .eviction (ownLine 0 1 {})) = true ∧ (ownLine 1 3 {}).asking 1 0 = false ∧
    (∀ st ∈ [0, 1, 4], newOut .invalidation (ownLine 1 st { src := 1, seq := 3 }) = [(1, kForwarded)]) ∧ newOut .directoryEviction (lineAsk 0 0 { sharers := [0, 2] } 0 0 0) = [(2, kInval)] := by decide +kernel
/-- PacketEventsComplete: module 1 at incarnation 5, this module at 3. -/
def packet (e : EvIn) : State := withEv (base.modMd (fun m => { m with
  peers := [(1, 5), (1025, 5), (2049, 5), (3073, 5)], incarnation := 3, present := [0, 1, 2, 33], announce := [1], darkPorts := [0]
  outbox := [{ cls := cREQ, dst := 33, seq := 9, kind := kGetS, addr := 0, sends := 7 }, { cls := cREQ, dst := 1, seq := 4, kind := kGetS, addr := 0 }]
  served := [{ src := 1, agent := 2, seq := 6, kind := kStore, answer := some (kAck, 0, 0, 0, 0) }] })) { e with src := 1, srcInc := if e.srcInc = 0 then 5 else e.srcInc, dstInc := if e.dstInc = 0 then 3 else e.dstInc }
theorem witness_packets : earlier 4 5 = true ∧ earlier 5 5 = false ∧ earlier 6 5 = false ∧ earlier 5 6 = true ∧ earlier (5 + 0x8000) 5 = false ∧ earlier 5 (5 + 0x8000) = false ∧
    (∀ x ∈ [({ srcInc := 4 } : EvIn), { dstInc := 2 }, { srcInc := 6 }], ((nextState (exec .packetArrival (packet x))).md.counters.map (·.2)) = [1]) ∧
    ((nextState (exec .packetArrival (packet { srcInc := 6, kind := kInc, cls := cMGT }))).md.peers.map (·.2)) = [6, 6, 6, 6] ∧
    (nextState (exec .packetArrival (packet { kind := kGetS, seq := 7 }))).md.inbox.length = 1 ∧ newOut .packetArrival (packet { kind := kStore, gt := 2, seq := 6 }) = [(1, kAck)] ∧
    newOut .packetArrival (packet { cls := cRSP, kind := kData, offset := 4 }) = [(1, kForwarded)] ∧ (nextState (exec .packetArrival (packet { cls := cSNP, kind := kInval }))).md.inbox.length = 1 ∧
    (nextState (exec .packetArrival (packet { cls := cMGT, kind := kIncAck }))).md.announce = [] ∧ (nextState (exec .packetArrival (packet { cls := cMSG, kind := kMsg }))).md.inbox.length = 1 ∧
    (nextState (exec .packetArrival (packet { cls := cMSG, kind := kMsg, seq := 2 }))).md.early.length = 1 := by decide +kernel
def detours : State := (packet { seq := 9, index := 2 }).modMd (fun m => { m with announce := [] })
theorem witness_packet_moves : (nextState (exec .requestResend (packet { seq := 9 }))).md.unanswered = [9] ∧ (packet { ok := true }).voted = true ∧
    ((nextState (exec .incarnationChange (packet { ok := true }))).md.announce) = [1, 2, 33] ∧ isNext (exec .linkPortFailure (packet { id := 63 })) = true ∧
    ((withEv detours { detours.ev with src := 33 }).md.minimal 33).all (fun r => !(detours.md.open_ { cls := cREQ, dst := 33, kind := kGetS, addr := 0 } r)) = true ∧ detours.md.litPort 2 = some 1 ∧
    (nextState (exec .detour (withEv detours { detours.ev with src := 33 }))).md.outbox.any (fun p => p.route == some [2, 33]) = true := by decide +kernel
/-- ErasureAndRemoteFailureEventsComplete: frames 0 of KIND 1 and 2, in a group at position 0 or 5. -/
def erasure (kind k : Nat) (e : EvIn) : State := withEv (base.modMd (fun m => { m with
  homeMap := [(0, homeOf kind 0)], erasgrp := dw (2 ^ 63 + 0), lostMembers := [4], present := [0, 1], erasmem := [(1, 513)]
  inbox := [{ src := 1, gt := 5, seq := 3, kind := k, size := 64, data := 7 }] })) { e with src := 1, seq := 3 }
def failing (p : Park) (e : EvIn) : State := withEv (base.modCur (fun t => { t with status := .parked p, sch := { t.sch with sending := true } })) { e with key := 0x4000 }
theorem witness_erasure : (erasure 1 kStore {}).frameKind 0 = 1 ∧ ((erasure 1 kStore {}).taken [kStore]).map (fun r => r.1.size) = some 64 ∧ (erasure 1 kStore {}).tagOk 0 0 = true ∧
    (erasure 1 kStore {}).heldBy (fun _ => true) (.hbm 0) 64 = none ∧ (linesOf 0 64).all (fun y => !(erasure 1 kStore {}).remoteHeld y true) = true ∧ 0 ∉ (erasure 1 kStore {}).md.lostMembers ∧
    (nextState (exec .protectedWrite (erasure 1 kStore {}))).md.deltas.map (fun d => (d.weight, d.acked)) = [(0, false), (1, false)] ∧ (nextState (exec .protectedWrite (erasure 1 kStore {}))).byteAt (2 ^ 40) = 7 ∧
    (erasure 2 kDelta {}).frameKind 0 = 2 ∧ (erasure 2 kDelta {}).md.pos = 0 ∧ newOut .parityDelta (erasure 2 kDelta {}) = [(1, kDeltaAck)] := by decide +kernel
theorem witness_members : isNext (exec .memberLoss (erasure 0 0 { ok := true, id := 9 })) = true ∧ 4 ∈ (erasure 0 0 {}).md.lostMembers ∧ 4 ∉ (erasure 0 0 {}).md.pendingRebuild ∧
    (nextState (exec .erasureRebuild (erasure 0 0 { id := 4 }))).md.lostMembers = [] ∧ isNext (exec .erasureRebuild (erasure 0 0 { id := 4, kind := 2 })) = true ∧
    (nextState (exec .erasureRebuild (erasure 1 0 { kind := 1, ok := true, data := 9 }))).byteAt (2 ^ 40) = 9 ∧ (nextState (exec .erasureRebuild (erasure 1 0 { kind := 3, gt := 5 }))).md.served.length = 1 := by decide +kernel
def storing : State := withEv { base with stores := [{ key := 0x4000, vi := 0, addr := 8, loc := .peer 1 0, bytes := [1], marks := [false] }] } { key := 0x4000, addr := 8, kind := 1 }
theorem witness_remote_failure : ((withEv copying { kind := 3 }).xfer? 0 0).map (fun x => (x.code, mvDkind x.regs)) = some (0, 0) ∧ isNext (exec .remoteFailure (withEv copying { kind := 3 })) = true ∧
    (nextState (exec .remoteFailure (failing (.line 0 0) { kind := 0, addr := 8 }))).cur.sch.failedAccess = some 8 ∧ (nextState (exec .remoteFailure (failing (.grant 5) { kind := 0, addr := 8 }))).cur.sch.failedAccess = some 8 ∧
    storing.cur.sch.failedStore = none ∧ (nextState (exec .remoteFailure storing)).cur.sch.failedStore = some 8 ∧ (nextState (exec .remoteFailure (failing .reply { kind := 2 }))).cur.sch.reply = some 3 := by decide +kernel
/-- PageEventsComplete: a move of frames 0 and 1 to stack 0, frame 4, and its record; scrubbing. -/
def pageMove (moved busy : Nat) : State := withEv ((base.modVi 0 (fun v => { v with move := some { first := 0, count := 2, dstack := 0, dframe := 4, stat := 0, moved := moved } })).modMd (fun m => { m with
  homeMap := [(0, homeOf 0 busy), (1, homeOf 0 busy + 1)] })) {}
def moveRecord (l : List Nat) : State := withEv (((base.placeCode 0x2000 (dws l)).modVi 0 (fun v => { v with pmq := [0x2000] })).modMd (fun m => { m with
  homeMap := [(0, homeOf 0 0), (4, BitVec.ofNat 32 4)] })) {}
def scrub (kind k : Nat) (ok : Bool) : State := withEv (base.modMd (fun m => { m with homeMap := [(0, homeOf k 0)] })) { kind := kind, ok := ok }
theorem witness_page_moves : (base.vi 0).pmq.length < 16 ∧ 16 ≤ (queueFull.vi 0).pmq.length ∧ isNext (exec .pageMoveQueueStore base) = true ∧ (nextState (exec .pageMoveQueueStore queueFull)).cur.status = .parked (.hostQueue 1) ∧
    (got ((moveRecord [2 ^ 32, 4, 0, 0]).hwRead 0 0x2000 4)).map ((moveRecord [2 ^ 32, 4, 0, 0]).pageMoveStatus 0) = some 0 ∧ (got ((moveRecord [0, 4, 0, 0]).hwRead 0 0x2000 4)).map ((moveRecord [0, 4, 0, 0]).pageMoveStatus 0) = some 1 ∧
    isNext (exec .pageMoveRecord (moveRecord [2 ^ 32, 4, 0, 0])) = true ∧ isNext (exec .pageMoveRecord (moveRecord [0, 4, 0, 0])) = true ∧
    (pageMove 0 0).frameBusy 0 = false ∧ (pageMove 0 1).frameBusy 0 = true ∧ (pageMove 1 1).frameBusy 1 = true ∧ isNext (exec .frameMove (pageMove 0 0)) = true ∧ Memory.wf (pageMove 0 1).mem = true := by decide +kernel
theorem witness_scrub : (∀ k, k < 3 → isNext (exec .scrubRead (scrub k 0 false)) = true) ∧ (scrub 2 1 true).frameKind 0 ≠ 0 ∧ isNext (exec .scrubRead (scrub 2 1 true)) = true ∧ (scrub 2 0 true).frameKind 0 = 0 ∧
    (scrub 2 0 true).frameBusy 0 = false := by decide +kernel
/-- RecoveryEventsComplete: all 32 logical dies bound to the first sockets, with four spares or none; tile 5 quarantined. -/
def recovering (spares : Bool) (assist : Nat) (e : EvIn) : State :=
  withEv ((base.modTile 5 (fun x => { x with quarantined := true })).modMd (fun m => { m with
    dieMap := (List.range 32).map (fun d => (d, BitVec.ofNat 32 (2 ^ 31 + d))), modassist := assist, testUnits := [256 * 5]
    deadSockets := if spares then [] else [32, 33, 34, 35], booted := false, pendingSparing := if assist = 3 then [7] else [] }) |>.modDie 9 (fun d => { d with degraded := true })) { e with ok := true }
theorem witness_tiles_recover : (recovering true 8 {}).voted = true ∧ isNext (exec .rectangleReset (recovering true 0 { gt := 6 })) = true ∧ isNext (exec .quarantine (recovering true 0 { gt := 6 })) = true ∧
    ((recovering true 0 {}).tile 5).quarantined = true ∧ ((recovering true 0 {}).tile 5).failed = false ∧ isNext (exec .quarantineRelease (recovering true 0 { gt := 5 })) = true ∧
    (recovering true 8 {}).md.modassist / 8 % 2 = 1 ∧ 256 * 5 + 0 ∈ (recovering true 8 {}).md.testUnits ∧ isNext (exec .structuralTest (recovering true 8 { gt := 5, code := 1 })) = true := by decide +kernel
theorem witness_dies_recover : (recovering true 0 {}).anySpare = true ∧ (recovering true 0 {}).isSpare 35 = true ∧ (recovering false 0 {}).anySpare = false ∧ ((recovering true 0 {}).dieEntry 31).getLsbD 31 = true ∧
    (recovering true 1 {}).md.modassist % 2 = 1 ∧ 7 ∈ (recovering true 3 {}).md.pendingSparing ∧ ((recovering true 0 {}).die 9).degraded = true ∧
    (∀ x ∈ (recovering true 0 {}).vis, (∃ c ∈ x.2.ctx, c.2.getLsbD 31 = true ∧ c.2.toNat % 32 = 9) → (recovering true 0 {}).isStopped x.1 = true) := by decide +kernel
theorem witness_dies_recover_run : isNext (exec .dieRetirement (recovering true 0 { die := 31, index := 35 })) = true ∧ isNext (exec .dieRetirement (recovering true 1 { die := 31, index := 35 })) = true ∧
    isNext (exec .dieRetirement (recovering false 0 { die := 31 })) = true ∧ isNext (exec .sparingApproval (recovering true 3 { die := 7, index := 35 })) = true ∧ isNext (exec .dieEvacuation (recovering true 0 { die := 9, index := 35 })) = true := by decide +kernel
theorem witness_service : isNext (exec .heldState base) = true ∧ 0 ∈ base.md.voters ∧ 3 ∉ base.md.voters ∧ isNext (exec .voterReplacement (withEv base { id := 0 })) = true ∧
    (recovering true 0 {}).md.booted = false ∧ isNext (exec .boot (recovering true 0 {})) = true ∧ isNext (exec .boot (withEv (recovering true 0 {}) {})) = true ∧ isNext (exec .attestationRequest base) = true := by decide +kernel
/-- A frame's copy waits for nothing; a record whose frames are moved reports; findings in a slice and in a line of module 1; a failed stack. -/
theorem witness_page_moves_more : (pageMove 0 1).frameInUse 0 = false ∧ (pageMove 0 1).framePhys 0 = 0 ∧ isNext (exec .frameMove (pageMove 2 0)) = true ∧
    (match ((pageMove 2 0).modVi 0 (fun x => { x with move := none })).hwStatus 0 0 0 with | .park _ => false | _ => true) = true ∧
    (nextState (exec .scrubRead (withEv data { cls := 1, kind := 2, offset := 0x2000 }))).marked 0x203F = true ∧
    ((nextState (exec .scrubRead (ownLine 1 3 { cls := 2, kind := 2, index := 1 }))).dline 1 0).marks = 0xFF ∧ isNext (exec .hbmStackFailure (withEv base { id := 15 })) = true := by decide +kernel
/-- Logical die 31 fenced, or bound anew with its fence up. -/
def retiring (spares anew : Bool) : State := (recovering spares 0 { die := 31, index := 35 }).modMd (fun m => { m with retiring := [(31, anew)] })
theorem witness_retirement : ((retiring true false).md.retiring.find? (fun e => e.1 == 31)) = some (31, false) ∧ ((nextState (exec .dieRetirement (retiring true false))).dieEntry 31).toNat % 64 = 35 ∧
    ((nextState (exec .dieRetirement (retiring false false))).dieEntry 31).getLsbD 31 = false ∧ (nextState (exec .dieRetirement (retiring true true))).md.retiring = [] ∧
    (recovering true 0 {}).dieValid 31 = true ∧ (recovering true 0 {}).md.retiring = [] ∧ (recovering true 0 {}).testSocket 36 4 = true ∧ isNext (exec .structuralTest (recovering true 0 { write := true, die := 36, kind := 4 })) = true := by decide +kernel
/-- HostRequestEventsComplete: VI 0 of `data`, whose host port is open or frozen, and requests of it. -/
def port (e : EvIn) : State := withEv (hostVi data) e
def portFrozen : State := (port { size := 8, addr := 0x2000 }).modVi 0 (fun v => { v with frozenPorts := [0] })
def portRead : State := port { size := 8, addr := 0x2000 }
def portPoison : State := { portRead with poison := [0x400] }
def portWrite : State := port { size := 8, addr := 0x2000, write := true, data := 0x1122334455667788 }
theorem witness_host_port : portFrozen.ev.vi < 64 ∧ (nextState (exec .hostRequest portFrozen)).md.hostReply = (0, 1, 0) ∧
    portRead.check ⟨0, true, 0⟩ 0 rRD 0x2000 8 = .ok (.sram 0 0x2000) ∧ portWrite.check ⟨0, true, 0⟩ 0 rWR 0x2000 8 = .ok (.sram 0 0x2000) ∧
    (portPoison.fetch 0x2000 8).any (·.2) = true ∧ (portRead.fetch 0x2000 8).any (·.2) = false ∧ portWrite.writeHeld (2 ^ 63) (.sram 0 0x2000) 8 = none ∧
    (nextState (exec .hostRequest portRead)).md.hostReply = (0, 0, 0x8706050403020180) ∧ (nextState (exec .hostRequest portPoison)).md.hostReply = (0, 2, 0) ∧
    (nextState (exec .hostRequest portWrite)).byteAt 0x2007 = 0x11 := by decide +kernel
theorem witness_host_port_reads : ReadsAt portRead (.sram 0 0x2000) 8 0x2000 ∧ ReadsAt portPoison (.sram 0 0x2000) 8 0x2000 ∧ WritesAt portWrite (.sram 0 0x2000) 8 0x2000 :=
  ⟨reads_sram _ 0 _ 8 _ (by decide +kernel), reads_sram _ 0 _ 8 _ (by decide +kernel), writes_sram _ 0 _ 8 _ (by decide +kernel)⟩
def window (stop : Bool) (l : List Nat) : State := (port { index := 1, size := 64, offset := 0xF40 }).modVi 0 (fun v => { v with
  stop := stop, lwin := if l = [] then [] else [(1, { queue := [(64, BitVec.ofNat 512 (ofBytes (dws l)))] })] })
theorem witness_launch_window : (tget {} ((window false []).vi 0).lwin 1).queue.length < 64 ∧ ((window false []).vi 0).launches = [] ∧ isNext (exec .launchWindowWrite (window false [])) = true ∧
    recCheck (window false record) 0 true (record.map dw) = none ∧ recPlace (record.map dw) ≠ 0 ∧ recBsp (record.map dw) = false ∧ ((window false record).vi 0).quotaLaunch = 4 ∧
    (dwordsOf 8 (toBytes 64 (BitVec.ofNat 512 (ofBytes (dws record))).toNat)) = record.map dw ∧
    ((nextState (exec .hostLaunchStart (window false record))).vi 0).launches.length = 1 ∧ recCheck (window false [1]) 0 true ((1 :: List.replicate 7 0).map dw) ≠ none ∧
    (tget {} ((nextState (exec .hostLaunchStart (window true record))).vi 0).lwin 1).refused = 1 ∧ (tget {} ((nextState (exec .hostLaunchStart (window false [1]))).vi 0).lwin 1).refused = 1 := by decide +kernel
def blockVi (f : Vi → Vi) (e : EvIn) : State := withEv (State.reset.modVi 0 f |>.modVi 5 (fun v => { v with enable := true, jobtag := 9 })) e
theorem witness_vi_block : (blockVi (fun v => { v with stop := true }) {}).quiet 0 = true ∧ isNext (exec .viStopped (blockVi (fun v => { v with stop := true }) {})) = true ∧
    isNext (exec .viEnable (blockVi id {})) = true ∧ isNext (exec .viStop (blockVi id {})) = true ∧ isNext (exec .frzclr (blockVi id {})) = true ∧
    ((nextState (exec .jobtagWrite (blockVi id { value := 8 }))).vi 0).jobtag = 8 ∧ ((nextState (exec .jobtagWrite (blockVi id { value := 9 }))).vi 0).jobtag = 0 ∧
    bits (blockVi id { value := 9 }).md.hcserr 56 8 < 255 ∧ (blockVi (fun v => { v with stop := true, stopped := true }) {}).isStopped 0 = true ∧
    ((nextState (exec .contextEntryWrite (blockVi (fun v => { v with stop := true, stopped := true }) { vdie := 63, value := 0xFFFFFFFF }))).vi 0).ctx = [(63, 0x8000001F#32)] := by decide +kernel
/-- The host's ALLOC of one granule at 40, its FREE by the same VI, at the boundaries of the slice too. -/
def halloc (g : Nat) : State := withEv (base.modVi 0 (fun v => { v with quotaGran := 1, halloca := BitVec.ofNat 64 (g * 256) })) { size := 256 }
def hfree (g : Nat) : State := withEv ((nextState (exec .hostAlloc (halloc g))).modVi 0 (fun v => { v with halloca := BitVec.ofNat 64 (2 ^ 63 + g * 256) })) { size := 256 }
theorem witness_host_alloc : ∀ g ∈ [1, 40, 98302], (halloc g).check1 ⟨0, true, 0⟩ 0 rRD (g * 256) = .ok (.sram 0 (g * 256)) ∧ ((halloc g).vi 0).covers 0 g = true ∧
    bit ((halloc g).vi 0).halloca 63 = false ∧ (halloc g).allocStatus 0 g 1 = 0 ∧ ((halloc g).vi 0).granules + 1 ≤ ((halloc g).vi 0).quotaGran ∧ ((nextState (exec .hostAlloc (halloc g))).vi 0).hallocst = 0x8000000000000000 ∧
    bit ((hfree g).vi 0).halloca 63 = true ∧ (hfree g).freeStatus 0 g 1 = 0 ∧ (nextState (exec .hostFree (hfree g))).gran 0 g = {} := by decide +kernel
/-- ControlWriteEventsComplete: VI 0, whose virtual die 0 is logical die 0, with one mailbox, stream, queue and rectangle of its own. -/
def ctl (e : EvIn) : State := withEv (base.modVi 0 (fun v => { v with rect := true }) |>.modMail 0 2 (fun b => { b with dw0 := BitVec.ofNat 64 (2 ^ 63 + 2 ^ 56) }) |>.modDie 0 (fun d => { d with
  streams := [(4, { entry := BitVec.ofNat 64 (2 ^ 63 + 2 ^ 51) })], wq := [(3, { valid := true, owner := 0, lcap := 4 })], rects := [(0, BitVec.ofNat 64 (2 ^ 63)), (1, BitVec.ofNat 64 (2 ^ 63 + 0x11))] })) e
theorem witness_control_space : ((ctl {}).vi 0).ldie 0 = some 0 ∧ ((ctl {}).vi 0).revq = [] ∧ ((ctl {}).vi 0).revoking = none ∧ (∀ off ∈ [0x00, 0x08, 0x10, 0x20, 0x28, 0x78, 0x80], isNext (exec .controlSpaceWrite (ctl { offset := off, value := 5 })) = true) ∧
    (∀ a ∈ [0x10, 0x3F010, 0x40060, 0x40100], isNext (exec .controlSpaceWrite (ctl { kind := 1, addr := a, vi := a / 4096 % 64, value := 5 })) = true) ∧
    trapCfgOk (dw (0x17FE000 * 2 ^ 32 + 0x17FFFFE)) = true ∧ trapCfgOk 1 = false ∧ isNext (exec .trapConfigurationWrite (ctl { value := 1 })) = true := by decide +kernel
theorem witness_mailbox_entries : ((ctl {}).mail 0 2).posts = [] ∧ ((ctl {}).mail 0 2).handler = none ∧ (ctl {}).msgs = [] ∧ bits ((ctl {}).mail 0 2).dw0 57 6 = 0 ∧ ((ctl {}).mail 0 2).dw1 = 0 ∧ ((ctl {}).mail 0 2).dw3 = 0 ∧
    ((nextState (exec .mailboxEntryWrite (ctl { id := 2, value := 2 ^ 63 + 0xFF * 2 ^ 54 % 2 ^ 57 }))).mail 0 2).dw0 = dw (2 ^ 63 + 0xFF * 2 ^ 54 % 2 ^ 57) ∧
    ((nextState (exec .mailboxEntryWrite (ctl { id := 2 }))).mail 0 2).dw0 = 0 ∧ ((nextState (exec .mailboxEntryWrite (ctl { id := 2, kind := 1, value := 8 }))).mail 0 2).dw1 = 0 ∧
    (∀ k ∈ [1, 2, 3], isNext (exec .mailboxEntryWrite (ctl { id := 15, kind := k, value := 8 })) = true) ∧ ((nextState (exec .mailboxEntryWrite (ctl { id := 15, kind := 3, value := 8 }))).mail 0 15).dw3 = 8 := by decide +kernel
def streamWord (plog subs quota : Nat) : Nat := 2 ^ 63 + plog * 2 ^ 52 + subs * 2 ^ 40 + quota * 2 ^ 17
theorem witness_stream_entries : (∀ e ∈ [streamWord 8 1 1, streamWord 16 128 16384], stOwner (dw e) = 0 ∧ 8 ≤ stPlog (dw e) ∧ stPlog (dw e) ≤ 16 ∧ 1 ≤ stSubs (dw e) ∧ stSubs (dw e) ≤ 128 ∧ 1 ≤ stQuota (dw e) ∧
      stQuota (dw e) ≤ 16384 ∧ (tget {} ((nextState (exec .streamEntryWrite (ctl { id := 4, value := e }))).die 0).streams 4).entry = dw e &&& 0xFFF0FF00FFFE0000) ∧
    stOwner (tget {} ((ctl {}).die 0).streams 4).entry = 0 ∧ (tget {} ((ctl {}).die 0).streams 4).subs = [] ∧ (tget {} ((ctl {}).die 0).streams 4).pages = [] ∧ (ctl {}).publishing 0 4 = false ∧ ((nextState (exec .streamEntryWrite (ctl { id := 4 }))).die 0).streams = [] := by decide +kernel
theorem witness_queue_entries : (∀ l ∈ [1, 15], tget {} ((nextState (exec .workQueueConfigWrite (ctl { id := 3, value := 2 ^ 63 + l * 2 ^ 16 }))).die 0).wq 3 = { valid := true, owner := 0, lcap := l }) ∧
    (tget {} ((ctl {}).die 0).wq 3).items = [] ∧ (∀ u ∈ (ctl {}).tasks, u.status = .resident) ∧ tget {} ((nextState (exec .workQueueConfigWrite (ctl { id := 3 }))).die 0).wq 3 = {} := by decide +kernel
theorem witness_rectangles : ((ctl {}).vi 0).rect = true ∧ (∀ i, i < 128 → ¬ (rectCovers (BitVec.ofNat 64 (2 ^ 63 + 0x11)) i = true ∧ rectCovers (BitVec.ofNat 64 (2 ^ 63 + 0x22)) i = true)) ∧
    (∀ i, i < 128 → ((ctl {}).tile i).resetting = false ∧ ((ctl {}).tile i).quarantined = false) ∧
    ((nextState (exec .rectangleWrite (ctl { id := 0, value := 2 ^ 63 + 0x22 }))).die 0).rects = [(0, BitVec.ofNat 64 (2 ^ 63 + 0x22)), (1, BitVec.ofNat 64 (2 ^ 63 + 0x11))] := by decide +kernel
def erasGroup (v : Nat) : State := withEv (base.modMd (fun m => { m with homeMap := [(0, BitVec.ofNat 32 (2 ^ 31 + 5 * 2 ^ 25))], erasgrp := BitVec.ofNat 64 (2 ^ 63 + 2 ^ 62), pendingRebuild := [7], erasmem := (List.range 10).map (fun k => (k, BitVec.ofNat 64 (k + 512))) }) |>.modVi 5 (fun v => { v with stop := true, stopped := true })) { id := 7, value := v, ok := true }
theorem witness_erasure_group : (withEv depTask { value := 1 }).ev.value % 2 ^ 32 = 1 ∧ (((withEv depTask { value := 1 }).vi 0).launches.find? (fun l => l.id == 1)).isSome = true ∧
    ((nextState (exec .lcancel (withEv depTask { value := 1 }))).vi 0).launches.all (fun l => l.cancelled) = true ∧ isNext (exec .rebuildStart (erasGroup 0)) = true ∧
    (erasGroup (2 ^ 44 + 2 ^ 40)).eraskindBad (dw (2 ^ 44 + 2 ^ 40)) = false ∧ (nextState (exec .eraskind (erasGroup (2 ^ 44 + 2 ^ 40)))).frameKind 0 = 2 ∧
    (erasGroup 3).md.dir = [] ∧ (erasGroup 3).anyProtected = false ∧ (nextState (exec .erasgrpSet (erasGroup 3))).md.outbox.length = 10 ∧ isNext (exec .heqack (erasGroup 3)) = true := by decide +kernel
def matching : State := (erasGroup 0).modMd (fun m => { m with number := m.member 0, inbox := (List.range 9).map (fun k => { src := 513 + k, kind := kList, addr := k + 1, data := m.memberList }) })
def acting : State := (withEv { base with others := [trappedTask] } {}).modMd (fun m => { m with hewp := 0x8000 })
theorem witness_host_acts : bit matching.md.erasgrp 62 = true ∧ matching.md.member matching.md.pos = matching.md.number ∧ (∀ p ∈ (List.range 9).map (· + 1), (matching.md.inbox.reverse.find? (fun y => y.kind == kList && y.src == matching.md.member p)).map (fun y => (decide (y.data = matching.md.memberList), y.addr)) = some (true, p)) ∧ isNext (exec .erasureGroupMatch matching) = true ∧
    (acting.modMd (fun m => { m with hewp := 0 })).trapped? 0 0 = none ∧ acting.trapped? (bits acting.md.hewp 56 6) (bits acting.md.hewp 0 56) = some trappedTask ∧ acting.eretOk trappedTask 0 = true ∧
    isNext (exec .heactResume acting) = true ∧ trappedTask.depth = 0 ∧ ({ acting with others := [{ trappedTask with hw := { trappedTask.hw with cdnest := 1 } }] }.trapped? 0 0x8000).map Task.depth = some 1 ∧
    (({ acting with others := [{ trappedTask with status := .frozen }] }.setGran 0 0x94 { state := 2 }).put 0x9400 (dws [0x1A]) (List.replicate 8 false)).eretOk trappedTask 0 = false := by decide +kernel
/-- FalseGuardOnlyAdvances: P1 and P5 set, P5 tainted, in deterministic mode for the tainted guard. -/
def guarded (d : Bool) : State := modSt (if d then detMode base else base) (fun x => { x with tstat := 0x22, taint := 2 ^ 57 })
theorem witness_guards : guardOf (.add 1 2 3 1) = some 1 ∧ supervisorOnly (.add 1 2 3 1) = false ∧ typedVector (.add 1 2 3 1) = false ∧ (guarded false).cur.guardTainted 1 = false ∧ (guarded false).cur.guard 1 = false ∧
    (guarded true).cur.det = true ∧ (guarded true).cur.taintP 5 = true ∧ (guarded false).cur.guard 9 = true ∧ (guarded false).cur.guard 8 = false ∧ (guarded false).cur.guard 0 = true ∧ (guarded false).cur.guard 7 = true ∧
    guardOf (.eret 0 1 1) = some 1 ∧ supervisorOnly (.eret 0 1 1) = true ∧ (guarded false).cur.sup = false ∧ guardOf (.vgath 0 1 2 1) = some 1 ∧ typedVector (.vgath 0 1 2 1) = true ∧
    (modSt base (fun x => { x with vtype := 31 })).vtypeOk = false ∧ (guarded false).vtypeOk = true := by decide +kernel
/-- A step of the first instruction after reset, of a word. -/
def first (w : Nat) : State := State.reset.withFetchWord 32 w
def counted (s : State) : State := (s.popAgenda.select 0x4000).slotTurn
theorem witness_illegal_fetch : Fetches (first 0) (counted (first 0)) [0, 0] ∧ decode [0, 0] = .illegal 0 0 ∧ (counted (first 0)).cur.caughtUp = true ∧
    Fetches (first 0x00A73801) (counted (first 0x00A73801)) (toBytes 4 0x00A73801) ∧ decode (toBytes 4 0x00A73801) = .ok (.add 5 7 7 0) 4 ∧
    (counted (first 0x00A73801)).failedHere = none ∧ (counted (first 0x00A73801)).lineWait (.add 5 7 7 0) = none ∧ (counted (first 0x00A73801)).cur.twin = none :=
  ⟨⟨⟨by decide +kernel, by decide +kernel, by decide +kernel, by decide +kernel⟩, by decide +kernel, by decide +kernel⟩, by decide +kernel, by decide +kernel,
    ⟨⟨by decide +kernel, by decide +kernel, by decide +kernel, by decide +kernel⟩, by decide +kernel, by decide +kernel⟩, by decide +kernel, by decide +kernel, by decide +kernel, by decide +kernel⟩
/-- The same step where a line of the operands is absent, and the instruction that a readied task executes again. -/
def absentOne : State := (first 0x00A73801).modCur (fun t => { t with absentLines := [0] })
def againAdd : State := (first 0).modCur (fun t => t.modSch (fun x => { x with again := some (.add 5 7 7 0) }))
theorem witness_fetch_waits : Fetches absentOne (counted absentOne) (toBytes 4 0x00A73801) ∧ (counted absentOne).failedHere = none ∧ (counted absentOne).lineWait (.add 5 7 7 0) = some 0 ∧
    Issues againAdd (counted againAdd) ∧ (counted againAdd).cur.sch.again = some (.add 5 7 7 0) ∧ (counted againAdd).takeAgain.failedHere = none ∧ (counted againAdd).takeAgain.lineWait (.add 5 7 7 0) = none :=
  ⟨⟨⟨by decide +kernel, by decide +kernel, by decide +kernel, by decide +kernel⟩, by decide +kernel, by decide +kernel⟩, by decide +kernel, by decide +kernel,
    ⟨by decide +kernel, by decide +kernel, by decide +kernel, by decide +kernel⟩, by decide +kernel, by decide +kernel, by decide +kernel⟩
/-- PrivilegeAndOperandFaultsTrap: G1 poisoned, or tainted in deterministic mode; an address that is misaligned or fails its check. -/
def poisonG (n : Nat) : State := modSt atData (fun x => { x with pois := 2 ^ n })
def taintG (n : Nat) : State := detMode (modSt atData (fun x => { x with taint := 2 ^ n }))
theorem witness_operand_faults : atData.cur.sup = false ∧ ((poisonG 1).cur.rdG 1).p = true ∧ ((taintG 1).cur.rdG 1).p = false ∧ (taintG 1).cur.det = true ∧ ((taintG 1).cur.rdG 1).t = true ∧
    (setG atData 1 (2 ^ 25)).check atData.cur.who 0 rRD (2 ^ 25) 8 = .trap 4 ∧ (setG atData 1 0x1800000).check atData.cur.who 0 rWR 0x1800000 8 = .trap 5 ∧
    (∀ a ∈ [0x2001, 0x2004], atData.check atData.cur.who 0 rRD a 8 = .ok (.sram 0 a) ∧ a % 8 ≠ 0) ∧ ((taintG 2).cur.rdG 2).t = true ∧ ((taintG 2).cur.rdG 1).t = false ∧
    (atData.cur.det && (atData.cur.rdG 2).t) = false ∧ atData.cur.prepared 3 = false ∧ atData.cur.rdP 2 = false ∧ (modSt atData (fun x => { x with tstat := 4 })).cur.rdP 2 = true ∧ atData.gv 1 ≠ 1 := by decide +kernel
theorem witness_clean_base : CleanG atData [1] ∧ CleanG (taintG 2) [1] ∧ Runs (taintG 2) 0 := ⟨clean_of _ _ (by decide +kernel), clean_of _ _ (by decide +kernel), runs0 _⟩
/-- TakingATrapWritesItsRecord: the issuing task, with TO_HOST clear and set, and the granule of its trap record written. -/
def trapping (host : Bool) : State := ((if host then base.modVi 0 (fun v => { v with trapcfg := 2 ^ 63 ||| 0x600000000000 }) else base.modVi 0 (fun v => { v with trapcfg := 0x600000000000 })).setGran 0 0x54 { state := 2 })
theorem witness_trap_record : ∀ h ∈ [true, false], (trapping h).task? 0x4000 = some (trapping h).cur ∧ (trapping h).cur.kind = .launched ∧ (trapping h).cur.absentLines = [] ∧ (trapping h).taskGt (trapping h).cur = 0 ∧
    aOff (trapping h).cur.wp.toNat = 0x4000 ∧ 0x4000 % 8192 = 0 ∧ bits ((trapping h).vi 0).trapcfg 32 25 % 8192 = 0 ∧ bits ((trapping h).vi 0).trapcfg 32 25 ≠ 0x4000 ∧ ((trapping h).tile 0).win = [] ∧
    ((trapping h).gran 0 (0x4000 / 256 + 20)).state = 2 ∧ (trapping h).cur.depth < 9 ∧ ((trapping h).vi 0).trapToHost 0x0B = h ∧
    ((trapping h).takeTrap 0x4000 { code := 0x0B, addr := 5 } 0x1000 7).wsWord 0 0x4000 0x1418 = (5, false) := by decide +kernel
/-- ParkAndRetryChangeNothing: a full vector queue; an empty and a full box, in a task and in a handler; a busy block. -/
def vFullTask : State := vecLive.modTile 0 (fun x => { x with vq := List.replicate 8 { instr := .nop } })
def handlerTask : State := modSt base (fun x => { x with mode := setBit x.mode 11 true })
def busyBlock : State := mQueued (.mxzero 0 0)
theorem witness_parks : vFullTask.vFull = true ∧ plainVector (.vadd 0x17 0 2 1 3) = true ∧ shortVector (.vaddS 4 3) = true ∧ acceptsIntFlt (BitVec.ofNat 5 (bits vFullTask.cur.st.vtype 0 5)) = true ∧
    base.cur.hnd = false ∧ handlerTask.cur.hnd = true ∧ (base.cur.box[0]).full = false ∧ (scopeTask.cur.box[1]).full = true ∧
    busyBlock.cur.claims 0 = true ∧ busyBlock.cur.view 0 ≤ 3 ∧ busyBlock.blockBusy 0 = true := by decide +kernel
/-- The memory form at reset and in a state with memory and a mark; a halfword of written memory; an event's move. -/
theorem witness_memory_form : State.reset.MemoryForm ∧ portPoison.MemoryForm ∧ isNext (step portPoison) = true := ⟨⟨by decide +kernel, by decide +kernel⟩, ⟨by decide +kernel, by decide +kernel⟩, by decide +kernel⟩
theorem witness_fetch : (base.fetchCheck base.cur 0x1000 2).isNone = true ∧ base.heldCode base.cur 0x1000 2 = some [0, 0] ∧ base.nextMove = .issue 0x4000 ∧
    ((first 0x00A73801).heldCode base.cur 0x1000 2).map (fun bs => (bs.headD 0).getLsbD 0) = some true ∧ ((first 0x00A73801).fetchCheck base.cur 0x1002 2).isNone = true ∧
    (first 0x00A73801).heldCode base.cur 0x1000 4 = some (toBytes 4 0x00A73801) ∧ { base with agenda := [Move.event .viStop {}] }.nextMove = .event .viStop {} := by decide +kernel
theorem witness_fetch_reads : ReadsAt base (.sram 0 0x1000) 2 0x1000 := reads_sram _ 0 _ 2 _ (by decide +kernel)
theorem witness_encodings : Instr.wf (.add 1 2 3 0) = true ∧ Instr.length (.add 1 2 3 0) = 4 ∧ Instr.wf (.addS 5 7) = true ∧ Instr.length (.addS 5 7) = 2 := by decide

end Sys2Proof.Tests
end

section
/-! PROOF. The decoder and the encoder agree (R32 to R49). A word's fields are named by `FieldAt`: `fieldAt_append` takes the word that the encoder joins
apart into its fields, so that the same equations say what the decoder reads and what the encoder writes. -/

namespace Sys2Proof

/-! ## Fields of a word -/

/-- The bits of `w` from bit `lo` upward are `x`. -/
def FieldAt {N n : Nat} (w : BitVec N) (lo : Nat) (x : BitVec n) : Prop := w.extractLsb' lo n = x

section Fields

variable {N n : Nat} {w : BitVec N}

theorem fieldAt_extract (lo : Nat) : FieldAt w lo (w.extractLsb' lo n) := rfl

theorem fieldAt_self : FieldAt w 0 w := BitVec.extractLsb'_eq_self

theorem eq_of_fieldAt {x : BitVec N} (h : FieldAt w 0 x) : x = w := h.symm.trans BitVec.extractLsb'_eq_self

/-- A joined field is there when its two parts are, the right one lowest. -/
theorem fieldAt_append {k m lo : Nat} {x : BitVec k} {y : BitVec m} :
    FieldAt w lo (x ++ y) ↔ FieldAt w (lo + m) x ∧ FieldAt w lo y := by
  have join : w.extractLsb' lo (k + m) = w.extractLsb' (lo + m) k ++ w.extractLsb' lo m :=
    (BitVec.extractLsb'_append_extractLsb'_eq_extractLsb' rfl).symm
  simp only [FieldAt, join]
  constructor
  · intro h
    exact ⟨by simpa only [BitVec.extractLsb'_append_eq_left] using congrArg (·.extractLsb' m k) h,
      by simpa only [BitVec.extractLsb'_append_eq_right] using congrArg (·.extractLsb' 0 m) h⟩
  · rintro ⟨rfl, rfl⟩; rfl

/-- A constant field, by the number that the decoder matches on. -/
theorem fieldAt_ofNat {lo k : Nat} : FieldAt w lo (BitVec.ofNat n k) ↔ (w.extractLsb' lo n).toNat = k % 2 ^ n := by
  rw [FieldAt, ← BitVec.toNat_inj, BitVec.toNat_ofNat]

/-- A part of a known field. -/
theorem FieldAt.part {lo k : Nat} {x : BitVec n} (h : FieldAt w 0 x) (hk : lo + k ≤ n) : w.extractLsb' lo k = x.extractLsb' lo k := by
  subst h
  apply BitVec.eq_of_getLsbD_eq
  intro j hj
  have : lo + j < n := by omega
  simp [hj, this]

end Fields

/-! ## The major opcode (R46) -/

section Majors

variable {w : BitVec 32}

/-- A reduction to a V register has 0 where one to a box has 2 (R236). -/
theorem box_of_register (h : w.extractLsb' 15 4 = 0#4) : w.extractLsb' 17 2 = 0#2 := by
  have h := congrArg BitVec.toNat h
  rw [← BitVec.toNat_inj]
  simp only [BitVec.extractLsb'_toNat, BitVec.toNat_ofNat, Nat.shiftRight_eq_div_pow] at h ⊢
  omega

theorem low_of_major {M : BitVec 7} (h : FieldAt w 0 M) (ho : M.extractLsb' 0 1 = 1#1) : (fld w 0 1 == 1#1) = true := by
  rw [fld, h.part (by decide), ho]; rfl

theorem major_of_low {M : BitVec 7} (h : FieldAt w 0 M) : fld w 1 6 = M.extractLsb' 1 6 := h.part (by decide)

theorem decode32Raw_major00 (h : FieldAt w 0 1#7) : decode32Raw w = decodeMajor00 w := by rw [decode32Raw, if_pos (low_of_major h rfl), major_of_low h]; rfl
theorem decode32Raw_major01 (h : FieldAt w 0 3#7) : decode32Raw w = decodeMajor01 w := by rw [decode32Raw, if_pos (low_of_major h rfl), major_of_low h]; rfl
theorem decode32Raw_major02 (h : FieldAt w 0 5#7) : decode32Raw w = decodeMajor02 w := by rw [decode32Raw, if_pos (low_of_major h rfl), major_of_low h]; rfl
theorem decode32Raw_major03 (h : FieldAt w 0 7#7) : decode32Raw w = decodeMajor03 w := by rw [decode32Raw, if_pos (low_of_major h rfl), major_of_low h]; rfl
theorem decode32Raw_major04 (h : FieldAt w 0 9#7) : decode32Raw w = decodeMajor04 w := by rw [decode32Raw, if_pos (low_of_major h rfl), major_of_low h]; rfl
theorem decode32Raw_major05 (h : FieldAt w 0 11#7) : decode32Raw w = decodeMajor05 w := by rw [decode32Raw, if_pos (low_of_major h rfl), major_of_low h]; rfl
theorem decode32Raw_major06 (h : FieldAt w 0 13#7) : decode32Raw w = decodeMajor06 w := by rw [decode32Raw, if_pos (low_of_major h rfl), major_of_low h]; rfl
theorem decode32Raw_major07 (h : FieldAt w 0 15#7) : decode32Raw w = decodeMajor07 w := by rw [decode32Raw, if_pos (low_of_major h rfl), major_of_low h]; rfl
theorem decode32Raw_major08 (h : FieldAt w 0 17#7) : decode32Raw w = decodeMajor08 w := by rw [decode32Raw, if_pos (low_of_major h rfl), major_of_low h]; rfl
theorem decode32Raw_major09 (h : FieldAt w 0 19#7) : decode32Raw w = decodeMajor09 w := by rw [decode32Raw, if_pos (low_of_major h rfl), major_of_low h]; rfl
theorem decode32Raw_major0A (h : FieldAt w 0 21#7) : decode32Raw w = decodeMajor0A w := by rw [decode32Raw, if_pos (low_of_major h rfl), major_of_low h]; rfl
theorem decode32Raw_major0B (h : FieldAt w 0 23#7) : decode32Raw w = decodeMajor0B w := by rw [decode32Raw, if_pos (low_of_major h rfl), major_of_low h]; rfl
theorem decode32Raw_major0C (h : FieldAt w 0 25#7) : decode32Raw w = decodeMajor0C w := by rw [decode32Raw, if_pos (low_of_major h rfl), major_of_low h]; rfl
theorem decode32Raw_major0D (h : FieldAt w 0 27#7) : decode32Raw w = decodeMajor0D w := by rw [decode32Raw, if_pos (low_of_major h rfl), major_of_low h]; rfl
theorem decode32Raw_major0E (h : FieldAt w 0 29#7) : decode32Raw w = decodeMajor0E w := by rw [decode32Raw, if_pos (low_of_major h rfl), major_of_low h]; rfl
theorem decode32Raw_major10 (h : FieldAt w 0 33#7) : decode32Raw w = decodeMajor10 w := by rw [decode32Raw, if_pos (low_of_major h rfl), major_of_low h]; rfl
theorem decode32Raw_major11 (h : FieldAt w 0 35#7) : decode32Raw w = decodeMajor11 w := by rw [decode32Raw, if_pos (low_of_major h rfl), major_of_low h]; rfl
theorem decode32Raw_major12 (h : FieldAt w 0 37#7) : decode32Raw w = decodeMajor12 w := by rw [decode32Raw, if_pos (low_of_major h rfl), major_of_low h]; rfl
theorem decode32Raw_major13 (h : FieldAt w 0 39#7) : decode32Raw w = decodeMajor13 w := by rw [decode32Raw, if_pos (low_of_major h rfl), major_of_low h]; rfl
theorem decode32Raw_major14 (h : FieldAt w 0 41#7) : decode32Raw w = decodeMajor14 w := by rw [decode32Raw, if_pos (low_of_major h rfl), major_of_low h]; rfl
theorem decode32Raw_major15 (h : FieldAt w 0 43#7) : decode32Raw w = decodeMajor15 w := by rw [decode32Raw, if_pos (low_of_major h rfl), major_of_low h]; rfl
theorem decode32Raw_major16 (h : FieldAt w 0 45#7) : decode32Raw w = decodeMajor16 w := by rw [decode32Raw, if_pos (low_of_major h rfl), major_of_low h]; rfl
theorem decode32Raw_major17 (h : FieldAt w 0 47#7) : decode32Raw w = decodeMajor17 w := by rw [decode32Raw, if_pos (low_of_major h rfl), major_of_low h]; rfl
theorem decode32Raw_major18 (h : FieldAt w 0 49#7) : decode32Raw w = decodeMajor18 w := by rw [decode32Raw, if_pos (low_of_major h rfl), major_of_low h]; rfl
theorem decode32Raw_major19 (h : FieldAt w 0 51#7) : decode32Raw w = decodeMajor19 w := by rw [decode32Raw, if_pos (low_of_major h rfl), major_of_low h]; rfl
theorem decode32Raw_major1A (h : FieldAt w 0 53#7) : decode32Raw w = decodeMajor1A w := by rw [decode32Raw, if_pos (low_of_major h rfl), major_of_low h]; rfl
theorem decode32Raw_major1B (h : FieldAt w 0 55#7) : decode32Raw w = decodeMajor1B w := by rw [decode32Raw, if_pos (low_of_major h rfl), major_of_low h]; rfl
theorem decode32Raw_major1C (h : FieldAt w 0 57#7) : decode32Raw w = decodeMajor1C w := by rw [decode32Raw, if_pos (low_of_major h rfl), major_of_low h]; rfl
theorem decode32Raw_major1D (h : FieldAt w 0 59#7) : decode32Raw w = decodeMajor1D w := by rw [decode32Raw, if_pos (low_of_major h rfl), major_of_low h]; rfl
theorem decode32Raw_major1E (h : FieldAt w 0 61#7) : decode32Raw w = decodeMajor1E w := by rw [decode32Raw, if_pos (low_of_major h rfl), major_of_low h]; rfl
theorem decode32Raw_major1F (h : FieldAt w 0 63#7) : decode32Raw w = decodeMajor1F w := by rw [decode32Raw, if_pos (low_of_major h rfl), major_of_low h]; rfl
theorem decode32Raw_major20 (h : FieldAt w 0 65#7) : decode32Raw w = decodeMajor20 w := by rw [decode32Raw, if_pos (low_of_major h rfl), major_of_low h]; rfl
theorem decode32Raw_major21 (h : FieldAt w 0 67#7) : decode32Raw w = decodeMajor21 w := by rw [decode32Raw, if_pos (low_of_major h rfl), major_of_low h]; rfl
theorem decode32Raw_major22 (h : FieldAt w 0 69#7) : decode32Raw w = decodeMajor22 w := by rw [decode32Raw, if_pos (low_of_major h rfl), major_of_low h]; rfl
theorem decode32Raw_major23 (h : FieldAt w 0 71#7) : decode32Raw w = decodeMajor23 w := by rw [decode32Raw, if_pos (low_of_major h rfl), major_of_low h]; rfl
theorem decode32Raw_major24 (h : FieldAt w 0 73#7) : decode32Raw w = decodeMajor24 w := by rw [decode32Raw, if_pos (low_of_major h rfl), major_of_low h]; rfl
theorem decode32Raw_major25 (h : FieldAt w 0 75#7) : decode32Raw w = decodeMajor25 w := by rw [decode32Raw, if_pos (low_of_major h rfl), major_of_low h]; rfl
theorem decode32Raw_major26 (h : FieldAt w 0 77#7) : decode32Raw w = decodeMajor26 w := by rw [decode32Raw, if_pos (low_of_major h rfl), major_of_low h]; rfl
theorem decode32Raw_major27 (h : FieldAt w 0 79#7) : decode32Raw w = decodeMajor27 w := by rw [decode32Raw, if_pos (low_of_major h rfl), major_of_low h]; rfl
theorem decode32Raw_major28 (h : FieldAt w 0 81#7) : decode32Raw w = decodeMajor28 w := by rw [decode32Raw, if_pos (low_of_major h rfl), major_of_low h]; rfl
theorem decode32Raw_major29 (h : FieldAt w 0 83#7) : decode32Raw w = decodeMajor29 w := by rw [decode32Raw, if_pos (low_of_major h rfl), major_of_low h]; rfl
theorem decode32Raw_major2A (h : FieldAt w 0 85#7) : decode32Raw w = decodeMajor2A w := by rw [decode32Raw, if_pos (low_of_major h rfl), major_of_low h]; rfl
theorem decode32Raw_major2B (h : FieldAt w 0 87#7) : decode32Raw w = decodeMajor2B w := by rw [decode32Raw, if_pos (low_of_major h rfl), major_of_low h]; rfl
theorem decode32Raw_major2C (h : FieldAt w 0 89#7) : decode32Raw w = decodeMajor2C w := by rw [decode32Raw, if_pos (low_of_major h rfl), major_of_low h]; rfl
theorem decode32Raw_major2E (h : FieldAt w 0 93#7) : decode32Raw w = decodeMajor2E w := by rw [decode32Raw, if_pos (low_of_major h rfl), major_of_low h]; rfl
theorem decode32Raw_major30 (h : FieldAt w 0 97#7) : decode32Raw w = decodeMajor30 w := by rw [decode32Raw, if_pos (low_of_major h rfl), major_of_low h]; rfl
theorem decode32Raw_major31 (h : FieldAt w 0 99#7) : decode32Raw w = decodeMajor31 w := by rw [decode32Raw, if_pos (low_of_major h rfl), major_of_low h]; rfl
theorem decode32Raw_major32 (h : FieldAt w 0 101#7) : decode32Raw w = decodeMajor32 w := by rw [decode32Raw, if_pos (low_of_major h rfl), major_of_low h]; rfl
theorem decode32Raw_major33 (h : FieldAt w 0 103#7) : decode32Raw w = decodeMajor33 w := by rw [decode32Raw, if_pos (low_of_major h rfl), major_of_low h]; rfl
theorem decode32Raw_major34 (h : FieldAt w 0 105#7) : decode32Raw w = decodeMajor34 w := by rw [decode32Raw, if_pos (low_of_major h rfl), major_of_low h]; rfl
theorem decode32Raw_major38 (h : FieldAt w 0 113#7) : decode32Raw w = decodeMajor38 w := by rw [decode32Raw, if_pos (low_of_major h rfl), major_of_low h]; rfl
theorem decode32Raw_major39 (h : FieldAt w 0 115#7) : decode32Raw w = decodeMajor39 w := by rw [decode32Raw, if_pos (low_of_major h rfl), major_of_low h]; rfl
theorem decode32Raw_major3A (h : FieldAt w 0 117#7) : decode32Raw w = decodeMajor3A w := by rw [decode32Raw, if_pos (low_of_major h rfl), major_of_low h]; rfl
theorem decode32Raw_major3B (h : FieldAt w 0 119#7) : decode32Raw w = decodeMajor3B w := by rw [decode32Raw, if_pos (low_of_major h rfl), major_of_low h]; rfl
theorem decode32Raw_major3C (h : FieldAt w 0 121#7) : decode32Raw w = decodeMajor3C w := by rw [decode32Raw, if_pos (low_of_major h rfl), major_of_low h]; rfl
theorem decode32Raw_major3D (h : FieldAt w 0 123#7) : decode32Raw w = decodeMajor3D w := by rw [decode32Raw, if_pos (low_of_major h rfl), major_of_low h]; rfl
theorem decode32Raw_major3E (h : FieldAt w 0 125#7) : decode32Raw w = decodeMajor3E w := by rw [decode32Raw, if_pos (low_of_major h rfl), major_of_low h]; rfl

end Majors

/-- If a decoder answers `o` for the word `w`, the instruction has `len` bytes, and its encoding is the word. -/
def Encodes {N : Nat} (encode : Instr → BitVec N) (len : Nat) (w : BitVec N) (o : Option Instr) : Prop :=
  ∀ i, o = some i → FieldAt w 0 (encode i) ∧ i.length = len

theorem encodes_none {N len : Nat} {encode : Instr → BitVec N} {w : BitVec N} : Encodes encode len w none := nofun

theorem encodes_some {N len : Nat} {encode : Instr → BitVec N} {w : BitVec N} {i : Instr} (h : FieldAt w 0 (encode i)) (hl : i.length = len) :
    Encodes encode len w (some i) := by
  rintro _ ⟨⟩; exact ⟨h, hl⟩

/-! ## 32-bit words -/

/-- Every row of 32 bits is read from any word that holds its fields. -/
theorem decode32Raw_of_fieldAt {w : BitVec 32} {i : Instr} (hl : i.length = 4) (hw : FieldAt w 0 (encode32 i)) : decode32Raw w = some i := by
  cases i <;> cases hl
  all_goals
    unfold encode32 at hw
    simp only [fieldAt_append] at hw
    obtain ⟨hf, hM⟩ := hw
    simp only [
      decode32Raw_major00, decode32Raw_major01, decode32Raw_major02, decode32Raw_major03, decode32Raw_major04, decode32Raw_major05,
      decode32Raw_major06, decode32Raw_major07, decode32Raw_major08, decode32Raw_major09, decode32Raw_major0A, decode32Raw_major0B,
      decode32Raw_major0C, decode32Raw_major0D, decode32Raw_major0E, decode32Raw_major10, decode32Raw_major11, decode32Raw_major12,
      decode32Raw_major13, decode32Raw_major14, decode32Raw_major15, decode32Raw_major16, decode32Raw_major17, decode32Raw_major18,
      decode32Raw_major19, decode32Raw_major1A, decode32Raw_major1B, decode32Raw_major1C, decode32Raw_major1D, decode32Raw_major1E,
      decode32Raw_major1F, decode32Raw_major20, decode32Raw_major21, decode32Raw_major22, decode32Raw_major23, decode32Raw_major24,
      decode32Raw_major25, decode32Raw_major26, decode32Raw_major27, decode32Raw_major28, decode32Raw_major29, decode32Raw_major2A,
      decode32Raw_major2B, decode32Raw_major2C, decode32Raw_major2E, decode32Raw_major30, decode32Raw_major31, decode32Raw_major32,
      decode32Raw_major33, decode32Raw_major34, decode32Raw_major38, decode32Raw_major39, decode32Raw_major3A, decode32Raw_major3B,
      decode32Raw_major3C, decode32Raw_major3D, decode32Raw_major3E, hM]
    simp only [FieldAt, Nat.reduceAdd] at hf
    simp only [
      decodeMajor00, decodeMajor01, decodeMajor02, decodeMajor03, decodeMajor04, decodeMajor05, decodeMajor06, decodeMajor07, decodeMajor08,
      decodeMajor09, decodeMajor0A, decodeMajor0B, decodeMajor0C, decodeMajor0D, decodeMajor0E, decodeMajor10, decodeMajor11, decodeMajor12,
      decodeMajor13, decodeMajor14, decodeMajor15, decodeMajor16, decodeMajor17, decodeMajor18, decodeMajor19, decodeMajor1A, decodeMajor1B,
      decodeMajor1C, decodeMajor1D, decodeMajor1E, decodeMajor1F, decodeMajor20, decodeMajor21, decodeMajor22, decodeMajor23, decodeMajor24,
      decodeMajor25, decodeMajor26, decodeMajor27, decodeMajor28, decodeMajor29, decodeMajor2A, decodeMajor2B, decodeMajor2C, decodeMajor2E,
      decodeMajor30, decodeMajor31, decodeMajor32, decodeMajor33, decodeMajor34, decodeMajor38, decodeMajor39, decodeMajor3A, decodeMajor3B,
      decodeMajor3C, decodeMajor3D, decodeMajor3E, hf, BitVec.reduceToNat, BitVec.reduceBEq,
      beq_self_eq_true, Bool.and_self, Bool.false_and, Bool.false_eq_true, if_true, if_false]
  -- a reduction to a V register is told from one to a box by its field b
  case vred.refl | vrmin.refl | vrmax.refl =>
    obtain ⟨⟨⟨_, hb⟩, _⟩, _⟩ := hf
    rw [fld, box_of_register hb]; rfl

theorem fieldAt_major {w : BitVec 32} {k : Nat} (h0 : fld w 0 1 = 1#1) (hk : (fld w 1 6).toNat = k) : FieldAt w 0 (BitVec.ofNat 7 (2 * k + 1)) := by
  have h0 := congrArg BitVec.toNat h0
  rw [fieldAt_ofNat]
  simp only [fld, BitVec.extractLsb'_toNat, BitVec.toNat_ofNat, Nat.shiftRight_eq_div_pow] at h0 hk ⊢
  omega

/-- Every branch of the decoder answers an instruction whose fields are the word's. -/
theorem encodes_decode32Raw (w : BitVec 32) : Encodes encode32 4 w (decode32Raw w) := by
  unfold decode32Raw
  split
  case isFalse => exact encodes_none
  case isTrue h0 =>
  split
  case h_58 => exact encodes_none
  all_goals
    rename_i hk
    have hM := fieldAt_major (beq_iff_eq.1 h0) hk
    simp only [
      decodeMajor00, decodeMajor01, decodeMajor02, decodeMajor03, decodeMajor04, decodeMajor05, decodeMajor06, decodeMajor07, decodeMajor08,
      decodeMajor09, decodeMajor0A, decodeMajor0B, decodeMajor0C, decodeMajor0D, decodeMajor0E, decodeMajor10, decodeMajor11, decodeMajor12,
      decodeMajor13, decodeMajor14, decodeMajor15, decodeMajor16, decodeMajor17, decodeMajor18, decodeMajor19, decodeMajor1A, decodeMajor1B,
      decodeMajor1C, decodeMajor1D, decodeMajor1E, decodeMajor1F, decodeMajor20, decodeMajor21, decodeMajor22, decodeMajor23, decodeMajor24,
      decodeMajor25, decodeMajor26, decodeMajor27, decodeMajor28, decodeMajor29, decodeMajor2A, decodeMajor2B, decodeMajor2C, decodeMajor2E,
      decodeMajor30, decodeMajor31, decodeMajor32, decodeMajor33, decodeMajor34, decodeMajor38, decodeMajor39, decodeMajor3A, decodeMajor3B,
      decodeMajor3C, decodeMajor3D, decodeMajor3E]
    clear hk
    (repeat' split)
  any_goals exact encodes_none
  all_goals
    refine encodes_some ?_ rfl
    unfold encode32
    simp only [fieldAt_append, fieldAt_extract, hM, true_and, and_true]
  all_goals simp_all only [fieldAt_ofNat, Nat.reduceAdd, Bool.and_eq_true, beq_iff_eq, BitVec.toNat_ofNat, Nat.reduceMod, Nat.reducePow, and_self]

theorem decode32Raw_eq_some {w : BitVec 32} {i : Instr} : decode32Raw w = some i ↔ i.length = 4 ∧ encode32 i = w := by
  constructor
  · intro h
    obtain ⟨hw, hl⟩ := encodes_decode32Raw w i h
    exact ⟨hl, eq_of_fieldAt hw⟩
  · rintro ⟨hl, rfl⟩
    exact decode32Raw_of_fieldAt hl fieldAt_self

/-- Bit 0 of a word that is read is 1 (R32). -/
theorem low_of_decode32Raw {w : BitVec 32} {i : Instr} (h : decode32Raw w = some i) : w.getLsbD 0 = true := by
  have h0 : (fld w 0 1 == 1#1) = true := by
    by_contra hn
    rw [decode32Raw, if_neg hn] at h
    cases h
  simpa using congrArg (·.getLsbD 0) (beq_iff_eq.1 h0)

/-! ## Halfwords -/

section Halfwords

variable {w : BitVec 16}

/-- NOP's halfword has the short opcode 14 and no operand (R37). -/
theorem ne_nop_of_opcode {k : BitVec 5} (h : FieldAt w 0 k) (hk : k ≠ 14#5) : (w == 14#16) = false := by
  rw [beq_eq_false_iff_ne]
  rintro rfl
  exact hk h.symm

theorem ne_nop_of_movS {s d : BitVec 5} (hs : w.extractLsb' 10 5 = s) (hd : w.extractLsb' 5 5 = d) (hi : (Instr.movS s d).wf = true) :
    (w == 14#16) = false := by
  rw [beq_eq_false_iff_ne]
  rintro rfl
  subst hs hd
  exact absurd hi (by decide)

/-- Every short form is read from any halfword that holds its fields; MOV.S of G0 to itself, which is not well-formed, is NOP's (R37). -/
theorem decode16Raw_of_fieldAt {i : Instr} (hl : i.length = 2) (hi : i.wf = true) (hw : FieldAt w 0 (encode16 i)) : decode16Raw w = some i := by
  cases i <;> cases hl
  case nop => rw [← eq_of_fieldAt hw]; rfl
  all_goals
    unfold encode16 at hw
    simp only [fieldAt_append] at hw
    obtain ⟨hf, hk⟩ := hw
    simp only [FieldAt, Nat.reduceAdd] at hf
  case movS.refl => 
    rw [decode16Raw, ne_nop_of_movS hf.1.2 hf.2 hi]
    simp [hf, show fld16 w 0 5 = 14#5 from hk]
  all_goals
    rw [decode16Raw, ne_nop_of_opcode hk (by decide), show fld16 w 0 5 = _ from hk]
    simp [hf]

theorem encodes_decode16Raw (w : BitVec 16) : Encodes encode16 2 w (decode16Raw w) := by
  unfold decode16Raw
  split
  case isTrue h => exact encodes_some (by rw [beq_iff_eq.1 h]; rfl) rfl
  (repeat' split)
  any_goals exact encodes_none
  all_goals
    refine encodes_some ?_ rfl
    unfold encode16
    simp only [fieldAt_append, fieldAt_extract, and_true]
  all_goals simp_all only [fieldAt_ofNat, Nat.reduceAdd, Bool.and_eq_true, beq_iff_eq, BitVec.toNat_ofNat, Nat.reduceMod, Nat.reducePow, and_self]

theorem decode16Raw_eq_some {i : Instr} (hi : i.wf = true) : decode16Raw w = some i ↔ i.length = 2 ∧ encode16 i = w := by
  constructor
  · intro h
    obtain ⟨hw, hl⟩ := encodes_decode16Raw w i h
    exact ⟨hl, eq_of_fieldAt hw⟩
  · rintro ⟨hl, rfl⟩
    exact decode16Raw_of_fieldAt hl hi fieldAt_self

/-- Bit 0 of a short form is 0 (R32). -/
theorem encode16_low {i : Instr} (hl : i.length = 2) : (encode16 i).getLsbD 0 = false := by
  cases i <;> cases hl
  all_goals
    unfold encode16
    rw [BitVec.getLsbD_append]; rfl

end Halfwords

/-! ## Well-formed instructions (R49) -/

theorem decode32_eq_some {w : BitVec 32} {i : Instr} : decode32 w = some i ↔ i.wf = true ∧ i.length = 4 ∧ encode32 i = w := by
  rw [← decode32Raw_eq_some, decode32]
  cases decode32Raw w with
  | none => simp
  | some j =>
    simp only [Option.ite_none_right_eq_some, Option.some.injEq]
    exact ⟨fun ⟨h, e⟩ => ⟨e ▸ h, e⟩, fun ⟨h, e⟩ => ⟨e ▸ h, e⟩⟩

theorem decode16_eq_some {w : BitVec 16} {i : Instr} : decode16 w = some i ↔ i.wf = true ∧ i.length = 2 ∧ encode16 i = w := by
  rw [← and_congr_right decode16Raw_eq_some, decode16]
  cases decode16Raw w with
  | none => simp
  | some j =>
    simp only [Option.ite_none_right_eq_some, Option.some.injEq]
    exact ⟨fun ⟨h, e⟩ => ⟨e ▸ h, e⟩, fun ⟨h, e⟩ => ⟨e ▸ h, e⟩⟩

/-! ## Bytes -/

theorem join_bytes16 (w : BitVec 16) : w.extractLsb' 8 8 ++ w.extractLsb' 0 8 = w :=
  eq_of_fieldAt (fieldAt_append.2 ⟨rfl, rfl⟩)

theorem join_bytes32 (w : BitVec 32) : w.extractLsb' 24 8 ++ w.extractLsb' 16 8 ++ w.extractLsb' 8 8 ++ w.extractLsb' 0 8 = w :=
  eq_of_fieldAt (by simp only [fieldAt_append]; exact ⟨⟨⟨rfl, rfl⟩, rfl⟩, rfl⟩)

theorem encode_half {i : Instr} (hl : i.length = 2) : encode i = [(encode16 i).extractLsb' 0 8, (encode16 i).extractLsb' 8 8] := by
  rw [encode, hl]; rfl

theorem encode_word {i : Instr} (hl : i.length = 4) :
    encode i = [(encode32 i).extractLsb' 0 8, (encode32 i).extractLsb' 8 8, (encode32 i).extractLsb' 16 8, (encode32 i).extractLsb' 24 8] := by
  rw [encode, hl]; rfl

theorem encode32_low {i : Instr} (hl : i.length = 4) : (encode32 i).getLsbD 0 = true := low_of_decode32Raw (decode32Raw_eq_some.2 ⟨hl, rfl⟩)

/-- Bit 0 of the first byte tells a halfword from a word (R32). -/
theorem getLsbD_zero_append {n : Nat} (x : BitVec n) (b : BitVec 8) : (x ++ b).getLsbD 0 = b.getLsbD 0 := by
  rw [BitVec.getLsbD_append]; rfl

theorem decode_half {b0 b1 : BitVec 8} {bs : List (BitVec 8)} (h : b0.getLsbD 0 = false) {i : Instr} {n : Nat} :
    decode (b0 :: b1 :: bs) = .ok i n ↔ decode16 (b1 ++ b0) = some i ∧ n = 2 := by
  simp only [decode, getLsbD_zero_append, h, Bool.false_eq_true, if_false]
  cases decode16 (b1 ++ b0) with
  | none => simp
  | some j => simp only [Decoded.ok.injEq, Option.some.injEq, @eq_comm _ 2 n]

theorem decode_word {b0 b1 b2 b3 : BitVec 8} {bs : List (BitVec 8)} (h : b0.getLsbD 0 = true) {i : Instr} {n : Nat} :
    decode (b0 :: b1 :: b2 :: b3 :: bs) = .ok i n ↔ decode32 (b3 ++ b2 ++ b1 ++ b0) = some i ∧ n = 4 := by
  simp only [decode, getLsbD_zero_append, h, if_true]
  cases decode32 (b3 ++ b2 ++ b1 ++ b0) with
  | none => simp
  | some j => simp only [Decoded.ok.injEq, Option.some.injEq, @eq_comm _ 4 n]

theorem length_cases (i : Instr) : i.length = 0 ∨ i.length = 2 ∨ i.length = 4 := by
  have h : (i.length == 0 || (i.length == 2 || i.length == 4)) = true := by cases i <;> rfl
  simpa using h

theorem decode_encode (i : Instr) (rest : List (BitVec 8)) (hi : i.wf = true) (h0 : i.length ≠ 0) : decode (encode i ++ rest) = .ok i i.length := by
  obtain hl | hl := (length_cases i).resolve_left h0
  · rw [encode_half hl, hl]
    have low : ((encode16 i).extractLsb' 0 8).getLsbD 0 = false := by simpa using encode16_low hl
    refine (decode_half low).2 ⟨?_, rfl⟩
    rw [join_bytes16]
    exact decode16_eq_some.2 ⟨hi, hl, rfl⟩
  · rw [encode_word hl, hl]
    have low : ((encode32 i).extractLsb' 0 8).getLsbD 0 = true := by simpa using encode32_low hl
    refine (decode_word low).2 ⟨?_, rfl⟩
    rw [join_bytes32]
    exact decode32_eq_some.2 ⟨hi, hl, rfl⟩

theorem encode_of_decode_half {b0 b1 : BitVec 8} {bs : List (BitVec 8)} {i : Instr} {n : Nat} (low : b0.getLsbD 0 = false)
    (h : decode (b0 :: b1 :: bs) = .ok i n) : i.wf = true ∧ n = i.length ∧ (b0 :: b1 :: bs).take n = encode i := by
  obtain ⟨hd, rfl⟩ := (decode_half low).1 h
  obtain ⟨hi, hl, he⟩ := decode16_eq_some.1 hd
  refine ⟨hi, hl.symm, ?_⟩
  rw [encode_half hl, he, BitVec.extractLsb'_append_eq_right, BitVec.extractLsb'_append_eq_left]
  rfl

theorem encode_of_decode_word {b0 b1 b2 b3 : BitVec 8} {bs : List (BitVec 8)} {i : Instr} {n : Nat} (low : b0.getLsbD 0 = true)
    (h : decode (b0 :: b1 :: b2 :: b3 :: bs) = .ok i n) :
    i.wf = true ∧ n = i.length ∧ (b0 :: b1 :: b2 :: b3 :: bs).take n = encode i := by
  obtain ⟨hd, rfl⟩ := (decode_word low).1 h
  obtain ⟨hi, hl, he⟩ := decode32_eq_some.1 hd
  have hb : FieldAt (encode32 i) 0 (b3 ++ b2 ++ b1 ++ b0) := by rw [he]; exact fieldAt_self
  simp only [fieldAt_append] at hb
  obtain ⟨⟨⟨h3, h2⟩, h1⟩, h0⟩ := hb
  refine ⟨hi, hl.symm, ?_⟩
  rw [encode_word hl, h0, h1, h2, h3]
  rfl

theorem encode_decode (bs : List (BitVec 8)) (i : Instr) (n : Nat) (h : decode bs = .ok i n) : i.wf = true ∧ n = i.length ∧ bs.take n = encode i := by
  match bs with
  | [] => cases h
  | [_] => cases h
  | b0 :: b1 :: bs =>
    cases low : b0.getLsbD 0 with
    | false => exact encode_of_decode_half low h
    | true =>
      match bs with
      | b2 :: b3 :: bs => exact encode_of_decode_word low h
      | [] | [_] =>
        simp only [decode, getLsbD_zero_append, low, if_true] at h
        cases h

/-- Settles O59: what the decoder reads is what the encoder joins, field by field, in both directions. -/
theorem decodeAndEncodeAgree : Obligations.DecodeAndEncodeAgree :=
  ⟨decode_encode, encode_decode⟩

end Sys2Proof
end

section
/-! PROOF. The reset state (O55) and one step of the module (O57). -/

namespace Sys2Proof.Machine

/-! ## A frame whose home-map entry is the reset one (R97) -/

theorem State.homeEntry?_reset (f : Nat) : State.reset.homeEntry? f = none := rfl

theorem State.home_reset (f : Nat) : State.reset.home f = 1#1 ++ Config.frameOwner f ++ 0#6 ++ BitVec.ofNat 19 f := rfl

/-- Its VALID bit is set. -/
theorem State.home_reset_valid (f : Nat) : (State.reset.home f).getLsbD 31 = true := by
  rw [State.home_reset, BitVec.getLsbD_append, BitVec.getLsbD_append, BitVec.getLsbD_append]
  simp

theorem Vi.ldie_reset (v n : Nat) : (State.reset.vi v).ldie n = none := by
  change (if (0#32).getLsbD 31 then some ((0#32).toNat % 32) else none) = none
  rfl

/-! ## The turn of a task (R23, R51) -/

theorem State.slotTurn_cur (s : State) : s.slotTurn.cur = s.cur := by
  unfold State.slotTurn
  dsimp only
  split <;> rfl

/-- A state whose task keeps no instruction is left as it is. -/
theorem State.takeAgain_of_none (s : State) (h : s.cur.sch.again = none) : s.takeAgain = s := by
  have hsch : ({ s.cur.sch with again := none } : Sched) = s.cur.sch := by rw [← h]
  change { s with cur := { s.cur with sch := { s.cur.sch with again := none } } } = s
  rw [hsch]

theorem paired_of_alone (i : Instr) (s : State) (o : Host.Outcome State Fault Refusal) (h : s.cur.twin = none) : paired i s o = o := by
  simp [paired, h]

theorem issueInstr_run (i : Instr) (s : State) (hf : s.failedHere = none) (hl : s.lineWait i = none) : issueInstr i s = paired i s (exec i s) := by
  simp [issueInstr, hf, hl]

theorem issueInstr_wait (i : Instr) (s : State) (l : Nat) (hf : s.failedHere = none) (hl : s.lineWait i = some l) :
    issueInstr i s = .next (s.linePark i l) := by
  simp [issueInstr, hf, hl]

/-- Such a turn, by what its task keeps and what its fetch gives. -/
theorem issueTurn_of_again {s : State} {i : Instr} (hf : s.beforeIssue = none) (ha : s.slotTurn.cur.sch.again = some i) :
    issueTurn s = issueInstr i s.slotTurn.takeAgain := by
  unfold issueTurn
  split
  case h_1 h => exact absurd (hf.symm.trans h) nofun
  dsimp only
  split
  case h_1 h => cases ha.symm.trans h; rfl
  case h_2 h => exact absurd (ha.symm.trans h) nofun

/-- The turn of a task that fetches `bs`, in each of the two ways they decode to something. -/
theorem issueTurn_of_decoded {s : State} {bs : List Byte} (hf : s.beforeIssue = none) (ha : s.slotTurn.cur.sch.again = none)
    (hb : s.slotTurn.fetchInstr s.slotTurn.cur = .bytes bs) :
    (∀ i n, decode bs = .ok i n → issueTurn s = issueInstr i s.slotTurn) ∧
    (∀ w n, decode bs = .illegal w n → s.slotTurn.cur.caughtUp = true →
      issueTurn s = exec .illegalInstruction (s.slotTurn.illegalIn w n)) := by
  unfold issueTurn
  split
  case h_1 h => exact absurd (hf.symm.trans h) nofun
  dsimp only
  split
  case h_1 h => exact absurd (ha.symm.trans h) nofun
  split
  case h_1 h => exact absurd (hb.symm.trans h) nofun
  case h_2 h => exact absurd (hb.symm.trans h) nofun
  case h_3 h => exact absurd (hb.symm.trans h) nofun
  case h_4 cs h =>
  cases hb.symm.trans h
  split
  case h_1 j m h =>
    refine ⟨fun i n hd => ?_, fun w n hd => absurd (hd.symm.trans h) nofun⟩
    cases hd.symm.trans h
    rw [State.takeAgain_of_none _ ha]
  case h_2 v m h =>
    refine ⟨fun i n hd => absurd (hd.symm.trans h) nofun, fun w n hd hc => ?_⟩
    cases hd.symm.trans h
    rw [if_pos hc]
  case h_3 h => exact ⟨fun i n hd => absurd (hd.symm.trans h) nofun, fun w n hd => absurd (hd.symm.trans h) nofun⟩

/-! ## The fetch of R32 and R33 -/

theorem State.fetchInstr_two (s : State) (u : Task) (bs : List Byte) (hc : s.fetchCheck u u.pc.toNat 2 = none)
    (hh : s.heldCode u u.pc.toNat 2 = some bs) (hb : (bs.headD 0).getLsbD 0 = false) : s.fetchInstr u = .bytes bs := by
  simp only [State.fetchInstr, hc, hh, hb, Bool.false_eq_true, if_false]

theorem State.fetchInstr_four (s : State) (u : Task) (bs cs : List Byte) (hc : s.fetchCheck u u.pc.toNat 2 = none)
    (hh : s.heldCode u u.pc.toNat 2 = some bs) (hb : (bs.headD 0).getLsbD 0 = true)
    (hc4 : s.fetchCheck u ((u.pc.toNat + 2) % 2 ^ 56) 2 = none) (hh4 : s.heldCode u u.pc.toNat 4 = some cs) : s.fetchInstr u = .bytes cs := by
  simp only [State.fetchInstr, hc, hh, hb, hc4, hh4, if_true]

/-! ## The next move as it happens -/

theorem moveNext_of_issue {s : State} {k : Nat} (h : s.nextMove = .issue k) : moveNext s = turnOf k s.popAgenda := by
  unfold moveNext
  generalize s.nextMove = m at h
  subst h
  rfl

theorem moveNext_of_event {s : State} {i : Instr} {x : EvIn} (h : s.nextMove = .event i x) :
    moveNext s = exec i { s.popAgenda.tick with ev := x } := by
  unfold moveNext
  generalize s.nextMove = m at h
  subst h
  rfl

theorem moveNext_of_store {s : State} {n : Nat} (h : s.nextMove = .store n) : moveNext s = .next (s.popAgenda.freeStore n) := by
  unfold moveNext
  generalize s.nextMove = m at h
  subst h
  rfl

/-- A late turn (log entry 8) is the task's own turn with its plain store kept. (`turn` stands for `turnOf` so that the kernel does not run the turn.) -/
theorem moveNext_of_late {s t : State} {k : Nat} (h : s.nextMove = .late k) (ht : turnOf k { s.popAgenda with defer := true } = .next t) :
    moveNext s = .next { t with defer := false } := by
  unfold moveNext
  generalize s.nextMove = m at h
  subst h
  obtain ⟨turn, hturn⟩ : ∃ f, f = turnOf := ⟨_, rfl⟩
  rw [← hturn] at ht ⊢
  dsimp only
  rw [ht]

theorem turnOf_of_resident {s : State} {k : Nat} (hr : (s.select k).cur.status = .resident) (hk : (s.select k).cur.key = k) :
    turnOf k s = issueTurn (s.select k) := by
  unfold turnOf
  exact if_pos ⟨hr, hk⟩

/-- The step of a turn that nothing stands before is that turn of its task. -/
theorem step_of_issues {s s1 : State} (h : Issues s s1) : step s = settled s (issueTurn (s.popAgenda.select s1.cur.key)) := by
  have hcur : (s.popAgenda.select s1.cur.key).cur = s1.cur := by
    conv_rhs => rw [h.counted]
    rw [State.slotTurn_cur]
  unfold step
  rw [moveNext_of_issue h.turn, turnOf_of_resident (by rw [hcur]; exact h.resident) (by rw [hcur])]

theorem step_of_fetches {s s1 : State} {bs : List Byte} (h : Fetches s s1 bs) :
    (∀ i n, decode bs = .ok i n → step s = settled s (issueInstr i s1)) ∧
    (∀ w n, decode bs = .illegal w n → s1.cur.caughtUp = true → step s = settled s (exec .illegalInstruction (s1.illegalIn w n))) := by
  have hs := step_of_issues h.toIssues
  have ht := issueTurn_of_decoded (bs := bs) h.free (by rw [← h.counted]; exact h.anew) (by rw [← h.counted]; exact h.fetched)
  rw [← h.counted] at ht
  exact ⟨fun i n hd => by rw [hs, ht.1 i n hd], fun w n hd hc => by rw [hs, ht.2 w n hd hc]⟩

theorem step_of_again {s s1 : State} {i : Instr} (h : Issues s s1) (ha : s1.cur.sch.again = some i) :
    step s = settled s (issueInstr i s1.takeAgain) := by
  have ht := issueTurn_of_again (i := i) h.free (by rw [← h.counted]; exact ha)
  rw [← h.counted] at ht
  rw [step_of_issues h, ht]

theorem step_of_late {s t : State} {k : Nat} (h : s.nextMove = .late k)
    (ht : moveNext { s with agenda := .issue k :: s.agenda.tail, defer := true } = .next t) : step s = .next ({ t with defer := false }.settle s) := by
  rw [moveNext_of_issue rfl] at ht
  unfold step
  rw [moveNext_of_late h ht]
  rfl

end Sys2Proof.Machine

open Sys2Proof.Machine

/-- Settles O55: every table is empty after reset, and an entry that no table holds has its reset value. -/
theorem resetState : Obligations.ResetState :=
  ⟨rfl, fun v => ⟨rfl, rfl, fun n => Vi.ldie_reset v n⟩, fun _ _ => rfl, fun _ _ => rfl, fun _ _ => rfl, fun _ _ => ⟨rfl, rfl, rfl⟩,
    fun f _ => ⟨rfl, rfl, rfl, State.home_reset_valid f⟩, fun _ => rfl, rfl⟩

/-- Settles O57: the step is the turn, event or store that the next move names. -/
theorem stepRunsTheDecodedInstruction : Obligations.StepRunsTheDecodedInstruction := by
  refine ⟨fun s s1 bs h => ⟨fun i n hd hf => ⟨fun hl => ?_, fun l hl => ?_⟩, (step_of_fetches h).2⟩, ?again, ?fetch, fun s i x h => ?_,
    fun s k h t ht => step_of_late h ht, fun s n h => ?_⟩
  · rw [(step_of_fetches h).1 i n hd, issueInstr_run i s1 hf hl]
    exact ⟨rfl, fun ht => by rw [paired_of_alone i s1 _ ht]⟩
  · rw [(step_of_fetches h).1 i n hd, issueInstr_wait i s1 l hf hl]
  case again =>
    intro s s1 i h ha s2 hf hl
    rw [step_of_again h ha, issueInstr_run i _ hf hl]
  case fetch =>
    intro s u bs x hc hh
    exact ⟨s.fetchInstr_two u bs hc hh, fun cs => s.fetchInstr_four u bs cs hc hh⟩
  · unfold step
    rw [moveNext_of_event h]
  · unfold step
    rw [moveNext_of_store h]
    rfl

end

section
/-! PROOF. What reports and the sorting of held tasks (R396, R408, R411) leave alone. -/

namespace Sys2Proof.Machine

/-- `t` is `s` but for reports: VI blocks, memory words that count events, and the host event queue may differ. -/
structure State.Reports (s t : State) : Prop where
  cur : t.cur = s.cur
  others : t.others = s.others
  tiles : t.tiles = s.tiles
  dies : t.dies = s.dies
  md : ∃ heq heqidx heqWait notices, t.md = { s.md with heq := heq, heqidx := heqidx, heqWait := heqWait, notices := notices }

namespace State.Reports

variable {s t u : State}

theorem refl (s : State) : s.Reports s := ⟨rfl, rfl, rfl, rfl, _, _, _, _, rfl⟩

theorem trans (h : s.Reports t) (h' : t.Reports u) : s.Reports u := by
  obtain ⟨_, _, _, _, hm⟩ := h.md
  obtain ⟨a, b, c, d, hm'⟩ := h'.md
  exact ⟨h'.cur.trans h.cur, h'.others.trans h.others, h'.tiles.trans h.tiles, h'.dies.trans h.dies, a, b, c, d, by rw [hm', hm]⟩

theorem foldl {α : Type} {f : State → α → State} (hf : ∀ (x : State) (a : α), x.Reports (f x a)) (l : List α) (s : State) : s.Reports (l.foldl f s) :=
  foldl_keeps (fun x => s.Reports x) f l s (refl s) (fun x a h => h.trans (hf x a))

theorem tile (h : s.Reports t) (g : Nat) : t.tile g = s.tile g := by rw [State.tile, h.tiles, State.tile]

theorem die (h : s.Reports t) (d : Nat) : t.die d = s.die d := by rw [State.die, h.dies, State.die]

theorem tasks (h : s.Reports t) : t.tasks = s.tasks := by rw [State.tasks, h.cur, h.others, State.tasks]

theorem retiring (h : s.Reports t) : t.md.retiring = s.md.retiring := by obtain ⟨_, _, _, _, hm⟩ := h.md; rw [hm]

theorem epoch (h : s.Reports t) : t.md.epoch = s.md.epoch := by obtain ⟨_, _, _, _, hm⟩ := h.md; rw [hm]

theorem held (h : s.Reports t) : t.md.held = s.md.held := by obtain ⟨_, _, _, _, hm⟩ := h.md; rw [hm]

theorem pendingSparing (h : s.Reports t) : t.md.pendingSparing = s.md.pendingSparing := by obtain ⟨_, _, _, _, hm⟩ := h.md; rw [hm]

theorem dieEntry (h : s.Reports t) (d : Nat) : t.dieEntry d = s.dieEntry d := by
  obtain ⟨_, _, _, _, hm⟩ := h.md
  rw [State.dieEntry, hm, State.dieEntry]

end State.Reports

variable (s : State)

theorem State.reports_modVi (v : Nat) (f : Vi → Vi) : s.Reports (s.modVi v f) := ⟨rfl, rfl, rfl, rfl, _, _, _, _, rfl⟩

theorem State.reports_hostEvent (e : HEvent) : s.Reports (s.hostEvent e) := by
  unfold State.hostEvent State.modMd
  dsimp only
  split <;> exact ⟨rfl, rfl, rfl, rfl, _, _, _, _, rfl⟩

theorem State.reports_bump (v a l : Nat) : s.Reports (s.bump v a l).1 := by
  unfold State.bump
  split <;> exact ⟨rfl, rfl, rfl, rfl, _, _, _, _, rfl⟩

theorem State.reports_logEvent (v kind addr : Nat) (info : DWord) : s.Reports (s.logEvent v kind addr info) := by
  unfold State.logEvent
  dsimp only
  split
  · exact s.reports_modVi v _
  · exact (s.reports_modVi v _).trans (State.reports_bump _ _ _ _)

theorem State.reports_recordFreeze (v kind cause : Nat) (ident : DWord) : s.Reports (s.recordFreeze v kind cause ident) :=
  ((s.reports_modVi v _).trans (State.reports_logEvent _ _ _ _ _)).trans (State.reports_hostEvent _ _)

theorem State.reports_noteHeld (v id n cause : Nat) (p : Nat × Nat) : s.Reports (s.noteHeld v id n cause p) := by
  unfold State.noteHeld
  dsimp only
  split
  · exact (s.reports_logEvent _ _ _ _).trans (State.reports_hostEvent _ _)
  · exact s.reports_logEvent _ _ _ _

theorem State.reports_sortHeld : s.Reports s.sortHeld := by
  unfold State.sortHeld
  dsimp only
  refine State.Reports.trans ?_ (State.Reports.foldl (fun x e => State.Reports.foldl (fun y l => ?_) e.2.launches x) s.vis _)
  · exact ⟨rfl, rfl, rfl, rfl, _, _, _, _, rfl⟩
  split
  · exact .refl y
  · exact State.reports_noteHeld _ _ _ _ _ _

/-! ## Tiles, tasks and the die map -/

theorem State.tile_modTile (g : Nat) (f : Tile → Tile) (k : Nat) : (s.modTile g f).tile k = if k = g then f (s.tile g) else s.tile k :=
  tget_tmod s.tiles g k f

theorem State.tile_modDie (d : Nat) (f : Die → Die) (k : Nat) : (s.modDie d f).tile k = s.tile k := rfl

theorem State.die_modDie (d : Nat) (f : Die → Die) (k : Nat) : (s.modDie d f).die k = if k = d then f (s.die d) else s.die k :=
  tget_tmod s.dies d k f

theorem State.mem_tasks (u : Task) : u ∈ s.tasks ↔ (u = s.cur ∧ u.status ≠ .absent) ∨ u ∈ s.others := by
  unfold State.tasks
  split
  · next h => exact ⟨.inr, fun hu => hu.elim (fun hc => absurd (hc.1 ▸ h) hc.2) id⟩
  · next h =>
    rw [List.mem_cons]
    exact or_congr_left ⟨fun hc => ⟨hc, hc ▸ h⟩, And.left⟩

end Sys2Proof.Machine
end

section
/-! PROOF. Recovery by the service processors (O47): votes, tests, dies, boot and attestation. -/

namespace Sys2Proof.Machine

variable {s : State}

theorem Completes.next {t : State} {p : State → Prop} (h : p t) : Completes (.next t : Host.Outcome State Fault Refusal) p := ⟨t, rfl, h⟩

/-! ## Tiles (R392, R394, R417) -/

theorem execQuarantine_completes (hv : s.voted = true) : Completes (execQuarantine s) (fun t => (t.tile s.ev.gt).quarantined = true) := by
  simp only [execQuarantine, hv, Bool.not_true, Bool.false_eq_true, if_false]
  refine Completes.next ?_
  rw [(State.reports_sortHeld _).tile, State.tile_modTile, if_pos rfl]

/-- A change of several tiles changes each of them, where a second change of the same tile shows no more. -/
theorem State.tile_foldl_modTile (f : Tile → Tile) (p : Tile → Prop) (hf : ∀ x, p (f x)) (l : List Nat) (s : State) (g : Nat) (hg : g ∈ l) :
    p ((l.foldl (fun x g => x.modTile g f) s).tile g) := by
  induction l generalizing s with
  | nil => exact absurd hg List.not_mem_nil
  | cons a l ih =>
    by_cases hl : g ∈ l
    · exact ih _ hl
    · have ha : g = a := (List.mem_cons.1 hg).resolve_right hl
      refine foldl_keeps (fun (x : State) => p (x.tile g)) _ l _ ?_ (fun x b h => ?_)
      · rw [State.tile_modTile, if_pos ha]; exact hf _
      · rw [State.tile_modTile]; split
        · exact hf _
        · exact h

theorem execQuarantineRelease_completes (hv : s.voted = true)
    (h : ∀ g ∈ (if s.ev.kind = 1 then s.rectOf s.ev.gt else [s.ev.gt]), (s.tile g).quarantined = true ∧ (s.tile g).failed = false) :
    Completes (execQuarantineRelease s)
      (fun t => ∀ g ∈ (if s.ev.kind = 1 then s.rectOf s.ev.gt else [s.ev.gt]), (t.tile g).quarantined = false ∧ (t.tile g).resetting = false) := by
  have hall : (if s.ev.kind = 1 then s.rectOf s.ev.gt else [s.ev.gt]).all (fun g => (s.tile g).quarantined && !(s.tile g).failed) = true := by
    rw [List.all_eq_true]
    intro g hg
    simp [h g hg]
  simp only [execQuarantineRelease, hv, hall, Bool.not_true, Bool.or_self, Bool.false_eq_true, if_false]
  refine Completes.next fun g hg => ?_
  rw [(State.reports_sortHeld _).tile]
  exact State.tile_foldl_modTile _ (fun x => x.quarantined = false ∧ x.resetting = false) (fun _ => ⟨rfl, rfl⟩) _ _ _ hg

theorem mem_tinsert_self {α : Type} (t : List (Nat × α)) (a : Nat) (v : α) : (a, v) ∈ tinsert t a v := by
  induction t with
  | nil => simp [tinsert]
  | cons e r ih =>
    obtain ⟨k, w⟩ := e
    simp only [tinsert]
    split
    · simp
    · split
      · simp
      · exact List.mem_cons_of_mem _ ih

/-- A test ends (R417): its entry is appended, and a fail of a quarantined tile makes the tile failed and its die degraded. -/
theorem execStructuralTest_completes (hk : s.ev.kind ≤ 5) (hc : s.ev.code ≤ 2)
    (hu : s.ev.write = false → s.md.modassist / 8 % 2 = 1 → 256 * s.ev.gt + s.ev.kind ∈ s.md.testUnits)
    (hs : s.ev.write = true → s.testSocket s.ev.die s.ev.kind = true) :
    Completes (execStructuralTest s) (fun t => SameMemory s t ∧ t.md.testIdx = s.md.testIdx + 1 ∧
      (s.md.testIdx % 4096, testEntry s.md.testIdx s.ev.kind (if s.ev.write then s.ev.die else s.socketOf (s.ev.gt / 128))
        (if 4 ≤ s.ev.kind then 0 else s.ev.gt % 128) s.ev.index s.ev.code, dw s.ev.time) ∈ t.md.tests ∧
      (s.ev.code = 1 → s.ev.write = false → s.ev.kind < 4 → (s.tile s.ev.gt).quarantined = true →
        (t.tile s.ev.gt).failed = true ∧ (t.die (s.ev.gt / 128)).degraded = true)) := by
  have hrun : ¬ (5 < s.ev.kind ∨ 2 < s.ev.code ∨
      (s.md.modassist / 8 % 2 = 1 ∧ s.ev.write = false ∧ s.md.testUnits.contains (256 * s.ev.gt + s.ev.kind) = false) ∨
      (s.ev.write = true ∧ s.testSocket s.ev.die s.ev.kind = false)) := by
    rintro (h | h | ⟨hm, hw, hn⟩ | ⟨hw, hn⟩)
    · omega
    · omega
    · rw [List.contains_iff_mem.2 (hu hw hm)] at hn
      cases hn
    · simp [hs hw] at hn
  unfold execStructuralTest
  dsimp only
  rw [if_neg hrun]
  refine Completes.next ?_
  split
  · refine ⟨sameMemory_of_eq rfl rfl, rfl, mem_tinsert_self _ _ _, fun _ _ _ _ => ⟨?_, ?_⟩⟩
    · rw [State.tile_modDie, State.tile_modTile, if_pos rfl]
    · rw [State.die_modDie, if_pos rfl]
  · next hn => exact ⟨sameMemory_of_eq rfl rfl, rfl, mem_tinsert_self _ _ _, fun h1 h2 h3 h4 => absurd ⟨h1, h2, h3, h4⟩ hn⟩

/-! ## Dies (R16 to R20, R395) -/

/-- What a die that is retired at once leaves behind: no task of it, and a fence; the die map is as it was (R18 step 1). -/
theorem State.fenceDie_fences (s : State) (d : Nat) :
    (∀ u ∈ (s.fenceDie d).tasks, u ∈ s.tasks ∧ s.taskGt u / 128 ≠ d) ∧ (d, false) ∈ (s.fenceDie d).md.retiring ∧ (s.fenceDie d).dieEntry d = s.dieEntry d := by
  have hr := (State.reports_hostEvent ((s.loseDie d).modMd (fun m => { m with retiring := m.retiring ++ [(d, false)] }))
    { kind := 5, vi := 0, d1 := dw d, d2 := dw (s.tasks.countP (fun t => s.taskGt t / 128 == d)), d3 := dw (s.md.epoch + 1) }).trans (State.reports_sortHeld _)
  refine ⟨fun u hu => ?_, ?_, ?_⟩
  · replace hu : u ∈ (s.loseDie d).tasks := by rw [State.fenceDie, hr.tasks] at hu; exact hu
    rw [State.mem_tasks] at hu ⊢
    rcases hu with ⟨rfl, hstatus⟩ | hu
    · by_cases hd : s.taskGt s.cur / 128 = d
      · exact absurd (congrArg Task.status (if_pos hd)) hstatus
      · have hcur : (s.loseDie d).cur = s.cur := if_neg hd
        rw [hcur] at hstatus ⊢
        exact ⟨.inl ⟨rfl, hstatus⟩, hd⟩
    · replace hu : u ∈ s.others.filter (fun t => s.taskGt t / 128 != d) := hu
      rw [List.mem_filter, bne_iff_ne] at hu
      exact ⟨.inr hu.1, hu.2⟩
  · rw [State.fenceDie, hr.retiring]
    exact List.mem_append_right _ (List.mem_singleton.2 rfl)
  · rw [State.fenceDie, hr.dieEntry]
    rfl

theorem execDieRetirement_fence (hv : s.voted = true) (hstep : s.md.retiring.find? (fun e => e.1 == s.ev.die) = none) (hd : s.ev.die < 32)
    (hvalid : s.dieValid s.ev.die = true) (ha : s.md.modassist % 2 = 0) : execDieRetirement s = .next (s.fenceDie s.ev.die) := by
  simp [execDieRetirement, hstep, hv, hvalid, Nat.not_le.2 hd, ha]

theorem execDieRetirement_asks (hv : s.voted = true) (hstep : s.md.retiring.find? (fun e => e.1 == s.ev.die) = none) (hd : s.ev.die < 32)
    (hvalid : s.dieValid s.ev.die = true) (ha : s.md.modassist % 2 = 1) : execDieRetirement s =
      .next ((s.modMd (fun m => { m with pendingSparing := sadd m.pendingSparing s.ev.die })).hostEvent { kind := 8, vi := 0, d1 := dw s.ev.die }) := by
  simp [execDieRetirement, hstep, hv, hvalid, Nat.not_le.2 hd, ha]

theorem execDieRetirement_binds (hv : s.voted = true) (hstep : s.md.retiring.find? (fun e => e.1 == s.ev.die) = some (s.ev.die, false))
    (hspare : s.anySpare = true → s.isSpare s.ev.index = true) : execDieRetirement s = .next (s.bindDie s.ev.die s.ev.index) := by
  have hs : (s.anySpare && !s.isSpare s.ev.index) = false := by
    cases h : s.anySpare
    · rfl
    · simp [hspare h]
  simp [execDieRetirement, hstep, hv, hs]

theorem execDieRetirement_unfences (hstep : s.md.retiring.find? (fun e => e.1 == s.ev.die) = some (s.ev.die, true)) :
    execDieRetirement s = .next (s.unfenceDie s.ev.die) := by
  simp [execDieRetirement, hstep]

theorem execSparingApproval_fence (h : s.ev.die ∈ s.md.pendingSparing) :
    execSparingApproval s = .next ((s.modMd (fun m => { m with pendingSparing := sdel m.pendingSparing s.ev.die })).fenceDie s.ev.die) := by
  simp [execSparingApproval, h]

theorem State.rebind_dieEntry (s : State) (d : Nat) (k : Nat) :
    (s.rebind d (some k)).dieEntry d = BitVec.ofNat 32 (2 ^ 31 + k + (s.md.epoch + 1) % 65536 * 64) := by
  change tget 0 (tinsert s.md.dieMap d _) d = _
  rw [tget_tinsert, if_pos rfl]

/-- SOCKET and VALID of a vacant entry are 0. -/
theorem State.rebind_dieEntry_vacant (s : State) (d : Nat) : ((s.rebind d none).dieEntry d).getLsbD 31 = false := by
  change (tget 0 (tinsert s.md.dieMap d (BitVec.ofNat 32 (0 + (s.md.epoch + 1) % 65536 * 64))) d).getLsbD 31 = false
  rw [tget_tinsert, if_pos rfl, BitVec.getLsbD_ofNat]
  have hlt : 0 + (s.md.epoch + 1) % 65536 * 64 < 2 ^ 31 := by omega
  rw [Nat.testBit_lt_two_pow hlt, Bool.and_false]

/-- A binding that a filter of a VI's context takes away is a binding no more. -/
theorem Vi.ldie_filter (v : Vi) (d n : Nat) :
    ({ v with ctx := v.ctx.filter (fun c => !(c.2.getLsbD 31 && c.2.toNat % 32 == d)) } : Vi).ldie n ≠ some d := by
  have hget : ∀ (l : List (Nat × BitVec 32)), let e := tget 0 (l.filter (fun c => !(c.2.getLsbD 31 && c.2.toNat % 32 == d))) n
      ¬ (e.getLsbD 31 = true ∧ e.toNat % 32 = d) := by
    intro l
    induction l with
    | nil => simp [tget]
    | cons c r ih =>
      obtain ⟨k, e⟩ := c
      rw [List.filter_cons]
      split
      · next hc =>
        dsimp only [tget]
        split
        · intro he
          rw [he.1, he.2, beq_self_eq_true] at hc
          cases hc
        · exact ih
      · exact ih
  have h := hget v.ctx
  unfold Vi.ldie
  dsimp only at h ⊢
  split
  · next hb => exact fun he => h ⟨hb, Option.some.inj he⟩
  · exact nofun

theorem tget_map {α β : Type} (f : Nat → α → β) (d : α) (l : List (Nat × α)) (k : Nat) :
    tget (f k d) (l.map (fun e => (e.1, f e.1 e.2))) k = f k (tget d l k) := by
  induction l with
  | nil => rfl
  | cons e r ih =>
    obtain ⟨a, v⟩ := e
    simp only [List.map_cons, tget]
    split
    · next h => rw [h]
    · exact ih

theorem mem_modWhere_bound {d : Nat} {l : List (Nat × Bool)} (h : l.find? (fun e => e.1 == d) = some (d, false)) :
    (d, true) ∈ modWhere (fun e => e.1 == d) (fun e => (e.1, true)) l :=
  List.mem_map.2 ⟨(d, false), List.mem_of_find?_eq_some h, by simp⟩

theorem State.bindDie_bound (s : State) (k : Nat) (hspare : s.anySpare = true) (d : Nat) (hstep : s.md.retiring.find? (fun e => e.1 == d) = some (d, false)) :
    SameMemory s (s.bindDie d k) ∧
    ((s.bindDie d k).md.epoch = (s.md.epoch + 1) % 65536 ∧ (s.bindDie d k).dieEntry d = BitVec.ofNat 32 (2 ^ 31 + k + (s.md.epoch + 1) % 65536 * 64)) ∧
    (d, true) ∈ (s.bindDie d k).md.retiring := by
  unfold State.bindDie
  simp only [hspare, if_true]
  exact ⟨sameMemory_of_eq rfl rfl, ⟨rfl, s.rebind_dieEntry d k⟩, mem_modWhere_bound hstep⟩

theorem State.bindDie_vacant (s : State) (k : Nat) (hspare : s.anySpare = false) (d : Nat) (hstep : s.md.retiring.find? (fun e => e.1 == d) = some (d, false)) :
    SameMemory s (s.bindDie d k) ∧ (s.bindDie d k).md.epoch = (s.md.epoch + 1) % 65536 ∧ ((s.bindDie d k).dieEntry d).getLsbD 31 = false ∧
    (∀ v n, ((s.bindDie d k).vi v).ldie n ≠ some d) ∧ (d, true) ∈ (s.bindDie d k).md.retiring := by
  unfold State.bindDie
  simp only [hspare, Bool.false_eq_true, if_false]
  refine ⟨sameMemory_of_eq rfl rfl, rfl, s.rebind_dieEntry_vacant d, fun v n => ?_, mem_modWhere_bound hstep⟩
  have hvi := tget_map (fun _ (x : Vi) => ({ x with ctx := x.ctx.filter (fun c => !(c.2.getLsbD 31 && c.2.toNat % 32 == d)) } : Vi)) {} s.vis v
  exact fun he => Vi.ldie_filter _ d n ((congrArg (fun (x : Vi) => x.ldie n) hvi).symm.trans he)

theorem State.unfenceDie_unfences (s : State) (d : Nat) : (∀ b, (d, b) ∉ (s.unfenceDie d).md.retiring) ∧ (s.unfenceDie d).dieEntry d = s.dieEntry d := by
  have hr := State.reports_sortHeld (s.modMd (fun m => { m with retiring := m.retiring.filter (fun e => e.1 != d) }))
  refine ⟨fun b hb => ?_, hr.dieEntry d⟩
  rw [State.unfenceDie, hr.retiring] at hb
  simp at hb

theorem execDieEvacuation_completes (hv : s.voted = true) (hd : (s.die s.ev.die).degraded = true) (hk : s.isSpare s.ev.index = true)
    (hstop : ∀ x ∈ s.vis, (∃ c ∈ x.2.ctx, c.2.getLsbD 31 = true ∧ c.2.toNat % 32 = s.ev.die) → s.isStopped x.1 = true) :
    Completes (execDieEvacuation s) (fun t =>
      (t.md.epoch = (s.md.epoch + 1) % 65536 ∧ t.dieEntry s.ev.die = BitVec.ofNat 32 (2 ^ 31 + s.ev.index + (s.md.epoch + 1) % 65536 * 64)) ∧
      (t.die s.ev.die).degraded = false ∧ ∀ g, g / 128 = s.ev.die → (t.tile g).failed = false) := by
  have hany : s.vis.any (fun e => e.2.ctx.any (fun c => c.2.getLsbD 31 && c.2.toNat % 32 == s.ev.die) && !s.isStopped e.1) = false := by
    rw [List.any_eq_false]
    intro x hx hc
    simp only [Bool.and_eq_true, List.any_eq_true, beq_iff_eq, Bool.not_eq_true'] at hc
    obtain ⟨hb, hrun⟩ := hc
    simp [hstop x hx hb] at hrun
  simp only [execDieEvacuation, hv, hd, hk, hany, Bool.not_true, Bool.or_self, Bool.false_eq_true, if_false]
  refine Completes.next ⟨⟨?_, ?_⟩, ?_, fun g hg => ?_⟩
  · rw [(State.reports_sortHeld _).epoch]; rfl
  · rw [(State.reports_sortHeld _).dieEntry]; exact s.rebind_dieEntry _ _
  · rw [(State.reports_sortHeld _).die]
    change (tget {} (tmod {} s.dies s.ev.die (fun x => { x with degraded := false })) s.ev.die).degraded = false
    rw [tget_tmod, if_pos rfl]
  · rw [(State.reports_sortHeld _).tile]
    change (tget {} (s.tiles.map (fun (e : Nat × Tile) => if e.1 / 128 = s.ev.die then (e.1, { e.2 with failed := false, quarantined := false }) else e)) g).failed = false
    generalize s.tiles = l
    induction l with
    | nil => rfl
    | cons e r ih =>
      obtain ⟨a, x⟩ := e
      by_cases ha : a = g
      · simp [tget, ha, hg]
      · simp only [List.map_cons]
        split <;> simpa only [tget, ha, if_false] using ih

/-! ## Voters, boot and attestation (R393, R413 to R415) -/

theorem execVoterReplacement_completes (hv : s.ev.id ∈ s.md.voters) (h3 : 3 ∉ s.md.voters) :
    Completes (execVoterReplacement s) (fun t => ∀ k, k ∈ t.md.voters ↔ k = 3 ∨ (k ≠ s.ev.id ∧ k ∈ s.md.voters)) := by
  have hc : (s.md.voters.contains s.ev.id && !s.md.voters.contains 3) = true := by simp [hv, h3]
  simp only [execVoterReplacement, hc, if_true]
  refine Completes.next fun k => ?_
  change k ∈ sadd (sdel s.md.voters s.ev.id) 3 ↔ _
  rw [mem_sadd, mem_sdel]

/-- The die map of the configuration record, entry by entry (R17). -/
theorem tget_foldl_zipIdx (l : List (BitVec 32)) (t : List (Nat × BitVec 32)) (n k : Nat) :
    tget 0 ((l.zipIdx n).foldl (fun t e => tset 0 t e.2 e.1) t) k = if n ≤ k ∧ k < n + l.length then l.getD (k - n) 0 else tget 0 t k := by
  induction l generalizing t n with
  | nil => simp
  | cons e r ih =>
    rw [List.zipIdx_cons, List.foldl_cons, ih, tget_tset]
    by_cases hk : k = n
    · subst hk; simp
    · by_cases h : n + 1 ≤ k ∧ k < n + 1 + r.length
      · obtain ⟨j, rfl⟩ : ∃ j, k = n + (j + 1) := ⟨k - n - 1, by omega⟩
        rw [if_pos h, if_pos ⟨by omega, by simp only [List.length_cons]; omega⟩, show n + (j + 1) - (n + 1) = j by omega, Nat.add_sub_cancel_left,
          List.getD_cons_succ]
      · rw [if_neg h, if_neg hk, if_neg (by simp only [List.length_cons]; omega)]

theorem tget_bootMap {k : Nat} (hk : k < 32) : tget 0 (((List.range 32).map bootEntry).zipIdx.foldl (fun t e => tset 0 t e.2 e.1) []) k = bootEntry k := by
  rw [tget_foldl_zipIdx, if_pos ⟨Nat.zero_le k, by simpa using hk⟩]
  simp [hk]

theorem execBoot_ok (hb : s.md.booted = false) (hok : s.ev.ok = true) :
    Completes (execBoot s) (fun t => SameMemory s t ∧ t.md.booted = true ∧ t.md.held = false ∧ t.md.fwPending = none ∧
      (∀ k, k < 32 → t.dieEntry k = bootEntry k) ∧
      (∀ ver, s.md.fwPending = some (ver, true) → t.md.fwActive = 1 - s.md.fwActive ∧ t.md.fwVersion = ver)) := by
  simp only [execBoot, hb, hok, Bool.not_true, Bool.false_eq_true, if_false]
  refine Completes.next ⟨sameMemory_of_eq rfl rfl, rfl, rfl, ?_, fun k hk => tget_bootMap hk, ?_⟩
  · split
    · rfl
    · rfl
    · next h => exact h
  · intro ver hver
    simp only [hver, and_self]

theorem execBoot_held (hb : s.md.booted = false) (hok : s.ev.ok = false) : execBoot s = .next { s with md := { s.md with held := true } } := by
  unfold execBoot
  rw [if_neg (by rw [hb]; exact Bool.false_ne_true), if_pos (by rw [hok]; rfl)]
  rfl

theorem execHeldState_completes (s : State) : Completes (execHeldState s) (fun t => SameMemory s t ∧ t.tasks = s.tasks ∧ t.md.held = true) := by
  refine Completes.next ⟨sameMemory_of_eq rfl rfl, rfl, ?_⟩
  rw [(State.reports_hostEvent _ _).held]
  rfl

end Sys2Proof.Machine
end

section
/-! PROOF. A tile that is quarantined and resetting stays so while tasks are lost or run their domains again (R387, R392). -/

namespace Sys2Proof.Machine

/-- The tile refuses every request until the service processors release it (R392). -/
def State.Sealed (s : State) (g : Nat) : Prop := (s.tile g).quarantined = true ∧ (s.tile g).resetting = true

variable {s t : State} {g : Nat}

theorem State.Sealed.of_tiles (h : s.Sealed g) (ht : t.tiles = s.tiles) : t.Sealed g := by
  unfold State.Sealed State.tile at *
  rwa [ht]

theorem State.Reports.sealed (hr : s.Reports t) (h : s.Sealed g) : t.Sealed g := h.of_tiles hr.tiles

theorem State.Sealed.modTile (h : s.Sealed g) (k : Nat) (f : Tile → Tile)
    (hf : ∀ x, x.quarantined = true → x.resetting = true → (f x).quarantined = true ∧ (f x).resetting = true) : (s.modTile k f).Sealed g := by
  unfold State.Sealed
  rw [State.tile_modTile]
  split
  · next hk => exact hf _ (hk ▸ h.1) (hk ▸ h.2)
  · exact h

theorem State.Sealed.setGran (h : s.Sealed g) (gt i : Nat) (x : Gran) : (s.setGran gt i x).Sealed g := h.modTile gt _ (fun _ hq hr => ⟨hq, hr⟩)

/-! ## Memory -/

theorem State.Sealed.put (h : s.Sealed g) (k : Nat) (bs : List Byte) (marks : List Bool) : (s.put k bs marks).Sealed g := h

theorem State.Sealed.sramWrite1 (h : s.Sealed g) (ag vd gt : Nat) (own : List (Nat × Nat)) (off : Nat) (bs : List Byte) (marks : List Bool) :
    (s.sramWrite1 ag vd gt own off bs marks).s.Sealed g := by
  unfold State.sramWrite1
  dsimp only
  split
  · exact h
  · split
    · exact ((h.put _ _ _).put _ _ _).setGran _ _ _
    · split
      · exact h.put _ _ _
      · exact h

theorem State.Sealed.sramWrite (h : s.Sealed g) (ag vd gt : Nat) (own : List (Nat × Nat)) (off : Nat) (bs : List Byte) (marks : List Bool) :
    (s.sramWrite ag vd gt own off bs marks).s.Sealed g :=
  foldl_keeps (fun (w : Wr) => w.s.Sealed g) _ _ _ h (fun _ _ hw => hw.sramWrite1 _ _ _ _ _ _ _)

theorem State.Sealed.storeWords (h : s.Sealed g) (gt vd base : Nat) (ws : List (Nat × DWord)) : (s.storeWords gt vd base ws).1.Sealed g :=
  foldl_keeps (fun (r : State × List DWord) => r.1.Sealed g) _ _ _ h (fun _ _ hr => hr.sramWrite _ _ _ _ _ _ _)

theorem parity_tiles (s : State) (mma req : Nat) (word : Option DWord) (old new : Nat) : (s.parity mma req word old new).tiles = s.tiles := rfl

theorem hbmWrite_tiles (s : State) (req : Nat) (word : Option DWord) (mma : Nat) (bs : List Byte) (marks : List Bool) :
    (s.hbmWrite req word mma bs marks).tiles = s.tiles := by
  unfold State.hbmWrite
  dsimp only
  refine foldl_keeps (fun (x : State) => x.tiles = s.tiles) _ _ _ ?_ (fun x n hx => ?_)
  · split <;> rfl
  · split
    · exact hx
    · exact hx

theorem homePut_tiles (s : State) (req : Nat) (word : Option DWord) (mma : Nat) (bs : List Byte) (marks : List Bool) :
    (s.homePut req word mma bs marks).s.tiles = s.tiles := by
  unfold State.homePut
  split
  · rfl
  · obtain ⟨_, _, _, e⟩ := dropOwns_eq s (linesOf mma bs.length)
    exact (hbmWrite_tiles _ _ _ _ _ _).trans (by rw [e])

theorem State.Sealed.domPut (h : s.Sealed g) (u : Task) (level i : Nat) (d : DWord) : (s.domPut u level i d).Sealed g := by
  unfold State.domPut State.areaPut
  dsimp only
  split
  · exact h.sramWrite _ _ _ _ _ _ _
  · exact h.of_tiles (hbmWrite_tiles _ _ _ _ _ _)
  · exact h

/-! ## An addition that undoes a counter update (R387 step 3) -/

theorem addHome_tiles (s : State) (byte n amount req : Nat) : (s.addHome byte n amount req).s.tiles = s.tiles := by
  unfold State.addHome
  split
  · rfl
  · dsimp only
    split
    · split <;> rfl
    · split
      · rfl
      · exact homePut_tiles _ _ _ _ _ _
    · rfl

theorem tryStore_add_tiles (s : State) (older : List Store) (x : Store) (hx : x.kind = .add) : (s.tryStore older x).s.tiles = s.tiles := by
  unfold State.tryStore
  rw [hx]
  dsimp only
  split
  · rfl
  · split
    · rfl
    · split
      · split
        · exact addHome_tiles _ _ _ _ _
        · rfl
      · exact addHome_tiles _ _ _ _ _

theorem askFor_tiles (s : State) (w : Master) (p : Park) : (s.askFor w p).tiles = s.tiles := by
  unfold State.askFor
  split
  · next k c =>
    unfold State.askLine
    dsimp only
    split
    · split
      · rfl
      · exact foldl_keeps (fun (x : State) => x.tiles = s.tiles) _ _ _ rfl (fun _ _ hx => hx)
    · split <;> rfl
  · rfl

theorem issueStore_add_tiles (s : State) (x : Store) (hx : x.kind = .add) : (s.issueStore x).s.tiles = s.tiles := by
  have ht := tryStore_add_tiles s (s.storesOf x.key) { x with held := false, late := false } hx
  unfold State.issueStore
  dsimp only
  split
  · exact (askFor_tiles _ _ _).trans ht
  · exact ht
  · split
    · rfl
    · split
      · exact ht
      · exact ht

theorem State.Sealed.undoLog (h : s.Sealed g) (u : Task) (mark n : Nat) : (s.undoLog u mark n).Sealed g := by
  unfold State.undoLog
  refine foldl_keeps (fun (x : State) => x.Sealed g) _ _ _ h (fun x i hx => ?_)
  dsimp only
  split
  · exact hx.of_tiles (issueStore_add_tiles _ _ rfl)
  · exact hx

/-! ## Tasks -/

theorem modTask_tiles (s : State) (k : Nat) (f : Task → Task) : (s.modTask k f).tiles = s.tiles := by
  unfold State.modTask
  split <;> rfl

theorem State.Sealed.modTask (h : s.Sealed g) (k : Nat) (f : Task → Task) : (s.modTask k f).Sealed g := h.of_tiles (modTask_tiles s k f)

theorem State.Sealed.ready (h : s.Sealed g) (k : Nat) : (s.ready k).Sealed g := h.modTask k _

theorem State.Sealed.dropHeld (h : s.Sealed g) (k : Nat) : (s.dropHeld k).Sealed g := by
  unfold State.dropHeld
  exact h.of_tiles (modTask_tiles _ _ _)

theorem State.Sealed.writeLines (h : s.Sealed g) (k : Nat) (ls : List Nat) : (s.writeLines k ls).Sealed g := by
  unfold State.writeLines
  split
  · exact h
  · exact ((h.storeWords _ _ _ _).storeWords _ _ _ _).modTask _ _

theorem State.Sealed.dropLines (h : s.Sealed g) (k : Nat) (ls : List Nat) : (s.dropLines k ls).Sealed g := by
  unfold State.dropLines
  split
  · exact h
  · exact (h.writeLines _ _).modTask _ _

theorem State.Sealed.makeRoom (h : s.Sealed g) (gt k n : Nat) : (s.makeRoom gt k n).Sealed g := by
  unfold State.makeRoom
  refine foldl_keeps (fun (x : State) => x.Sealed g) _ _ _ h (fun x u hx => ?_)
  split
  · exact hx
  · exact hx.dropLines _ _

theorem State.Sealed.fillLines (h : s.Sealed g) (k : Nat) (ls : List Nat) : (s.fillLines k ls).Sealed g := by
  unfold State.fillLines
  split
  · exact h
  · dsimp only
    split
    · exact h
    · refine State.Sealed.modTask ?_ _ _
      split
      · exact h.makeRoom _ _ _
      · exact h

theorem State.Sealed.onLines (h : s.Sealed g) (k : Nat) (ls : List Nat) (f : Task → Task) : (s.onLines k ls f).Sealed g := by
  unfold State.onLines
  split
  · exact h
  · dsimp only
    split
    · exact (h.fillLines k ls).modTask k f
    · exact ((h.fillLines k ls).modTask k f).dropLines k ls

theorem State.Sealed.dropAll (h : s.Sealed g) (k : Nat) : (s.dropAll k).Sealed g := by
  unfold State.dropAll
  split
  · exact h
  · exact (h.dropLines _ _).modTask _ _

theorem State.Sealed.addTask (h : s.Sealed g) (u : Task) : (s.addTask u).Sealed g :=
  State.Sealed.of_tiles ((h.storeWords _ _ _ _).storeWords _ _ _ _) rfl

/-! ## Traps (R374) -/

theorem State.Sealed.enterTrap (h : s.Sealed g) (k : Nat) (x : TrapInfo) (epc iword : Nat) (st : TaskStatus) : (s.enterTrap k x epc iword st).Sealed g := by
  have h1 := (h.onLines k [5] (fun t => t.setPc (BitVec.ofNat 56 epc))).dropAll k
  unfold State.enterTrap
  refine State.Sealed.of_tiles (State.Sealed.modTask ?_ k _) rfl
  split
  · exact h1
  · exact h1.storeWords _ _ _ _

theorem State.Sealed.freezeTask (h : s.Sealed g) (k cause : Nat) : (s.freezeTask k cause).Sealed g := by
  unfold State.freezeTask
  split
  · exact h
  · exact (State.reports_recordFreeze _ _ _ _ _).sealed (h.enterTrap _ _ _ _ _)

theorem State.Sealed.startTrapHandler (h : s.Sealed g) (v gt : Nat) : (s.startTrapHandler v gt).Sealed g := by
  unfold State.startTrapHandler
  dsimp only
  split
  · exact h
  · split
    · exact h
    · exact ((h.modTask _ _).addTask _).ready _

/-- The last step of a trap: the host is told, or a handler starts. -/
theorem State.Sealed.toHostOrHandler (h : s.Sealed g) (host : Bool) (e : HEvent) (v gt : Nat) :
    (if host then s.hostEvent e else s.startTrapHandler v gt).Sealed g := by
  split
  · exact (State.reports_hostEvent _ _).sealed h
  · exact h.startTrapHandler v gt

theorem State.Sealed.takeTrap (h : s.Sealed g) (k : Nat) (x : TrapInfo) (epc iword : Nat) : (s.takeTrap k x epc iword).Sealed g := by
  unfold State.takeTrap
  split
  · exact h
  · split
    · exact (h.freezeTask _ _).freezeTask _ _
    · have h1 := h.enterTrap k x epc iword .trapped
      exact h1.toHostOrHandler _ _ _ _

theorem State.Sealed.loseTask (h : s.Sealed g) (k : Nat) : (s.loseTask k).Sealed g := by
  unfold State.loseTask
  split
  · exact h
  · split
    · exact (h.freezeTask _ _).freezeTask _ _
    · extract_lets x n s1 trapped s2
      have h1 : s1.Sealed g := h.storeWords _ _ _ _
      have htrapped : trapped.Sealed g := h1.modTask k _
      have h2 : s2.Sealed g := htrapped.of_tiles rfl
      exact h2.toHostOrHandler _ _ _ _

/-! ## Discards (R387) -/

theorem State.Sealed.restore (h : s.Sealed g) (k level : Nat) : (s.restore k level).Sealed g := by
  unfold State.restore
  split
  · exact h
  · next u _ =>
    extract_lets low scope vs gen ws s0 s1
    have h0 : s0.Sealed g := h.storeWords _ _ _ ws
    have h1 : s1.Sealed g := by
      unfold s1
      split
      · exact h0.storeWords _ _ _ ws
      · exact h0
    exact h1.modTask k _

theorem State.Sealed.mapCbs (h : s.Sealed g) (f : Nat × CBuf → Nat × CBuf) :
    State.Sealed { s with tiles := s.tiles.map (fun e => (e.1, { e.2 with cb := e.2.cb.map f })) } g := by
  have ht : State.tile { s with tiles := s.tiles.map (fun e => (e.1, { e.2 with cb := e.2.cb.map f })) } g = { s.tile g with cb := (s.tile g).cb.map f } :=
    tget_map (fun _ (x : Tile) => ({ x with cb := x.cb.map f } : Tile)) {} s.tiles g
  unfold State.Sealed
  rw [ht]
  exact h

theorem State.Sealed.discardLevel (h : s.Sealed g) (k level : Nat) : (s.discardLevel k level).Sealed g := by
  unfold State.discardLevel
  split
  · exact h
  · dsimp only
    refine State.Sealed.restore (State.Sealed.mapCbs ?_ (fun b => (b.1, b.2.discard k level))) k level
    refine foldl_keeps (fun (x : State) => x.Sealed g) _ _ _ ((h.undoLog _ _ _).domPut _ _ _ _) (fun x e hx => ?_)
    split
    · exact hx.setGran _ _ _
    · exact hx

theorem State.Sealed.discardNow (h : s.Sealed g) (k level : Nat) (un : Option (List DWord)) : (s.discardNow k level un).Sealed g := by
  unfold State.discardNow
  split
  · exact h
  · have h1 := (h.dropHeld k).discardLevel k level
    dsimp only
    split
    · exact State.Sealed.ready ((h1.domPut _ _ _ _).modTask _ _) _
    · refine State.Sealed.modTile ?_ _ _ (fun _ _ hr => ⟨rfl, hr⟩)
      have h2 : State.Sealed (if level = 1 then (s.dropHeld k).discardLevel k level else ((s.dropHeld k).discardLevel k level).discardLevel k 1) g := by
        split
        · exact h1
        · exact h1.discardLevel k 1
      have h3 := fun f x pc => (h2.modTask k f).takeTrap k x pc 0
      split
      · exact (h3 _ _ _).storeWords _ _ _ _
      · exact h3 _ _ _

/-! ## The rectangle (R392) -/

theorem execRectangleReset_completes (s : State) :
    Completes (execRectangleReset s) (fun t => ∀ g ∈ s.rectOf s.ev.gt, (t.tile g).quarantined = true ∧ (t.tile g).resetting = true) := by
  unfold execRectangleReset
  refine Completes.next fun g hg => (State.reports_sortHeld _).sealed (foldl_keeps (fun (x : State) => x.Sealed g) _ _ _ ?_ (fun x u hx => ?_))
  · exact State.tile_foldl_modTile Tile.afterReset (fun x => x.quarantined = true ∧ x.resetting = true) (fun _ => ⟨rfl, rfl⟩) _ _ g hg
  · split
    · exact hx.discardNow _ _ _
    · exact hx.loseTask _

end Sys2Proof.Machine

open Sys2Proof.Machine

/-- Settles O47: each clause is what the event's own function does, and sorting the held tasks at its end changes reports only. -/
theorem recoveryEventsComplete : Obligations.RecoveryEventsComplete := by
  intro s e m d bound fenced step
  refine ⟨execRectangleReset_completes s, fun hv => ⟨execQuarantine_completes hv, execQuarantineRelease_completes hv⟩, execStructuralTest_completes,
    fun hv hstep hd hvalid => ⟨fun ha => ?_, fun ha => ?_⟩, fun hp => ?_, fun hv hstep => ⟨fun hk hs => ?_, fun hs => ?_⟩, fun hstep => ?_,
    execDieEvacuation_completes, execHeldState_completes s, fun hv h3 _ => execVoterReplacement_completes hv h3,
    fun hb => ⟨execBoot_ok hb, execBoot_held hb⟩, rfl, ⟨_, rfl, sameMemory_of_eq rfl rfl, _, rfl⟩⟩
  · refine ⟨_, execDieRetirement_asks hv hstep hd hvalid ha, sameMemory_of_eq rfl rfl, rfl, ?_⟩
    rw [(State.reports_hostEvent _ _).pendingSparing]
    exact (mem_sadd _ _ _).2 (.inl rfl)
  · exact ⟨_, execDieRetirement_fence hv hstep hd hvalid ha, s.fenceDie_fences d⟩
  · refine ⟨_, execSparingApproval_fence hp, State.fenceDie_fences _ d, fun hin => ?_⟩
    rw [State.fenceDie, (State.reports_sortHeld _).pendingSparing, (State.reports_hostEvent _ _).pendingSparing] at hin
    exact ((mem_sdel _ _ _).1 hin).1 rfl
  · exact ⟨_, execDieRetirement_binds hv hstep (fun _ => hk), s.bindDie_bound e.index hs d hstep⟩
  · exact ⟨_, execDieRetirement_binds hv hstep (fun h => absurd (h.symm.trans hs) nofun), s.bindDie_vacant e.index hs d hstep⟩
  · exact ⟨_, execDieRetirement_unfences hstep, s.unfenceDie_unfences d⟩

end

section
/-! PROOF. Finding a task after changes of it and of others. -/

namespace Sys2Proof.Machine

variable {s t : State} {k j : Nat} {u : Task} {f : Task → Task}

/-! ## The key -/

theorem Task.key_congr {u v : Task} (h1 : v.vi = u.vi) (h2 : v.wp = u.wp) : v.key = u.key := by rw [Task.key, h1, h2, Task.key]

@[simp] theorem Task.charge_key (u : Task) (es : List DWord) : (u.charge es).key = u.key := Task.key_congr (u.charge_vi es) (u.charge_wp es)

@[simp] theorem Task.putCopy_key (u c : Task) : (u.putCopy c).key = u.key := rfl

/-- The test by which a task is found. -/
def Task.hasKey (k : Nat) (u : Task) : Bool := u.key == k

theorem State.task?_key (h : s.task? k = some u) : u.key = k := by
  unfold State.task? at h
  split at h
  · next hc => cases h; exact hc.2
  · replace h : s.others.find? (Task.hasKey k) = some u := h
    have hk : Task.hasKey k u = true := List.find?_some h
    exact eq_of_beq hk

theorem State.task?_congr (hc : t.cur = s.cur) (ho : t.others = s.others) (k : Nat) : t.task? k = s.task? k := by
  rw [State.task?, hc, ho, State.task?]

/-! ## Changing a task -/

@[simp] theorem State.modTask_mem (s : State) (k : Nat) (f : Task → Task) : (s.modTask k f).mem = s.mem := by unfold State.modTask; split <;> rfl
@[simp] theorem State.modTask_poison (s : State) (k : Nat) (f : Task → Task) : (s.modTask k f).poison = s.poison := by unfold State.modTask; split <;> rfl
@[simp] theorem State.modTask_clock (s : State) (k : Nat) (f : Task → Task) : (s.modTask k f).clock = s.clock := by unfold State.modTask; split <;> rfl

theorem find?_modWhere_same {l : List Task} (h : l.find? (Task.hasKey k) = some u) (hk : Task.hasKey k (f u) = true) :
    (modWhere (Task.hasKey k) f l).find? (Task.hasKey k) = some (f u) := by
  induction l with
  | nil => cases h
  | cons e r ih =>
    rw [modWhere, List.map_cons]
    by_cases he : Task.hasKey k e = true
    · rw [List.find?_cons_of_pos he] at h
      cases h
      rw [if_pos he, List.find?_cons_of_pos hk]
    · rw [List.find?_cons_of_neg he] at h
      rw [if_neg he, List.find?_cons_of_neg he]
      exact ih h

theorem find?_modWhere_other (hjk : j ≠ k) (hf : ∀ x, (f x).key = x.key) (l : List Task) :
    (modWhere (Task.hasKey j) f l).find? (Task.hasKey k) = l.find? (Task.hasKey k) := by
  induction l with
  | nil => rfl
  | cons e r ih =>
    have hr : (r.map (fun x => if Task.hasKey j x then f x else x)).find? (Task.hasKey k) = r.find? (Task.hasKey k) := ih
    rw [modWhere, List.map_cons]
    by_cases hej : Task.hasKey j e = true
    · have hek : ¬ Task.hasKey k e = true := fun h => hjk ((eq_of_beq hej).symm.trans (eq_of_beq h))
      have hfk : ¬ Task.hasKey k (f e) = true := by rw [Task.hasKey, hf]; exact hek
      rw [if_pos hej, List.find?_cons_of_neg hfk, List.find?_cons_of_neg hek, hr]
    · rw [if_neg hej, List.find?_cons, List.find?_cons, hr]

theorem State.task?_modTask (h : s.task? k = some u) (hk : (f u).key = k) (hs : (f u).status ≠ .absent) : (s.modTask k f).task? k = some (f u) := by
  unfold State.task? at h
  unfold State.modTask
  split at h
  · next hc =>
    cases h
    rw [if_pos hc]
    exact if_pos ⟨hs, hk⟩
  · next hc =>
    rw [if_neg hc]
    exact (if_neg hc).trans (find?_modWhere_same h (by rw [Task.hasKey, hk, beq_self_eq_true]))

theorem State.task?_modTask_other (hjk : j ≠ k) (hf : ∀ x, (f x).key = x.key) : (s.modTask j f).task? k = s.task? k := by
  unfold State.modTask
  split
  · next hc =>
    have h1 : ¬ (s.cur.status ≠ .absent ∧ s.cur.key = k) := fun h => hjk (hc.2.symm.trans h.2)
    have h2 : ¬ ((f s.cur).status ≠ .absent ∧ (f s.cur).key = k) := fun h => hjk (hc.2.symm.trans ((hf _).symm.trans h.2))
    exact (if_neg h2).trans (if_neg h1).symm
  · unfold State.task?
    exact if_congr Iff.rfl rfl (find?_modWhere_other hjk hf s.others)

/-- What a task is as it enters the ready queue of its tile (R302). -/
def Task.readied (u : Task) (order since : Nat) : Task := { u with status := .ready, sch := { u.sch with level := u.prio, order := order, since := since } }

theorem Task.readied_key (u : Task) (order since : Nat) : (u.readied order since).key = u.key := rfl

theorem State.ready_eq (s : State) (k : Nat) :
    s.ready k = { s.modTask k (fun t => t.readied s.clock ((s.tile (s.taskGt t)).cycle).toNat) with clock := s.clock + 1 } := rfl

theorem State.task?_ready (h : s.task? k = some u) : (s.ready k).task? k = some (u.readied s.clock ((s.tile (s.taskGt u)).cycle).toNat) := by
  rw [State.ready_eq]
  exact State.task?_modTask (f := fun t => t.readied s.clock ((s.tile (s.taskGt t)).cycle).toNat) h ((u.readied_key _ _).trans (State.task?_key h)) nofun

@[simp] theorem State.ready_mem (s : State) (k : Nat) : (s.ready k).mem = s.mem := s.modTask_mem k _
@[simp] theorem State.ready_poison (s : State) (k : Nat) : (s.ready k).poison = s.poison := s.modTask_poison k _

/-! ## The issuing task -/

theorem State.select_cur (h : s.task? k = some u) : (s.select k).cur = u := by
  unfold State.task? at h
  unfold State.select
  split at h
  · next hc => cases h; rw [if_pos ⟨hc.2, hc.1⟩]
  · next hc => rw [if_neg (fun h => hc ⟨h.2, h.1⟩), h]

@[simp] theorem State.select_mem (s : State) (k : Nat) : (s.select k).mem = s.mem := by
  unfold State.select
  split
  · rfl
  · split <;> rfl

@[simp] theorem State.select_poison (s : State) (k : Nat) : (s.select k).poison = s.poison := by
  unfold State.select
  split
  · rfl
  · split <;> rfl

/-! ## The register cache -/

theorem State.task?_put (s : State) (a : Nat) (bs : List Byte) (marks : List Bool) (k : Nat) : (s.put a bs marks).task? k = s.task? k := rfl

theorem State.task?_setGran (s : State) (gt i : Nat) (g : Gran) (k : Nat) : (s.setGran gt i g).task? k = s.task? k := rfl

theorem State.task?_sramWrite (s : State) (ag vd gt : Nat) (own : List (Nat × Nat)) (off : Nat) (bs : List Byte) (marks : List Bool) (k : Nat) :
    (s.sramWrite ag vd gt own off bs marks).s.task? k = s.task? k := by
  refine foldl_keeps (fun (w : Wr) => w.s.task? k = s.task? k) _ _ _ rfl (fun w c hw => Eq.trans ?_ hw)
  unfold State.sramWrite1
  dsimp only
  split
  · rfl
  · split
    · rw [State.task?_setGran, State.task?_put, State.task?_put]
    · split
      · rw [State.task?_put]
      · rfl

theorem State.task?_storeWords (s : State) (gt vd base : Nat) (ws : List (Nat × DWord)) (k : Nat) : (s.storeWords gt vd base ws).1.task? k = s.task? k :=
  foldl_keeps (fun (r : State × List DWord) => r.1.task? k = s.task? k) _ _ _ rfl (fun _ _ hr => (State.task?_sramWrite _ _ _ _ _ _ _ _ k).trans hr)

theorem State.task?_writeLines_other (hjk : j ≠ k) (ls : List Nat) : (s.writeLines j ls).task? k = s.task? k := by
  unfold State.writeLines
  split
  · rfl
  · exact (State.task?_modTask_other hjk (fun x => x.charge_key _)).trans ((State.task?_storeWords _ _ _ _ _ k).trans (State.task?_storeWords _ _ _ _ _ k))

theorem State.task?_dropLines_other (hjk : j ≠ k) (ls : List Nat) : (s.dropLines j ls).task? k = s.task? k := by
  unfold State.dropLines
  split
  · rfl
  · refine (State.task?_modTask_other hjk (fun x => ?_)).trans (State.task?_writeLines_other hjk _)
    dsimp only
    split <;> rfl

/-- Making room for a task's lines leaves that task as it is. -/
theorem State.task?_makeRoom (s : State) (gt k n : Nat) : (s.makeRoom gt k n).task? k = s.task? k := by
  refine foldl_keeps (fun (x : State) => x.task? k = s.task? k) _ _ _ rfl (fun x v hx => Eq.trans ?_ hx)
  split
  · rfl
  · next hv => exact State.task?_dropLines_other (fun h => hv (.inr (.inl h))) _

/-- Where the lines fit, nothing has to go. -/
theorem State.makeRoom_of_fits (s : State) (gt k n : Nat) (h : s.usedLines gt + n ≤ 512) : s.makeRoom gt k n = s :=
  foldl_keeps (fun x => x = s) _ _ _ rfl (fun x v hx => by rw [hx, if_pos (.inl h)])

theorem Task.takeLine_vi (u : Task) (l : Nat) (d : List DWord) (mk : List Bool) : (u.takeLine l d mk).vi = u.vi := by
  simp only [Task.takeLine, Task.poison, Task.modSt, apply_ite Task.vi, ite_self]

theorem Task.takeLine_wp (u : Task) (l : Nat) (d : List DWord) (mk : List Bool) : (u.takeLine l d mk).wp = u.wp := by
  simp only [Task.takeLine, Task.poison, Task.modSt, apply_ite Task.wp, ite_self]

theorem Task.takeLine_status (u : Task) (l : Nat) (d : List DWord) (mk : List Bool) : (u.takeLine l d mk).status = u.status := by
  simp only [Task.takeLine, Task.poison, Task.modSt, apply_ite Task.status, ite_self]

theorem State.fillLine_key (s : State) (u : Task) (l : Nat) : (s.fillLine u l).key = u.key := by
  unfold State.fillLine
  rw [Task.charge_key]
  split
  · exact Task.key_congr (u.takeLine_vi l _ _) (u.takeLine_wp l _ _)
  · exact Task.key_congr (u.takeLine_vi l _ _) (u.takeLine_wp l _ _)

theorem State.fillLine_status (s : State) (u : Task) (l : Nat) : (s.fillLine u l).status = u.status := by
  unfold State.fillLine
  rw [Task.charge_status]
  split
  · exact u.takeLine_status l _ _
  · exact u.takeLine_status l _ _

theorem State.fillLine_absentLines (s : State) (u : Task) (l : Nat) : (s.fillLine u l).absentLines = u.absentLines.filter (· ≠ l) := by
  unfold State.fillLine
  rw [Task.charge_absentLines]
  split <;> rfl

/-- A task that has no absent line is filled already. -/
theorem State.fillLines_of_present (h : s.task? k = some u) (ha : u.absentLines = []) (ls : List Nat) : s.fillLines k ls = s := by
  have hf : ls.filter u.absentLines.contains = [] := by simp [ha]
  simp only [State.fillLines, h, hf, if_true]

/-- One line of a task is filled: the task is found again, with that line absent no more. -/
theorem State.task?_fillLines (h : s.task? k = some u) (hs : u.status ≠ .absent) (l : Nat) :
    ∃ y, (s.fillLines k [l]).task? k = some y ∧ y.status = u.status ∧ y.absentLines = u.absentLines.filter (· ≠ l) := by
  unfold State.fillLines
  rw [h]
  dsimp only
  by_cases hl : l ∈ u.absentLines
  · have hf : [l].filter u.absentLines.contains = [l] := by simp [hl]
    rw [hf, if_neg (List.cons_ne_nil l [])]
    have hx : ∀ x : State, x.task? k = s.task? k → (x.modTask k (fun v => [l].foldl x.fillLine v)).task? k = some (x.fillLine u l) := fun x hx =>
      State.task?_modTask (hx.trans h) ((x.fillLine_key u l).trans (State.task?_key h)) ((x.fillLine_status u l).symm ▸ hs)
    refine ⟨_, hx _ ?_, State.fillLine_status _ u l, State.fillLine_absentLines _ u l⟩
    split
    · exact s.task?_makeRoom _ k _
    · rfl
  · have hf : [l].filter u.absentLines.contains = [] := by simp [hl]
    rw [hf, if_pos rfl]
    refine ⟨u, h, rfl, (List.filter_eq_self.2 fun x hx => ?_).symm⟩
    simpa using fun hxl : x = l => hl (hxl ▸ hx)

end Sys2Proof.Machine
end

section
/-! PROOF. The scheduler's events (O35): ready, ageing, fills, admission and rotation (R195, R302 to R306). -/

namespace Sys2Proof.Machine

variable {s : State} {u : Task}

/-- A field that was written reads as what was written. -/
theorem bits_setBits_same (x : DWord) (lo n v : Nat) (h : lo + n ≤ 64) : bits (setBits x lo n v) lo n = v % 2 ^ n := by
  apply Nat.eq_of_testBit_eq
  intro i
  rw [bits, Nat.testBit_mod_two_pow, Nat.testBit_shiftRight, Nat.testBit_mod_two_pow, BitVec.testBit_toNat]
  by_cases hi : i < n
  · have h64 : lo + i < 64 := by omega
    rw [setBits, BitVec.getLsbD_or, BitVec.getLsbD_and, BitVec.getLsbD_not, BitVec.getLsbD_ofNat, BitVec.getLsbD_ofNat, Nat.testBit_shiftLeft,
      Nat.testBit_shiftLeft, Nat.add_sub_cancel_left, Nat.testBit_two_pow_sub_one, Nat.testBit_mod_two_pow]
    simp [hi, h64]
  · simp [hi]

theorem SameMemory.trans {s t u : State} (h : SameMemory s t) (h' : SameMemory t u) : SameMemory s u :=
  fun k => ⟨(h' k).1.trans (h k).1, (h' k).2.trans (h k).2⟩

/-- A parked task whose condition holds becomes ready (R302). -/
theorem execTaskReady_readies {p : Park} (hu : s.task? s.ev.key = some u) (hp : u.status = .parked p) (hj : u.sch.joining = 0) (hh : s.parkHolds u p = true) :
    execTaskReady s = .next (s.ready s.ev.key) := by
  simp only [execTaskReady, hu, hp, hh, if_true, State.readyAgain, hj, State.task?_key hu]

/-- A task that has stood 65,536 cycles at its level moves to the next (R305). -/
theorem execReadyAging_completes (hu : s.task? s.ev.key = some u) (hr : u.status = .ready) (hl : u.sch.level < 3) (hw : 65536 ≤ s.waited u) :
    Completes (execReadyAging s) (fun t => SameMemory s t ∧ ∃ y, t.task? s.ev.key = some y ∧
      y = { u with sch := { u.sch with level := u.sch.level + 1, order := s.clock, since := u.sch.since + 65536 } }) := by
  have hkey := State.task?_key hu
  have hrun : u.status = .ready ∧ u.sch.level < 3 ∧ 65536 ≤ s.waited u := ⟨hr, hl, hw⟩
  simp only [execReadyAging, hu, if_pos hrun, hkey]
  refine Completes.next ⟨sameMemory_of_eq (s.modTask_mem _ _) (s.modTask_poison _ _), _, State.task?_modTask hu hkey ?_, rfl⟩
  exact fun h => absurd (hr.symm.trans h) nofun

/-- A fill that fits changes no byte. -/
theorem State.fillLines_sameMemory {k : Nat} (hu : s.task? k = some u) (hc : u.inCache = true) (l : Nat)
    (hfit : s.usedLines (s.taskGt u) + (if u.redundant then 2 else 1) ≤ 512) : SameMemory s (s.fillLines k [l]) := by
  unfold State.fillLines
  rw [hu]
  dsimp only
  by_cases hl : l ∈ u.absentLines
  · have hf : [l].filter u.absentLines.contains = [l] := by simp [hl]
    rw [hf, if_neg (List.cons_ne_nil l []), if_pos hc, State.makeRoom_of_fits _ _ _ _ (by rw [List.length_singleton, Nat.one_mul]; exact hfit)]
    exact sameMemory_of_eq (s.modTask_mem _ _) (s.modTask_poison _ _)
  · have hf : [l].filter u.absentLines.contains = [] := by simp [hl]
    rw [hf, if_pos rfl]
    exact .refl s

/-- The line that a task waits for is filled, without a byte of memory changed where it fits (R195). -/
theorem execRegisterCacheFill_completes {l : Nat} (hu : s.task? s.ev.key = some u) (hp : u.status = .parked (.regLine l)) :
    Completes (execRegisterCacheFill s) (fun t => (s.usedLines (s.taskGt u) + (if u.redundant then 2 else 1) ≤ 512 → SameMemory s t) ∧
      ∃ y, t.task? s.ev.key = some y ∧ y.status = .ready ∧ l ∉ y.absentLines ∧ (∀ x, x ≠ l → (x ∈ y.absentLines ↔ x ∈ u.absentLines))) := by
  obtain ⟨y, hy, -, hlines⟩ := State.task?_fillLines hu (by rw [hp]; nofun) l
  simp only [execRegisterCacheFill, hu, hp, State.task?_key hu]
  refine Completes.next ⟨fun hfit => ?_, _, State.task?_ready hy, rfl, ?_, fun x hx => ?_⟩
  · exact (State.fillLines_sameMemory hu (by rw [Task.inCache, hp]) l hfit).trans (sameMemory_of_eq (State.ready_mem _ _) (State.ready_poison _ _))
  · rw [show (y.readied _ _).absentLines = y.absentLines from rfl, hlines]
    simp
  · rw [show (y.readied _ _).absentLines = y.absentLines from rfl, hlines]
    simp [hx]

/-- The task that a rotation takes out is one that holds a slot. -/
theorem State.rotated_resident {gt : Nat} {r : Task} (h : s.rotated gt = some r) : r.status = .resident := by
  unfold State.rotated at h
  refine List.foldlRecOn (motive := fun b => ∀ r : Task, b = some r → r.status = .resident) _ _ ?_ (fun b hb e he r h => ?_) r h
  · exact fun r h => nomatch h
  have hres : e.status = .resident := eq_of_beq (List.mem_filter.1 (List.mem_filter.1 he).1).2
  cases b with
  | none => cases h; exact hres
  | some v =>
    cases h
    unfold rotateFirst
    split
    · exact hb v rfl
    · exact hres

/-- A rotation takes a task out of its slot and keeps the slot for the head of level 3 (R306). -/
theorem execRotation_completes {h r : Task} {c : Nat} (hh : s.eligibleHead s.ev.gt = some h) (hr : s.rotated s.ev.gt = some r)
    (hsince : (s.tile s.ev.gt).headSince = some (h.key, c)) (hc : 65536 ≤ (s.tile s.ev.gt).cycle.toNat - c) (hw : (s.tile s.ev.gt).waitHead = none)
    (hfound : s.task? r.key = some r) :
    Completes (execRotation s) (fun t => SameMemory s t ∧ (t.tile s.ev.gt).waitHead = some h.key ∧
      ∃ y, t.task? r.key = some y ∧ y.status = .ready ∧ y.snaps = [] ∧ y.g = r.g) := by
  have hrun : h.key = h.key ∧ 65536 ≤ (s.tile s.ev.gt).cycle.toNat - c ∧ (s.tile s.ev.gt).waitHead = none := ⟨rfl, hc, hw⟩
  unfold execRotation
  dsimp only
  rw [hh, hr, hsince]
  dsimp only
  rw [if_pos hrun]
  have hout := State.task?_modTask (f := fun v => { v with snaps := [] }) hfound rfl
    (fun hs => absurd ((State.rotated_resident hr).symm.trans hs) nofun)
  refine Completes.next ⟨sameMemory_of_eq ((State.ready_mem _ _).trans (s.modTask_mem _ _)) ((State.ready_poison _ _).trans (s.modTask_poison _ _)), ?_, ?_⟩
  · rw [State.tile_modTile, if_pos rfl]
  · exact ⟨_, State.task?_ready hout, rfl, rfl, rfl⟩

/-! ## Admission (R304) -/

/-- A task as it stands in its slot: its claims are held. -/
def Task.seated (u : Task) (n now : Nat) : Task :=
  { u with status := .resident, slot := n
           hw := { u.hw with claim := setBits u.hw.claim 8 8 (bits u.hw.claim 0 8) }
           sch := { u.sch with resident := now, started := true } }

/-- A task whose lines are present and that nothing was saved of takes its slot at once. -/
theorem State.seat_cur (hu : s.task? u.key = some u) (ha : u.absentLines = []) (hs : u.sch.saved = false) (gt n : Nat) :
    SameMemory s (s.seat u gt n) ∧ (s.seat u gt n).cur = u.seated n (s.tile gt).cycle.toNat := by
  have hmod := State.task?_modTask (f := fun x => x.seated n (s.tile gt).cycle.toNat) hu rfl nofun
  unfold State.seat
  extract_lets now s1
  have h1 : s1.task? u.key = some (u.seated n now) := hmod
  have hfill : s1.fillLines u.key [5, 7] = s1 := State.fillLines_of_present h1 ha _
  have hsaved : s1.fillSaved u.key = s1 := by simp [State.fillSaved, h1, Task.seated, hs]
  rw [hfill, hsaved]
  exact ⟨sameMemory_of_eq ((s1.select_mem _).trans (s.modTask_mem _ _)) ((s1.select_poison _).trans (s.modTask_poison _ _)), State.select_cur h1⟩

theorem execTaskAdmission_seats (hn : s.ev.slot < 16) (hfree : s.slotFree s.ev.gt s.ev.slot = true) (hq : (s.tile s.ev.gt).quarantined = false)
    (hg : (s.tile s.ev.gt).gated = false) (hadm : s.admitted s.ev.gt s.ev.slot = some u) (hs : u.sch.saved = false) :
    execTaskAdmission s = .next (s.seat u s.ev.gt s.ev.slot) := by
  have hrun : ¬ (16 ≤ s.ev.slot ∨ s.slotFree s.ev.gt s.ev.slot = false ∨ (s.tile s.ev.gt).quarantined = true ∨ (s.tile s.ev.gt).gated = true) := by
    simp [hfree, hq, hg, hn]
  have hstored : s.unstored u = false := by simp [State.unstored, hs]
  unfold execTaskAdmission
  dsimp only
  rw [if_neg hrun, hadm]
  dsimp only
  rw [hstored, hs]
  rfl

end Sys2Proof.Machine

open Sys2Proof.Machine

/-- Settles O35: each event changes the one task that it is about, which is found again as its rule has it. -/
theorem schedulerEventsComplete : Obligations.SchedulerEventsComplete := by
  intro s u
  refine ⟨fun hu => ⟨fun p hp hj hh => ?_, execReadyAging_completes hu, fun l => execRegisterCacheFill_completes hu⟩,
    fun hn hfree hq hg hadm hs ha hu => ?_, fun h r c => execRotation_completes⟩
  · exact ⟨_, execTaskReady_readies hu hp hj hh, sameMemory_of_eq (s.ready_mem _) (s.ready_poison _), _, State.task?_ready hu, rfl, rfl, rfl, rfl⟩
  · obtain ⟨hmem, hcur⟩ := State.seat_cur hu ha hs s.ev.gt s.ev.slot
    refine ⟨_, execTaskAdmission_seats hn hfree hq hg hadm hs, hmem, ?_⟩
    rw [hcur]
    refine ⟨rfl, rfl, rfl, ?_, rfl, rfl⟩
    exact (bits_setBits_same _ _ _ _ (by omega)).trans (Nat.mod_eq_of_lt (Nat.mod_lt _ (by omega)))

end

section
/-! PROOF. Commands of a task whose lines are all in the register cache (R195, R223): what changing its registers and retiring a command do. -/

namespace Sys2Proof.Machine

variable {s : State} {k j : Nat} {u : Task} {f : Task → Task}

/-! ## A task at hand -/

/-- The task with a key, when it exists and every line of it is present in the register cache. -/
structure State.AtHand (s : State) (k : Nat) (u : Task) : Prop where
  found : s.task? k = some u
  cached : u.inCache = true
  present : u.absentLines = []

theorem Task.status_of_inCache (h : u.inCache = true) : u.status ≠ .absent := by
  intro ha
  rw [Task.inCache, ha] at h
  cases h

namespace State.AtHand

theorem of_resident (h : s.task? k = some u) (hr : u.status = .resident) (ha : u.absentLines = []) : s.AtHand k u :=
  ⟨h, by rw [Task.inCache, hr], ha⟩

theorem congr {t : State} (h : s.AtHand k u) (ht : t.task? k = s.task? k) : t.AtHand k u := ⟨ht.trans h.found, h.cached, h.present⟩

theorem modTile (h : s.AtHand k u) (gt : Nat) (g : Tile → Tile) : (s.modTile gt g).AtHand k u := h.congr rfl

theorem setV (h : s.AtHand k u) (gt : Nat) (c : Cmd) : (s.setV gt c).AtHand k u := h.modTile gt _

theorem setM (h : s.AtHand k u) (gt : Nat) (c : Cmd) : (s.setM gt c).AtHand k u := h.modTile gt _

/-- Its registers change where they are. -/
theorem onLines (h : s.AtHand k u) (ls : List Nat) (f : Task → Task) : s.onLines k ls f = s.modTask k f := by
  unfold State.onLines
  rw [h.found]
  dsimp only
  rw [State.fillLines_of_present h.found h.present, if_pos h.cached]

theorem fillFor (h : s.AtHand k u) (ls : List Nat) : s.fillFor k ls = s := by
  unfold State.fillFor
  rw [h.found]
  dsimp only
  rw [if_pos h.cached, State.fillLines_of_present h.found h.present]

theorem cmdTask {c : Cmd} (h : s.AtHand c.key u) : s.cmdTask c = u := by
  unfold State.cmdTask
  rw [show s.task? (c.vi * 2 ^ 56 + c.wp.toNat) = some u from h.found]
  dsimp only
  rw [State.filled, h.present, List.foldl_nil]

theorem modTask (h : s.AtHand k u) (hk : (f u).key = u.key) (hs : (f u).status = u.status) (ha : (f u).absentLines = []) : (s.modTask k f).AtHand k (f u) := by
  have hc : (f u).inCache = true := by rw [Task.inCache, hs]; exact h.cached
  exact ⟨State.task?_modTask h.found (hk.trans (State.task?_key h.found)) (Task.status_of_inCache hc), hc, ha⟩

theorem modTask_eq {v : Task} (h : s.AtHand k u) (hv : f u = v) (hk : v.key = u.key) (hs : v.status = u.status) (ha : v.absentLines = []) :
    (s.modTask k f).AtHand k v := by
  subst hv
  exact h.modTask hk hs ha

end State.AtHand

theorem State.tile_modTask (s : State) (k : Nat) (f : Task → Task) (g : Nat) : (s.modTask k f).tile g = s.tile g := by
  rw [State.tile, modTask_tiles, State.tile]

/-! ## Waking (R302) -/

theorem State.task?_ready_other (hjk : j ≠ k) : (s.ready j).task? k = s.task? k := by
  rw [State.ready_eq]
  exact State.task?_modTask_other hjk (fun x => x.readied_key _ _)

/-- A task as it is in another place of the schedule. -/
def Task.placed (u : Task) (status : TaskStatus) (sch : Sched) : Task := { u with status := status, sch := sch }

theorem State.AtHand.ready (h : s.AtHand k u) (j : Nat) : ∃ status sch, (s.ready j).AtHand k (u.placed status sch) := by
  by_cases hjk : j = k
  · subst hjk
    exact ⟨_, _, State.task?_ready h.found, rfl, h.present⟩
  · exact ⟨u.status, u.sch, h.congr (State.task?_ready_other hjk)⟩

theorem State.AtHand.wake (h : s.AtHand k u) (p : Task → Park → Bool) : ∃ status sch, (s.wake p).AtHand k (u.placed status sch) := by
  refine foldl_keeps (fun (x : State) => ∃ status sch, x.AtHand k (u.placed status sch)) _ _ _ ⟨u.status, u.sch, h⟩ (fun x v hx => ?_)
  obtain ⟨status, sch, hx⟩ := hx
  obtain ⟨status', sch', hx'⟩ := hx.ready v.key
  exact ⟨status', sch', hx'⟩

theorem State.AtHand.wakeAfter (h : s.AtHand k u) (gt key : Nat) : ∃ status sch, (s.wakeAfter gt key).AtHand k (u.placed status sch) := by
  unfold State.wakeAfter
  exact h.wake _

theorem State.wake_tiles (s : State) (p : Task → Park → Bool) : (s.wake p).tiles = s.tiles :=
  foldl_keeps (fun (x : State) => x.tiles = s.tiles) _ _ _ rfl (fun x _ hx => (modTask_tiles x _ _).trans hx)

theorem State.wake_sameMemory (s : State) (p : Task → Park → Bool) : SameMemory s (s.wake p) :=
  foldl_keeps (fun (x : State) => SameMemory s x) _ _ _ (.refl s) (fun x _ hx => hx.trans (sameMemory_of_eq (x.ready_mem _) (x.ready_poison _)))

theorem State.modTask_sameMemory (s : State) (k : Nat) (f : Task → Task) : SameMemory s (s.modTask k f) :=
  sameMemory_of_eq (s.modTask_mem k f) (s.modTask_poison k f)

/-! ## Granules that a command had made busy (R137) -/

theorem State.AtHand.clearBusy (h : s.AtHand k u) (l : List (Nat × Nat)) : ∃ status sch, (s.clearBusy l).AtHand k (u.placed status sch) := by
  unfold State.clearBusy
  refine State.AtHand.wake (foldl_keeps (fun (x : State) => x.AtHand k u) _ _ _ h (fun x g hx => ?_)) _
  split
  · exact hx.congr (x.task?_setGran _ _ _ k)
  · exact hx

theorem State.clearBusy_sameMemory (s : State) (l : List (Nat × Nat)) : SameMemory s (s.clearBusy l) := by
  unfold State.clearBusy
  refine SameMemory.trans (foldl_keeps (fun (x : State) => SameMemory s x) _ _ _ (.refl s) (fun x g hx => ?_)) (State.wake_sameMemory _ _)
  split
  · exact hx.trans (sameMemory_of_eq rfl rfl)
  · exact hx

/-! ## A command that leaves its engine (R76, R138, R387) -/

/-- What the end of a command leaves of its task's registers: all but its flags and its crust entries. -/
structure Task.Retired (u y : Task) (flags : BitVec 7) : Prop where
  g : y.g = u.g
  v : y.v = u.v
  box : y.box = u.box
  scope : y.scope = u.scope
  pois : y.st.pois = u.st.pois
  taint : y.st.taint = u.st.taint
  fpflags : y.st.fpflags = mergeFlags u.st.fpflags flags

theorem Task.Retired.poisV {y : Task} {flags : BitVec 7} (h : u.Retired y flags) (d : BitVec 4) : y.poisV d = u.poisV d := by
  unfold Task.poisV Task.liveV
  rw [h.scope, h.pois]

theorem Task.Retired.taintV {y : Task} {flags : BitVec 7} (h : u.Retired y flags) (d : BitVec 4) : y.taintV d = u.taintV d := by
  unfold Task.taintV Task.liveV
  rw [h.scope, h.taint]

/-- The flags and the crust entries of a command join its task's. -/
def Task.ends (u : Task) (flags : BitVec 7) (crust : List DWord) : Task :=
  (u.modSt (fun x => { x with fpflags := mergeFlags x.fpflags flags })).charge crust

theorem Task.ends_retired (u : Task) (flags : BitVec 7) (crust : List DWord) : u.Retired (u.ends flags crust) flags := by
  unfold Task.ends Task.charge
  split <;> exact ⟨rfl, rfl, rfl, rfl, rfl, rfl, rfl⟩

theorem Task.Retired.placed {y : Task} {flags : BitVec 7} (h : u.Retired y flags) (status : TaskStatus) (sch : Sched) : u.Retired (y.placed status sch) flags :=
  ⟨h.g, h.v, h.box, h.scope, h.pois, h.taint, h.fpflags⟩

/-- The command's task is at hand still, and no byte has changed. -/
theorem State.AtHand.retireCmd {c : Cmd} (h : s.AtHand c.key u) (gt : Nat) (flags : BitVec 7) :
    SameMemory s (s.retireCmd gt c flags) ∧ ∃ y, (s.retireCmd gt c flags).AtHand c.key y ∧ u.Retired y flags := by
  unfold State.retireCmd
  extract_lets inWin s1 s2 s3
  have hs1 : s1 = s.modTask c.key (fun t => t.ends flags c.crust) := h.onLines _ _
  have h1 : s1.AtHand c.key (u.ends flags c.crust) := by
    rw [hs1]
    exact h.modTask (Task.charge_key _ _) (Task.charge_status _ _) ((Task.charge_absentLines _ _).trans h.present)
  have h2 : ∃ status sch, s2.AtHand c.key ((u.ends flags c.crust).placed status sch) := by
    unfold s2
    split
    · exact ⟨_, _, h1⟩
    · exact ⟨_, _, h1.modTask rfl rfl h1.present⟩
  obtain ⟨_, _, h2⟩ := h2
  obtain ⟨_, _, h3⟩ := h2.clearBusy c.busy
  have h3' : s3.AtHand c.key _ := h3.modTile gt _
  obtain ⟨_, _, h4⟩ := h3'.wakeAfter gt c.key
  have hm1 : SameMemory s s1 := hs1 ▸ s.modTask_sameMemory _ _
  have hm2 : SameMemory s1 s2 := by
    unfold s2
    split
    · exact .refl s1
    · exact s1.modTask_sameMemory _ _
  refine ⟨((hm1.trans hm2).trans (s2.clearBusy_sameMemory c.busy)).trans (SameMemory.trans (sameMemory_of_eq rfl rfl) (State.wake_sameMemory s3 _)), _, h4, ?_⟩
  exact (((u.ends_retired flags c.crust).placed _ _).placed _ _).placed _ _

/-- The command has left its queue. -/
theorem State.retireCmd_queues (s : State) (gt : Nat) (c : Cmd) (flags : BitVec 7) :
    (∀ o ∈ ((s.retireCmd gt c flags).tile gt).vq, o.seq ≠ c.seq) ∧ (∀ o ∈ ((s.retireCmd gt c flags).tile gt).mq, o.seq ≠ c.seq) := by
  unfold State.retireCmd
  extract_lets inWin s1 s2 s3
  have ht : (s3.wakeAfter gt c.key).tile gt = s3.tile gt := by
    unfold State.wakeAfter State.tile
    rw [State.wake_tiles]
  rw [ht]
  unfold s3
  rw [State.tile_modTile, if_pos rfl]
  exact ⟨fun o ho => by simpa using (List.mem_filter.1 ho).2, fun o ho => by simpa using (List.mem_filter.1 ho).2⟩

end Sys2Proof.Machine
end

section
/-! PROOF. The engines' events (O34): vector and matrix commands begin and complete, and results fill boxes (R24, R205, R222 to R225). -/

namespace Sys2Proof.Machine

variable {s : State} {c : Cmd} {u : Task} {f : VForm}

/-! ## The queues (R24) -/

theorem mem_of_headCmd {q : List Cmd} {slot : Nat} (h : headCmd q slot = some c) : c ∈ q := List.mem_of_find?_eq_some h

theorem State.setV_vq (s : State) (gt : Nat) (c : Cmd) : ((s.setV gt c).tile gt).vq = modWhere (fun o => o.seq == c.seq) (fun _ => c) (s.tile gt).vq := by
  unfold State.setV
  rw [State.tile_modTile, if_pos rfl]

theorem State.setM_mq (s : State) (gt : Nat) (c : Cmd) : ((s.setM gt c).tile gt).mq = modWhere (fun o => o.seq == c.seq) (fun _ => c) (s.tile gt).mq := by
  unfold State.setM
  rw [State.tile_modTile, if_pos rfl]

/-- A command that replaces one of its number stands in the queue. -/
theorem mem_modWhere_seq {q : List Cmd} {o : Cmd} (ho : o ∈ q) (hseq : o.seq = c.seq) : c ∈ modWhere (fun o => o.seq == c.seq) (fun _ => c) q :=
  List.mem_map.2 ⟨o, ho, if_pos (beq_iff_eq.2 hseq)⟩

/-- The slot that an engine serves next is one that it can serve. -/
theorem nextSlot_can {last n : Nat} {can : Nat → Bool} (h : nextSlot last can = some n) : can n = true := List.find?_some h

theorem State.vCan_of_vNext {gt slot : Nat} (h : s.vNext gt = some slot) (hc : headCmd (s.tile gt).vq slot = some c) (hf : c.vform = some f) :
    s.vCan gt slot = some (c, f) := by
  have hcan := nextSlot_can h
  unfold State.vCan at hcan ⊢
  rw [hc] at hcan ⊢
  dsimp only at hcan ⊢
  rw [hf] at hcan ⊢
  dsimp only at hcan ⊢
  split
  · rfl
  · next hn => rw [if_neg hn] at hcan; cases hcan

theorem State.mCan_of_mNext {gt slot : Nat} (h : s.mNext gt = some slot) (hc : headCmd (s.tile gt).mq slot = some c) : s.mCan gt slot = some c := by
  have hcan := nextSlot_can h
  unfold State.mCan at hcan ⊢
  rw [hc] at hcan ⊢
  dsimp only at hcan ⊢
  split
  · rfl
  · next hn => rw [if_neg hn] at hcan; cases hcan

/-! ## A vector command begins (R222, R223) -/

theorem Task.noteV_absentLines (u : Task) (ns : List (BitVec 4)) : (u.noteV ns).absentLines = u.absentLines := by unfold Task.noteV; split <;> rfl

/-- A command that reads neither memory nor a page, as it begins. -/
def Cmd.begun (c : Cmd) (f : VForm) (u : Task) : Cmd :=
  let tagged (pv : BitVec 4 → Bool) (pm : BitVec 2 → Bool) : Bool := f.reads.any pv || (match f.msk with | some m => pm m | none => false)
  { c with
    phase := .begun
    ops := f.reads.map u.rdV
    mask := match f.msk with | some m => u.rdM m | none => 0
    pois := c.poisA || c.poisB || tagged u.poisV u.poisM || false
    taint := c.taintA || c.taintB || tagged u.taintV u.taintM
    bytes := [], grants := [], busy := [], crust := [] }

theorem State.AtHand.beginV (h : s.AtHand c.key u) (gt : Nat) (hm : f.mem = .none) (hg : c.grants = []) (hbad : ∀ e, (f.eff e).bad = none) :
    s.beginV gt c f = (s.setV gt (c.begun f u)).modTask c.key (fun v => v.noteV f.reads) := by
  have hmark : s.markBusy gt [] = (s, []) := rfl
  simp only [State.beginV, hm, hg, h.fillFor, State.vRead, State.vDest, hmark, h.cmdTask, hbad]
  exact (h.setV gt (c.begun f u)).onLines [5] _

theorem execVectorCommandBegin_completes (h : s.AtHand c.key u) (hc : headCmd (s.tile s.ev.gt).vq s.ev.slot = some c) (hf : c.vform = some f)
    (hm : f.mem = .none) (hnext : s.vNext s.ev.gt = some s.ev.slot) (hg : c.grants = []) (hbad : ∀ e, (f.eff e).bad = none) :
    Completes (execVectorCommandBegin s) (fun t => SameMemory s t ∧ ∃ x ∈ (t.tile s.ev.gt).vq, x.seq = c.seq ∧ x.phase = .begun ∧ x.ops = f.reads.map u.rdV ∧
      x.mask = (match f.msk with | some m => u.rdM m | none => 0)) := by
  simp only [execVectorCommandBegin, State.vCan_of_vNext hnext hc hf, hnext, if_true, h.beginV s.ev.gt hm hg hbad]
  refine Completes.next ⟨SameMemory.trans (State.modTask_sameMemory (s.setV s.ev.gt (c.begun f u)) _ _) (sameMemory_of_eq rfl rfl), c.begun f u, ?_, rfl, rfl, rfl, rfl⟩
  rw [State.tile_modTile, if_pos rfl]
  rw [State.tile_modTask, State.setV_vq]
  exact mem_modWhere_seq (mem_of_headCmd hc) rfl

/-! ## A vector command completes (R223, R225) -/

theorem bit_setBit_same (x : DWord) (n : Nat) (b : Bool) (hn : n < 64) : bit (setBit x n b) n = b := by rw [bit_setBit x n b n hn, if_pos rfl]

/-- A live V register takes its value and its tags, and no other register changes (R200). -/
theorem Task.wrV_live (u : Task) (d : BitVec 4) (x : BitVec 2048) (p ta : Bool) (hl : u.liveV d = true) :
    (u.wrV d x p ta).v[d.toNat] = x ∧ (u.wrV d x p ta).poisV d = p ∧ (u.wrV d x p ta).taintV d = (u.det && ta) ∧
    (∀ r : BitVec 4, r ≠ d → (u.wrV d x p ta).v[r.toNat] = u.v[r.toNat]) ∧ (u.wrV d x p ta).g = u.g ∧ (u.wrV d x p ta).st.fpflags = u.st.fpflags := by
  have hn : tagV + d.toNat < 64 := by unfold tagV; omega
  have hw : u.wrV d x p ta = { u with v := u.v.set d.toNat x
                                      st := { u.st with pois := setBit u.st.pois (tagV + d.toNat) p, taint := setBit u.st.taint (tagV + d.toNat) (u.det && ta) } } := by
    rw [Task.wrV, if_pos hl]
  rw [hw]
  refine ⟨by simp, ?_, ?_, fun r hr => ?_, rfl, rfl⟩
  · change (u.liveV d && bit (setBit u.st.pois (tagV + d.toNat) p) (tagV + d.toNat)) = p
    rw [hl, bit_setBit_same _ _ _ hn, Bool.true_and]
  · change (u.liveV d && bit (setBit u.st.taint (tagV + d.toNat) (u.det && ta)) (tagV + d.toNat)) = (u.det && ta)
    rw [hl, bit_setBit_same _ _ _ hn, Bool.true_and]
  · have hne : d.toNat ≠ r.toNat := fun he => hr (BitVec.eq_of_toNat_eq he).symm
    exact Vector.getElem_set_ne (by omega) (by omega) hne

theorem Task.wrV_key (u : Task) (d : BitVec 4) (x : BitVec 2048) (p ta : Bool) : (u.wrV d x p ta).key = u.key := by unfold Task.wrV; split <;> rfl
theorem Task.wrV_status (u : Task) (d : BitVec 4) (x : BitVec 2048) (p ta : Bool) : (u.wrV d x p ta).status = u.status := by unfold Task.wrV; split <;> rfl
theorem Task.wrV_absentLines (u : Task) (d : BitVec 4) (x : BitVec 2048) (p ta : Bool) : (u.wrV d x p ta).absentLines = u.absentLines := by
  unfold Task.wrV; split <;> rfl

/-- A command with one destination and no mask destination writes that register. -/
theorem State.AtHand.vRegs (h : s.AtHand c.key u) {d : BitVec 4} {x : BitVec 2048} {r : VRes} (hd : f.dsts = [d]) (hmd : f.mdst = none) (hr : r.v = [x]) :
    SameMemory s (s.vRegs c f r) ∧ (s.vRegs c f r).AtHand c.key
      (u.wrV d x (c.pois || r.pois || (f.keeps && f.msk.isSome && u.poisV d)) (c.taint || (f.keeps && f.msk.isSome && u.taintV d))) := by
  have hu : ({ u with absentLines := [] } : Task) = u := by rw [← h.present]
  unfold State.vRegs
  dsimp only
  rw [h.onLines]
  refine ⟨s.modTask_sameMemory _ _, h.modTask_eq ?_ (Task.wrV_key _ _ _ _ _) (Task.wrV_status _ _ _ _ _) ((Task.wrV_absentLines _ _ _ _ _).trans h.present)⟩
  simp only [h.present, List.filter_nil, hu, hd, hr, hmd, List.zip_cons_cons, List.zip_nil_right, List.foldl_cons, List.foldl_nil]

theorem State.fillBox_of_none (s : State) (hr : c.result = none) : s.fillBox c = some s := by
  unfold State.fillBox
  rw [hr]

theorem State.vBlockPut_of_none (s : State) (gt : Nat) (r : VRes) (hz : f.z = none) : s.vBlockPut gt f r = s := by
  unfold State.vBlockPut
  rw [hz]

theorem State.vWrite_of_none (s : State) (gt : Nat) (hm : f.mem = .none) : s.vWrite gt c f = (s, []) := by
  unfold State.vWrite
  rw [hm]

theorem State.vDest_of_none (s : State) (gt : Nat) (p : Option Nat) (hm : f.mem = .none) : s.vDest gt c f p = (gt, []) := by
  unfold State.vDest
  rw [hm]

/-- A command with its result formed, for which no box is to be filled. -/
def Cmd.formed (c : Cmd) (flags : BitVec 7) : Cmd := { c with crust := c.crust ++ [], flags := flags.setWidth 64, result := none }

/-- Such a command completes in one step: its registers are written, and it retires. -/
theorem State.AtHand.execVectorCommandComplete_eq (h : s.AtHand c.key u) (hc : headCmd (s.tile s.ev.gt).vq s.ev.slot = some c) (hf : c.vform = some f)
    (hm : f.mem = .none) (hz : f.z = none) (hp : c.phase = .begun) (hb : f.box = none) :
    let r := f.eff (s.vEnv s.ev.gt c f u)
    execVectorCommandComplete s = .next (((s.vRegs c f r).setV s.ev.gt (c.formed r.fl)).retireCmd s.ev.gt (c.formed r.fl) r.fl) := by
  have hrun : ¬ (c.phase ≠ .begun ∨ ([] : List (Nat × Nat)).any (fun r => (s.writeHeld c.key (.sram s.ev.gt r.1) r.2).isSome) = true) := by simp [hp]
  intro r
  simp only [execVectorCommandComplete, hc, hf, s.vDest_of_none _ _ hm, if_neg hrun, h.cmdTask, s.vBlockPut_of_none _ _ hz, s.vWrite_of_none _ hm, hb]
  rw [State.fillBox_of_none _ rfl]
  rfl

theorem execVectorCommandComplete_completes (h : s.AtHand c.key u) (hc : headCmd (s.tile s.ev.gt).vq s.ev.slot = some c) (hf : c.vform = some f)
    (hm : f.mem = .none) (hz : f.z = none) {d : BitVec 4} {x : BitVec 2048} (hp : c.phase = .begun) (hb : f.box = none) (hmd : f.mdst = none) (hd : f.dsts = [d])
    (hl : u.liveV d = true) (hx : (f.eff (s.vEnv s.ev.gt c f u)).v = [x]) :
    Completes (execVectorCommandComplete s) (fun t => SameMemory s t ∧ (∀ o ∈ (t.tile s.ev.gt).vq, o.seq ≠ c.seq) ∧ ∃ y, t.task? c.key = some y ∧ y.v[d.toNat] = x ∧
      y.poisV d = (c.pois || (f.eff (s.vEnv s.ev.gt c f u)).pois || ((f.keeps && f.msk.isSome) && u.poisV d)) ∧
      y.taintV d = (u.det && (c.taint || ((f.keeps && f.msk.isSome) && u.taintV d))) ∧
      (∀ r : BitVec 4, r ≠ d → y.v[r.toNat] = u.v[r.toNat]) ∧ y.g = u.g ∧ y.st.fpflags = mergeFlags u.st.fpflags (f.eff (s.vEnv s.ev.gt c f u)).fl) := by
  obtain ⟨hm1, h1⟩ := h.vRegs hd hmd hx
  rw [h.execVectorCommandComplete_eq hc hf hm hz hp hb]
  refine Completes.next ?_
  generalize f.eff (s.vEnv s.ev.gt c f u) = r at *
  have h2 : ((s.vRegs c f r).setV s.ev.gt (c.formed r.fl)).AtHand (c.formed r.fl).key _ := h1.setV _ _
  obtain ⟨hm2, y, hy, hret⟩ := h2.retireCmd s.ev.gt r.fl
  obtain ⟨hv, hpois, htaint, hother, hg, hfl⟩ := u.wrV_live d x (c.pois || r.pois || (f.keeps && f.msk.isSome && u.poisV d)) (c.taint || (f.keeps && f.msk.isSome && u.taintV d)) hl
  refine ⟨(hm1.trans (sameMemory_of_eq rfl rfl)).trans hm2, (State.retireCmd_queues _ _ _ _).1, y, hy.found, ?_, ?_, ?_, fun r hr => ?_, ?_, ?_⟩
  · rw [hret.v]; exact hv
  · rw [hret.poisV]; exact hpois
  · rw [hret.taintV]; exact htaint
  · rw [hret.v]; exact hother r hr
  · rw [hret.g]; exact hg
  · rw [hret.fpflags, hfl]

/-! ## Boxes (R205) -/

/-- An empty box is filled. -/
theorem State.AtHand.fillBox (h : s.AtHand c.key u) {n : Nat} {v : DWord} {p ta : Bool} (hn : n < 4) (hres : c.result = some (n, v, p, ta))
    (hfull : (u.box[n]).full = false) (hdet : u.det = false) :
    ∃ s1 y, s.fillBox c = some s1 ∧ SameMemory s s1 ∧ s1.AtHand c.key y ∧ y.box[n] = ⟨v, p, false, true⟩ ∧ y.g = u.g := by
  have hold : u.box.toList.getD n {} = u.box[n] := by simp [hn]
  obtain ⟨ta', q, hfill⟩ : ∃ (ta' : Bool) (q : Task → Park → Bool), s.fillBox c =
      some ((s.modTask c.key (fun w => { w with box := w.box.set! n ⟨v, p, w.det && ta', true⟩ })).wake q) := by
    unfold State.fillBox
    rw [hres]
    dsimp only
    rw [h.cmdTask, hold, if_neg (by rw [hfull]; exact Bool.false_ne_true), h.onLines]
    exact ⟨_, _, rfl⟩
  obtain ⟨status, sch, hy⟩ := (h.modTask (f := fun w => { w with box := w.box.set! n ⟨v, p, w.det && ta', true⟩ }) rfl rfl h.present).wake q
  refine ⟨_, _, hfill, (s.modTask_sameMemory _ _).trans (State.wake_sameMemory _ _), hy, ?_, rfl⟩
  change (u.box.set! n ⟨v, p, u.det && ta', true⟩)[n] = _
  simp [hdet]

theorem execBoxWrite_completes (h : s.AtHand c.key u) {n : Nat} (hn : n < 4) {v : DWord} {p ta : Bool}
    (hc : headCmd (if s.ev.kind = 0 then (s.tile s.ev.gt).vq else (s.tile s.ev.gt).mq) s.ev.slot = some c) (hp : c.phase = .boxWait)
    (hres : c.result = some (n, v, p, ta)) (hfull : (u.box[n]).full = false) (hdet : u.det = false) :
    Completes (execBoxWrite s) (fun t => SameMemory s t ∧ ∃ y, t.task? c.key = some y ∧ y.box[n] = ⟨v, p, false, true⟩ ∧ y.g = u.g) := by
  obtain ⟨s1, y, hfill, hm1, h1, hbox, hg⟩ := h.fillBox hn hres hfull hdet
  obtain ⟨hm2, z, hz, hret⟩ := h1.retireCmd s.ev.gt (c.flags.setWidth 7)
  simp only [execBoxWrite, hc, hp, hfill, ne_eq, not_true_eq_false, if_false]
  exact Completes.next ⟨hm1.trans hm2, z, hz.found, by rw [hret.box]; exact hbox, hret.g.trans hg⟩

/-! ## Matrix commands (R248, R249) -/

theorem State.blk_modBlk (s : State) (gt n : Nat) (f : Block → Block) : (s.modBlk gt n f).blk gt n = f (s.blk gt n) := by
  unfold State.modBlk State.blk
  rw [State.tile_modTile, if_pos rfl]
  exact (tget_tmod _ _ _ _).trans (if_pos rfl)

/-- A command that only its block is changed by begins. -/
theorem execMatrixCommandBegin_completes (hc : headCmd (s.tile s.ev.gt).mq s.ev.slot = some c) (hnext : s.mNext s.ev.gt = some s.ev.slot) {n : Nat} {g : Block → Block}
    (hbegin : s.beginM s.ev.gt c = (s.modBlk s.ev.gt n g).setM s.ev.gt { c with phase := .begun }) :
    Completes (execMatrixCommandBegin s) (fun t => SameMemory s t ∧ t.blk s.ev.gt n = g (s.blk s.ev.gt n) ∧
      ∃ x ∈ (t.tile s.ev.gt).mq, x.seq = c.seq ∧ x.phase = .begun) := by
  simp only [execMatrixCommandBegin, State.mCan_of_mNext hnext hc, hnext, if_true, hbegin]
  refine Completes.next ⟨sameMemory_of_eq rfl rfl, ?_, { c with phase := .begun }, ?_, rfl, rfl⟩
  · refine Eq.trans ?_ (s.blk_modBlk s.ev.gt n g)
    unfold State.blk
    rw [State.tile_modTile, if_pos rfl, State.setM, State.tile_modTile, if_pos rfl]
  · rw [State.tile_modTile, if_pos rfl]
    change _ ∈ (State.tile (State.setM _ _ _) _).mq
    rw [State.setM_mq, State.modBlk, State.tile_modTile, if_pos rfl]
    exact mem_modWhere_seq (mem_of_headCmd hc) rfl

theorem State.beginM_mxcfg (gt : Nat) {a : BitVec 5} {d : BitVec 3} {q : BitVec 4} (hi : c.instr = .mxcfg a d q) (hw : cfgWide c.ga = false)
    (h0 : d = 0 → (s.blk gt 0).mode ≠ 2) :
    s.beginM gt c = (s.modBlk gt d.toNat (fun _ => { mode := 1, config := c.ga })).setM gt { c with phase := .begun } := by
  have hzero : ¬ (d.toNat = 0 ∧ (s.blk gt d.toNat).mode = 2) := fun hz => h0 (BitVec.eq_of_toNat_eq hz.1) (hz.1 ▸ hz.2)
  simp only [State.beginM, hi, hw, Bool.false_eq_true, if_false, State.setBlock, if_neg hzero]
  rw [if_neg (by decide)]

theorem State.beginM_mxzero (s : State) (gt : Nat) {d : BitVec 3} {q : BitVec 4} (hi : c.instr = .mxzero d q) :
    s.beginM gt c = (s.modBlk gt d.toNat (fun b => { b with cells := [], fkind := 0, fcell := 0 })).setM gt { c with phase := .begun } := by
  unfold State.beginM
  rw [hi]

theorem State.settleHolds_mq (s : State) (k gt : Nat) : ((s.settleHolds k).tile gt).mq = (s.tile gt).mq := by
  unfold State.settleHolds
  split
  · rfl
  · dsimp only
    rw [State.tile_modTile]
    split
    · next h => rw [h]
    · rfl

theorem State.settleHolds_sameMemory (s : State) (k : Nat) : SameMemory s (s.settleHolds k) := by
  unfold State.settleHolds
  split
  · exact .refl s
  · exact sameMemory_of_eq rfl rfl

theorem execMatrixCommandComplete_mxzero (h : s.AtHand c.key u) (hc : headCmd (s.tile s.ev.gt).mq s.ev.slot = some c) {d : BitVec 3} {q : BitVec 4}
    (hi : c.instr = .mxzero d q) (hp : c.phase = .begun) (hr : c.result = none) :
    Completes (execMatrixCommandComplete s) (fun t => SameMemory s t ∧ (∀ o ∈ (t.tile s.ev.gt).mq, o.seq ≠ c.seq)) := by
  have hdest : s.mDest s.ev.gt c = [] := by unfold State.mDest; rw [hi]
  have hwrite : s.mWrite s.ev.gt c = (s, []) := by unfold State.mWrite; rw [hi]
  have hrun : ¬ (c.phase ≠ .begun ∨ ([] : List (Nat × Nat × Nat)).any (fun r => (s.writeHeld c.key (.sram r.1 r.2.1) r.2.2).isSome) = true) := by simp [hp]
  let c1 : Cmd := { c with crust := c.crust ++ [] }
  have h1 : (s.setM s.ev.gt c1).AtHand c1.key u := h.setM s.ev.gt c1
  obtain ⟨hm2, y, -, -⟩ := h1.retireCmd s.ev.gt (c1.flags.setWidth 7)
  have heq : execMatrixCommandComplete s = .next (((s.setM s.ev.gt c1).retireCmd s.ev.gt c1 (c1.flags.setWidth 7)).settleHolds c.key) := by
    simp only [execMatrixCommandComplete, hc, hdest, hwrite, if_neg hrun]
    rw [State.fillBox_of_none _ (show Cmd.result { c with crust := c.crust ++ [] } = none from hr)]
  rw [heq]
  refine Completes.next ⟨SameMemory.trans (t := s.setM s.ev.gt c1) (sameMemory_of_eq rfl rfl) (hm2.trans (State.settleHolds_sameMemory _ _)), ?_⟩
  rw [State.settleHolds_mq]
  exact (State.retireCmd_queues _ _ _ _).2

end Sys2Proof.Machine

open Sys2Proof.Machine

/-- Settles O34: the task is at hand, so that each event reads and changes its registers where they are. -/
theorem engineEventsComplete : Obligations.EngineEventsComplete := by
  intro s c u gt hu hr ha
  have h : s.AtHand c.key u := .of_resident hu hr ha
  refine ⟨fun hc f hf hm hz => ⟨fun hnext hg hbad => execVectorCommandBegin_completes h hc hf hm hnext hg hbad,
      fun d x hp hb hmd hd hl hx => execVectorCommandComplete_completes h hc hf hm hz hp hb hmd hd hl hx⟩,
    fun hc => ⟨fun hnext => ⟨fun a d q hi hw h0 => ?_, fun d q hi => ?_⟩, fun d q hi hp hres => execMatrixCommandComplete_mxzero h hc hi hp hres⟩,
    fun n hn v p ta hc hp hres hfull hdet => execBoxWrite_completes h hn hc hp hres hfull hdet⟩
  · exact execMatrixCommandBegin_completes hc hnext (State.beginM_mxcfg gt hi hw h0)
  · exact execMatrixCommandBegin_completes hc hnext (State.beginM_mxzero s gt hi)

end

section
/-! PROOF. What stands before an instruction's own effect (R40, R51, R52): its word (O58), the checks of its encoding and its guard (O51). -/

namespace Sys2Proof.Machine

variable {i : Instr} {q : BitVec 4} {s : State} {body : State → Act} {code : Nat} {addr info : DWord}

/-! ## Traps (R371) -/

/-- A precise fault whose record holds the instruction word; the instruction-fetch fault 0x03 holds none (R372). -/
theorem traps_of_finish (hc : code ≠ 0x03) (he : exec i s = finish i (.trap s { code := code, addr := addr, info := info })) : Traps i s code addr info := by
  unfold Traps
  rw [he]
  simp [finish, State.raise, hc]

theorem traps_of_run (he : ∀ s, exec i s = run i q s body) (hr : Runs s q) (hb : body s = .trap s { code := code, addr := addr, info := info }) (hc : code ≠ 0x03) :
    Traps i s code addr info :=
  traps_of_finish hc (by rw [he, run_of_runs i q s body hr, hb])

/-- R372 numbers a G register by its own number, its file being 0. -/
theorem faultReg_G (s : State) (code n : Nat) : faultReg s code 0 n = .trap s { code := code, info := dw n } := by
  simp [faultReg]

/-! ## Guards (R39, R40, R203) -/

theorem Task.guard_iff (t : Task) (q : BitVec 4) :
    t.guard q = true ↔ q = 0 ∨ (8 ≤ q.toNat ∧ t.rdP (q.toNat - 8) = true) ∨ (q ≠ 0 ∧ q.toNat < 8 ∧ t.rdP q.toNat = false) := by
  have hsense : q.getLsbD 3 = decide (8 ≤ q.toNat) := by revert q; decide
  unfold Task.guard
  rw [hsense]
  by_cases h0 : q = 0#4
  · simp [h0]
  by_cases h8 : 8 ≤ q.toNat
  · have hq : q.toNat % 8 = q.toNat - 8 := by omega
    simp [h0, h8, hq, Nat.not_lt.2 h8]
  · simp [h0, h8, Nat.mod_eq_of_lt (Nat.lt_of_not_le h8), Nat.lt_of_not_le h8]

theorem Task.guardTainted_of_taintP {t : Task} (hd : t.det = true) (hq : q ≠ 0) (hp : t.taintP (q.toNat % 8) = true) : t.guardTainted q = true := by
  simp only [Task.guardTainted, hd, bne_iff_ne.2 hq, hp, Bool.and_self]

theorem run_of_guard_false (ht : s.cur.guardTainted q = false) (hg : s.cur.guard q = false) : run i q s body = .next (s.advance i.length) := by
  simp [run, ht, hg]

theorem run_of_guardTainted (ht : s.cur.guardTainted q = true) : run i q s body = finish i (faultReg s 0x0E 3 (q.toNat % 8)) := by
  simp [run, ht]

/-! ## The order of the checks (R51) -/

/-- WRSR is for the supervisor alone at two of its registers. -/
theorem ite_runSup {c : Bool} : (if c then runSup else run) i q s body = if c then runSup i q s body else run i q s body := by
  split <;> rfl

/-- What a guarded instruction does: the privilege check, or that of SR.VTYPE, then its guard, then its body. -/
theorem exec_of_guardOf (h : guardOf i = some q) : ∃ body, ∀ s, exec i s =
    if supervisorOnly i then runSup i q s body else if typedVector i then vtyped i s (run i q s body) else run i q s body := by
  cases i with
  | wrsr e a =>
    cases h
    exact ⟨_, fun _ => ite_runSup⟩
  | _ => cases h <;> exact ⟨_, fun _ => rfl⟩

theorem length_of_guardOf (h : guardOf i = some q) : i.length = 4 := by
  cases i <;> cases h <;> rfl

theorem supervisorOnly_of_typedVector (h : typedVector i = true) : supervisorOnly i = false := by
  cases i <;> cases h <;> rfl

theorem traps_of_supervisorOnly (h : guardOf i = some q) (hi : supervisorOnly i = true) (hs : s.cur.sup = false) : Traps i s 0x02 0 0 := by
  obtain ⟨body, he⟩ := exec_of_guardOf h
  refine traps_of_finish (by decide) ?_
  rw [he, if_pos hi, runSup, hs]
  rfl

theorem traps_of_typedVector (h : guardOf i = some q) (hi : typedVector i = true) (hv : s.vtypeOk = false) : Traps i s 0x01 0 0 := by
  obtain ⟨body, he⟩ := exec_of_guardOf h
  refine traps_of_finish (by decide) ?_
  have hno : ¬ acceptsIntFlt (BitVec.ofNat 5 (bits s.cur.st.vtype 0 5)) = true := Bool.eq_false_iff.1 hv
  rw [he, supervisorOnly_of_typedVector hi, if_neg Bool.false_ne_true, if_pos hi, vtyped, if_neg hno]
  rfl

/-- Past the checks of its encoding a guarded instruction is its guard and its body. -/
theorem exec_eq_run (h : guardOf i = some q) (hsup : supervisorOnly i = true → s.cur.sup = true) (hty : typedVector i = true → s.vtypeOk = true) :
    ∃ body, exec i s = run i q s body := by
  obtain ⟨body, he⟩ := exec_of_guardOf h
  refine ⟨body, (he s).trans ?_⟩
  split
  next hi => rw [runSup, if_pos (hsup hi)]
  next =>
  split
  next hi => exact if_pos (hty hi)
  next => rfl

theorem exec_of_guard_false (h : guardOf i = some q) (hsup : supervisorOnly i = true → s.cur.sup = true) (hty : typedVector i = true → s.vtypeOk = true)
    (ht : s.cur.guardTainted q = false) (hg : s.cur.guard q = false) : exec i s = .next (s.advance 4) := by
  obtain ⟨body, he⟩ := exec_eq_run h hsup hty
  rw [he, run_of_guard_false ht hg, length_of_guardOf h]

theorem traps_of_guardTainted (h : guardOf i = some q) (hsup : supervisorOnly i = true → s.cur.sup = true) (hty : typedVector i = true → s.vtypeOk = true)
    (ht : s.cur.guardTainted q = true) : Traps i s 0x0E 0 (dw (96 + q.toNat % 8)) := by
  obtain ⟨body, he⟩ := exec_eq_run h hsup hty
  exact traps_of_finish (by decide) (he.trans (run_of_guardTainted ht))

end Sys2Proof.Machine

open Sys2Proof.Machine

/-- Settles O58: each word is read by the decoder's own rows. -/
theorem specExampleWordsDecode : Obligations.SpecExampleWordsDecode :=
  ⟨rfl, rfl, rfl, rfl, rfl, rfl, rfl, rfl, rfl, rfl, rfl, rfl, rfl, rfl⟩

/-- Settles O51: every guarded instruction is `run` behind the checks of its encoding (`exec_of_guardOf`). -/
theorem falseGuardOnlyAdvances : Obligations.FalseGuardOnlyAdvances := by
  refine ⟨fun i q s h => ⟨traps_of_supervisorOnly h, traps_of_typedVector h, fun hsup hty => ⟨exec_of_guard_false h hsup hty, fun hd hq hp => ?_⟩,
    s.cur.guard_iff q⟩, fun s s1 bs w n hf => (step_of_fetches hf).2 w n⟩
  exact traps_of_guardTainted h hsup hty (Task.guardTainted_of_taintP hd hq hp)

end

section
/-! PROOF. Where operands stop an instruction (O52): privilege, poison and taint of registers, address checks, alignment, and targets. -/

namespace Sys2Proof.Machine

variable {i : Instr} {q : BitVec 4} {s : State} {body : State → Act} {k : Act} {b t : BitVec 5} {disp : BitVec 8} {size : Nat}

/-! ## Operand registers (R201, R203) -/

theorem checkRegs_poisoned (hp : (s.cur.rdG b).p = true) : checkRegs s [b] k = .trap s { code := 0x0D, info := dw b.toNat } := by
  simp [checkRegs, hp, faultReg_G]

theorem checkRegs_tainted (hp : (s.cur.rdG b).p = false) (hd : s.cur.det = true) (ht : (s.cur.rdG b).t = true) :
    checkRegs s [b] k = .trap s { code := 0x0E, info := dw b.toNat } := by
  simp [checkRegs, hp, hd, ht, faultReg_G]

theorem checkTaint_tainted (hd : s.cur.det = true) (ht : (s.cur.rdG t).t = true) : checkTaint s [t] k = .trap s { code := 0x0E, info := dw t.toNat } := by
  simp [checkTaint, hd, ht, faultReg_G]

/-- The instruction stops at a poisoned base register, and in deterministic mode at a tainted one. -/
def TrapsOnBase (i : Instr) (b : BitVec 5) (s : State) : Prop :=
  ((s.cur.rdG b).p = true → Traps i s 0x0D 0 (dw b.toNat)) ∧
  ((s.cur.rdG b).p = false → s.cur.det = true → (s.cur.rdG b).t = true → Traps i s 0x0E 0 (dw b.toNat))

theorem trapsOnBase_of_checkRegs (he : ∀ s, exec i s = run i q s body) (hr : Runs s q) (hb : body s = checkRegs s [b] k) : TrapsOnBase i b s :=
  ⟨fun hp => traps_of_run he hr (hb.trans (checkRegs_poisoned hp)) (by decide),
    fun hp hd ht => traps_of_run he hr (hb.trans (checkRegs_tainted hp hd ht)) (by decide)⟩

/-! ## Addresses (R42, R92, R207) -/

theorem memAddr_eq (base : DWord) (disp : BitVec 8) (size : Nat) : memAddr base disp size = base + BitVec.ofInt 64 (disp.toInt * size) := by
  rw [BitVec.ofInt_mul, BitVec.ofInt_natCast]
  rfl

theorem chkAct_addressFault {α : Type} {x : Nat} (a : Nat) (k : α → Act) (h4 : 4 ≤ x) (h8 : x ≤ 8) : chkAct s a (.trap x) k = faultAt s x a :=
  if_pos ⟨Nat.le_of_succ_le h4, h8⟩

/-- The instruction stops at an address that fails its check, and at a misaligned one, when its base register is clean. -/
def TrapsOnAddress (i : Instr) (disp : BitVec 8) (b : BitVec 5) (s : State) (right size : Nat) : Prop :=
  let a := (s.gv b + BitVec.ofInt 64 (disp.toInt * size)).toNat
  CleanG s [b] →
  (∀ x, s.check s.cur.who (s.taskGt s.cur) right a size = .trap x → 4 ≤ x → x ≤ 8 → Traps i s x (dw a) 0) ∧
  (∀ l, s.check s.cur.who (s.taskGt s.cur) right a size = .ok l → a % size ≠ 0 → Traps i s 0x06 (dw a) 0)

theorem trapsOnAddress_of_check {right : Nat} {access : Loc → Act} (he : ∀ s, exec i s = run i q s body) (hr : Runs s q)
    (hb : CleanG s [b] → body s = let a := (memAddr (s.gv b) disp size).toNat
      chkAct s a (s.check s.cur.who (s.taskGt s.cur) right a size) (fun l => if a % size ≠ 0 then faultAt s 0x06 a else access l)) :
    TrapsOnAddress i disp b s right size := by
  intro hclean
  have hbody := hb hclean
  rw [memAddr_eq] at hbody
  dsimp only at hbody
  refine ⟨fun x hx h4 h8 => traps_of_run he hr (hbody.trans ?_) (by omega), fun l hl ha => traps_of_run he hr (hbody.trans ?_) (by decide)⟩
  · rw [hx]
    exact chkAct_addressFault _ _ h4 h8
  · rw [hl]
    exact if_pos ha

/-! ## Loads and stores (R207, R208) -/

theorem trapsOnBase_of_load {acq signed : Bool} {ctrl : Nat} (hr : Runs s q) (he : ∀ s, exec i s = run i q s (loadAct acq signed size ctrl disp b t)) :
    TrapsOnBase i b s :=
  trapsOnBase_of_checkRegs he hr rfl

theorem trapsOnBase_of_store {ctrl rel : Bool} (hr : Runs s q) (he : ∀ s, exec i s = run i q s (storeAct size ctrl rel disp b t)) : TrapsOnBase i b s :=
  trapsOnBase_of_checkRegs he hr rfl

theorem trapsOnAddress_of_load {acq signed : Bool} {ctrl : Nat} (hr : Runs s q) (he : ∀ s, exec i s = run i q s (loadAct acq signed size ctrl disp b t)) :
    TrapsOnAddress i disp b s rRD size :=
  trapsOnAddress_of_check he hr (fun hclean => checkRegs_clean s [b] _ hclean)

theorem trapsOnAddress_of_store {ctrl rel : Bool} (hr : Runs s q) (ht : (s.cur.det && (s.cur.rdG t).t) = false)
    (he : ∀ s, exec i s = run i q s (storeAct size ctrl rel disp b t)) : TrapsOnAddress i disp b s rWR size :=
  trapsOnAddress_of_check he hr (fun hclean => (checkRegs_clean s [b] _ hclean).trans (checkTaint_clean s t _ ht))

/-- The data of a store is checked for taint alone, after its base register. -/
theorem traps_of_store_tainted {ctrl rel : Bool} (hr : Runs s q) (he : ∀ s, exec i s = run i q s (storeAct size ctrl rel disp b t)) (hclean : CleanG s [b])
    (hd : s.cur.det = true) (ht : (s.cur.rdG t).t = true) : Traps i s 0x0E 0 (dw t.toNat) :=
  traps_of_run he hr ((checkRegs_clean s [b] _ hclean).trans (checkTaint_tainted hd ht)) (by decide)

/-! ## Compares and transfers (R324, R326) -/

theorem traps_of_cmp_poisoned {n : BitVec 3} {f : DWord → DWord → Bool} (hr : Runs s q) (he : ∀ s, exec i s = run i q s (cmpInto t b n f))
    (hp : (s.cur.rdG b).p = true) : Traps i s 0x0D 0 (dw b.toNat) :=
  traps_of_run he hr ((if_pos hp).trans (faultReg_G s 0x0D b.toNat)) (by decide)

theorem traps_of_transfer_unprepared {n : BitVec 3} {jump : BitVec 56 → Act} (hr : Runs s q) (hn : s.cur.prepared n = false)
    (he : ∀ s, exec i s = run i q s body) (hb : body s = transfer s n jump) : Traps i s 0x0C 0 0 :=
  traps_of_run he hr (hb.trans (by rw [transfer, hn]; rfl)) (by decide)

end Sys2Proof.Machine

open Sys2Proof.Machine

/-- Settles O52: each instruction checks its operands in the order of its entry, and the first check that fails is the trap. -/
theorem privilegeAndOperandFaultsTrap : Obligations.PrivilegeAndOperandFaultsTrap := by
  refine ⟨fun e a q s hs => ⟨traps_of_supervisorOnly rfl rfl hs, traps_of_supervisorOnly rfl rfl hs, fun he => traps_of_supervisorOnly rfl ?_ hs⟩, ?_⟩
  · rcases he with rfl | rfl <;> rfl
  intro i c n b t q s hr base addr
  refine ⟨?loadBase, ?loadAddr, ?storeBase, fun ht => ?storeAddr, ?storeData, ?cmp, fun hn => ?transfer⟩
  case loadBase =>
    refine ⟨?_, ?_, ?_, ?_, ?_, ?_, ?_, ?_⟩
    all_goals exact trapsOnBase_of_load hr (fun _ => rfl)
  case loadAddr =>
    refine ⟨?_, ?_, ?_, ?_, ?_, ?_⟩
    all_goals exact trapsOnAddress_of_load hr (fun _ => rfl)
  case storeBase =>
    refine ⟨?_, ?_, ?_, ?_⟩
    all_goals exact trapsOnBase_of_store hr (fun _ => rfl)
  case storeAddr =>
    refine ⟨?_, ?_, ?_⟩
    all_goals exact trapsOnAddress_of_store hr ht (fun _ => rfl)
  case storeData =>
    simp only [List.forall_mem_cons]
    refine ⟨?_, ?_, ?_, ?_, List.forall_mem_nil _⟩
    all_goals exact traps_of_store_tainted hr (fun _ => rfl)
  case cmp =>
    simp only [List.forall_mem_cons]
    refine ⟨?_, ?_, ?_, ?_, ?_, ?_, List.forall_mem_nil _⟩
    all_goals exact traps_of_cmp_poisoned hr (fun _ => rfl)
  case transfer =>
    refine ⟨traps_of_transfer_unprepared hr hn (fun _ => rfl) rfl, traps_of_transfer_unprepared hr hn (fun _ => rfl) rfl, fun hp ht => ?_, fun hp ht => ?_,
      fun hclean h1 => ?_⟩
    · exact traps_of_transfer_unprepared hr hn (fun _ => rfl) ((if_neg (Bool.eq_false_iff.1 ht)).trans (if_pos hp))
    · exact traps_of_transfer_unprepared hr hn (fun _ => rfl) ((if_neg (Bool.eq_false_iff.1 ht)).trans (if_neg (Bool.eq_false_iff.1 hp)))
    · have hc : s.gv t - 1 ≠ 0 := fun h => h1 (by bv_omega)
      exact traps_of_transfer_unprepared hr hn (fun _ => rfl) ((checkRegs_clean s [t] _ hclean).trans (if_neg hc))

end

section
/-! PROOF. Instructions that wait (O54): a full engine queue, an empty box, a busy block (R24, R61, R206, R270, R342). -/

namespace Sys2Proof.Machine

variable {i : Instr} {q : BitVec 4} {s : State} {body : State → Act} {p : Park}

/-! ## Full queues (R24) -/

theorem exec_of_plainVector (h : plainVector i = true) : exec i s = vPlain i s := by
  cases i <;> cases h <;> rfl

theorem exec_of_shortVector (h : shortVector i = true) : exec i s = vtyped i s (vPlain i s) := by
  cases i <;> cases h <;> rfl

theorem vForm_of_plainVector (h : plainVector i = true) (ga vt : DWord) : ∃ f, vForm i ga vt = some f := by
  cases i <;> cases h <;> exact ⟨_, rfl⟩

theorem vForm_of_shortVector (h : shortVector i = true) (ga vt : DWord) : ∃ f, vForm i ga vt = some f := by
  cases i <;> cases h <;> exact ⟨_, rfl⟩

theorem vPlain_of_vFull {f : VForm} (hf : vForm i 0 s.cur.st.vtype = some f) (hfull : s.vFull = true) : vPlain i s = .next { s with stalled := true } := by
  have hissue : issueV i [] false false s id noCheck = .retry s := by
    unfold issueV
    simp only [hf, hfull, Bool.or_true, if_true]
  rw [vPlain, run0, hissue]
  rfl

/-! ## Parks (R61, R342) -/

/-- An instruction that parks, for something that a handler may not wait for and that its task need not ask for. -/
theorem parks_of_run (he : ∀ s, exec i s = run i q s body) (hr : Runs s q) (hb : body s = .park s p) (hw : p.handlerWait = true) (hn : s.noteWait p = s) :
    (s.cur.hnd = false → exec i s =
      .next { s with cur := { s.cur with status := .parked p, snaps := [], sch := { s.cur.sch with again := some i, why := some p } }, stalled := false }) ∧
    (s.cur.hnd = true → Traps i s 0x0F 0 0) := by
  have hpark : exec i s = finish i (.park s p) := by rw [he, run_of_runs i q s body hr, hb]
  refine ⟨fun hh => ?_, fun hh => traps_of_finish (by decide) ?_⟩
  · rw [hpark]
    simp [finish, hh, hn]
  · rw [hpark]
    simp [finish, hh, hw]

end Sys2Proof.Machine

open Sys2Proof.Machine

/-- Settles O54: a full queue is the retry of `issueV`, and the other waits are parks for a box and a block. -/
theorem parkAndRetryChangeNothing : Obligations.ParkAndRetryChangeNothing := by
  refine fun a d n z q s => ⟨fun i hfull hi => ?_, fun hr => ?_⟩
  · rcases hi with hi | ⟨hi, hty⟩
    · obtain ⟨f, hf⟩ := vForm_of_plainVector hi 0 s.cur.st.vtype
      rw [exec_of_plainVector hi, vPlain_of_vFull hf hfull]
    · obtain ⟨f, hf⟩ := vForm_of_shortVector hi 0 s.cur.st.vtype
      rw [exec_of_shortVector hi, vtyped, if_pos hty, vPlain_of_vFull hf hfull]
  intro waits
  refine ⟨fun hbox => ?mbr, fun hclaim hview hbusy => ?mxwait, fun hbox => ?mbw⟩
  case mbr => exact parks_of_run (fun _ => rfl) hr (if_neg (Bool.eq_false_iff.1 hbox)) rfl rfl
  case mxwait =>
    have hviews : (s.cur.claims z.toNat && [0, 1, 2, 3].contains (s.cur.view z.toNat)) = true := by
      simp only [hclaim, List.contains_eq_mem, List.mem_cons, List.not_mem_nil, Bool.true_and, decide_eq_true_eq]
      omega
    exact parks_of_run (fun _ => rfl) hr ((if_pos hviews).trans (if_pos hbusy)) rfl rfl
  case mbw => exact traps_of_run (fun _ => rfl) hr (if_pos hbox) (by decide)

end

section
/-! PROOF. Memory and the poison marks in canonical form (R108): the writes that reach memory keep it, and so does whatever else leaves memory as it is. -/

namespace Sys2Proof.Machine

/-! ## Sets of marks -/

theorem risingSet_cons (a : Nat) (r : List Nat) : risingSet (a :: r) = true ↔ risingSet r = true ∧ ∀ b ∈ r.head?, a < b := by
  cases r with
  | nil => simp [risingSet]
  | cons b r => simp [risingSet, and_comm]

theorem risingSet_iff_pairwise (l : List Nat) : risingSet l = true ↔ l.Pairwise (· < ·) := by
  induction l with
  | nil => simp [risingSet]
  | cons a r ih =>
    rw [risingSet_cons, ih, List.pairwise_cons, and_comm]
    refine and_congr_left fun hr => ⟨fun h b hb => ?_, fun h b hb => h b (List.mem_of_mem_head? hb)⟩
    cases r with
    | nil => exact absurd hb List.not_mem_nil
    | cons c r =>
      rcases List.mem_cons.1 hb with rfl | hb
      · exact h b rfl
      · exact lt_trans (h c rfl) (List.rel_of_pairwise_cons hr hb)

theorem risingSet_filter (p : Nat → Bool) {l : List Nat} (h : risingSet l = true) : risingSet (l.filter p) = true := by
  rw [risingSet_iff_pairwise] at h ⊢
  exact h.filter p

theorem risingSet_sadd {l : List Nat} (h : risingSet l = true) (a : Nat) : risingSet (sadd l a) = true := by
  rw [risingSet_iff_pairwise] at h ⊢
  induction l with
  | nil => exact List.pairwise_singleton _ _
  | cons b r ih =>
    obtain ⟨hb, hr⟩ := List.pairwise_cons.1 h
    unfold sadd
    split
    · next hab => exact List.pairwise_cons.2 ⟨fun c hc => (List.mem_cons.1 hc).elim (· ▸ hab) (fun hc => lt_trans hab (hb c hc)), h⟩
    · split
      · exact h
      · refine List.pairwise_cons.2 ⟨fun c hc => ?_, ih hr⟩
        rcases (mem_sadd _ _ _).1 hc with rfl | hc
        · omega
        · exact hb c hc

theorem risingSet_foldl_sadd {α : Type} (f : α → Nat) (l : List α) {p : List Nat} (h : risingSet p = true) :
    risingSet (l.foldl (fun p i => sadd p (f i)) p) = true :=
  foldl_keeps (fun p => risingSet p = true) _ l p h (fun _ i hp => risingSet_sadd hp (f i))

theorem risingSet_markCells {p : List Nat} (h : risingSet p = true) (k : Nat) (marks : List Bool) (n : Nat) :
    risingSet (markCells p k marks n) = true := by
  induction n with
  | zero => exact h
  | succ n ih =>
    unfold markCells
    dsimp only
    split
    · exact risingSet_sadd ih _
    · split
      · exact risingSet_filter _ ih
      · exact ih

/-! ## Runs of memory -/

theorem tableWf_tinsert {α : Type} [DecidableEq α] {d : α} {t : List (Nat × α)} (h : tableWf d t = true) (a : Nat) {v : α} (hv : v ≠ d) :
    tableWf d (tinsert t a v) = true := by
  have := tableWf_tset t a v h
  rwa [tset, if_neg hv] at this

theorem tableWf_filter {α : Type} [DecidableEq α] {d : α} {t : List (Nat × α)} (h : tableWf d t = true) (p : Nat × α → Bool) :
    tableWf d (t.filter p) = true := by
  simp only [tableWf, Bool.and_eq_true, List.all_eq_true] at h ⊢
  exact ⟨rising_filter p t h.1, fun e he => h.2 e (List.mem_of_mem_filter he)⟩

theorem copyRun_wf {m : List Host.Cell} (h : Memory.wf m = true) (src dst n : Nat) : Memory.wf (copyRun m src dst n) = true := by
  have hne : ∀ e ∈ m.filter (fun e => decide (src ≤ e.1) && decide (e.1 < src + n)), e.2 ≠ unlistedByte := fun e he => by
    simp only [Memory.wf, tableWf, Bool.and_eq_true, List.all_eq_true] at h
    exact of_decide_eq_true (h.2 e (List.mem_of_mem_filter he))
  unfold copyRun
  generalize m.filter (fun e => decide (src ≤ e.1) && decide (e.1 < src + n)) = l at hne
  have h0 : Memory.wf (m.filter (fun e => !(decide (dst ≤ e.1) && decide (e.1 < dst + n)))) = true := tableWf_filter h _
  generalize m.filter (fun e => !(decide (dst ≤ e.1) && decide (e.1 < dst + n))) = r at h0
  induction l generalizing r with
  | nil => exact h0
  | cons e l ih => exact ih (fun x hx => hne x (List.mem_cons_of_mem _ hx)) _ (tableWf_tinsert h0 _ (hne e List.mem_cons_self))

/-! ## States -/

namespace State.MemoryForm

variable {s t : State}

/-- What leaves memory and its marks alone keeps their form. -/
theorem of_eq (h : s.MemoryForm) (hm : t.mem = s.mem) (hp : t.poison = s.poison) : t.MemoryForm := ⟨hm ▸ h.1, hp ▸ h.2⟩

/-- A change of the other parts of the state. -/
theorem update {cur others tiles dies vis md resv stores owedBumps owedLeaves msgs colls tagUses agenda ev stalled defer clock fresh} (h : s.MemoryForm) :
    State.MemoryForm
      { cur := cur, others := others, mem := s.mem, poison := s.poison, tiles := tiles, dies := dies, vis := vis, md := md, resv := resv, stores := stores,
        owedBumps := owedBumps, owedLeaves := owedLeaves, msgs := msgs, colls := colls, tagUses := tagUses, agenda := agenda, ev := ev, stalled := stalled,
        defer := defer, clock := clock, fresh := fresh } := h

theorem foldl {α : Type} {f : State → α → State} {l : List α} (h : s.MemoryForm) (hf : ∀ (x : State) (a : α), x.MemoryForm → (f x a).MemoryForm) :
    (l.foldl f s).MemoryForm :=
  foldl_keeps State.MemoryForm f l s h hf

theorem foldl_fst {α β : Type} {f : State × β → α → State × β} {l : List α} {b : β} (h : s.MemoryForm)
    (hf : ∀ (r : State × β) (a : α), r.1.MemoryForm → (f r a).1.MemoryForm) : (l.foldl f (s, b)).1.MemoryForm :=
  foldl_keeps (fun r => r.1.MemoryForm) f l _ h hf

theorem foldl_wr {α : Type} {f : Wr → α → Wr} {l : List α} {w : Wr} (h : w.s.MemoryForm)
    (hf : ∀ (w : Wr) (a : α), w.s.MemoryForm → (f w a).s.MemoryForm) : (l.foldl f w).s.MemoryForm :=
  foldl_keeps (fun w => w.s.MemoryForm) f l w h hf

theorem of_fst {β : Type} {p : State × β} {b : β} (h : p.1.MemoryForm) (hp : p = (t, b)) : t.MemoryForm := by
  rwa [hp] at h

theorem put (h : s.MemoryForm) {k : Nat} {bs : List Byte} {marks : List Bool} : (s.put k bs marks).MemoryForm :=
  ⟨put_wf s k bs marks h.1, risingSet_markCells h.2 _ _ _⟩

theorem copyBytes (h : s.MemoryForm) {src dst n : Nat} : (s.copyBytes src dst n).MemoryForm := by
  unfold State.copyBytes
  split
  · exact h
  · refine ⟨copyRun_wf h.1 src dst n, ?_⟩
    exact foldl_keeps (fun p => risingSet p = true) _ _ _ (risingSet_filter _ h.2) (fun p k hp => risingSet_sadd hp _)

theorem clearBytes (h : s.MemoryForm) {k n : Nat} : (s.clearBytes k n).MemoryForm := ⟨tableWf_filter h.1 _, h.2⟩

theorem poisonRun (h : s.MemoryForm) {k n : Nat} : (s.poisonRun k n).MemoryForm := ⟨h.1, risingSet_foldl_sadd _ _ h.2⟩

end State.MemoryForm

/-- The state in which an instruction ends, whichever way it ends, keeps the memory form. -/
inductive ActForm : Act → Prop where
  | next {s : State} : s.MemoryForm → ActForm (.next s)
  | jump {s : State} {pc : BitVec 56} : s.MemoryForm → ActForm (.jump s pc)
  | left {s : State} : s.MemoryForm → ActForm (.left s)
  | trap {s : State} {x : TrapInfo} : s.MemoryForm → ActForm (.trap s x)
  | park {s : State} {p : Park} : s.MemoryForm → ActForm (.park s p)
  | retry {s : State} : s.MemoryForm → ActForm (.retry s)
  | freeze {s : State} {c : Nat} : s.MemoryForm → ActForm (.freeze s c)

/-- The next state, where there is one, keeps the memory form. -/
inductive NextForm : Host.Outcome State Fault Refusal → Prop where
  | next {s : State} : s.MemoryForm → NextForm (.next s)
  | fault {r : Fault} : NextForm (.fault r)
  | refused {r : Refusal} : NextForm (.refused r)

/-- The state that a result holds, where it holds one, keeps the memory form. -/
inductive OptForm : Option State → Prop where
  | none : OptForm none
  | some {s : State} : s.MemoryForm → OptForm (some s)

inductive PairForm {α : Type} : Option (α × State) → Prop where
  | none : PairForm none
  | some {x : α} {s : State} : s.MemoryForm → PairForm (some (x, s))

inductive FstForm {α : Type} : Option (State × α) → Prop where
  | none : FstForm none
  | some {s : State} {x : α} : s.MemoryForm → FstForm (some (s, x))

inductive ChkForm : Chk State → Prop where
  | ok {s : State} : s.MemoryForm → ChkForm (.ok s)
  | trap {c : Nat} : ChkForm (.trap c)
  | park {p : Park} : ChkForm (.park p)
  | freeze {c : Nat} : ChkForm (.freeze c)

inductive CtrlForm : CtrlW → Prop where
  | ok {s : State} : s.MemoryForm → CtrlForm (.ok s)
  | fault : CtrlForm .fault
  | park {p : Park} : CtrlForm (.park p)

inductive AllocForm : AllocRes → Prop where
  | status {n : Nat} {s : State} : s.MemoryForm → AllocForm (.status n s)
  | freeze {c : Nat} : AllocForm (.freeze c)

namespace State.MemoryForm

variable {s : State}

theorem of_some {o : Option State} (h : OptForm o) (ho : o = some s) : s.MemoryForm := by
  cases h <;> cases ho
  assumption

theorem of_pair {α : Type} {x : α} {o : Option (α × State)} (h : PairForm o) (ho : o = some (x, s)) : s.MemoryForm := by
  cases h <;> cases ho
  assumption

theorem of_fst_some {α : Type} {x : α} {o : Option (State × α)} (h : FstForm o) (ho : o = some (s, x)) : s.MemoryForm := by
  cases h <;> cases ho
  assumption

theorem of_chk {c : Chk State} (h : ChkForm c) (hc : c = .ok s) : s.MemoryForm := by
  cases h <;> cases hc
  assumption

theorem of_ctrl {w : CtrlW} (h : CtrlForm w) (hw : w = .ok s) : s.MemoryForm := by
  cases h <;> cases hw
  assumption

theorem of_alloc {n : Nat} {r : AllocRes} (h : AllocForm r) (hr : r = .status n s) : s.MemoryForm := by
  cases h <;> cases hr
  assumption

end State.MemoryForm

section Branches

variable {c : Prop} [Decidable c]

theorem State.MemoryForm.ite {s t : State} (hs : s.MemoryForm) (ht : t.MemoryForm) : (if c then s else t).MemoryForm := iteInduction (fun _ => hs) (fun _ => ht)

theorem State.MemoryForm.ite_fst {α : Type} {p q : State × α} (hp : p.1.MemoryForm) (hq : q.1.MemoryForm) : (if c then p else q).1.MemoryForm :=
  iteInduction (motive := fun r : State × α => r.1.MemoryForm) (fun _ => hp) (fun _ => hq)

theorem State.MemoryForm.ite_wr {w x : Wr} (hw : w.s.MemoryForm) (hx : x.s.MemoryForm) : (if c then w else x).s.MemoryForm :=
  iteInduction (motive := fun r : Wr => r.s.MemoryForm) (fun _ => hw) (fun _ => hx)

theorem ActForm.ite {a b : Act} (ha : ActForm a) (hb : ActForm b) : ActForm (if c then a else b) := iteInduction (fun _ => ha) (fun _ => hb)

theorem NextForm.ite {a b : Host.Outcome State Fault Refusal} (ha : NextForm a) (hb : NextForm b) : NextForm (if c then a else b) :=
  iteInduction (fun _ => ha) (fun _ => hb)

theorem OptForm.ite {a b : Option State} (ha : OptForm a) (hb : OptForm b) : OptForm (if c then a else b) := iteInduction (fun _ => ha) (fun _ => hb)

theorem ChkForm.ite {a b : Chk State} (ha : ChkForm a) (hb : ChkForm b) : ChkForm (if c then a else b) := iteInduction (fun _ => ha) (fun _ => hb)

theorem CtrlForm.ite {a b : CtrlW} (ha : CtrlForm a) (hb : CtrlForm b) : CtrlForm (if c then a else b) := iteInduction (fun _ => ha) (fun _ => hb)

theorem AllocForm.ite {a b : AllocRes} (ha : AllocForm a) (hb : AllocForm b) : AllocForm (if c then a else b) := iteInduction (fun _ => ha) (fun _ => hb)

end Branches

end Sys2Proof.Machine
end

section
/-! PROOF. What reaches memory through a word, a line or a home, and what changes the tasks' table, keeps the memory form (R108). -/

namespace Sys2Proof.Machine

variable {s : State}

theorem State.MemoryForm.sramWrite1 {agent vdie gt : Nat} {own : List (Nat × Nat)} {off : Nat} {bs : List Byte} {marks : List Bool}
    (h : s.MemoryForm) : (s.sramWrite1 agent vdie gt own off bs marks).s.MemoryForm := by
  unfold State.sramWrite1
  dsimp only
  split
  · exact h
  · exact .ite_wr (.update (.put (.put h))) (.ite_wr (.put h) h)

theorem State.MemoryForm.sramWrite {agent vdie gt : Nat} {own : List (Nat × Nat)} {off : Nat} {bs : List Byte} {marks : List Bool} (h : s.MemoryForm) :
    (s.sramWrite agent vdie gt own off bs marks).s.MemoryForm := by
  unfold State.sramWrite
  exact .foldl_wr h (fun _ a h1 => .sramWrite1 h1)

theorem State.MemoryForm.hbmWrite {req : Nat} {word : Option DWord} {mma : Nat} {bs : List Byte} {marks : List Bool} (h : s.MemoryForm) :
    (s.hbmWrite req word mma bs marks).MemoryForm := by
  unfold State.hbmWrite
  exact .foldl (.ite (.put h) (.put (.put h))) (fun x a hx => .ite (.update hx) hx)

theorem State.MemoryForm.hbmPut {mma : Nat} {bs : List Byte} {marks : List Bool} (h : s.MemoryForm) : (s.hbmPut mma bs marks).MemoryForm := by
  unfold State.hbmPut
  exact .hbmWrite h

theorem State.MemoryForm.dropOwn {mma : Nat} (h : s.MemoryForm) : (s.dropOwn mma).MemoryForm := by
  unfold State.dropOwn
  exact .ite (.update h) (.update (.update (.update h)))

theorem State.MemoryForm.giveUp {home mma : Nat} (h : s.MemoryForm) : (s.giveUp home mma).MemoryForm := by
  unfold State.giveUp
  refine .ite (.update (.ite (.update (.update h)) (.update h))) (.ite (.update (.ite (.update (.update h)) (.update h))) ?_)
  exact .ite (.update (.ite (.update (.update h)) (.update h))) (.ite (.update (.update h)) (.update h))

theorem State.MemoryForm.linePut {m mma : Nat} {bs : List Byte} {marks : List Bool} (h : s.MemoryForm) : (s.linePut m mma bs marks).MemoryForm := by
  unfold State.linePut
  exact .foldl h (fun x a hx => .update hx)

theorem State.MemoryForm.sendThrough {q : Option Asker} {gt tag m mma : Nat} {bs : List Byte} {marks : List Bool} (h : s.MemoryForm) :
    (s.sendThrough q gt tag m mma bs marks).1.MemoryForm := by
  unfold State.sendThrough
  exact .foldl_fst (.foldl h (fun x a hx => .update hx)) (fun _ a h1 => .update h1)

theorem State.MemoryForm.homePut {req : Nat} {word : Option DWord} {mma : Nat} {bs : List Byte} {marks : List Bool} (h : s.MemoryForm) :
    (s.homePut req word mma bs marks).s.MemoryForm := by
  unfold State.homePut
  split
  · exact h
  · exact .hbmWrite (.foldl h (fun x1 _ hx1 => .dropOwn hx1))

theorem State.MemoryForm.writeLoc {w : Master} {agent vdie : Nat} {own : List (Nat × Nat)} {l : Loc} {bs : List Byte} {marks : List Bool}
    (h : s.MemoryForm) : (s.writeLoc w agent vdie own l bs marks).s.MemoryForm := by
  unfold State.writeLoc
  dsimp only
  split
  · exact .sramWrite h
  · exact .homePut h
  · refine .ite_wr (.homePut h) ?_
    split
    · exact h
    · exact .ite_wr (.hbmPut (.foldl h (fun x2 _ hx2 => .update hx2))) (.ite_wr (.sendThrough h) (.linePut h))
  · exact h

theorem State.MemoryForm.serve {mma : Nat} {who : Nat × Nat × Nat} {kind : Nat} {hs : List Nat} (h : s.MemoryForm) :
    (s.serve mma who kind hs).MemoryForm := by
  unfold State.serve
  exact .update (.foldl h (fun x a hx => .update hx))

theorem State.MemoryForm.askLine {w : Master} {key code : Nat} (h : s.MemoryForm) : (s.askLine w key code).MemoryForm := by
  unfold State.askLine
  exact .ite (.ite h (.serve h)) (.ite h (.update (.update h)))

theorem State.MemoryForm.countHits {missed : Bool} {l : Loc} {n : Nat} (h : s.MemoryForm) : (s.countHits missed l n).MemoryForm := by
  unfold State.countHits
  split
  · exact .ite h (.foldl h (fun x a hx => .update hx))
  · exact h

theorem State.MemoryForm.modTask {k : Nat} {f : Task → Task} (h : s.MemoryForm) : (s.modTask k f).MemoryForm := by
  unfold State.modTask
  exact .ite (.update h) (.update h)

theorem State.MemoryForm.dropTask {k : Nat} (h : s.MemoryForm) : (s.dropTask k).MemoryForm := by
  unfold State.dropTask
  exact .ite (.update h) (.update h)

theorem State.MemoryForm.select {k : Nat} (h : s.MemoryForm) : (s.select k).MemoryForm := by
  unfold State.select
  refine .ite h ?_
  split
  · exact h
  · exact .update h

theorem State.MemoryForm.ready {k : Nat} (h : s.MemoryForm) : (s.ready k).MemoryForm := by
  unfold State.ready
  exact .update (.modTask h)

theorem State.MemoryForm.wake {p : Task → Park → Bool} (h : s.MemoryForm) : (s.wake p).MemoryForm := by
  unfold State.wake
  exact .foldl h (fun x a hx => .ready hx)

theorem State.MemoryForm.bump {v a launch : Nat} (h : s.MemoryForm) : (s.bump v a launch).1.MemoryForm := by
  unfold State.bump
  split
  · exact .put h
  · exact .update h
  · exact h

theorem State.MemoryForm.logEvent {v kind addr : Nat} {info : DWord} (h : s.MemoryForm) : (s.logEvent v kind addr info).MemoryForm := by
  unfold State.logEvent
  exact .ite (.update h) (.bump (.update h))

theorem State.MemoryForm.bumpLaunch {v a id : Nat} (h : s.MemoryForm) : (s.bumpLaunch v a id).MemoryForm := by
  unfold State.bumpLaunch
  exact .ite (.bump h) (.logEvent h)

theorem State.MemoryForm.settleBumps (h : s.MemoryForm) : s.settleBumps.MemoryForm := by
  unfold State.settleBumps
  exact .ite h (.foldl (.update h) (fun x a hx => .ite (.bump hx) (.bumpLaunch hx)))

theorem State.MemoryForm.refuse {v reason vdie page off : Nat} (h : s.MemoryForm) : (s.refuse v reason vdie page off).MemoryForm := by
  unfold State.refuse
  exact .logEvent (.update h)

theorem State.MemoryForm.storeWords {gt vdie base : Nat} {ws : List (Nat × DWord)} (h : s.MemoryForm) : (s.storeWords gt vdie base ws).1.MemoryForm := by
  unfold State.storeWords
  exact .foldl_fst h (fun r a h1 => .sramWrite h1)

theorem State.MemoryForm.writeLines {k : Nat} {ls : List Nat} (h : s.MemoryForm) : (s.writeLines k ls).MemoryForm := by
  unfold State.writeLines
  split
  · exact h
  · exact .modTask (.storeWords (.storeWords h))

theorem State.MemoryForm.writeBack {k : Nat} (h : s.MemoryForm) : (s.writeBack k).MemoryForm := by
  unfold State.writeBack
  split
  · exact h
  · exact .writeLines h

theorem State.MemoryForm.dropLines {k : Nat} {ls : List Nat} (h : s.MemoryForm) : (s.dropLines k ls).MemoryForm := by
  unfold State.dropLines
  split
  · exact h
  · exact .modTask (.writeLines h)

theorem State.MemoryForm.makeRoom {gt k n : Nat} (h : s.MemoryForm) : (s.makeRoom gt k n).MemoryForm := by
  unfold State.makeRoom
  exact .foldl h (fun x _ hx => .ite hx (.dropLines hx))

theorem State.MemoryForm.fillLines {k : Nat} {ls : List Nat} (h : s.MemoryForm) : (s.fillLines k ls).MemoryForm := by
  unfold State.fillLines
  split
  · exact h
  · exact .ite h (.modTask (.ite (.makeRoom h) h))

theorem State.MemoryForm.onLines {k : Nat} {ls : List Nat} {f : Task → Task} (h : s.MemoryForm) : (s.onLines k ls f).MemoryForm := by
  unfold State.onLines
  split
  · exact h
  · exact .ite (.modTask (.fillLines h)) (.dropLines (.modTask (.fillLines h)))

theorem State.MemoryForm.keepHw {old : State} (h : s.MemoryForm) : (s.keepHw old).MemoryForm := by
  unfold State.keepHw
  refine .foldl h (fun x a hx => ?_)
  split
  · exact .ite hx (.modTask (.storeWords (.storeWords hx)))
  · exact hx

theorem State.MemoryForm.addTask {t : Task} (h : s.MemoryForm) : (s.addTask t).MemoryForm := by
  unfold State.addTask
  exact .update (.storeWords (.storeWords h))

end Sys2Proof.Machine

end

section
/-! PROOF. The memory form under the instructions of tasks, buffers, groups, queues, atomics, transfers and discards (R108). -/

namespace Sys2Proof.Machine

variable {s : State}

theorem ActForm.after {f : State → State} {a : Act} (hf : ∀ x : State, x.MemoryForm → (f x).MemoryForm) (ha : ActForm a) : ActForm (a.after f) := by
  cases ha with
  | next h => exact .next (hf _ h)
  | jump h => exact .jump h
  | left h => exact .left h
  | trap h => exact .trap h
  | park h => exact .park h
  | retry h => exact .retry h
  | freeze h => exact .freeze h

theorem ActForm.fault {code : Nat} (h : s.MemoryForm) : ActForm (fault s code) := by
  unfold Machine.fault
  exact .trap h

theorem ActForm.faultAt {code a : Nat} (h : s.MemoryForm) : ActForm (faultAt s code a) := by
  unfold Machine.faultAt
  exact .trap h

theorem ActForm.faultReg {code file n : Nat} (h : s.MemoryForm) : ActForm (faultReg s code file n) := by
  unfold Machine.faultReg
  exact .trap h

theorem ActForm.illegalOperand (h : s.MemoryForm) : ActForm (illegalOperand s) := by
  unfold Machine.illegalOperand
  exact .fault h

theorem ActForm.checkRegs {ns : List (BitVec 5)} {k : Act} (h : s.MemoryForm) (hk : ActForm k) : ActForm (checkRegs s ns k) := by
  unfold Machine.checkRegs
  split
  · exact .faultReg h
  · split
    · exact .faultReg h
    · exact hk

theorem ActForm.checkTaint {ns : List (BitVec 5)} {k : Act} (h : s.MemoryForm) (hk : ActForm k) : ActForm (checkTaint s ns k) := by
  unfold Machine.checkTaint
  split
  · exact .faultReg h
  · exact hk

theorem ActForm.chkAct {α : Type} {a : Nat} {c : Chk α} {k : α → Act} (h : s.MemoryForm) (hk : ∀ (x : α), ActForm (k x)) : ActForm
    (chkAct s a c k) := by
  unfold Machine.chkAct
  split
  · exact hk _
  · exact .ite (.faultAt h) (.fault h)
  · exact .park h
  · exact .freeze h

theorem State.MemoryForm.recordFreeze {v kind cause : Nat} {ident : DWord} (h : s.MemoryForm) : (s.recordFreeze v kind cause ident).MemoryForm := by
  unfold State.recordFreeze
  exact .update (.logEvent (.update h))

theorem State.MemoryForm.dropAll {k : Nat} (h : s.MemoryForm) : (s.dropAll k).MemoryForm := by
  unfold State.dropAll
  split
  · exact h
  · exact .modTask (.dropLines h)

theorem State.MemoryForm.enterTrap {k : Nat} {x : TrapInfo} {epc iword : Nat} {st : TaskStatus} (h : s.MemoryForm) :
    (s.enterTrap k x epc iword st).MemoryForm := by
  unfold State.enterTrap
  refine .update (.modTask ?_)
  split
  · exact .dropAll (.onLines h)
  · exact .storeWords (.dropAll (.onLines h))

theorem State.MemoryForm.freezeTask {k cause : Nat} (h : s.MemoryForm) : (s.freezeTask k cause).MemoryForm := by
  unfold State.freezeTask
  split
  · exact h
  · exact .recordFreeze (.enterTrap h)

theorem State.MemoryForm.startTrapHandler {v gt : Nat} (h : s.MemoryForm) : (s.startTrapHandler v gt).MemoryForm := by
  unfold State.startTrapHandler
  refine .ite h ?_
  split
  · exact h
  · exact .ready (.addTask (.modTask h))

theorem State.MemoryForm.takeTrap {k : Nat} {x : TrapInfo} {epc iword : Nat} (h : s.MemoryForm) : (s.takeTrap k x epc iword).MemoryForm := by
  unfold State.takeTrap
  split
  · exact h
  · split
    · exact .freezeTask (.freezeTask h)
    · exact .ite (.update (.enterTrap h)) (.startTrapHandler (.enterTrap h))

theorem State.MemoryForm.raise {i : Instr} {x : TrapInfo} (h : s.MemoryForm) : (s.raise i x).MemoryForm := by
  unfold State.raise
  exact .takeTrap h

theorem State.MemoryForm.askFor {w : Master} {p : Park} (h : s.MemoryForm) : (s.askFor w p).MemoryForm := by
  unfold State.askFor
  split
  · exact .askLine h
  · exact h

theorem State.MemoryForm.noteWait {p : Park} (h : s.MemoryForm) : (s.noteWait p).MemoryForm := by
  unfold State.noteWait
  exact .askFor h

theorem NextForm.finish {i : Instr} {a : Act} (ha : ActForm a) : NextForm (finish i a) := by
  cases ha with
  | next h => exact .next (.update h)
  | jump h => exact .next (.update h)
  | left h => exact .next (.update h)
  | trap h => exact .next (.update (.raise h))
  | park h => exact .ite (.next (.update (.raise h))) (.next (.update (.noteWait h)))
  | retry h => exact .next (.update h)
  | freeze h => exact .next (.update (.freezeTask h))

theorem NextForm.run {i : Instr} {q : BitVec 4} {body : State → Act} (h : s.MemoryForm) (hb : ActForm (body s)) : NextForm (run i q s body) := by
  unfold Machine.run
  exact .ite (.finish (.faultReg h)) (.ite (.finish hb) (.next (.update h)))

theorem NextForm.run0 {i : Instr} {body : State → Act} (hb : ActForm (body s)) : NextForm (run0 i s body) := .finish hb

theorem NextForm.runSup {i : Instr} {q : BitVec 4} {body : State → Act} (h : s.MemoryForm) (hb : ActForm (body s)) : NextForm (runSup i q s body) := by
  unfold Machine.runSup
  exact .ite (.run h hb) (.finish (.fault h))

theorem NextForm.noUnit {e : String} : NextForm (noUnit e) := by
  unfold Machine.noUnit
  exact .fault

theorem NextForm.whenHw {v : Nat} {name : String} {r : Chk State} {failed : State} (h : s.MemoryForm) (hr : ChkForm r) (hfailed : failed.MemoryForm) :
    NextForm (s.whenHw v name r failed) := by
  unfold State.whenHw
  split
  · cases hr with
    | ok hs => exact .next hs
  · exact .next (.askLine h)
  · exact .ite (.next (.update h)) .fault
  · exact .fault
  · exact .next hfailed

theorem ActForm.syncCheck {k : Act} (h : s.MemoryForm) (hk : ActForm k) : ActForm (syncCheck s k) := by
  unfold Machine.syncCheck
  refine .ite (.trap (.update h)) ?_
  split
  · exact .trap (.update h)
  · exact .ite (.trap (.update h)) hk

theorem ActForm.notInDomain {k : Act} (h : s.MemoryForm) (hk : ActForm k) : ActForm (notInDomain s k) := by
  unfold Machine.notInDomain
  exact .ite (.illegalOperand h) hk

theorem ActForm.releaseWait {k : Act} (h : s.MemoryForm) (hk : ActForm k) : ActForm (releaseWait s k) := by
  unfold Machine.releaseWait
  exact .ite (.park h) (.ite (.park h) hk)

theorem ActForm.accessWait {l : Loc} {n : Nat} {k : Act} (h : s.MemoryForm) (hk : ActForm k) : ActForm (accessWait s l n k) := by
  unfold Machine.accessWait
  exact .ite (.park h) (.ite (.park h) hk)

theorem State.MemoryForm.releaseHome {w req : Nat} {value : Option DWord} (h : s.MemoryForm) : (s.releaseHome w req value).s.MemoryForm := by
  unfold State.releaseHome
  dsimp only
  split
  · exact .update h
  · split
    · exact .update (.ite (.update (.put h)) (.put h))
    · exact .ite_wr (.homePut h) (.update (.ite (.update (.homePut h)) (.homePut h)))
    · exact .update h

theorem State.MemoryForm.addHome {byte n amount req : Nat} (h : s.MemoryForm) : (s.addHome byte n amount req).s.MemoryForm := by
  unfold State.addHome
  split
  · exact h
  · dsimp only
    split
    · exact .ite_wr h (.put h)
    · exact .ite_wr h (.homePut h)
    · exact h

theorem State.MemoryForm.tryStore {older : List Store} {x : Store} (h : s.MemoryForm) : (s.tryStore older x).s.MemoryForm := by
  unfold State.tryStore
  refine .ite_wr h ?_
  split
  · refine .ite_wr h ?_
    split
    · exact .ite_wr (.addHome h) (.update h)
    · exact .addHome h
  · refine .ite_wr h ?_
    split
    · exact .ite_wr (.releaseHome h) (.update (.releaseHome h))
    · exact .releaseHome h
  · refine .ite_wr h ?_
    split
    · exact h
    · exact .writeLoc h

theorem State.MemoryForm.issueStore {x : Store} (h : s.MemoryForm) : (s.issueStore x).s.MemoryForm := by
  unfold State.issueStore
  dsimp only
  split
  · exact .update (.askFor (.tryStore h))
  · exact .tryStore h
  · exact .ite_wr (.update h) (.ite_wr (.tryStore h) (.update (.tryStore h)))

theorem State.MemoryForm.releaseOf {k : Nat} (h : s.MemoryForm) : (s.releaseOf k).MemoryForm := by
  unfold State.releaseOf
  exact .foldl h (fun x _ hx => .issueStore hx)

theorem ActForm.storeOut {rel : Bool} {a : Nat} {l : Loc} {bs : List Byte} {marks : List Bool} {k : State → Act} (h : s.MemoryForm)
    (hk : ∀ (x : State), x.MemoryForm → ActForm (k x)) : ActForm (storeOut s rel a l bs marks k) := by
  unfold Machine.storeOut
  refine .ite (.park h) (.ite (.freeze h) ?_)
  dsimp only
  split
  · exact .chkAct h (fun _ => .faultAt h)
  · exact .ite (.park h) (hk _ (.countHits (.update (.issueStore h))))

theorem State.MemoryForm.pushStore {older : List Store} {x : Store} (h : s.MemoryForm) : (s.pushStore older x).1.MemoryForm := by
  unfold State.pushStore
  refine .ite_fst h ?_
  dsimp only
  split
  · exact .askFor (.tryStore h)
  · exact h
  · exact .ite (.tryStore h) (.onLines (.tryStore h))

theorem State.MemoryForm.drainStores (h : s.MemoryForm) : s.drainStores.MemoryForm := by
  unfold State.drainStores
  exact .ite h (.update (.foldl_fst h (fun r _ h1 => .pushStore h1)))

theorem State.MemoryForm.areaPut {t : Task} {level off : Nat} {bs : List Byte} {marks : List Bool} (h : s.MemoryForm) :
    (s.areaPut t level off bs marks).MemoryForm := by
  unfold State.areaPut
  dsimp only
  split
  · exact .sramWrite h
  · exact .hbmPut h
  · exact h

theorem State.MemoryForm.domPut {t : Task} {level i : Nat} {d : DWord} (h : s.MemoryForm) : (s.domPut t level i d).MemoryForm := by
  unfold State.domPut
  exact .areaPut h

theorem ActForm.withLoad {a n : Nat} {k : State → List (Byte × Bool) → Act} (h : s.MemoryForm)
    (hk : ∀ (x : State) (y : List (Byte × Bool)), x.MemoryForm → ActForm (k x y)) : ActForm (withLoad s a n k) := by
  unfold Machine.withLoad
  refine .chkAct h (fun x => .accessWait h ?_)
  dsimp only
  split
  · exact .chkAct h (fun _ => .faultAt h)
  · exact hk _ _ (.countHits (.update h))

theorem ActForm.withStore {a : Nat} {bs : List Byte} {marks : List Bool} {k : State → Act} (h : s.MemoryForm)
    (hk : ∀ (x : State), x.MemoryForm → ActForm (k x)) : ActForm (withStore s a bs marks k) := by
  unfold Machine.withStore
  exact .chkAct h (fun x => .storeOut h (fun x1 hx1 => hk _ hx1))

theorem ActForm.withDws {a n : Nat} {k : State → List DWord → Act} (h : s.MemoryForm)
    (hk : ∀ (x : State) (y : List DWord), x.MemoryForm → ActForm (k x y)) : ActForm (withDws s a n k) := by
  unfold Machine.withDws
  exact .withLoad h (fun x _ hx => hk _ _ hx)

theorem State.MemoryForm.doAlloc {gt f n : Nat} (h : s.MemoryForm) : (s.doAlloc gt f n).MemoryForm := by
  unfold State.doAlloc
  exact .update (.update (.foldl h (fun x a hx => .update hx)))

theorem State.MemoryForm.doFree {gt f n : Nat} (h : s.MemoryForm) : (s.doFree gt f n).MemoryForm := by
  unfold State.doFree
  refine .ite ?_ ?_
  · exact .update (.ite (.update (.foldl h (fun x a hx => .update hx))) (.foldl h (fun x a hx => .update hx)))
  · exact .ite (.update (.foldl h (fun x a hx => .update hx))) (.foldl h (fun x a hx => .update hx))

theorem AllocForm.allocFree {v gt vdie : Nat} {isFree : Bool} {ga gb : Nat} (h : s.MemoryForm) : AllocForm (s.allocFree v gt vdie isFree ga gb) := by
  unfold State.allocFree
  split
  · exact .status h
  · refine .ite .freeze (.ite ?_ ?_)
    · split
      · exact .status (.update (.doFree h))
      · exact .status h
    · split
      · exact .ite .freeze (.status (.update (.doAlloc h)))
      · exact .status h

theorem ActForm.allocAct {isFree : Bool} {b a d : BitVec 5} (h : s.MemoryForm) : ActForm (allocAct isFree b a d s) := by
  unfold Machine.allocAct
  refine .notInDomain h (.checkRegs h (.releaseWait h ?_))
  dsimp only
  split
  · split
    · next he1 =>
        exact .next (.update (.of_alloc (.allocFree h) he1))
    · exact .freeze h
  · exact .faultAt h
  · exact .chkAct h (fun _ => .faultAt h)
  · exact .park h
  · split
    · exact .next (.update h)
    · exact .freeze h

theorem State.MemoryForm.settleMail {gt m : Nat} (h : s.MemoryForm) : (s.settleMail gt m).MemoryForm := by
  unfold State.settleMail
  exact .ite (.update h) (.foldl (.update h) (fun x _ hx => .bump hx))

theorem State.MemoryForm.endHandler {gt m key : Nat} (h : s.MemoryForm) : (s.endHandler gt m key).MemoryForm := by
  unfold State.endHandler
  refine .update (.ite ?_ (.bump ?_))
  · split
    · exact .update h
    · exact h
  · split
    · exact .update h
    · exact h

theorem State.MemoryForm.foreign {code n : Nat} (h : s.MemoryForm) : (s.foreign code n).MemoryForm := by
  unfold State.foreign
  exact .logEvent h

theorem ActForm.checkHandle {hb : Nat} {k : CBuf → Act} (h : s.MemoryForm) (hk : ∀ (x : CBuf), ActForm (k x)) : ActForm (checkHandle s hb k) := by
  unfold Machine.checkHandle
  exact .ite (.trap h) (.ite (.trap (.foreign h)) (hk _))

theorem ActForm.cbacq {side : Nat} {n : BitVec 3} {hb r : BitVec 5} (h : s.MemoryForm) : ActForm (cbacq side n hb r s) := by
  unfold Machine.cbacq
  refine .checkHandle h (fun x => .ite (.illegalOperand h) (.ite (.illegalOperand h) (.releaseWait h ?_)))
  dsimp only
  split
  · exact .next (.update (.update h))
  · split
    · exact .next (.update (.update h))
    · exact .ite (.park h) (.park (.update h))

theorem ActForm.cbrel {side : Nat} {n : BitVec 3} {hb : BitVec 5} (h : s.MemoryForm) : ActForm (cbrel side n hb s) := by
  unfold Machine.cbrel
  refine .checkHandle h (fun x => .ite (.illegalOperand h) ?_)
  exact .ite (.illegalOperand h) (.ite (.illegalOperand h) (.ite (.retry h) (.next (.update h))))

theorem NextForm.execCbGrant (h : s.MemoryForm) : NextForm (execCbGrant s) := by
  unfold Machine.execCbGrant
  dsimp only
  split
  · split
    · exact .next (.wake (.update h))
    · exact .noUnit
  · split
    · exact .next (.update (.update h))
    · exact .noUnit
  · exact .noUnit

theorem State.MemoryForm.wakeBuffer {gt hb : Nat} (h : s.MemoryForm) : (s.wakeBuffer gt hb).MemoryForm := by
  unfold State.wakeBuffer
  exact .wake h

theorem ActForm.cbinitBuffer {d0 d1 : DWord} {aligned busy : Bool} (h : s.MemoryForm) : ActForm (cbinitBuffer d0 d1 aligned busy s) := by
  unfold Machine.cbinitBuffer
  refine .ite (.illegalOperand h) ?_
  refine .ite (.park h) (.ite (.illegalOperand h) (.ite (.trap (.foreign h)) ?_))
  refine .ite (.ite (.illegalOperand h) (.next (.wakeBuffer (.update h)))) (.ite (.illegalOperand h) (.ite (.illegalOperand h) ?_))
  exact .ite (.illegalOperand h) (.ite (.illegalOperand h) (.next (.wakeBuffer (.update h))))

theorem ActForm.cbinitWindow {d0 d1 : DWord} {aligned busy : Bool} (h : s.MemoryForm) : ActForm (cbinitWindow d0 d1 aligned busy s) := by
  unfold Machine.cbinitWindow
  refine .ite (.illegalOperand h) (.ite (.park h) (.ite (.illegalOperand h) ?_))
  refine .ite (.trap (.foreign h)) (.ite (.next (.update h)) (.ite (.illegalOperand h) ?_))
  exact .ite (.illegalOperand h) (.ite (.illegalOperand h) (.next (.update h)))

theorem State.MemoryForm.putDws {k : Nat} {l : List DWord} (h : s.MemoryForm) : (s.putDws k l).MemoryForm := by
  unfold State.putDws
  exact .put h

theorem State.MemoryForm.setGrp {k : Nat} {g : Grp} (h : s.MemoryForm) : (s.setGrp k g).MemoryForm := by
  unfold State.setGrp
  exact .putDws h

theorem State.MemoryForm.leaveGroup {k : Nat} (h : s.MemoryForm) : (s.leaveGroup k).MemoryForm := by
  unfold State.leaveGroup
  exact .setGrp h

theorem State.MemoryForm.enterLaunch {v addr : Nat} {r : List DWord} (h : s.MemoryForm) : (s.enterLaunch v addr r).1.MemoryForm := by
  unfold State.enterLaunch
  refine .update (.ite ?_ h)
  split
  · exact .setGrp h
  · exact h

theorem State.MemoryForm.launchEnds {v id n : Nat} (h : s.MemoryForm) : (s.launchEnds v id n).MemoryForm := by
  unfold State.launchEnds
  split
  · exact h
  · exact .ite (.update h) (.ite (.update h) (.bumpLaunch (.update h)))

theorem State.MemoryForm.leaveOf {v gt a : Nat} (h : s.MemoryForm) : (s.leaveOf v gt a).MemoryForm := by
  unfold State.leaveOf
  split
  · exact .leaveGroup h
  · exact .update h
  · exact h

theorem State.MemoryForm.settleLeaves (h : s.MemoryForm) : s.settleLeaves.MemoryForm := by
  unfold State.settleLeaves
  exact .ite h (.foldl (.update h) (fun x a hx => .leaveOf hx))

theorem State.MemoryForm.endTask {k : Nat} (h : s.MemoryForm) : (s.endTask k).MemoryForm := by
  unfold State.endTask
  split
  · exact h
  · dsimp only
    split
    · exact .launchEnds (.releaseOf (.update (.dropTask (.update (.update (.ite (.ite (.writeLines h) h) (.leaveOf (.ite (.writeLines h) h))))))))
    · exact .releaseOf (.update (.dropTask (.update (.update (.ite (.ite (.writeLines h) h) (.leaveOf (.ite (.writeLines h) h)))))))
    · exact .endHandler (.releaseOf (.update (.dropTask (.update (.update (.ite (.ite (.writeLines h) h) (.leaveOf (.ite (.writeLines h) h))))))))
    · exact .startTrapHandler (.releaseOf (.update (.dropTask (.update (.update (.ite (.ite (.writeLines h) h) (.leaveOf (.ite (.writeLines h) h))))))))

theorem NextForm.execExit {q : BitVec 4} (h : s.MemoryForm) : NextForm (execExit q s) := by
  unfold Machine.execExit
  refine .run h (.ite (.park (.update h)) ?_)
  refine .ite (.park (.update h)) (.syncCheck h (.notInDomain h (.ite (.illegalOperand h) ?_)))
  exact .ite (.left (.endTask h)) (.chkAct (.update h) (fun _ => .left (.endTask h)))

theorem NextForm.execLaunch {a d : BitVec 5} {q : BitVec 4} (h : s.MemoryForm) : NextForm (execLaunch a d q s) := by
  unfold Machine.execLaunch
  refine .run h (.notInDomain h (.checkRegs h (.ite (.illegalOperand h) (.releaseWait h (.withDws h (fun x y hx => ?_))))))
  split
  · exact .fault hx
  · refine .ite (.illegalOperand hx) (.ite (.chkAct hx (fun x2 => .ite (.park hx) ?_)) (.ite (.park hx) ?_))
    · exact .ite (.park hx) (.ite (.freeze hx) (.next (.update (.enterLaunch hx))))
    · exact .ite (.park hx) (.ite (.freeze hx) (.next (.update (.enterLaunch hx))))

theorem State.MemoryForm.joinNow {t : Task} {group : Nat} (h : s.MemoryForm) : (s.joinNow t group).MemoryForm := by
  unfold State.joinNow
  dsimp only
  split
  · exact .ite (.modTask (.setGrp h)) (.ite (.takeTrap h) (.modTask (.setGrp h)))
  · exact .takeTrap h
  · exact .freezeTask h
  · exact .modTask h

theorem State.MemoryForm.joinAtStart {t : Task} {group : Nat} (h : s.MemoryForm) : (s.joinAtStart t group).MemoryForm := by
  unfold State.joinAtStart
  exact .ite (.ready (.addTask h)) (.joinNow (.ready (.addTask h)))

theorem State.MemoryForm.readyAgain {t : Task} (h : s.MemoryForm) : (s.readyAgain t).MemoryForm := by
  unfold State.readyAgain
  exact .ite (.ready h) (.joinNow (.ready (.modTask h)))

theorem NextForm.execSpawn {a : BitVec 5} {q : BitVec 4} (h : s.MemoryForm) : NextForm (execSpawn a q s) := by
  unfold Machine.execSpawn
  refine .run h (.notInDomain h (.checkRegs h (.ite (.illegalOperand h) (.releaseWait h (.withDws h (fun x y hx => ?_))))))
  split
  · exact .fault hx
  · refine .ite (.illegalOperand hx) (.ite (.park hx) (.ite (.park hx) ?_))
    exact .ite (.next (.joinAtStart (.update hx))) (.next (.update (.update hx)))

theorem State.MemoryForm.depend {v a k : Nat} {up : Bool} (h : s.MemoryForm) : (s.depend v a k up).MemoryForm := by
  unfold State.depend
  dsimp only
  split
  · split
    · exact .logEvent (.update h)
    · exact .update h
  · split
    · exact .logEvent h
    · split
      · exact .logEvent h
      · refine .ite (.joinAtStart (.update ?_)) (.update ?_)
        · split
          · exact .logEvent h
          · exact h
        · split
          · exact .logEvent h
          · exact h

theorem NextForm.execJoin {e a : BitVec 5} {q : BitVec 4} (h : s.MemoryForm) : NextForm (execJoin e a q s) := by
  unfold Machine.execJoin
  refine .run h (.notInDomain h (.ite (.faultReg h) ?_))
  refine .ite (.illegalOperand h) (.chkAct h (fun x => .ite (.illegalOperand h) ?_))
  exact .ite (.illegalOperand h) (.releaseWait h (.next (.update (.setGrp h))))

theorem ActForm.syncAll {k : Act} (h : s.MemoryForm) (hk : ActForm k) : ActForm (syncAll s k) := by
  unfold Machine.syncAll
  exact .ite (.park h) (.ite (.park h) (.syncCheck h hk))

theorem ActForm.awaitPhase {s0 : State} {k a p : Nat} {fin : State → Grp → Act} (h : s0.MemoryForm) (hs : s.MemoryForm)
    (hfin : ∀ (x : State) (y : Grp), x.MemoryForm → ActForm (fin x y)) : ActForm (awaitPhase s0 s k a p fin) := by
  unfold Machine.awaitPhase
  exact .ite (hfin _ _ (.update hs)) (.ite (.park h) (.park hs))

theorem NextForm.execSstep {e a d : BitVec 5} {q : BitVec 4} (h : s.MemoryForm) : NextForm (execSstep e a d q s) := by
  unfold Machine.execSstep
  refine .run h (.notInDomain h (.checkRegs h (.syncAll h (.ite (.illegalOperand h) ?_))))
  refine .chkAct h (fun x => .ite (.awaitPhase h h (fun x1 _ hx1 => .next (.update hx1))) (.ite (.illegalOperand h) ?_))
  exact .awaitPhase h (.update (.setGrp h)) (fun x1 _ hx1 => .next (.update hx1))

theorem NextForm.execGbar {a : BitVec 5} {q : BitVec 4} (h : s.MemoryForm) : NextForm (execGbar a q s) := by
  unfold Machine.execGbar
  refine .run h (.notInDomain h (.checkRegs h (.syncAll h (.ite (.illegalOperand h) ?_))))
  refine .chkAct h (fun x => .ite (.awaitPhase h h (fun x1 _ hx1 => .next (.update hx1))) (.ite (.illegalOperand h) ?_))
  exact .awaitPhase h (.update (.setGrp h)) (fun x1 _ hx1 => .next (.update hx1))

theorem ActForm.withQueue {gq : DWord} {k : Nat → Nat → WorkQ → Act} (h : s.MemoryForm) (hk : ∀ (x : Nat) (y : Nat) (z : WorkQ), ActForm (k x y z)) :
    ActForm (withQueue s gq k) := by
  unfold Machine.withQueue
  refine .ite (.illegalOperand h) ?_
  split
  · exact .illegalOperand h
  · exact .ite (.illegalOperand h) (.ite (.freeze h) (hk _ _ _))

theorem NextForm.execWpush {a d : BitVec 5} {q : BitVec 4} (h : s.MemoryForm) : NextForm (execWpush a d q s) := by
  unfold Machine.execWpush
  refine .run h (.notInDomain h (.ite (.faultReg h) ?_))
  exact .checkTaint h (.withQueue h (fun x _ _ => .ite (.illegalOperand h) (.releaseWait h (.ite (.park h) (.next (.update (.update h)))))))

theorem ActForm.wpopAct {block : Bool} {e : BitVec 3} {a d : BitVec 5} (h : s.MemoryForm) : ActForm (wpopAct block e a d s) := by
  unfold Machine.wpopAct
  refine .notInDomain h (.checkRegs h (.withQueue h (fun x y z => .releaseWait h ?_)))
  split
  · exact .next (.update (.update h))
  · exact .ite (.next (.update h)) (.ite (.park h) (.next (.update h)))

theorem CtrlForm.storeRevoke {v x : Nat} (h : s.MemoryForm) : CtrlForm (s.storeRevoke v x) := by
  unfold State.storeRevoke
  exact .ite .park (.ok (.update h))

theorem CtrlForm.storePageMove {v x : Nat} (h : s.MemoryForm) : CtrlForm (s.storePageMove v x) := by
  unfold State.storePageMove
  exact .ite .park (.ok (.update h))

theorem CtrlForm.storePreempt {v x : Nat} (h : s.MemoryForm) : CtrlForm (s.storePreempt v x) := by
  unfold State.storePreempt
  exact .ite .park (.ok (.update h))

theorem State.MemoryForm.storeResume {v wp : Nat} (h : s.MemoryForm) : (s.storeResume v wp).MemoryForm := by
  unfold State.storeResume
  split
  · exact .ite (.ready (.modTask h)) h
  · exact h

theorem State.MemoryForm.storeTrapCfg {v : Nat} {d : DWord} {off : Nat} (h : s.MemoryForm) : (s.storeTrapCfg v d off).MemoryForm := by
  unfold State.storeTrapCfg
  exact .ite (.update h) (.refuse h)

theorem State.MemoryForm.cancelLaunch {v id : Nat} (h : s.MemoryForm) : (s.cancelLaunch v id).MemoryForm := by
  unfold State.cancelLaunch
  split
  · exact .refuse h
  · exact .logEvent (.launchEnds (.update h))

theorem State.MemoryForm.storeRect {v vdie n : Nat} {d : DWord} {off : Nat} (h : s.MemoryForm) : (s.storeRect v vdie n d off).MemoryForm := by
  unfold State.storeRect
  split
  · exact h
  · exact .ite (.refuse h) (.ite (.refuse h) (.ite (.refuse h) (.update h)))

theorem State.MemoryForm.storeStream {v vdie n : Nat} {d : DWord} {off : Nat} (h : s.MemoryForm) : (s.storeStream v vdie n d off).MemoryForm := by
  unfold State.storeStream
  split
  · exact h
  · exact .ite (.refuse h) (.ite (.refuse h) (.ite (.refuse h) (.ite (.refuse h) (.update h))))

theorem State.MemoryForm.storeQueue {v vdie n : Nat} {d : DWord} {off : Nat} (h : s.MemoryForm) : (s.storeQueue v vdie n d off).MemoryForm := by
  unfold State.storeQueue
  split
  · exact h
  · exact .ite (.refuse h) (.ite (.refuse h) (.ite (.refuse h) (.ite (.refuse h) (.update h))))

theorem State.MemoryForm.storeMailbox {v vdie tile m i : Nat} {d : DWord} {off : Nat} (h : s.MemoryForm) :
    (s.storeMailbox v vdie tile m i d off).MemoryForm := by
  unfold State.storeMailbox
  split
  · exact h
  · refine .ite (.refuse h) (.ite (.refuse h) ?_)
    split
    · exact .ite (.update h) (.ite (.refuse h) (.ite (.refuse h) (.update h)))
    · exact .ite (.refuse h) (.update h)
    · exact .ite (.refuse h) (.update h)
    · exact .ite (.refuse h) (.update h)

theorem CtrlForm.ctrlWrite {v vdie page off : Nat} {d : DWord} (h : s.MemoryForm) : CtrlForm (s.ctrlWrite v vdie page off d) := by
  unfold State.ctrlWrite
  refine .ite .fault (.ite ?_ ?_)
  · split
    · exact .ok (.update h)
    · exact .ok (.update h)
    · exact .ok (.update h)
    · exact .ok (.update h)
    · exact .storeRevoke h
    · exact .storePageMove h
    · exact .storePreempt h
    · exact .ok (.storeResume h)
    · exact .ok (.storeTrapCfg h)
    · exact .ok (.update h)
    · exact .ok (.update h)
    · exact .ok (.cancelLaunch h)
    · exact .ite (.ok h) .fault
  · refine .ite (.ite .fault (.ok (.storeMailbox h))) (.ite (.ite .fault ?_) (.ite (.ok h) .fault))
    exact .ite (.ok (.storeStream h)) (.ite (.ok (.storeQueue h)) (.ite (.ok (.storeRect h)) .fault))

theorem State.MemoryForm.eretResume {t : Task} (h : s.MemoryForm) : (s.eretResume t).MemoryForm := by
  unfold State.eretResume
  exact .onLines (.ready (.modTask h))

theorem ActForm.loadAct {acq signed : Bool} {size ctrlSize : Nat} {i : BitVec 8} {b t : BitVec 5} (h : s.MemoryForm) : ActForm
    (loadAct acq signed size ctrlSize i b t s) := by
  unfold Machine.loadAct
  refine .checkRegs h (.chkAct h (fun x => .ite (.faultAt h) ?_))
  split
  · refine .ite (.faultAt h) ?_
    split
    · exact .faultAt h
    · exact .next (.update h)
  · refine .ite (.releaseWait h (.accessWait h ?_)) (.accessWait h ?_)
    · dsimp only
      split
      · exact .chkAct h (fun _ => .faultAt h)
      · exact .next (.update (.countHits (.update h)))
    · dsimp only
      split
      · exact .chkAct h (fun _ => .faultAt h)
      · exact .next (.update (.countHits (.update h)))

theorem State.MemoryForm.touch {l : Loc} (h : s.MemoryForm) : (s.touch l).MemoryForm := by
  unfold State.touch
  refine .ite h ?_
  split
  · split
    · exact .update h
    · exact h
  · exact h

theorem ActForm.storeAct {size : Nat} {ctrl rel : Bool} {i : BitVec 8} {b t : BitVec 5} (h : s.MemoryForm) : ActForm (storeAct size ctrl rel i b t s) := by
  unfold Machine.storeAct
  refine .checkRegs h (.checkTaint h (.chkAct h (fun x => .ite (.faultAt h) (.ite (.faultAt h) (.ite (.illegalOperand h) ?_)))))
  split
  · refine .ite (.faultAt h) (.ite (.releaseWait h ?_) ?_)
    · split
      · exact .faultAt h
      · exact .park h
      · next he =>
          exact .next (.update (.of_ctrl (.ctrlWrite h) he))
    · split
      · exact .faultAt h
      · exact .park h
      · next he =>
          exact .next (.update (.of_ctrl (.ctrlWrite h) he))
  · refine .ite ?_ (.storeOut h (fun x2 hx2 => .next (.update (.touch hx2))))
    exact .releaseWait h (.storeOut h (fun x2 hx2 => .next (.update (.touch hx2))))

theorem PairForm.taken {kinds : List Nat} (h : s.MemoryForm) : PairForm (s.taken kinds) := by
  unfold State.taken
  dsimp only
  split
  · exact .some (.update h)
  · exact .none

theorem PairForm.oldestPacket {cls src agent dagent : Nat} {kinds : List Nat} (h : s.MemoryForm) : PairForm
    (s.oldestPacket cls src agent dagent kinds) := by
  unfold State.oldestPacket
  split
  · split
    · exact .some (.update h)
    · exact .none
  · exact .none

theorem State.MemoryForm.acked {x : EvIn} {ids : List Nat} (h : s.MemoryForm) : (s.acked x ids).MemoryForm := by
  unfold State.acked
  split
  · exact .update h
  · exact .update h

theorem State.MemoryForm.sendRelease {l : Loc} {value : Option DWord} (h : s.MemoryForm) : (s.sendRelease l value).MemoryForm := by
  unfold State.sendRelease
  exact .issueStore h

theorem ActForm.reserve {l : Loc} {k : State → DWord → Act} (h : s.MemoryForm) (hk : ∀ (x : State) (y : DWord), x.MemoryForm → ActForm (k x y)) :
    ActForm (reserve s l k) := by
  unfold Machine.reserve
  refine .ite (.ite (.trap (.update (.sendRelease (.update h)))) (hk _ _ (.update h))) (.park ?_)
  split
  · exact .ite (.update h) (.update (.update h))
  · exact .update h

theorem NextForm.execRsv {a d : BitVec 5} {q : BitVec 4} (h : s.MemoryForm) : NextForm (execRsv a d q s) := by
  unfold Machine.execRsv
  refine .run h (.notInDomain h (.ite (.illegalOperand h) ?_))
  exact .checkRegs h (.chkAct h (fun x => .releaseWait h (.reserve h (fun x1 _ hx1 => .next (.update hx1)))))

theorem ActForm.relAct {value : Option DWord} {ns : List (BitVec 5)} (h : s.MemoryForm) : ActForm (relAct s value ns) := by
  unfold Machine.relAct
  refine .next (.update ?_)
  split
  · exact .sendRelease h
  · exact h

theorem OptForm.logUpdate {ga : Nat} {w : Bool} {amount : DWord} (h : s.MemoryForm) : OptForm (s.logUpdate ga w amount) := by
  unfold State.logUpdate
  exact .ite .none (.some (.domPut (.domPut (.domPut h))))

theorem ActForm.amoAct {op : Nat → Nat → Nat → Nat} {isAdd : Bool} {r w : BitVec 1} {b a d : BitVec 5} (h : s.MemoryForm) : ActForm
    (amoAct op isAdd r w b a d s) := by
  unfold Machine.amoAct
  refine .ite (.illegalOperand h) (.ite (.illegalOperand h) ?_)
  refine .checkRegs h (.chkAct h (fun x => .releaseWait h (.reserve h (fun x1 y hx1 => ?_))))
  dsimp only
  split
  · exact .illegalOperand (.sendRelease hx1)
  · next he =>
      exact .next (.update (.sendRelease (.of_some (.ite (.some hx1) (.logUpdate hx1)) he)))

theorem ActForm.casAct {n : Nat} {b a d : BitVec 5} (h : s.MemoryForm) : ActForm (casAct n b a d s) := by
  unfold Machine.casAct
  refine .notInDomain h (.ite (.illegalOperand h) ?_)
  exact .checkRegs h (.chkAct h (fun x => .releaseWait h (.reserve h (fun x1 _ hx1 => .next (.update (.sendRelease hx1))))))

theorem State.MemoryForm.wakeWord {w : Nat} (h : s.MemoryForm) : (s.wakeWord w).MemoryForm := by
  unfold State.wakeWord
  exact .wake h

theorem NextForm.execReservationGrant (h : s.MemoryForm) : NextForm (execReservationGrant s) := by
  unfold Machine.execReservationGrant
  refine .ite ?_ ?_
  · split
    · exact .noUnit
    · next he =>
        dsimp only
        split
        · exact .ite (.next (.wakeWord (.update (.update (.of_pair (.taken h) he))))) (.next (.update (.update (.of_pair (.taken h) he))))
        · exact .next (.update (.update (.of_pair (.taken h) he)))
        · exact .next (.update (.of_pair (.taken h) he))
  · split
    · exact .noUnit
    · split
      · refine .ite (.next (.wakeWord h)) ?_
        split
        · exact .ite .noUnit (.ite (.next (.askLine h)) (.next (.update (.update (.dropOwn h)))))
        · exact .noUnit
      · exact .noUnit

theorem NextForm.execReservationRelease (h : s.MemoryForm) : NextForm (execReservationRelease s) := by
  unfold Machine.execReservationRelease
  refine .ite ?_ ?_
  · split
    · exact .noUnit
    · next he =>
        dsimp only
        split
        · exact .next (.acked (.of_pair (.taken h) he))
        · refine .ite (.next (.update (.of_pair (.taken h) he))) ?_
          split
          · exact .next (.askFor h)
          · exact .noUnit
          · exact .next (.wakeWord (.acked (.releaseHome (.of_pair (.taken h) he))))
  · split
    · exact .noUnit
    · refine .ite (.next (.wakeWord (.update ?_))) .noUnit
      split
      · exact .ite (.releaseOf h) h
      · exact h

theorem ActForm.checkShadow {ns : List Nat} {k : Act} (h : s.MemoryForm) (hk : ActForm k) : ActForm (checkShadow s ns k) := by
  unfold Machine.checkShadow
  exact .ite (.trap (.update h)) (.ite (.trap (.update h)) hk)

theorem ActForm.badXfer {b : XferBad} (h : s.MemoryForm) : ActForm (badXfer s b) := by
  unfold Machine.badXfer
  split
  · exact .illegalOperand h
  · exact .illegalOperand h
  · exact .chkAct h (fun _ => .faultAt h)
  · exact .park h
  · exact .trap h
  · exact .checkHandle h (fun _ => .fault h)
  · exact .checkHandle h (fun _ => .fault h)

theorem ActForm.withEntry {hb : Nat} {k : Option (DWord × DWord) → Act} (h : s.MemoryForm) (hk : ∀ (x : Option (DWord × DWord)), ActForm (k x)) :
    ActForm (withEntry s hb k) := by
  unfold Machine.withEntry
  split
  · exact hk _
  · exact .ite (hk _) (.park h)

theorem State.MemoryForm.launchXfer {t : Transfer} (h : s.MemoryForm) : (s.launchXfer t).1.MemoryForm := by
  unfold State.launchXfer
  exact .update h

theorem ActForm.logCtr {r : MvRegs} {k : State → Act} (h : s.MemoryForm) (hk : ∀ (x : State), x.MemoryForm → ActForm (k x)) : ActForm (logCtr s r k) := by
  unfold Machine.logCtr
  refine .ite (hk _ h) ?_
  split
  · next he =>
      exact hk _ (.of_some (.logUpdate h) he)
  · exact .illegalOperand h

theorem State.MemoryForm.useTag {tag : Nat} (h : s.MemoryForm) : (s.useTag tag).1.MemoryForm := by
  unfold State.useTag
  exact .update h

theorem NextForm.execMvgo {d : BitVec 5} {q : BitVec 4} (h : s.MemoryForm) : NextForm (execMvgo d q s) := by
  unfold Machine.execMvgo
  refine .run h (.ite (.retry h) (.releaseWait h (.ite ?_ ?_)))
  · refine .withEntry h (fun x => .ite (.withEntry h (fun x1 => .checkShadow (.update h) ?_)) (.checkShadow (.update h) ?_))
    · dsimp only
      split
      · exact .badXfer (.update h)
      · refine .ite (.withDws (.update h) (fun x3 y hx3 => .ite (.illegalOperand hx3) ?_)) (.logCtr (.update h) (fun x3 hx3 => .next (.update
          (.launchXfer hx3))))
        exact .logCtr (.useTag hx3) (fun x4 hx4 => .next (.update (.launchXfer hx4)))
    · dsimp only
      split
      · exact .badXfer (.update h)
      · refine .ite (.withDws (.update h) (fun x2 y hx2 => .ite (.illegalOperand hx2) ?_)) (.logCtr (.update h) (fun x2 hx2 => .next (.update
          (.launchXfer hx2))))
        exact .logCtr (.useTag hx2) (fun x3 hx3 => .next (.update (.launchXfer hx3)))
  · dsimp only
    refine .ite (.withEntry h (fun x => .checkShadow (.update h) ?_)) (.checkShadow (.update h) ?_)
    · split
      · exact .badXfer (.update h)
      · refine .ite (.withDws (.update h) (fun x2 y hx2 => .ite (.illegalOperand hx2) ?_)) (.logCtr (.update h) (fun x2 hx2 => .next (.update
          (.launchXfer hx2))))
        exact .logCtr (.useTag hx2) (fun x3 hx3 => .next (.update (.launchXfer hx3)))
    · split
      · exact .badXfer (.update h)
      · refine .ite (.withDws (.update h) (fun x1 y hx1 => .ite (.illegalOperand hx1) ?_)) (.logCtr (.update h) (fun x1 hx1 => .next (.update
          (.launchXfer hx1))))
        exact .logCtr (.useTag hx1) (fun x2 hx2 => .next (.update (.launchXfer hx2)))

theorem NextForm.execMvchain {a d : BitVec 5} {q : BitVec 4} (h : s.MemoryForm) : NextForm (execMvchain a d q s) := by
  unfold Machine.execMvchain
  refine .run h (.ite (.retry h) ?_)
  refine .releaseWait h (.checkShadow h (.checkRegs h (.ite (.illegalOperand h) (.ite (.illegalOperand h) ?_))))
  split
  · exact .badXfer h
  · exact .ite (.illegalOperand h) (.logCtr h (fun x1 hx1 => .next (.update (.launchXfer hx1))))

theorem ActForm.withId {a : BitVec 5} {k : Nat → Act} (h : s.MemoryForm) (hk : ∀ (x : Nat), ActForm (k x)) : ActForm (withId a s k) := by
  unfold Machine.withId
  exact .ite (.faultReg h) (.ite (.illegalOperand h) (hk _))

theorem NextForm.execMvwait {a d : BitVec 5} {q : BitVec 4} (h : s.MemoryForm) : NextForm (execMvwait a d q s) := by
  unfold Machine.execMvwait
  refine .run h (.withId h (fun x => ?_))
  split
  · exact .next (.update h)
  · exact .ite (.park h) (.releaseWait h (.next (.update h)))

theorem State.MemoryForm.setBar {k : Nat} {b : Barrier} (h : s.MemoryForm) : (s.setBar k b).MemoryForm := by
  unfold State.setBar
  exact .putDws h

theorem ActForm.withBarrier {e ga : Nat} {written : Bool} {k : Nat → Act} (h : s.MemoryForm) (hk : ∀ (x : Nat), ActForm (k x)) : ActForm
    (withBarrier s e ga written k) := by
  unfold Machine.withBarrier
  refine .ite (.illegalOperand h) (.chkAct h (fun x => ?_))
  split
  · exact .ite (.faultAt h) (.ite (.faultAt h) (.ite (.park h) (.ite (.illegalOperand h) (hk _))))
  · exact .illegalOperand h

theorem NextForm.execBxarv {e a d : BitVec 5} {q : BitVec 4} (h : s.MemoryForm) : NextForm (execBxarv e a d q s) := by
  unfold Machine.execBxarv
  refine .run h (.notInDomain h (.checkRegs h (.withBarrier h (fun x => .ite (.illegalOperand h) (.releaseWait h (.ite (.park h) ?_))))))
  split
  · exact .park h
  · exact .next (.update (.setBar h))

theorem NextForm.execBxwait {e a d : BitVec 5} {q : BitVec 4} (h : s.MemoryForm) : NextForm (execBxwait e a d q s) := by
  unfold Machine.execBxwait
  refine .run h (.ite (.faultReg h) (.ite (.faultReg h) ?_))
  exact .checkTaint h (.syncCheck h (.withBarrier h (fun x => .ite (.illegalOperand h) (.releaseWait h (.ite (.next (.update h)) (.park h))))))

theorem NextForm.execWaitc {e a d : BitVec 5} {q : BitVec 4} (h : s.MemoryForm) : NextForm (execWaitc e a d q s) := by
  unfold Machine.execWaitc
  refine .run h (.checkRegs h (.syncCheck h (.chkAct h (fun x => .ite (.faultAt h) ?_))))
  refine .ite (.faultAt h) (.ite (.faultAt h) (.ite (.illegalOperand h) (.releaseWait h ?_)))
  dsimp only
  split
  · exact .chkAct h (fun _ => .faultAt h)
  · exact .ite (.trap (.update h)) (.ite (.next (.update h)) (.park h))

theorem State.MemoryForm.dropQueued {t : Task} (h : s.MemoryForm) : (s.dropQueued t).MemoryForm := by
  unfold State.dropQueued
  exact .foldl (.update h) (fun x a hx => .foldl (.update hx) (fun x1 _ hx1 => .update hx1))

theorem State.MemoryForm.dropHeld {k : Nat} (h : s.MemoryForm) : (s.dropHeld k).MemoryForm := by
  unfold State.dropHeld
  exact .modTask (.update h)

theorem State.MemoryForm.discardWith {k level code : Nat} {host : Bool} (h : s.MemoryForm) : (s.discardWith k level code host).MemoryForm := by
  unfold State.discardWith
  split
  · exact h
  · exact .ite (.update (.enterTrap (.dropHeld (.dropQueued h)))) (.modTask (.dropHeld (.dropQueued h)))

theorem State.MemoryForm.discard {k level : Nat} (h : s.MemoryForm) : (s.discard k level).MemoryForm := by
  unfold State.discard
  exact .discardWith h

theorem State.MemoryForm.restore {k level : Nat} (h : s.MemoryForm) : (s.restore k level).MemoryForm := by
  unfold State.restore
  split
  · exact h
  · exact .modTask (.ite (.storeWords (.storeWords h)) (.storeWords h))

theorem State.MemoryForm.undoLog {t : Task} {mark n : Nat} (h : s.MemoryForm) : (s.undoLog t mark n).MemoryForm := by
  unfold State.undoLog
  refine .foldl h (fun x a hx => ?_)
  dsimp only
  split
  · exact .issueStore hx
  · exact hx

theorem State.MemoryForm.discardLevel {k level : Nat} (h : s.MemoryForm) : (s.discardLevel k level).MemoryForm := by
  unfold State.discardLevel
  split
  · exact h
  · exact .restore (.update (.foldl (.domPut (.undoLog h)) (fun x1 a hx1 => .ite (.update hx1) hx1)))

theorem State.MemoryForm.discardNow {k level : Nat} {unresolved : Option (List DWord)} (h : s.MemoryForm) :
    (s.discardNow k level unresolved).MemoryForm := by
  unfold State.discardNow
  split
  · exact h
  · refine .ite (.ready (.modTask (.domPut (.discardLevel (.dropHeld h))))) (.update ?_)
    split
    · exact .storeWords (.takeTrap (.modTask (.ite (.discardLevel (.dropHeld h)) (.discardLevel (.discardLevel (.dropHeld h))))))
    · exact .takeTrap (.modTask (.ite (.discardLevel (.dropHeld h)) (.discardLevel (.discardLevel (.dropHeld h)))))

theorem State.MemoryForm.mismatch {t : Task} {e : Twinned} {trail : DWord} (h : s.MemoryForm) : (s.mismatch t e trail).MemoryForm := by
  unfold State.mismatch
  refine .ite (.takeTrap (.dropHeld h)) ?_
  split
  · exact .discardNow (.dropQueued h)
  · exact .discardWith (.modTask (.domPut (.domPut (.domPut h))))

theorem NextForm.execDomainDiscard (h : s.MemoryForm) : NextForm (execDomainDiscard s) := by
  unfold Machine.execDomainDiscard
  split
  · exact .noUnit
  · refine .ite ?_ ?_
    · split
      · exact .ite (.next (.mismatch h)) .noUnit
      · exact .ite (.next (.mismatch h)) .noUnit
      · exact .noUnit
    · split
      · refine .ite .noUnit ?_
        split
        · exact .whenHw h .park h
        · exact .next (.discardNow h)
      · exact .noUnit

end Sys2Proof.Machine

end

section
/-! PROOF. The memory form under the commands of the vector and matrix units, the mover and the collectives (R108). -/

namespace Sys2Proof.Machine

variable {s : State}

theorem ActForm.issueV {i : Instr} {gs : List (BitVec 5)} {chkG ownFirst : Bool} {upd : State → State} {own : VForm → Act → Act} (h : s.MemoryForm)
    (hupd : ∀ (x : State), x.MemoryForm → (upd x).MemoryForm) (hown : ∀ (x : VForm) (y : Act), ActForm y → ActForm (own x y)) : ActForm
    (issueV i gs chkG ownFirst s upd own) := by
  unfold Machine.issueV
  dsimp only
  split
  · exact .fault h
  · refine .ite (.retry h) ?_
    refine .ite (.park h) (.ite (.checkRegs h (.ite (hown _ _ ?_) ?_)) (.ite (hown _ _ ?_) ?_))
    · split
      · exact .faultReg h
      · split
        · exact .faultReg h
        · exact .next (.update (hupd _ (.update (.update h))))
    · split
      · exact .faultReg h
      · split
        · exact .faultReg h
        · exact hown _ _ (.next (.update (hupd _ (.update (.update h)))))
    · split
      · exact .faultReg h
      · split
        · exact .faultReg h
        · exact .next (.update (hupd _ (.update (.update h))))
    · split
      · exact .faultReg h
      · split
        · exact .faultReg h
        · exact hown _ _ (.next (.update (hupd _ (.update (.update h)))))

theorem ActForm.noCheck {x : VForm} {k : Act} (hk : ActForm k) : ActForm (noCheck x k) := by
  unfold Machine.noCheck
  exact hk

theorem State.MemoryForm.markBusy {gt : Nat} {ranges : List (Nat × Nat)} (h : s.MemoryForm) : (s.markBusy gt ranges).1.MemoryForm := by
  unfold State.markBusy
  refine .foldl_fst h (fun r a h1 => ?_)
  split
  · exact h1
  · exact .ite_fst (.update (.put h1)) (.ite_fst (.update h1) h1)

theorem State.MemoryForm.clearBusy {l : List (Nat × Nat)} (h : s.MemoryForm) : (s.clearBusy l).MemoryForm := by
  unfold State.clearBusy
  exact .wake (.foldl h (fun x a hx => .ite (.update hx) hx))

theorem State.MemoryForm.fillFor {k : Nat} {ls : List Nat} (h : s.MemoryForm) : (s.fillFor k ls).MemoryForm := by
  unfold State.fillFor
  split
  · exact h
  · exact .ite (.fillLines h) h

theorem State.MemoryForm.wakeAfter {gt key : Nat} (h : s.MemoryForm) : (s.wakeAfter gt key).MemoryForm := by
  unfold State.wakeAfter
  exact .wake h

theorem State.MemoryForm.cmdPages {gt hb side n seq key : Nat} {keep : Bool} (h : s.MemoryForm) : (s.cmdPages gt hb side n seq key keep).1.MemoryForm := by
  unfold State.cmdPages
  dsimp only
  split
  · exact .update h
  · exact .update h

theorem OptForm.fillBox {c : Cmd} (h : s.MemoryForm) : OptForm (s.fillBox c) := by
  unfold State.fillBox
  split
  · exact .some h
  · exact .ite (.ite (.some h) .none) (.some (.wake (.onLines h)))

theorem State.MemoryForm.residueFault {c : Cmd} {blk cell : Nat} (h : s.MemoryForm) : (s.residueFault c blk cell).MemoryForm := by
  unfold State.residueFault
  dsimp only
  split
  · exact h
  · split
    · exact .modTask h
    · exact .modTask h
    · exact .modTask h
    · exact .ite (.discard h) (.takeTrap h)

theorem NextForm.vPlain {i : Instr} (h : s.MemoryForm) : NextForm (vPlain i s) := by
  unfold Machine.vPlain
  exact .run0 (.issueV h (fun x hx => hx) (fun _ y hy => .noCheck hy))

theorem NextForm.vtyped {i : Instr} {k : Host.Outcome State Fault Refusal} (h : s.MemoryForm) (hk : NextForm k) : NextForm (vtyped i s k) := by
  unfold Machine.vtyped
  exact .ite hk (.finish (.fault h))

theorem ActForm.vAddr {right : Nat} {f : VForm} {k : Act} (h : s.MemoryForm) (hk : ActForm k) : ActForm (vAddr right s f k) := by
  unfold Machine.vAddr
  refine .ite (.faultAt h) (.chkAct h (fun x => .ite (.faultAt h) ?_))
  split
  · exact .ite (.faultAt h) (.ite (.illegalOperand h) hk)
  · exact .faultAt h

theorem ActForm.vIndexed {right : Nat} {f : VForm} {k : Act} (h : s.MemoryForm) (hk : ActForm k) : ActForm (vIndexed right s f k) := by
  unfold Machine.vIndexed
  exact .chkAct h (fun _ => .ite (.faultAt h) (.ite (.faultAt h) (.ite (.illegalOperand h) hk)))

theorem ActForm.vPaged {out : Bool} {f : VForm} {k : Act} (h : s.MemoryForm) (hk : ActForm k) : ActForm (vPaged out s f k) := by
  unfold Machine.vPaged
  exact .checkHandle h (fun _ => .ite (.illegalOperand h) (.ite (.illegalOperand h) hk))

theorem ActForm.vBlock {fresh : Bool} {f : VForm} {k : Act} (h : s.MemoryForm) (hk : ActForm k) : ActForm (vBlock fresh s f k) := by
  unfold Machine.vBlock
  exact .ite (.illegalOperand h) (.ite (.illegalOperand h) (.ite (.illegalOperand h) hk))

theorem State.MemoryForm.retireCmd {gt : Nat} {c : Cmd} {flags : BitVec 7} (h : s.MemoryForm) : (s.retireCmd gt c flags).MemoryForm := by
  unfold State.retireCmd
  exact .wakeAfter (.update (.clearBusy (.ite (.onLines h) (.modTask (.onLines h)))))

theorem State.MemoryForm.beginV {gt : Nat} {c : Cmd} {f : VForm} (h : s.MemoryForm) : (s.beginV gt c f).MemoryForm := by
  unfold State.beginV
  extract_lets +onlyGivenNames ask
  have hask : ask.1.MemoryForm := by
    unfold ask
    split
    · exact .cmdPages h
    · exact .cmdPages h
    · exact h
    · exact h
  clear_value ask
  split
  · exact .update hask
  · extract_lets +onlyGivenNames k side s00 s0
    have h00 : s00.MemoryForm := by
      unfold s00
      split
      · exact .update hask
      · exact hask
    have h0 : s0.MemoryForm := .fillFor h00
    clear_value s0
    extract_lets +onlyGivenNames c0 r
    refine .ite (.update h0) ?_
    extract_lets +onlyGivenNames t d b tagged c1 s1
    have h1 : s1.MemoryForm := .onLines (.update (.markBusy h0))
    clear_value s1
    split
    · exact .residueFault (.retireCmd h1)
    · exact h1

theorem NextForm.execVectorCommandBegin (h : s.MemoryForm) : NextForm (execVectorCommandBegin s) := by
  unfold Machine.execVectorCommandBegin
  dsimp only
  split
  · exact .noUnit
  · exact .ite (.next (.update (.beginV h))) .noUnit

theorem State.MemoryForm.vWrite {gt : Nat} {c : Cmd} {f : VForm} (h : s.MemoryForm) : (s.vWrite gt c f).1.MemoryForm := by
  unfold State.vWrite
  dsimp only
  split
  · exact .sramWrite h
  · exact .foldl_fst h (fun r _ h1 => .sramWrite h1)
  · exact .update (.sramWrite h)
  · exact .update h
  · exact h

theorem State.MemoryForm.vRegs {c : Cmd} {f : VForm} {r : VRes} (h : s.MemoryForm) : (s.vRegs c f r).MemoryForm := by
  unfold State.vRegs
  exact .onLines h

theorem State.MemoryForm.vBlockPut {gt : Nat} {f : VForm} {r : VRes} (h : s.MemoryForm) : (s.vBlockPut gt f r).MemoryForm := by
  unfold State.vBlockPut
  split
  · exact .ite (.foldl (.update h) (fun x2 a hx2 => .update hx2)) (.update h)
  · exact h

theorem NextForm.execVectorCommandComplete (h : s.MemoryForm) : NextForm (execVectorCommandComplete s) := by
  unfold Machine.execVectorCommandComplete
  dsimp only
  split
  · exact .noUnit
  · split
    · exact .noUnit
    · refine .ite .noUnit ?_
      split
      · next he2 =>
          exact .next (.retireCmd (.of_some (.fillBox (.update (.vRegs (.vWrite (.vBlockPut h))))) he2))
      · exact .next (.update (.update (.vRegs (.vWrite (.vBlockPut h)))))

theorem NextForm.execBoxWrite (h : s.MemoryForm) : NextForm (execBoxWrite s) := by
  unfold Machine.execBoxWrite
  dsimp only
  split
  · exact .noUnit
  · refine .ite .noUnit ?_
    split
    · next he1 =>
        exact .next (.retireCmd (.of_some (.fillBox h) he1))
    · exact .noUnit

theorem ActForm.issueM {i : Instr} {gs : List (BitVec 5)} {rounds : Option Nat} {upd : State → State} (h : s.MemoryForm)
    (hupd : ∀ (x : State), x.MemoryForm → (upd x).MemoryForm) : ActForm (issueM i gs rounds s upd) := by
  unfold Machine.issueM
  exact .ite (.park h) (.next (.update (hupd _ (.update (.update h)))))

theorem ActForm.withRoom {k : Act} (h : s.MemoryForm) (hk : ActForm k) : ActForm (withRoom s k) := by
  unfold Machine.withRoom
  exact .ite (.retry h) hk

theorem ActForm.withClaim {n : Nat} {views : List Nat} {k : Act} (h : s.MemoryForm) (hk : ActForm k) : ActForm (withClaim s n views k) := by
  unfold Machine.withClaim
  exact .ite hk (.illegalOperand h)

theorem ActForm.blockFault {n : Nat} {k : Act} (h : s.MemoryForm) (hk : ActForm k) : ActForm (blockFault s n k) := by
  unfold Machine.blockFault
  exact .ite hk (.trap (.update h))

theorem NextForm.execMxmac {d : BitVec 3} {q : BitVec 4} (h : s.MemoryForm) : NextForm (execMxmac d q s) := by
  unfold Machine.execMxmac
  refine .run h (.withRoom h (.withClaim h (.ite (.illegalOperand h) (.ite (.checkHandle h (fun x => .ite (.illegalOperand h) ?_)) ?_))))
  · exact .ite (.illegalOperand h) (.ite (.illegalOperand h) (.issueM h (fun x1 hx1 => .update hx1)))
  · refine .checkHandle h (fun x => .checkHandle h (fun x1 => .ite (.illegalOperand h) ?_))
    exact .ite (.illegalOperand h) (.ite (.illegalOperand h) (.issueM h (fun x2 hx2 => .update hx2)))

theorem State.MemoryForm.settleHolds {k : Nat} (h : s.MemoryForm) : (s.settleHolds k).MemoryForm := by
  unfold State.settleHolds
  split
  · exact h
  · exact .update h

theorem State.MemoryForm.bindA {w : DWord} (h : s.MemoryForm) : (bindA w s).MemoryForm := by
  unfold Machine.bindA
  exact .settleHolds (.update h)

theorem State.MemoryForm.bindB {w : DWord} (h : s.MemoryForm) : (bindB w s).MemoryForm := by
  unfold Machine.bindB
  exact .settleHolds (.update h)

theorem NextForm.execUfcfg {a : BitVec 5} {q : BitVec 4} (h : s.MemoryForm) : NextForm (execUfcfg a q s) := by
  unfold Machine.execUfcfg
  refine .run h (.checkRegs h (.chkAct h (fun x => .ite (.faultAt h) ?_)))
  exact .withDws h (fun x1 _ hx1 => .ite (.next (.update hx1)) (.illegalOperand hx1))

theorem NextForm.execSsub {a d : BitVec 5} {q : BitVec 4} (h : s.MemoryForm) : NextForm (execSsub a d q s) := by
  unfold Machine.execSsub
  refine .run h (.notInDomain h (.checkRegs h (.ite (.illegalOperand h) ?_)))
  refine .checkHandle h (fun x => .ite (.illegalOperand h) (.ite (.illegalOperand h) ?_))
  split
  · exact .illegalOperand h
  · exact .next (.update (.update (.update h)))

theorem NextForm.execSunsub {d : BitVec 5} {q : BitVec 4} (h : s.MemoryForm) : NextForm (execSunsub d q s) := by
  unfold Machine.execSunsub
  refine .run h (.notInDomain h (.checkHandle h (fun x => ?_)))
  split
  · exact .illegalOperand h
  · exact .ite (.park h) (.next (.update (.update h)))

theorem ActForm.windowFault {w : Nat} (h : s.MemoryForm) : ActForm (windowFault s w) := by
  unfold Machine.windowFault
  exact .trap (.ite (.foreign h) h)

theorem NextForm.execMxdrain {k n : BitVec 3} {hb r : BitVec 5} {q : BitVec 4} (h : s.MemoryForm) : NextForm (execMxdrain k n hb r q s) := by
  unfold Machine.execMxdrain
  refine .run h (.ite (.retry h) (.withRoom h (.checkRegs h (.ite (.illegalOperand h) ?_))))
  refine .withClaim h (.ite (.ite (.fault h) (.ite (.windowFault h) ?_)) (.checkHandle h (fun x => .ite (.illegalOperand h) ?_)))
  · exact .ite (.illegalOperand h) (.blockFault h (.ite (.illegalOperand h) (.issueM h (fun x hx => hx))))
  · exact .blockFault h (.ite (.illegalOperand h) (.issueM h (fun x1 hx1 => hx1)))

theorem ActForm.imageRange {right ga n : Nat} {k : Loc → Act} (h : s.MemoryForm) (hk : ∀ (x : Loc), ActForm (k x)) : ActForm
    (imageRange s right ga n k) := by
  unfold Machine.imageRange
  refine .chkAct h (fun x => ?_)
  split
  · exact .ite (.faultAt h) (hk _)
  · exact .faultAt h

theorem NextForm.execMxspill {a : BitVec 5} {d : BitVec 3} {q : BitVec 4} (h : s.MemoryForm) : NextForm (execMxspill a d q s) := by
  unfold Machine.execMxspill
  refine .run h (.ite (.retry h) ?_)
  refine .withRoom h (.checkRegs h (.withClaim h (.ite (.illegalOperand h) ?_)))
  exact .imageRange h (fun x => .blockFault h (.ite (.issueM h (fun x1 hx1 => hx1)) (.illegalOperand h)))

theorem NextForm.execMxfill {a : BitVec 5} {d : BitVec 3} {q : BitVec 4} (h : s.MemoryForm) : NextForm (execMxfill a d q s) := by
  unfold Machine.execMxfill
  refine .run h (.withRoom h (.ite (.park h) ?_))
  refine .checkRegs h (.withDws h (fun x y hx => .ite (.illegalOperand hx) (.ite (.illegalOperand hx) ?_)))
  exact .withClaim hx (.ite (.illegalOperand hx) (.imageRange hx (fun _ => .next (.update (.update (.update hx))))))

theorem State.MemoryForm.askPages {gt : Nat} {c : Cmd} {keep : PageReq → Bool} {side : Nat} {rs : List PageReq} (h : s.MemoryForm) :
    (s.askPages gt c keep side rs).1.MemoryForm := by
  induction rs generalizing s c with
  | nil => exact h
  | cons r rest ih =>
    unfold State.askPages
    dsimp only
    split
    · exact .cmdPages h
    · exact ih (.update (.cmdPages h))

theorem State.MemoryForm.beginMac {gt n : Nat} {c : Cmd} (h : s.MemoryForm) : (s.beginMac gt n c).MemoryForm := by
  unfold State.beginMac
  refine .ite (.update (.askPages h)) ?_
  exact .ite (.update (.askPages h)) (.update (.update (.foldl (.askPages h) (fun x a hx => .update hx))))

theorem State.MemoryForm.setBlock {gt n : Nat} {b : Block} (h : s.MemoryForm) : (s.setBlock gt n b).MemoryForm := by
  unfold State.setBlock
  exact .ite (.foldl (.update h) (fun x a hx => .update hx)) (.ite (.foldl (.update h) (fun x a hx => .update hx)) (.update h))

theorem State.MemoryForm.beginDrain {gt : Nat} {k n : BitVec 3} {hb : BitVec 5} {c : Cmd} (h : s.MemoryForm) : (s.beginDrain gt k n hb c).MemoryForm := by
  unfold State.beginDrain
  dsimp only
  split
  · exact .residueFault (.retireCmd h)
  · refine .ite (.update (.ite_fst h (.askPages h))) ?_
    exact .update (.ite (.update (.markBusy (.ite_fst h (.askPages h)))) (.markBusy (.ite_fst h (.askPages h))))

theorem State.MemoryForm.beginSpill {gt n : Nat} {c : Cmd} (h : s.MemoryForm) : (s.beginSpill gt n c).MemoryForm := by
  unfold State.beginSpill
  dsimp only
  split
  · exact .residueFault (.retireCmd h)
  · exact .update (.markBusy h)

theorem State.MemoryForm.beginFill {gt n : Nat} {c : Cmd} (h : s.MemoryForm) : (s.beginFill gt n c).MemoryForm := by
  unfold State.beginFill
  refine .ite (.update h) ?_
  dsimp only
  split
  · exact .residueFault (.retireCmd h)
  · exact .update (.setBlock h)

theorem State.MemoryForm.beginM {gt : Nat} {c : Cmd} (h : s.MemoryForm) : (s.beginM gt c).MemoryForm := by
  unfold State.beginM
  split
  · exact .update (.setBlock h)
  · exact .update (.update h)
  · exact .beginMac h
  · split
    · exact .residueFault (.retireCmd h)
    · exact .update h
  · exact .beginDrain h
  · exact .beginSpill h
  · exact .beginFill h
  · exact h

theorem NextForm.execMatrixCommandBegin (h : s.MemoryForm) : NextForm (execMatrixCommandBegin s) := by
  unfold Machine.execMatrixCommandBegin
  dsimp only
  split
  · exact .noUnit
  · exact .ite (.next (.update (.beginM h))) .noUnit

theorem State.MemoryForm.releaseMac {gt n : Nat} {c : Cmd} (h : s.MemoryForm) : (s.releaseMac gt n c).MemoryForm := by
  unfold State.releaseMac
  exact .foldl h (fun x a hx => .update hx)

theorem State.MemoryForm.mWrite {gt : Nat} {c : Cmd} (h : s.MemoryForm) : (s.mWrite gt c).1.MemoryForm := by
  unfold State.mWrite
  split
  · exact .foldl (.foldl_fst h (fun _ a h2 => .sramWrite h2)) (fun x1 a hx1 => .update hx1)
  · exact .sramWrite h
  · exact .releaseMac h
  · exact h

theorem NextForm.execMatrixCommandComplete (h : s.MemoryForm) : NextForm (execMatrixCommandComplete s) := by
  unfold Machine.execMatrixCommandComplete
  dsimp only
  split
  · exact .noUnit
  · refine .ite .noUnit ?_
    split
    · next he1 =>
        exact .next (.settleHolds (.retireCmd (.of_some (.fillBox (.update (.mWrite h))) he1)))
    · exact .next (.update (.update (.mWrite h)))

theorem ActForm.withMask {a : BitVec 5} {k : DWord → Act} (h : s.MemoryForm) (hk : ∀ (x : DWord), ActForm (k x)) : ActForm (withMask a s k) := by
  unfold Machine.withMask
  exact .checkRegs h (.ite (.illegalOperand h) (.ite (.park h) (hk _)))

theorem ActForm.fenceAct (h : s.MemoryForm) : ActForm (fenceAct s) := by
  unfold Machine.fenceAct
  exact .releaseWait h (.next h)

theorem NextForm.execGlaze {e : BitVec 5} {a q : BitVec 4} (h : s.MemoryForm) : NextForm (execGlaze e a q s) := by
  unfold Machine.execGlaze
  refine .run h (.notInDomain h (.ite (.windowFault h) ?_))
  exact .ite (.park h) (.ite (.park (.update h)) (.next (.update (.update h))))

theorem State.MemoryForm.xferStart {gt : Nat} {t : Transfer} (h : s.MemoryForm) : (s.xferStart gt t).1.MemoryForm := by
  unfold State.xferStart
  exact .ite_fst h (.ite_fst h (.ite_fst (.ite_fst h h) h))

theorem NextForm.execTransferBegin (h : s.MemoryForm) : NextForm (execTransferBegin s) := by
  unfold Machine.execTransferBegin
  dsimp only
  split
  · exact .noUnit
  · refine .ite .noUnit (.ite (.ite .noUnit ?_) (.ite .noUnit (.next (.update (.xferStart h)))))
    split
    · exact .next (.update h)
    · exact .whenHw h .park h
    · exact .noUnit

theorem State.MemoryForm.freezeXfer {gt : Nat} {t : Transfer} {code : Nat} (h : s.MemoryForm) : (s.freezeXfer gt t code).MemoryForm := by
  unfold State.freezeXfer
  exact .ite (.recordFreeze h) (.ite (.recordFreeze h) h)

theorem NextForm.execChainDescriptorFetch (h : s.MemoryForm) : NextForm (execChainDescriptorFetch s) := by
  unfold Machine.execChainDescriptorFetch
  dsimp only
  split
  · exact .noUnit
  · refine .ite .noUnit (.ite (.ite .noUnit ?_) ?_)
    · split
      · exact .next (.update (.xferStart h))
      · exact .whenHw (.xferStart h) .park (.xferStart h)
      · exact .noUnit
    · split
      · exact .noUnit
      · refine .ite (.next (.update (.freezeXfer h))) (.ite ?_ (.next (.update h)))
        split
        · exact .next (.update h)
        · exact .whenHw h .park h
        · exact .noUnit

theorem State.MemoryForm.served {gt : Nat} {t : Transfer} {c : Chk Loc} {k : Half} (h : s.MemoryForm) (hk : k.s.MemoryForm) :
    (s.served gt t c k).s.MemoryForm := by
  unfold State.served
  split
  · exact hk
  · exact h
  · exact .freezeXfer h
  · exact h

theorem State.MemoryForm.xWait {gt : Nat} {t : Transfer} {c : Chk Unit} (h : s.MemoryForm) : (s.xWait gt t c).s.MemoryForm := by
  unfold State.xWait
  unfold Machine.Half.s
  split
  · exact .askLine h
  · exact h

theorem State.MemoryForm.refuseXfer {gt : Nat} {t : Transfer} (h : s.MemoryForm) : (s.refuseXfer gt t).MemoryForm := by
  unfold State.refuseXfer
  exact .update (.recordFreeze h)

theorem State.MemoryForm.mvRead {gt : Nat} {t : Transfer} (h : s.MemoryForm) : (s.mvRead gt t).s.MemoryForm := by
  unfold State.mvRead
  extract_lets +onlyGivenNames r n took
  have htook (u : State) (x : Rd) (n : Nat) (hu : u.MemoryForm) : (took u x n).s.MemoryForm := hu
  clear_value took
  split
  · refine .served h ?_
    split
    · exact h
    · dsimp only
      split
      · exact h
      · exact htook _ _ _ h
  · extract_lets +onlyGivenNames a l n
    split
    · exact h
    · extract_lets +onlyGivenNames x
      split
      · exact .xWait h
      · exact htook _ _ _ (.countHits h)
  · extract_lets +onlyGivenNames hb b page
    have hp : page.1.MemoryForm := by
      unfold page
      split
      · exact h
      · split
        · exact .update h
        · exact .update h
    clear_value page
    split
    · exact hp
    · refine .served hp ?_
      extract_lets +onlyGivenNames size n off x full
      split
      · exact hp
      · exact htook _ _ _ (.ite (.update hp) hp)

theorem State.MemoryForm.poisonGran {l : Loc} (h : s.MemoryForm) : (s.poisonGran l).MemoryForm := by
  have mark (k : Nat) : State.MemoryForm { s with poison := (List.range 8).foldl (fun p i => sadd p (k / 64 * 8 + i)) s.poison } :=
    ⟨h.1, risingSet_foldl_sadd _ _ h.2⟩
  unfold State.poisonGran
  dsimp only
  split
  · split
    · exact .ite (mark _) h
    · exact h
  · exact mark _
  · exact .ite (mark _) (.update h)
  · exact h

theorem State.MemoryForm.faultMarks {l : Loc} {bs : OBytes} {old : Option Nat} (h : s.MemoryForm) : (s.faultMarks l bs old).MemoryForm := by
  unfold State.faultMarks
  exact .foldl h (fun x a hx => .ite (.poisonGran hx) hx)

theorem State.MemoryForm.touchAt {t : Transfer} {g off : Nat} (h : s.MemoryForm) : (s.touchAt t g off).MemoryForm := by
  unfold State.touchAt
  refine .ite h ?_
  split
  · exact .modTask h
  · exact h

theorem OptForm.publish {die n key : Nat} {bs : List (Byte × Bool)} (h : s.MemoryForm) : OptForm (s.publish die n key bs) := by
  unfold State.publish
  exact .ite .none (.some (.update h))

theorem State.MemoryForm.openPages {t : Transfer} {gt : Nat} {gs : List Nat} (h : s.MemoryForm) : (s.openPages t gt gs).1.MemoryForm := by
  induction gs generalizing s t with
  | nil => exact h
  | cons g rest ih =>
    unfold State.openPages
    split
    · exact ih h
    · dsimp only
      split
      · exact .update h
      · exact ih (.update h)

theorem State.MemoryForm.mvPut {busy : List (Nat × Nat)} {vdie g off : Nat} {bs : List Byte} {marks : List Bool} {rest : Nat → Bool}
    (h : s.MemoryForm) : (s.mvPut busy vdie g off bs marks rest).1.MemoryForm := by
  unfold State.mvPut
  exact .clearBusy (.sramWrite (.markBusy h))

theorem State.MemoryForm.closePage {t : Transfer} {p : Nat × Nat × Bool} (h : s.MemoryForm) : (s.closePage t p).MemoryForm := by
  unfold State.closePage
  exact .update (.ite (.foldl h (fun x a hx => .poisonGran hx)) h)

theorem State.MemoryForm.mvWrite {gt : Nat} {t : Transfer} (h : s.MemoryForm) : (s.mvWrite gt t).s.MemoryForm := by
  unfold State.mvWrite
  extract_lets +onlyGivenNames r n fin bytes marks
  have hfin (u : State) (t : Transfer) (n : Nat) (hu : u.MemoryForm) : (fin u t n).s.MemoryForm := hu
  clear_value fin
  split
  · refine .served h ?_
    split
    · exact h
    · split
      · exact h
      · exact hfin _ _ _ (.foldl_fst h fun r g hr => .touchAt (.touchAt (.faultMarks (.mvPut hr))))
  · extract_lets +onlyGivenNames a l n prot
    split
    · exact h
    · split
      · exact h
      · split
        · exact .refuseXfer h
        · extract_lets w
          split
          · exact .xWait h
          · exact hfin _ _ _ (.countHits (.faultMarks (.writeLoc h)))
  · extract_lets +onlyGivenNames tiles x t1
    have hx : x.1.MemoryForm := .openPages h
    clear_value x
    split
    · exact hx
    · refine .served hx (hfin _ _ _ (.foldl_fst hx fun r p hr => ?_))
      exact .ite_fst (.closePage (.mvPut hr)) (.mvPut hr)
  · split
    · exact h
    · next he => exact hfin _ _ _ (.of_some (.publish h) he)

theorem State.MemoryForm.mvTurn {gt : Nat} {t : Transfer} (h : s.MemoryForm) : (s.mvTurn gt t).MemoryForm := by
  unfold State.mvTurn
  extract_lets done a b
  have hdone (x : Half) (hx : x.s.MemoryForm) : (done x).MemoryForm := .update hx
  have ha : a.s.MemoryForm := .mvRead h
  exact .ite (hdone _ (.mvWrite h)) (.ite (.update h) (.ite (.update h) (.ite (hdone _ ha) (.ite (.update ha) (hdone _ (.mvWrite ha))))))

theorem NextForm.execMoverTurn (h : s.MemoryForm) : NextForm (execMoverTurn s) := by
  unfold Machine.execMoverTurn
  split
  · exact .noUnit
  · exact .next (.update (.mvTurn h))

theorem State.MemoryForm.closeStopped {gt : Nat} {t : Transfer} (h : s.MemoryForm) : (s.closeStopped gt t).1.MemoryForm := by
  unfold State.closeStopped
  refine .foldl ?_ (fun x a hx => .update hx)
  split
  · exact .update (.foldl_fst h (fun r a h1 => .closePage (.sramWrite h1)))
  · exact .foldl_fst h (fun r a h1 => .closePage (.sramWrite h1))

theorem State.MemoryForm.barUpdate {w : WordAt} {n : Nat} {stopped : Bool} {t : Transfer} (h : s.MemoryForm) :
    (s.barUpdate w n stopped t).1.MemoryForm := by
  unfold State.barUpdate
  split
  · exact .setBar h
  · exact h
  · exact h

theorem State.MemoryForm.completeXfer {gt : Nat} {t0 : Transfer} (h : s.MemoryForm) : (s.completeXfer gt t0).MemoryForm := by
  unfold State.completeXfer
  refine .wake (.update (.update (.barUpdate ?_)))
  split
  · refine .putDws (.ite ?_ ?_)
    · exact .clearBusy (.ite (.freezeXfer (.ite_fst (.closeStopped h) h)) (.ite_fst (.closeStopped h) h))
    · exact .onLines (.clearBusy (.ite (.freezeXfer (.ite_fst (.closeStopped h) h)) (.ite_fst (.closeStopped h) h)))
  · refine .ite ?_ ?_
    · exact .clearBusy (.ite (.freezeXfer (.ite_fst (.closeStopped h) h)) (.ite_fst (.closeStopped h) h))
    · exact .onLines (.clearBusy (.ite (.freezeXfer (.ite_fst (.closeStopped h) h)) (.ite_fst (.closeStopped h) h)))
  · refine .ite ?_ ?_
    · exact .clearBusy (.ite (.freezeXfer (.ite_fst (.closeStopped h) h)) (.ite_fst (.closeStopped h) h))
    · exact .onLines (.clearBusy (.ite (.freezeXfer (.ite_fst (.closeStopped h) h)) (.ite_fst (.closeStopped h) h)))

theorem State.MemoryForm.nextDesc {gt : Nat} {t : Transfer} (h : s.MemoryForm) : (s.nextDesc gt t).MemoryForm := by
  unfold State.nextDesc
  exact .ite (.update (.freezeXfer h)) (.update (.barUpdate (.clearBusy h)))

theorem NextForm.execTransferCompletion (h : s.MemoryForm) : NextForm (execTransferCompletion s) := by
  unfold Machine.execTransferCompletion
  dsimp only
  split
  · exact .noUnit
  · exact .ite .noUnit (.ite (.next (.nextDesc h)) (.next (.completeXfer h)))

theorem NextForm.execHandleCacheFill (h : s.MemoryForm) : NextForm (execHandleCacheFill s) := by
  unfold Machine.execHandleCacheFill
  dsimp only
  split
  · exact .whenHw h .park h
  · split
    · exact .next (.wake (.update h))
    · exact .next (.wake (.foldl h (fun x2 a hx2 => .modTask hx2)))

theorem NextForm.execRevoke (h : s.MemoryForm) : NextForm (execRevoke s) := by
  unfold Machine.execRevoke
  dsimp only
  split
  · split
    · exact .whenHw h .park h
    · exact .next (.wake (.update (.update (.ite (.homePut h) h))))
  · exact .noUnit

theorem NextForm.execRevocationDone (h : s.MemoryForm) : NextForm (execRevocationDone s) := by
  unfold Machine.execRevocationDone
  dsimp only
  split
  · exact .noUnit
  · exact .ite .noUnit (.next (.update h))

theorem NextForm.execStreamDelivery (h : s.MemoryForm) : NextForm (execStreamDelivery s) := by
  unfold Machine.execStreamDelivery
  dsimp only
  split
  · split
    · refine .ite .noUnit ?_
      exact .next (.update (.update (.ite (.sramWrite (.update h)) (.onLines (.sramWrite (.update h))))))
    · exact .ite .noUnit (.next (.update h))
    · exact .noUnit
  · exact .noUnit

theorem State.MemoryForm.colSend {c : Coll} {kind code : Nat} (h : s.MemoryForm) : (s.colSend c kind code).MemoryForm := by
  unfold State.colSend
  exact .foldl h (fun x a hx => .update hx)

theorem State.MemoryForm.failColl {c : Coll} {code : Nat} {tell : Bool} (h : s.MemoryForm) : (s.failColl c code tell).MemoryForm := by
  unfold State.failColl
  exact .update (.ite (.colSend (.foldl h (fun x a hx => .update hx))) (.foldl h (fun x a hx => .update hx)))

theorem State.MemoryForm.failResidue {c : Coll} (h : s.MemoryForm) : (s.failResidue c).MemoryForm := by
  unfold State.failResidue
  exact .update (.failColl h)

theorem State.MemoryForm.freezeColl {v : Nat} {c : Coll} {cause : Nat} (h : s.MemoryForm) : (s.freezeColl v c cause).MemoryForm := by
  unfold State.freezeColl
  exact .failColl (.recordFreeze h)

theorem FstForm.giveStep {c : Coll} {cfg : ColCfg} {head pass ph : Nat} (h : s.MemoryForm) : FstForm (s.giveStep c cfg head pass ph) := by
  unfold State.giveStep
  extract_lets me l ok
  exact iteInduction (motive := FstForm) (fun _ => .none) fun _ => .some (.foldl h (fun _ _ hx => .foldl hx (fun _ _ hy => .update hy)))

theorem State.MemoryForm.giveShares {c : Coll} (h : s.MemoryForm) : (s.giveShares c).MemoryForm := by
  unfold State.giveShares
  split
  · exact .update h
  · extract_lets cfg r
    have hr : FstForm r := by
      refine foldl_keeps FstForm _ _ _ (.some h) fun r p hr => ?_
      cases hr with
      | none => exact .none
      | some hx => exact .giveStep hx
    clear_value r
    cases hr with
    | none => exact .failResidue h
    | some hx => exact .update hx

theorem PairForm.colPacket {kinds : List Nat} (h : s.MemoryForm) : PairForm (s.colPacket kinds) := by
  unfold State.colPacket
  exact .oldestPacket h

/-- Where the reading of a collective's source leads keeps the memory form. -/
inductive SourceForm : (List Byte × State × Transfer) ⊕ (State ⊕ Nat) → Prop where
  | read {bs : List Byte} {s : State} {t : Transfer} : s.MemoryForm → SourceForm (.inl (bs, s, t))
  | waits {s : State} : s.MemoryForm → SourceForm (.inr (.inl s))
  | stops {cause : Nat} : SourceForm (.inr (.inr cause))

theorem SourceForm.colSource {gt : Nat} {t : Transfer} (h : s.MemoryForm) : SourceForm (s.colSource gt t) := by
  unfold State.colSource
  dsimp only
  split
  · split
    · split
      · exact .waits h
      · exact .read h
    · exact .waits h
    · exact .stops
    · exact .stops
  · split
    · exact .waits h
    · split
      · exact .stops
      · split
        · exact .waits (.update (.xWait h))
        · exact .read (.countHits h)

theorem State.MemoryForm.enterColl {gt : Nat} {t : Transfer} {bs : List Byte} (h : s.MemoryForm) : (s.enterColl gt t bs).MemoryForm := by
  unfold State.enterColl
  dsimp only
  split
  · exact .failColl h
  · exact .ite (.failColl h) (.ite (.failColl h) (.giveShares h))

theorem State.MemoryForm.takeShare {x : EvIn} (h : s.MemoryForm) : (s.takeShare x).MemoryForm := by
  unfold State.takeShare
  refine .ite h (.ite (.failColl h) ?_)
  exact .ite (.foldl (.failColl h) (fun x1 a hx1 => .ite (.failColl hx1) hx1)) (.ite (.failResidue h) (.giveShares h))

theorem NextForm.execColExchange (h : s.MemoryForm) : NextForm (execColExchange s) := by
  unfold Machine.execColExchange
  refine .ite ?_ ?_
  · split
    · exact .noUnit
    · next t _ =>
      have hsrc : SourceForm (s.colSource s.ev.gt t) := .colSource h
      generalize s.colSource s.ev.gt t = r at hsrc
      cases hsrc with
      | read hs => exact .next (.enterColl (.update hs))
      | waits hs => exact .next hs
      | @stops cause =>
        cases cause with
        | zero => exact .next (.failColl h)
        | succ cause => exact .next (.freezeColl h)
  · split
    · exact .noUnit
    · next he => exact .next (.takeShare (.of_pair (.colPacket h) he))

theorem State.MemoryForm.takeReady {c : Coll} {m : Nat} (h : s.MemoryForm) : (s.takeReady c m).MemoryForm := by
  unfold State.takeReady
  exact .ite h (.ite (.update (.colSend h)) (.update h))

theorem NextForm.execCollectiveReady (h : s.MemoryForm) : NextForm (execCollectiveReady s) := by
  unfold Machine.execCollectiveReady
  refine .ite ?_ ?_
  · split
    · exact .noUnit
    · refine .ite .noUnit ?_
      split
      · split
        · exact .next (.freezeColl h)
        · exact .next (.failColl h)
        · exact .ite (.next (.takeReady h)) (.next (.update (.update h)))
      · exact .noUnit
  · split
    · exact .noUnit
    · next he =>
        exact .next (.takeReady (.of_pair (.colPacket h) he))

theorem OptForm.colWrite {c : Coll} {gt : Nat} {t : Transfer} {bs : List Byte} (h : s.MemoryForm) : OptForm (s.colWrite c gt t bs) := by
  unfold State.colWrite
  dsimp only
  split
  · exact .ite .none (.some (.update (.update (.mvPut h))))
  · exact .none

theorem NextForm.execCollectiveCommit (h : s.MemoryForm) : NextForm (execCollectiveCommit s) := by
  unfold Machine.execCollectiveCommit
  refine .ite ?_ ?_
  · split
    · exact .noUnit
    · split
      · refine .ite .noUnit ?_
        split
        · next he3 =>
            exact .next (.of_some (.colWrite h) he3)
        · exact .noUnit
      · exact .noUnit
  · split
    · exact .noUnit
    · next he =>
        exact .ite (.next (.of_pair (.colPacket h) he)) (.next (.update (.colSend (.of_pair (.colPacket h) he))))

theorem NextForm.execCollectiveAbort (h : s.MemoryForm) : NextForm (execCollectiveAbort s) := by
  unfold Machine.execCollectiveAbort
  refine .ite ?_ ?_
  · split
    · exact .noUnit
    · exact .ite .noUnit (.next (.failColl h))
  · split
    · exact .noUnit
    · next he =>
        exact .ite (.next (.of_pair (.colPacket h) he)) (.next (.failColl (.of_pair (.colPacket h) he)))

theorem State.MemoryForm.decideColl {c : Coll} (h : s.MemoryForm) : (s.decideColl c).MemoryForm := by
  unfold State.decideColl
  exact .ite h (.ite (.update (.colSend h)) (.ite (.failColl h) (.update h)))

theorem NextForm.execCoordinatorTakeover (h : s.MemoryForm) : NextForm (execCoordinatorTakeover s) := by
  unfold Machine.execCoordinatorTakeover
  refine .ite ?_ ?_
  · split
    · exact .noUnit
    · exact .ite .noUnit (.ite (.next (.update h)) (.next (.decideColl (.colSend h))))
  · split
    · exact .noUnit
    · next he =>
        exact .ite (.next (.update (.update (.of_pair (.colPacket h) he)))) (.next (.decideColl (.of_pair (.colPacket h) he)))

theorem State.MemoryForm.sendMsg {dest : DWord} {payload : List Byte} {marks : List Bool} {seq : Nat} (h : s.MemoryForm) :
    (s.sendMsg dest payload marks seq).MemoryForm := by
  unfold State.sendMsg
  exact .ite (.update (.update h)) (.update (.update h))

theorem ActForm.msendDone {d : BitVec 5} {st : Nat} (h : s.MemoryForm) : ActForm (msendDone d st s) := by
  unfold Machine.msendDone
  exact .next (.update h)

theorem ActForm.msendHeld {dest : DWord} {d : BitVec 5} {bs : List (Byte × Bool)} (h : s.MemoryForm) : ActForm (msendHeld dest d bs s) := by
  unfold Machine.msendHeld
  exact .ite (.illegalOperand h) (.msendDone (.domPut (.foldl h (fun x a hx => .areaPut hx))))

theorem NextForm.execMsend {a d : BitVec 5} {q : BitVec 4} (h : s.MemoryForm) : NextForm (execMsend a d q s) := by
  unfold Machine.execMsend
  refine .run h ?_
  split
  · exact .msendDone h
  · refine .ite (.park h) (.checkRegs h (.ite (.illegalOperand h) ?_))
    refine .ite (.illegalOperand h) (.releaseWait h (.withLoad h (fun x1 y hx1 => .ite (.faultAt h) ?_)))
    exact .ite (.msendHeld (.update hx1)) (.park (.update (.sendMsg (.update hx1))))

end Sys2Proof.Machine

end

section
/-! PROOF. The memory form under messages, traps, compute domains, walks, admission, coherence and parity (R108). -/

namespace Sys2Proof.Machine

variable {s : State}

theorem State.MemoryForm.placeMsg {gt m k : Nat} {g : Msg} (h : s.MemoryForm) : (s.placeMsg gt m k g).MemoryForm := by
  unfold State.placeMsg
  exact .update (.update (.ite (.sramWrite h) (.onLines (.sramWrite h))))

theorem State.MemoryForm.arrive {g : Msg} (h : s.MemoryForm) : (s.arrive g).MemoryForm := by
  unfold State.arrive
  dsimp only
  split
  · refine .ite (.update h) ?_
    split
    · exact .ite (.update (.update h)) (.settleMail (.placeMsg (.update (.update h))))
    · exact .ite (.update (.update h)) (.update h)
  · exact .update h

theorem NextForm.execMessageArrival (h : s.MemoryForm) : NextForm (execMessageArrival s) := by
  unfold Machine.execMessageArrival
  refine .ite (.next (.settleMail h)) (.ite ?_ ?_)
  · split
    · exact .noUnit
    · next he =>
        exact .ite .noUnit (.next (.arrive (.update (.of_pair (.oldestPacket h) he))))
  · split
    · exact .noUnit
    · exact .ite .noUnit (.next (.arrive h))

theorem State.MemoryForm.takeReply {key num st : Nat} (h : s.MemoryForm) : (s.takeReply key num st).MemoryForm := by
  unfold State.takeReply
  exact .ite (.wake (.modTask h)) h

theorem NextForm.execMsendReply (h : s.MemoryForm) : NextForm (execMsendReply s) := by
  unfold Machine.execMsendReply
  refine .ite ?_ ?_
  · split
    · next he =>
        exact .next (.takeReply (.of_pair (.oldestPacket h) he))
    · exact .noUnit
  · split
    · exact .noUnit
    · exact .ite (.next (.takeReply (.ite (.update h) (.update h)))) (.next (.update (.ite (.update h) (.update h))))

theorem NextForm.execHandlerStart (h : s.MemoryForm) : NextForm (execHandlerStart s) := by
  unfold Machine.execHandlerStart
  refine .ite .noUnit ?_
  split
  · exact .noUnit
  · refine .ite (.next (.update h)) (.ite .noUnit ?_)
    split
    · exact .noUnit
    · exact .next (.ready (.addTask (.update (.update h))))

theorem ActForm.srWait {e : Nat} {k : Act} (h : s.MemoryForm) (hk : ActForm k) : ActForm (srWait s e k) := by
  unfold Machine.srWait
  exact .ite (.park h) (.ite (.park h) hk)

theorem NextForm.execWrsr {e a : BitVec 5} {q : BitVec 4} (h : s.MemoryForm) : NextForm (execWrsr e a q s) := by
  unfold Machine.execWrsr
  split
  · refine .runSup h (.ite (.illegalOperand h) ?_)
    exact .checkRegs h (.ite (.illegalOperand h) (.srWait h (.next (.update h))))
  · refine .run h (.ite (.illegalOperand h) ?_)
    exact .checkRegs h (.ite (.illegalOperand h) (.srWait h (.next (.update h))))

theorem NextForm.execTlbinv {e a : BitVec 5} {q : BitVec 4} (h : s.MemoryForm) : NextForm (execTlbinv e a q s) := by
  unfold Machine.execTlbinv
  refine .runSup h (.notInDomain h (.checkRegs h (.ite (.illegalOperand h) ?_)))
  exact .releaseWait h (.ite (.park (.update h)) (.next (.update (.update (.update h)))))

theorem State.MemoryForm.finishTrap {t : Task} {k : Nat} (h : s.MemoryForm) : (s.finishTrap t k).MemoryForm := by
  unfold State.finishTrap
  split
  · exact .eretResume h
  · exact .endTask (.ite h (.discardLevel h))
  · exact .discardWith h

theorem NextForm.execEret {e a : BitVec 5} {q : BitVec 4} (h : s.MemoryForm) : NextForm (execEret e a q s) := by
  unfold Machine.execEret
  refine .runSup h (.checkRegs h ?_)
  split
  · exact .illegalOperand h
  · exact .ite (.illegalOperand h) (.releaseWait h (.next (.finishTrap (.update h))))

theorem ActForm.areaOk {ga gt off : Nat} {k : Act} (h : s.MemoryForm) (hk : ActForm k) : ActForm (areaOk s ga gt off k) := by
  unfold Machine.areaOk
  refine .ite (.illegalOperand h) (.ite (.faultAt h) (.ite (.faultAt h) ?_))
  split
  · exact .park h
  · exact hk

theorem ActForm.withInputs {hs : List Nat} {k : Act} (h : s.MemoryForm) (hk : ActForm k) : ActForm (withInputs s hs k) := by
  induction hs with
  | nil => exact hk
  | cons x r ih =>
    unfold Machine.withInputs
    refine .withEntry h fun e => ?_
    split
    · exact .ite ih (.trap (.update h))
    · exact .trap (.update h)

theorem ActForm.storeArea {s0 : State} {ga : Nat} {ws : List (Nat × List Byte)} {k : State → Act} (h0 : s0.MemoryForm) (h : s.MemoryForm)
    (hk : ∀ x : State, x.MemoryForm → ActForm (k x)) : ActForm (storeArea s0 ga s ws k) := by
  induction ws generalizing s with
  | nil => exact hk s h
  | cons w r ih =>
    unfold Machine.storeArea
    split
    · dsimp only
      split
      · exact .chkAct h0 fun _ => .faultAt h0
      · exact ih (.update (.issueStore h))
    · exact .faultAt h0
    · exact .park h0
    · exact .freeze h0

theorem ActForm.openDomain {ga : Nat} (h : s.MemoryForm) : ActForm (openDomain ga s) := by
  unfold Machine.openDomain
  refine .ite (.park h) ?_
  split
  · exact .park h
  · exact .storeArea h (.update (.writeBack h)) (fun x1 hx1 => .next (.update hx1))

theorem NextForm.execCdopen {a : BitVec 5} {q : BitVec 4} (h : s.MemoryForm) : NextForm (execCdopen a q s) := by
  unfold Machine.execCdopen
  refine .run h (.checkRegs h (.ite (.illegalOperand h) (.chkAct h (fun x => .ite (.faultAt h) ?_))))
  dsimp only
  split
  · refine .areaOk h (.withDws h (fun x y hx => .ite (.illegalOperand h) ?_))
    refine .ite (.ite (.illegalOperand h) (.openDomain (.update hx))) (.ite (.illegalOperand h) ?_)
    split
    · exact .windowFault h
    · exact .withInputs hx (.openDomain (.update (.update hx)))
  · refine .ite (.illegalOperand h) (.withDws h (fun x1 y hx1 => .ite (.illegalOperand h) ?_))
    refine .ite (.ite (.illegalOperand h) (.openDomain (.update hx1))) (.ite (.illegalOperand h) ?_)
    split
    · exact .windowFault h
    · exact .withInputs hx1 (.openDomain (.update (.update hx1)))

theorem State.MemoryForm.closeWins {ws : List Nat} (h : s.MemoryForm) : (closeWins s ws).1.MemoryForm := by
  induction ws generalizing s with
  | nil => exact .update h
  | cons w r ih =>
    unfold Machine.closeWins
    exact .ite_fst (.update h) (.ite_fst (.update h) (ih (.update (.update h))))

theorem State.MemoryForm.relevel {key depth : Nat} (h : s.MemoryForm) : (s.relevel key depth).MemoryForm := by
  unfold State.relevel
  exact .modTask (.update h)

theorem ActForm.sendHeld {d : BitVec 5} (h : s.MemoryForm) : ActForm (sendHeld d s) := by
  unfold Machine.sendHeld
  dsimp only
  split
  · exact .illegalOperand h
  · split
    · exact .ite (.next (.update h)) (.park (.update (.sendMsg h)))
    · exact .ite (.park h) (.ite (.next (.update h)) (.park (.update (.sendMsg h))))

theorem ActForm.closeNest {d : BitVec 5} (h : s.MemoryForm) : ActForm (closeNest d s) := by
  unfold Machine.closeNest
  exact .sendHeld (.update (.update h))

theorem ActForm.closeOutput {d : BitVec 5} {ws : List Nat} (h : s.MemoryForm) : ActForm (closeOutput d ws s) := by
  unfold Machine.closeOutput
  split
  · next he =>
      exact .park (.of_fst (.closeWins h) he)
  · next he =>
      exact .closeNest (.of_fst (.closeWins h) he)

theorem NextForm.execCdclose {d : BitVec 5} {q : BitVec 4} (h : s.MemoryForm) : NextForm (execCdclose d q s) := by
  unfold Machine.execCdclose
  refine .run h (.ite (.sendHeld h) (.ite (.closeOutput h) (.syncAll h (.ite (.illegalOperand h) ?_))))
  split
  · exact .park h
  · exact .ite (.park h) (.ite (.next (.update (.relevel h))) (.closeOutput h))

theorem NextForm.execTieBreakComparison (h : s.MemoryForm) : NextForm (execTieBreakComparison s) := by
  unfold Machine.execTieBreakComparison
  split
  · exact .noUnit
  · split
    · exact .ite (.next (.wake (.update (.modTask h)))) (.ite (.next (.wake (.update (.modTask h)))) (.next (.discardNow h)))
    · exact .noUnit

theorem ActForm.cmpInto {b a : BitVec 5} {d : BitVec 3} {f : DWord → DWord → Bool} (h : s.MemoryForm) : ActForm (cmpInto b a d f s) := by
  unfold Machine.cmpInto
  exact .ite (.faultReg h) (.ite (.faultReg h) (.next (.update h)))

theorem ActForm.transfer {n : BitVec 3} {k : BitVec 56 → Act} (h : s.MemoryForm) (hk : ∀ (x : BitVec 56), ActForm (k x)) : ActForm (transfer s n k) := by
  unfold Machine.transfer
  exact .ite (hk _) (.fault h)

theorem NextForm.execSnapshotFetch (h : s.MemoryForm) : NextForm (execSnapshotFetch s) := by
  unfold Machine.execSnapshotFetch
  split
  · exact .noUnit
  · refine .ite .noUnit ?_
    split
    · exact .next (.modTask h)
    · exact .next h

theorem NextForm.execCodeFetch (h : s.MemoryForm) : NextForm (execCodeFetch s) := by
  unfold Machine.execCodeFetch
  split
  · exact .noUnit
  · refine .ite .noUnit (.next (.ready (.update (.ite ?_ ?_))))
    · dsimp only
      split
      · refine .update ?_
        split
        · exact .update h
        · exact h
      · split
        · exact .update h
        · exact h
    · dsimp only
      split
      · exact .update h
      · exact h

theorem State.MemoryForm.slotTurn {s0 : State} (h : s0.MemoryForm) : s0.slotTurn.MemoryForm := by
  unfold State.slotTurn
  exact .ite (.update (.update h)) (.update (.update (.update h)))

theorem OptForm.beforeIssue (h : s.MemoryForm) : OptForm s.beforeIssue := by
  unfold State.beforeIssue
  split
  · exact .none
  · exact .some (.ite (.discardWith (.update h)) (.takeTrap (.update h)))

theorem State.MemoryForm.waitOver (h : s.MemoryForm) : s.waitOver.MemoryForm := by
  unfold State.waitOver
  exact .ite (.update h) h

theorem State.MemoryForm.failAccess {i : Instr} {a : Nat} (h : s.MemoryForm) : (s.failAccess i a).MemoryForm := by
  unfold State.failAccess
  exact .raise (.update (.update h))

theorem State.MemoryForm.fetchFault (h : s.MemoryForm) : s.fetchFault.MemoryForm := by
  unfold State.fetchFault
  exact .takeTrap h

theorem State.MemoryForm.fetchPark {p : Park} (h : s.MemoryForm) : (s.fetchPark p).MemoryForm := by
  unfold State.fetchPark
  exact .update (.noteWait h)

theorem State.MemoryForm.placeCode {off : Nat} {bs : List Byte} (h : s.MemoryForm) : (s.placeCode off bs).MemoryForm := by
  unfold State.placeCode
  exact .put (.update (.update h))

theorem State.MemoryForm.placed {_nbits w : Nat} (h : s.MemoryForm) : (s.placed _nbits w).MemoryForm := by
  unfold State.placed
  exact .placeCode (.update (.update h))

theorem State.MemoryForm.startWalk {key page : Nat} (h : s.MemoryForm) : (s.startWalk key page).MemoryForm := by
  unfold State.startWalk
  exact .ite (.update h) (.ite (.update (.update h)) (.update h))

theorem NextForm.execTranslationWalk (h : s.MemoryForm) : NextForm (execTranslationWalk s) := by
  unfold Machine.execTranslationWalk
  split
  · exact .noUnit
  · split
    · exact .noUnit
    · refine .ite (.next (.startWalk h)) (.ite .noUnit ?_)
      split
      · exact .next (.askLine h)
      · exact .noUnit
      · exact .next (.startWalk h)

theorem State.MemoryForm.deliverWalk {w : Walk} {r : Option (DWord × Nat × Nat)} (h : s.MemoryForm) : (s.deliverWalk w r).MemoryForm := by
  unfold State.deliverWalk
  refine .wake ?_
  split
  · exact .ite (.update h) (.foldl (.update h) (fun x a hx => .update hx))
  · exact .update h

theorem NextForm.execWalkComplete (h : s.MemoryForm) : NextForm (execWalkComplete s) := by
  unfold Machine.execWalkComplete
  split
  · split
    · exact .next (.deliverWalk h)
    · exact .noUnit
  · exact .noUnit

theorem State.MemoryForm.hostWalk {tag : Nat} (h : s.MemoryForm) : (s.hostWalk tag).MemoryForm := by
  unfold State.hostWalk
  split
  · exact .deliverWalk h
  · exact h

theorem ChkForm.hwWrite {v a : Nat} {ds : List DWord} (h : s.MemoryForm) : ChkForm (s.hwWrite v a ds) := by
  induction ds generalizing s a with
  | nil => exact .ok h
  | cons d r ih =>
    unfold State.hwWrite
    split
    · split
      · exact .park
      · dsimp only
        split
        · exact .park
        · exact .trap
        · split
          · exact .trap
          · exact ih (.writeLoc h)
    · exact .trap
    · exact .park
    · exact .freeze

theorem ChkForm.hwStatus {v a st : Nat} (h : s.MemoryForm) : ChkForm (s.hwStatus v a st) := by
  unfold State.hwStatus
  refine .ite .trap ?_
  split
  · exact .hwWrite h
  · exact .trap
  · exact .park
  · exact .freeze

theorem State.MemoryForm.hwPut {v fuel a : Nat} {bs : List Byte} (h : s.MemoryForm) : (s.hwPut v fuel a bs).MemoryForm := by
  induction fuel generalizing s a bs with
  | zero => exact h
  | succ fuel ih =>
    cases bs with
    | nil => exact h
    | cons b r =>
      unfold State.hwPut
      refine ih ?_
      split
      · exact .writeLoc h
      · exact h

theorem State.MemoryForm.saveTask {t : Task} {a : Nat} (h : s.MemoryForm) : (s.saveTask t a).MemoryForm := by
  unfold State.saveTask
  exact .dropQueued (.foldl (.modTask (.hwPut h)) (fun x _ hx => .hwPut hx))

theorem State.MemoryForm.preemptTask {t : Task} {a : Nat} (h : s.MemoryForm) : (s.preemptTask t a).MemoryForm := by
  unfold State.preemptTask
  exact .update (.modTask (.storeWords (.enterTrap (.modTask (.saveTask h)))))

theorem NextForm.execPreemption (h : s.MemoryForm) : NextForm (execPreemption s) := by
  unfold Machine.execPreemption
  extract_lets +onlyGivenNames v
  split
  · exact .noUnit
  · next r rest _ =>
    extract_lets +onlyGivenNames s0
    have h0 : s0.MemoryForm := .wake (.update h)
    clear_value s0
    split
    · extract_lets +onlyGivenNames save
      split
      · exact .whenHw h .park h
      · extract_lets +onlyGivenNames st stat
        have hstat (x : State) (hx : x.MemoryForm) : NextForm (stat x) := .whenHw h (.hwStatus hx) hx
        clear_value stat
        refine .ite (hstat _ h0) ?_
        split
        · exact hstat _ h0
        · exact .ite .noUnit (hstat _ (.preemptTask h0))
    · exact .whenHw h .park h
    · exact .next (.refuse h0)

theorem State.MemoryForm.queued {w : CtrlW} (h : s.MemoryForm) (hw : CtrlForm w) : (s.queued w).MemoryForm := by
  cases hw with
  | ok hs => exact hs
  | fault => exact h
  | park => exact .modTask h

theorem State.MemoryForm.fillSaved {key : Nat} (h : s.MemoryForm) : (s.fillSaved key).MemoryForm := by
  unfold State.fillSaved
  split
  · exact h
  · refine .ite h ?_
    exact .modTask (.foldl (.foldl h (fun x1 a hx1 => .update hx1)) (fun x1 a hx1 => .ite (.update (.update hx1)) (.update (.update hx1))))

theorem NextForm.execTaskReady (h : s.MemoryForm) : NextForm (execTaskReady s) := by
  unfold Machine.execTaskReady
  split
  · exact .noUnit
  · split
    · exact .ite (.next (.readyAgain h)) .noUnit
    · exact .noUnit

theorem State.MemoryForm.seat {t : Task} {gt n : Nat} (h : s.MemoryForm) : (s.seat t gt n).MemoryForm := by
  unfold State.seat
  exact .select (.fillSaved (.fillLines (.update (.modTask h))))

theorem NextForm.execTaskAdmission (h : s.MemoryForm) : NextForm (execTaskAdmission s) := by
  unfold Machine.execTaskAdmission
  refine .ite .noUnit ?_
  split
  · refine .ite .noUnit ?_
    split
    · exact .whenHw h .park h
    · exact .next (.seat h)
  · exact .noUnit

theorem NextForm.execReadyAging (h : s.MemoryForm) : NextForm (execReadyAging s) := by
  unfold Machine.execReadyAging
  split
  · exact .noUnit
  · exact .ite (.next (.update (.modTask h))) .noUnit

theorem State.MemoryForm.noteHeads (h : s.MemoryForm) : s.noteHeads.MemoryForm := by
  unfold State.noteHeads
  exact .foldl h (fun x a hx => .ite hx (.update hx))

theorem NextForm.execRotation (h : s.MemoryForm) : NextForm (execRotation s) := by
  unfold Machine.execRotation
  dsimp only
  split
  · exact .ite (.next (.update (.ready (.modTask h)))) .noUnit
  · exact .noUnit

theorem NextForm.execRegisterCacheFill (h : s.MemoryForm) : NextForm (execRegisterCacheFill s) := by
  unfold Machine.execRegisterCacheFill
  split
  · exact .noUnit
  · split
    · exact .next (.ready (.fillLines h))
    · exact .noUnit

theorem State.MemoryForm.noteHeld {v id n cause : Nat} {p : Nat × Nat} (h : s.MemoryForm) : (s.noteHeld v id n cause p).MemoryForm := by
  unfold State.noteHeld
  exact .ite (.update (.logEvent h)) (.logEvent h)

theorem NextForm.execLeadDistributorPlacement (h : s.MemoryForm) : NextForm (execLeadDistributorPlacement s) := by
  unfold Machine.execLeadDistributorPlacement
  dsimp only
  split
  · exact .noUnit
  · refine .ite .noUnit ?_
    split
    · exact .noUnit
    · exact .next (.ite (.update h) (.noteHeld (.update h)))

theorem NextForm.execTaskInstantiation (h : s.MemoryForm) : NextForm (execTaskInstantiation s) := by
  unfold Machine.execTaskInstantiation
  dsimp only
  split
  · exact .noUnit
  · split
    · exact .ite .noUnit (.next (.joinAtStart (.update h)))
    · exact .noUnit

theorem State.MemoryForm.setLine {mma : Nat} {d : BitVec 1024} {marks : Nat} (h : s.MemoryForm) : (s.setLine mma d marks).MemoryForm := by
  unfold State.setLine
  exact .put h

theorem State.MemoryForm.grantLine {dst seq mma st : Nat} (h : s.MemoryForm) : (s.grantLine dst seq mma st).MemoryForm := by
  unfold State.grantLine
  refine .ite (.update (.update (.ite h ?_))) (.update (.update h))
  split
  · exact .giveUp h
  · exact h

theorem State.MemoryForm.refuseMaster {p : Packet} {cause : Nat} (h : s.MemoryForm) : (s.refuseMaster p cause).MemoryForm := by
  unfold State.refuseMaster
  dsimp only
  split
  · exact .freezeTask (.update (.update h))
  · split
    · exact .ite (.freezeColl (.update h)) (.refuseXfer (.update h))
    · exact .update h
  · exact .update h

theorem State.MemoryForm.refusePeer {src seq mma : Nat} (h : s.MemoryForm) : (s.refusePeer src seq mma).MemoryForm := by
  unfold State.refusePeer
  refine .ite ?_ (.update h)
  split
  · exact .refuseMaster h
  · exact h

theorem OptForm.serveGet {write : Bool} {src seq mma : Nat} {up : Bool} (h : s.MemoryForm) : OptForm (s.serveGet write src seq mma up) := by
  unfold State.serveGet
  refine .ite .none (.ite (.ite (.some (.update h)) (.ite .none ?_)) ?_)
  · dsimp only
    split
    · exact .some (.grantLine (.update (.ite h (.dropOwn h))))
    · exact .some (.serve (.ite h (.dropOwn h)))
  · split
    · exact .ite (.some (.grantLine (.update (.update h)))) (.ite (.some (.grantLine (.update h))) (.some (.serve h)))
    · exact .ite (.some (.grantLine (.update h))) (.some (.grantLine (.update h)))

theorem NextForm.homeServes {write : Bool} {name : String} (h : s.MemoryForm) : NextForm (s.homeServes write name) := by
  unfold State.homeServes
  refine .ite ?_ ?_
  · split
    · exact .noUnit
    · refine .ite (.next h) (.ite (.next (.refusePeer h)) ?_)
      split
      · next he1 =>
          exact .next (.of_some (.serveGet h) he1)
      · exact .noUnit
  · split
    · exact .noUnit
    · next he =>
        refine .ite (.next (.update (.of_pair (.taken h) he))) (.ite (.next (.refusePeer (.of_pair (.taken h) he))) ?_)
        split
        · next he1 =>
            exact .next (.of_some (.serveGet (.of_pair (.taken h) he)) he1)
        · exact .noUnit

theorem State.MemoryForm.allAnswered {mma : Nat} (h : s.MemoryForm) : (s.allAnswered mma).MemoryForm := by
  unfold State.allAnswered
  dsimp only
  split
  · refine .ite h (.ite ?_ (.ite (.grantLine (.update (.update h))) (.update h)))
    exact .ite (.grantLine (.update (.update h))) (.update (.update (.update h)))
  · exact h

theorem State.MemoryForm.holderGone {src mma : Nat} (h : s.MemoryForm) : (s.holderGone src mma).MemoryForm := by
  unfold State.holderGone
  dsimp only
  split
  · unfold Option.getD
    split
    · next he1 =>
        exact .of_some (.serveGet (.update (.update h))) he1
    · exact .update (.update h)
  · exact .allAnswered (.update h)

theorem State.MemoryForm.holderAnswers {x : EvIn} (h : s.MemoryForm) : (s.holderAnswers x).MemoryForm := by
  unfold State.holderAnswers
  refine .ite (.ite (.update h) h) (.ite h ?_)
  exact .ite (.holderGone (.ite (.setLine h) h)) (.allAnswered (.update (.ite (.setLine h) h)))

theorem State.MemoryForm.forwardLine {x : EvIn} (h : s.MemoryForm) : (s.forwardLine x).MemoryForm := by
  unfold State.forwardLine
  exact .ite (.update h) (.ite (.update (.update h)) (.update (.update (.update h))))

theorem NextForm.execInvalidation (h : s.MemoryForm) : NextForm (execInvalidation s) := by
  unfold Machine.execInvalidation
  split
  · exact .noUnit
  · next he =>
      exact .next (.update (.update (.update (.of_pair (.taken h) he))))

theorem NextForm.ownGivesUp {states : List Nat} {name : String} (h : s.MemoryForm) : NextForm (s.ownGivesUp states name) := by
  unfold State.ownGivesUp
  exact .ite .noUnit (.next (.giveUp h))

theorem NextForm.execWriteBack (h : s.MemoryForm) : NextForm (execWriteBack s) := by
  unfold Machine.execWriteBack
  refine .ite (.ownGivesUp h) ?_
  split
  · exact .noUnit
  · next he =>
      refine .ite (.next (.update (.of_pair (.taken h) he))) ?_
      exact .next (.acked (.holderGone (.ite (.setLine (.of_pair (.taken h) he)) (.of_pair (.taken h) he))))

theorem NextForm.execEviction (h : s.MemoryForm) : NextForm (execEviction s) := by
  unfold Machine.execEviction
  refine .ite (.ownGivesUp h) ?_
  split
  · exact .noUnit
  · next he =>
      exact .next (.acked (.holderGone (.of_pair (.taken h) he)))

theorem NextForm.execDirectoryEviction (h : s.MemoryForm) : NextForm (execDirectoryEviction s) := by
  unfold Machine.execDirectoryEviction
  refine .ite .noUnit ?_
  dsimp only
  split
  · exact .next (.dropOwn h)
  · exact .next (.serve (.dropOwn h))

theorem State.MemoryForm.dataArrives {st : Nat} {x : EvIn} (h : s.MemoryForm) : (s.dataArrives st x).MemoryForm := by
  unfold State.dataArrives
  split
  · exact h
  · refine .update (.update (.update (.ite h ?_)))
    split
    · exact .giveUp h
    · exact h

theorem State.MemoryForm.retireDeltas (h : s.MemoryForm) : s.retireDeltas.MemoryForm := by
  unfold State.retireDeltas
  exact .foldl (.foldl (.update h) (fun x a hx => .acked hx)) (fun x a hx => .ite hx (.update hx))

theorem State.MemoryForm.deltaAck {seq : Nat} (h : s.MemoryForm) : (s.deltaAck seq).MemoryForm := by
  unfold State.deltaAck
  exact .retireDeltas (.update (.update h))

theorem State.MemoryForm.applyDelta {hb : HeldDelta} (h : s.MemoryForm) : (s.applyDelta hb).MemoryForm := by
  unfold State.applyDelta
  exact .update (.put h)

theorem NextForm.execParityDelta (h : s.MemoryForm) : NextForm (execParityDelta s) := by
  unfold Machine.execParityDelta
  split
  · exact .noUnit
  · next he =>
      refine .ite .noUnit ?_
      exact .ite (.next (.update (.of_pair (.taken h) he))) (.next (.update (.applyDelta (.of_pair (.taken h) he))))

theorem NextForm.execProtectedWrite (h : s.MemoryForm) : NextForm (execProtectedWrite s) := by
  unfold Machine.execProtectedWrite
  split
  · exact .noUnit
  · next he =>
      refine .ite (.next (.update (.of_pair (.taken h) he))) (.ite (.next (.refusePeer (.of_pair (.taken h) he))) (.ite .noUnit ?_))
      dsimp only
      split
      · exact .next (.askLine h)
      · exact .noUnit
      · exact .next (.acked (.homePut (.of_pair (.taken h) he)))

end Sys2Proof.Machine

end

section
/-! PROOF. The memory form under packets, page moves, dies and the host's requests (R108). -/

namespace Sys2Proof.Machine

variable {s : State}

theorem State.MemoryForm.regrant {x : EvIn} (h : s.MemoryForm) : (s.regrant x).MemoryForm := by
  unfold State.regrant
  refine .ite h ?_
  split
  · exact .update h
  · exact .serve h
  · exact h

theorem State.MemoryForm.takeReserve {x : EvIn} (h : s.MemoryForm) : (s.takeReserve x).MemoryForm := by
  unfold State.takeReserve
  exact .ite (.update h) (.ite (.refusePeer h) (.ite (.update h) (.update h)))

theorem State.MemoryForm.takeShared {x : EvIn} (h : s.MemoryForm) : (s.takeShared x).MemoryForm := by
  unfold State.takeShared
  exact .ite h (.applyDelta h)

theorem State.MemoryForm.takeRequest {x : EvIn} (h : s.MemoryForm) : (s.takeRequest x).MemoryForm := by
  unfold State.takeRequest
  split
  · refine .ite (.takeReserve (.update h)) ?_
    exact .ite (.acked (.update (.update h))) (.ite (.acked (.takeShared (.update h))) (.update (.update h)))
  · refine .ite (.regrant h) ?_
    split
    · exact h
    · exact .ite h (.update h)

theorem State.MemoryForm.takeAnswer {x : EvIn} (h : s.MemoryForm) : (s.takeAnswer x).MemoryForm := by
  unfold State.takeAnswer
  refine .ite (.dataArrives h) ?_
  refine .ite (.dataArrives h) (.ite (.dataArrives h) (.ite (.holderAnswers h) ?_))
  split
  · exact h
  · refine .ite (.deltaAck h) (.ite (.update h) (.ite (.update h) ?_))
    exact .ite (.refuseMaster h) (.ite (.update (.update h)) (.ite (.update h) h))

theorem State.MemoryForm.deliver {x : EvIn} (h : s.MemoryForm) : (s.deliver x).MemoryForm := by
  unfold State.deliver
  exact .ite (.update h) (.ite (.update h) (.update h))

theorem State.MemoryForm.deliverNext {n : Nat} (h : s.MemoryForm) : (s.deliverNext n).MemoryForm := by
  induction n generalizing s with
  | zero => exact h
  | succ n ih =>
    unfold State.deliverNext
    dsimp only
    split
    · exact h
    · exact ih (.deliver (.update h))

theorem State.MemoryForm.takeOrdered {x : EvIn} (h : s.MemoryForm) : (s.takeOrdered x).MemoryForm := by
  unfold State.takeOrdered
  exact .ite h (.deliverNext (.update h))

theorem State.MemoryForm.accept {x : EvIn} (h : s.MemoryForm) : (s.accept x).MemoryForm := by
  unfold State.accept
  refine .ite (.takeRequest h) ?_
  exact .ite (.takeAnswer h) (.ite (.ite (.forwardLine h) (.update h)) (.takeOrdered h))

theorem State.MemoryForm.forgetModule {src : Nat} (h : s.MemoryForm) : (s.forgetModule src).MemoryForm := by
  unfold State.forgetModule
  exact .foldl (.foldl (.update h) (fun x a hx => .update hx)) (fun x a hx => .holderGone (.ite (.update hx) hx))

theorem State.MemoryForm.announced {x : EvIn} {inc : BitVec 16} (h : s.MemoryForm) : (s.announced x inc).MemoryForm := by
  unfold State.announced
  exact .update (.update (.update (.forgetModule h)))

theorem NextForm.execPacketArrival (h : s.MemoryForm) : NextForm (execPacketArrival s) := by
  unfold Machine.execPacketArrival
  refine .ite (.next (.update h)) (.ite (.next (.update h)) ?_)
  exact .ite (.next (.announced h)) (.ite (.next (.update h)) (.next (.accept h)))

theorem NextForm.execRequestResend (h : s.MemoryForm) : NextForm (execRequestResend s) := by
  unfold Machine.execRequestResend
  split
  · exact .noUnit
  · exact .next (.update (.update h))

theorem NextForm.execIncarnationChange (h : s.MemoryForm) : NextForm (execIncarnationChange s) := by
  unfold Machine.execIncarnationChange
  refine .ite .noUnit ?_
  exact .next (.update (.foldl (.update h) (fun x a hx => .update (.update hx))))

theorem NextForm.execDetour (h : s.MemoryForm) : NextForm (execDetour s) := by
  unfold Machine.execDetour
  dsimp only
  split
  · exact .noUnit
  · exact .ite .noUnit (.next (.update h))

theorem State.MemoryForm.serveUndo (h : s.MemoryForm) : s.serveUndo.MemoryForm := by
  unfold State.serveUndo
  refine .foldl h (fun x a hx => .ite hx ?_)
  dsimp only
  split
  · exact .askLine hx
  · exact hx
  · exact .acked (.addHome (.update hx))

theorem State.MemoryForm.linkTurn (h : s.MemoryForm) : s.linkTurn.MemoryForm := by
  unfold State.linkTurn
  exact .update (.serveUndo h)

theorem NextForm.execMemberLoss (h : s.MemoryForm) : NextForm (execMemberLoss s) := by
  unfold Machine.execMemberLoss
  refine .ite .noUnit ?_
  exact .next (.ite (.update (.update (.update (.retireDeltas (.update h))))) (.update (.update (.retireDeltas (.update h)))))

theorem State.MemoryForm.shareDeltas {home : Nat} (h : s.MemoryForm) : (s.shareDeltas home).MemoryForm := by
  unfold State.shareDeltas
  exact .foldl h (fun x a hx => .ite hx (.update hx))

theorem NextForm.execErasureRebuild (h : s.MemoryForm) : NextForm (execErasureRebuild s) := by
  unfold Machine.execErasureRebuild
  dsimp only
  split
  · exact .next (.put h)
  · exact .ite (.next (.shareDeltas h)) .noUnit
  · exact .ite .noUnit (.next (.update h))
  · exact .ite (.next (.update h)) .noUnit

theorem State.MemoryForm.failStore {y : Store} (h : s.MemoryForm) : (s.failStore y).MemoryForm := by
  unfold State.failStore
  exact .modTask (.foldl (.update h) (fun x a hx => .update hx))

theorem NextForm.execRemoteFailure (h : s.MemoryForm) : NextForm (execRemoteFailure s) := by
  unfold Machine.execRemoteFailure
  refine .ite ?_ (.ite ?_ ?_)
  · split
    · exact .next (.ite (.failColl h) (.update h))
    · exact .noUnit
  · split
    · exact .next (.failStore h)
    · exact .noUnit
  · split
    · exact .noUnit
    · refine .ite (.ite (.next (.takeReply h)) .noUnit) (.ite .noUnit (.next (.ready (.modTask ?_))))
      split
      · exact .update (.update h)
      · exact h

theorem State.MemoryForm.refuseMove {v : Nat} (h : s.MemoryForm) : (s.refuseMove v).MemoryForm := by
  unfold State.refuseMove
  exact .refuse h

theorem NextForm.execPageMoveRecord (h : s.MemoryForm) : NextForm (execPageMoveRecord s) := by
  unfold Machine.execPageMoveRecord
  dsimp only
  split
  · split
    · exact .next (.update (.wake (.update h)))
    · exact .whenHw h .park h
    · exact .next (.refuseMove (.wake (.update h)))
  · exact .noUnit

theorem NextForm.execFrameMove (h : s.MemoryForm) : NextForm (execFrameMove s) := by
  unfold Machine.execFrameMove
  dsimp only
  split
  · exact .noUnit
  · refine .ite (.whenHw h (.hwStatus (.update h)) (.refuseMove (.update h))) ?_
    exact .ite (.next (.update h)) (.ite .noUnit (.next (.update (.update (.copyBytes h)))))

theorem NextForm.execScrubRead (h : s.MemoryForm) : NextForm (execScrubRead s) := by
  unfold Machine.execScrubRead
  refine .ite (.next (.ite (.poisonRun h) h)) (.ite (.next (.ite (.poisonGran h) h)) (.ite (.next h) ?_))
  exact .ite (.next (.update h)) (.ite (.next (.update h)) (.next (.update (.poisonRun h))))

theorem State.MemoryForm.setKind {frame kind : Nat} (h : s.MemoryForm) : (s.setKind frame kind).MemoryForm := by
  unfold State.setKind
  exact .ite (.clearBytes (.update h)) (.ite (.foldl (.update h) (fun x a hx => .update hx)) (.update h))

theorem State.MemoryForm.sortHeld (h : s.MemoryForm) : s.sortHeld.MemoryForm := by
  unfold State.sortHeld
  refine .foldl (.update h) (fun x a hx => .foldl hx (fun x1 a1 hx1 => ?_))
  dsimp only
  split
  · exact hx1
  · exact .noteHeld hx1

theorem State.MemoryForm.loseTask {k : Nat} (h : s.MemoryForm) : (s.loseTask k).MemoryForm := by
  unfold State.loseTask
  split
  · exact h
  · split
    · exact .freezeTask (.freezeTask h)
    · exact .ite (.update (.update (.modTask (.storeWords h)))) (.startTrapHandler (.update (.modTask (.storeWords h))))

theorem NextForm.execRectangleReset (h : s.MemoryForm) : NextForm (execRectangleReset s) := by
  unfold Machine.execRectangleReset
  refine .next (.sortHeld (.foldl (.poisonRun (.foldl (.foldl h (fun x _ hx => .foldl hx (fun x1 _ hx1 => .completeXfer hx1))) (fun x a hx => .update
    hx))) (fun x a hx => ?_)))
  split
  · exact .discardNow hx
  · exact .loseTask hx

theorem State.MemoryForm.loseDie {d : Nat} (h : s.MemoryForm) : (s.loseDie d).MemoryForm := by
  unfold State.loseDie
  exact .clearBytes (.update h)

theorem State.MemoryForm.fenceDie {d : Nat} (h : s.MemoryForm) : (s.fenceDie d).MemoryForm := by
  unfold State.fenceDie
  exact .sortHeld (.update (.update (.loseDie h)))

theorem State.MemoryForm.bindDie {d spare : Nat} (h : s.MemoryForm) : (s.bindDie d spare).MemoryForm := by
  unfold State.bindDie
  exact .update (.ite (.update h) (.update (.update h)))

theorem State.MemoryForm.unfenceDie {d : Nat} (h : s.MemoryForm) : (s.unfenceDie d).MemoryForm := by
  unfold State.unfenceDie
  exact .sortHeld (.update h)

theorem NextForm.execDieRetirement (h : s.MemoryForm) : NextForm (execDieRetirement s) := by
  unfold Machine.execDieRetirement
  dsimp only
  split
  · exact .next (.unfenceDie h)
  · exact .ite .noUnit (.next (.bindDie h))
  · exact .ite .noUnit (.ite (.next (.update (.update h))) (.next (.fenceDie h)))

theorem State.MemoryForm.hostRefuse {v : Option Nat} {reason off : Nat} (h : s.MemoryForm) : (s.hostRefuse v reason off).MemoryForm := by
  unfold State.hostRefuse
  dsimp only
  split
  · exact .logEvent (.update h)
  · exact .update h

theorem State.MemoryForm.hostRefuseFree {v : Option Nat} {off : Nat} (h : s.MemoryForm) : (s.hostRefuseFree v off).MemoryForm := by
  unfold State.hostRefuseFree
  exact .hostRefuse (.update h)

theorem State.MemoryForm.freezePort {v port cause : Nat} (h : s.MemoryForm) : (s.freezePort v port cause).MemoryForm := by
  unfold State.freezePort
  exact .recordFreeze (.update h)

theorem State.MemoryForm.refuseRecord {v w reason off : Nat} (h : s.MemoryForm) : (s.refuseRecord v w reason off).MemoryForm := by
  unfold State.refuseRecord
  exact .refuse (.update h)

theorem OptForm.windowWrite {v w off n : Nat} {d : BitVec 512} (h : s.MemoryForm) : OptForm (s.windowWrite v w off n d) := by
  unfold State.windowWrite
  exact .ite (.some (.refuseRecord h)) (.ite .none (.some (.update h)))

theorem NextForm.execLaunchWindowWrite (h : s.MemoryForm) : NextForm (execLaunchWindowWrite s) := by
  unfold Machine.execLaunchWindowWrite
  refine .ite .noUnit (.ite (.next (.update h)) ?_)
  split
  · next he =>
      exact .next (.of_some (.windowWrite h) he)
  · exact .noUnit

theorem State.MemoryForm.hostCtrl {v vdie page off n : Nat} {write : Bool} {d : Nat} (h : s.MemoryForm) :
    (s.hostCtrl v vdie page off n write d).MemoryForm := by
  unfold State.hostCtrl
  refine .ite (.ite (.update h) (.update h)) (.ite (.ite (.update h) ?_) ?_)
  · split
    · next he =>
        exact .update (.of_ctrl (.ctrlWrite h) he)
    · exact .update h
  · split
    · exact .update h
    · exact .update h

theorem State.MemoryForm.pageRead {a n : Nat} (h : s.MemoryForm) : (s.pageRead a n).MemoryForm := by
  unfold State.pageRead
  split
  · exact .update h
  · exact .update h

theorem NextForm.execHostLaunchStart (h : s.MemoryForm) : NextForm (execHostLaunchStart s) := by
  unfold Machine.execHostLaunchStart
  dsimp only
  split
  · exact .noUnit
  · refine .ite (.next (.refuseRecord (.update h))) (.ite (.next (.refuseRecord (.update h))) (.ite ?_ (.ite .noUnit ?_)))
    · split
      · refine .ite .noUnit ?_
        exact .ite (.next (.freezePort (.update h))) (.next (.update (.enterLaunch (.update h))))
      · exact .next (.refuseRecord (.update h))
      · exact .next (.freezePort (.update h))
      · exact .noUnit
    · exact .ite (.next (.freezePort (.update h))) (.next (.update (.enterLaunch (.update h))))

theorem State.MemoryForm.writeVictl {v : Nat} {d : DWord} (h : s.MemoryForm) : (s.writeVictl v d).MemoryForm := by
  unfold State.writeVictl
  exact .ite (.update h) (.sortHeld (.update h))

theorem State.MemoryForm.writeJobtag {v value : Nat} (h : s.MemoryForm) : (s.writeJobtag v value).MemoryForm := by
  unfold State.writeJobtag
  exact .ite (.hostRefuseFree h) (.update h)

theorem State.MemoryForm.writeContext {v n value : Nat} (h : s.MemoryForm) : (s.writeContext v n value).MemoryForm := by
  unfold State.writeContext
  exact .ite (.hostRefuse h) (.update h)

theorem State.MemoryForm.hostAlloc {v port gb : Nat} (h : s.MemoryForm) : (s.hostAlloc v port gb).MemoryForm := by
  unfold State.hostAlloc
  dsimp only
  split
  · split
    · next he1 =>
        exact .update (.of_alloc (.allocFree h) he1)
    · exact .freezePort h
  · split
    · exact .update h
    · exact .freezePort h
  · exact .update h

theorem State.MemoryForm.writeEraskind {d : DWord} (h : s.MemoryForm) : (s.writeEraskind d).MemoryForm := by
  unfold State.writeEraskind
  refine .ite (.hostRefuseFree h) ?_
  split
  · exact .askLine h
  · exact .foldl (.foldl h (fun x1 _ hx1 => .ite (.dropOwn hx1) hx1)) (fun x1 _ hx1 => .setKind hx1)

theorem State.MemoryForm.writeErasgrp {d : DWord} (h : s.MemoryForm) : (s.writeErasgrp d).MemoryForm := by
  unfold State.writeErasgrp
  exact .ite (.hostRefuseFree h) (.ite (.foldl (.update h) (fun x a hx => .update hx)) (.update h))

theorem State.MemoryForm.writeHeqack {n : Nat} (h : s.MemoryForm) : (s.writeHeqack n).MemoryForm := by
  unfold State.writeHeqack
  exact .foldl (.update h) (fun x a hx => .update hx)

theorem State.MemoryForm.hostAct {k : Nat} (h : s.MemoryForm) : (s.hostAct k).MemoryForm := by
  unfold State.hostAct
  dsimp only
  split
  · exact .update h
  · exact .ite (.update (.finishTrap h)) (.update h)

theorem State.MemoryForm.writeModule {off : Nat} {d : DWord} (h : s.MemoryForm) : (s.writeModule off d).MemoryForm := by
  unfold State.writeModule
  refine .ite (.update h) (.ite (.ite (.update h) h) (.ite (.update h) ?_))
  refine .ite (.writeEraskind h) (.ite (.writeErasgrp h) (.ite (.ite (.update h) h) ?_))
  refine .ite (.writeHeqack h) (.ite (.update h) (.ite (.hostAct h) (.ite (.update h) ?_)))
  exact .ite (.ite (.hostRefuseFree h) (.update h)) (.ite (.update h) (.ite (.hostWalk h) (.ite (.ite (.update h) h) h)))

theorem State.MemoryForm.writeViBlock {v off port : Nat} {d : DWord} (h : s.MemoryForm) : (s.writeViBlock v off port d).MemoryForm := by
  unfold State.writeViBlock
  refine .ite (.writeVictl h) (.ite (.writeJobtag h) (.ite (.update h) (.ite (.update h) ?_)))
  exact .ite (.update h) (.ite (.hostAlloc h) (.ite (.writeContext h) (.ite (.update h) h)))

theorem NextForm.execControlSpaceWrite (h : s.MemoryForm) : NextForm (execControlSpaceWrite s) := by
  unfold Machine.execControlSpaceWrite
  refine .ite ?_ (.ite (.next (.writeModule h)) (.next (.writeViBlock h)))
  split
  · exact .noUnit
  · exact .next (.queued h (.ctrlWrite h))

theorem NextForm.execHostRequest (h : s.MemoryForm) : NextForm (execHostRequest s) := by
  unfold Machine.execHostRequest
  refine .ite (.next (.pageRead h)) ?_
  refine .ite (.next (.update (.ite (.writeModule h) (.writeViBlock h)))) (.ite .noUnit (.ite (.next (.update h)) (.ite ?_ ?_)))
  · split
    · refine .ite (.next (.update (.freezePort h))) (.ite (.next (.update h)) (.ite (.ite .noUnit ?_) ?_))
      · split
        · exact .next (.update (.countHits (.writeLoc h)))
        · exact .next (.askLine h)
        · exact .noUnit
        · exact .next (.update h)
      · dsimp only
        split
        · exact .next (.ite (.update h) (.update h))
        · exact .next (.askLine h)
        · exact .noUnit
        · exact .next (.update h)
    · exact .whenHw h .park h
    · exact .whenHw h .park h
    · exact .next (.update h)
  · split
    · refine .ite ?_ (.ite (.next (.update h)) (.ite ?_ (.next (.hostCtrl h))))
      · split
        · next he1 =>
            exact .next (.update (.of_some (.windowWrite h) he1))
        · exact .noUnit
      · split
        · exact .noUnit
        · exact .next (.hostCtrl h)
    · refine .ite (.next (.update h)) (.ite (.ite .noUnit ?_) ?_)
      · split
        · exact .next (.update (.countHits (.writeLoc h)))
        · exact .next (.askLine h)
        · exact .noUnit
        · exact .next (.update h)
      · dsimp only
        split
        · exact .next (.ite (.update h) (.update h))
        · exact .next (.askLine h)
        · exact .noUnit
        · exact .next (.update h)
    · exact .next (.update (.freezePort h))
    · exact .whenHw h .park h
    · exact .next (.update h)

theorem ActForm.alu2 {a b d : BitVec 5} {f : DWord → DWord → DWord} (h : s.MemoryForm) : ActForm (alu2 a b d f s) := by
  unfold Machine.alu2
  exact .next (.update h)

theorem ActForm.alu1 {a d : BitVec 5} {f : DWord → DWord} (h : s.MemoryForm) : ActForm (alu1 a d f s) := by
  unfold Machine.alu1
  exact .next (.update h)

end Sys2Proof.Machine

end

section
/-! PROOF. The memory form under every instruction and event, and so under a step (R108). -/

namespace Sys2Proof.Machine

variable {s : State}

theorem NextForm.exec {i : Instr} (h : s.MemoryForm) : NextForm (exec i s) := by
  unfold Machine.exec
  cases i with dsimp only
  | addS | subS | andS | orS | xorS | shlS | shrS => exact .run0 (.alu2 h)
  | movS => exact .run0 (.ite (.next h) (.alu1 h))
  | nop => exact .run0 (.next h)
  | vaddS | vsubS | vmulS | vminS | vmaxS | vandS | vorS | vxorS => exact .vtyped h (.vPlain h)
  | add | sub | and | or | xor | andn | orn | xnor | shl | shr | sra | ror | min | max | minn | maxn | mul | mulh | mulhn | div | divn | rem | remn
  | shadd1 | shadd2 | shadd3 | shadd4 | mksa => exact .run h (.alu2 h)
  | mov | clz | ctz | popc | brev | bswap | sext | zext => exact .run h (.alu1 h)
  | addi | andi | ori | xori | shli | shri | srai | muli | lix => exact .run0 (.alu1 h)
  | li | lpc | bprep => exact .run0 (.next (.update h))
  | ldB | ldH | ldW | ldD | ldNb | ldNh | ldNw | ldAcq => exact .run h (.loadAct h)
  | stB | stH | stW | stD | stRel => exact .run h (.storeAct h)
  | scopeOpen => exact .run h (.withMask h (fun x => .ite (.park (.ite h (.update h))) (.next (.update h))))
  | scopeClose => exact .run h (.withMask h (fun x => .next (.update h)))
  | mbr => exact .run h (.ite (.next (.update h)) (.park h))
  | mbw | qdist => exact .run h (.ite (.illegalOperand h) (.next (.update h)))
  | alloc | free => exact .run h (.allocAct h)
  | rsv => exact .execRsv h
  | relw => exact .run h (.checkRegs h (.ite (.illegalOperand h) (.checkRegs h (.relAct h))))
  | reln => exact .run h (.checkRegs h (.ite (.illegalOperand h) (.relAct h)))
  | casW | casD => exact .run h (.casAct h)
  | amoAdd | amoAnd | amoOr | amoXor | amoMin | amoMax | amoMinn | amoMaxn | amoSwap => exact .run h (.amoAct h)
  | fence | fenceSc => exact .run h (.fenceAct h)
  | bprepr => exact .run h (.checkRegs h (.ite (.illegalOperand h) (.next (.update (.update h)))))
  | cmpEq | cmpNe | cmpLt | cmpGe | cmpLtn | cmpGen => exact .run h (.cmpInto h)
  | pand | por | pnot | mvset | mvget => exact .run h (.next (.update h))
  | br => exact .run h (.transfer h (fun _ => .jump h))
  | brP => exact .run h (.ite (.faultReg h) (.ite (.transfer h (fun _ => .jump h)) (.next h)))
  | brNp => exact .run h (.ite (.faultReg h) (.ite (.next h) (.transfer h (fun _ => .jump h))))
  | brl => exact .run h (.transfer h (fun _ => .jump (.update h)))
  | brdec => exact .run h (.checkRegs h (.ite (.next (.update h)) (.transfer h (fun _ => .jump (.update h)))))
  | iinv => exact .run h (.ite (.park h) (.next (.update (.update h))))
  | launch => exact .execLaunch h
  | spawn => exact .execSpawn h
  | exit => exact .execExit h
  | yield => exact .run h (.ite (.fault h) (.left (.ready (.update (.update h)))))
  | join => exact .execJoin h
  | leave => exact .run h (.notInDomain h (.ite (.illegalOperand h) (.chkAct h (fun x => .releaseWait h (.next (.update (.leaveGroup h)))))))
  | gbar => exact .execGbar h
  | sstep => exact .execSstep h
  | ddec | dadd => exact .run h (.notInDomain h (.checkRegs h (.ite (.illegalOperand h) (.releaseWait h (.next (.depend (.update h)))))))
  | waitc => exact .execWaitc h
  | msend => exact .execMsend h
  | wpush => exact .execWpush h
  | wpop | wpopNb => exact .run h (.wpopAct h)
  | wclose => exact .run h (.notInDomain h (.checkRegs h (.withQueue h (fun x _ _ => .releaseWait h (.next (.wake (.update (.update h))))))))
  | vadd | vsub | vmul | vfma | vfms | vmin | vmax | vabs | vneg | vadds | vsubs | vdiv | vsqrt | vrcp | vrsq | vexp2 | vlog2 | vcmpEq | vcmpNe
  | vcmpLt | vcmpLe | vcmpUn | vsel | vclass | vand | vor | vxor | vnot | vshl | vshr | vsra | vperm | vslide | vzip | vuzp | vred | vredBox | vrmin
  | vrminBox | vrmax | vrmaxBox | vscan | vtopk | vquant | vdeq | vcvt => exact .vPlain h
  | vld | vst => exact .run h (.issueV h (fun x hx => hx) (fun _ y hy => .vAddr h hy))
  | vgath | vscat => exact .vtyped h (.run h (.issueV h (fun x hx => hx) (fun x y hy => .vIndexed h hy)))
  | vbcast | vextr => exact .vtyped h (.run h (.issueV h (fun x hx => hx) (fun _ y hy => .noCheck hy)))
  | vldc | vldcKeep | vstc => exact .run h (.issueV h (fun x hx => hx) (fun _ y hy => .vPaged h hy))
  | vxacc => exact .run0 (.issueV h (fun x hx => .ite (.update hx) hx) (fun _ y hy => .vBlock h hy))
  | vxdrain => exact .run0 (.issueV h (fun x hx => hx) (fun _ y1 hy1 => .vBlock h hy1))
  | mxcfg =>
    exact .run h (.withRoom h (.checkRegs h (.withClaim h (.ite (.illegalOperand h) (.ite (.illegalOperand h) (.issueM h (fun x hx => .update hx)))))))
  | mxzero | mxchk => exact .run h (.withRoom h (.withClaim h (.issueM h (fun x hx => hx))))
  | mxmac => exact .execMxmac h
  | mxwait => exact .run h (.withClaim h (.ite (.park h) (.releaseWait h (.blockFault h (.next h)))))
  | mxa | mxaKeep | mxaHold => exact .run h (.next (.bindA h))
  | mxb | mxbKeep | mxbHold | mxbS => exact .run h (.next (.bindB h))
  | mxdrain => exact .execMxdrain h
  | ufcfg => exact .execUfcfg h
  | mxaUf => exact .run h (.checkRegs h (.next (.bindA (.update h))))
  | ssub => exact .execSsub h
  | sunsub => exact .execSunsub h
  | mxspill => exact .execMxspill h
  | mxfill => exact .execMxfill h
  | mvgo => exact .execMvgo h
  | mvchain => exact .execMvchain h
  | mvtst => exact .run h (.withId h (fun x => .next (.update h)))
  | mvwait => exact .execMvwait h
  | bxinit =>
    exact .run h (.notInDomain h (.checkRegs h (.withBarrier h (fun x => .ite (.illegalOperand h) (.withStore h (fun x1 hx1 => .next (.update hx1)))))))
  | bxarv => exact .execBxarv h
  | bxwait => exact .execBxwait h
  | bxtst => exact .run h (.checkRegs h (.withBarrier h (fun x => .releaseWait h (.next (.update h)))))
  | cbacqP | cbacqC => exact .run h (.cbacq h)
  | cbrelP | cbrelC => exact .run h (.cbrel h)
  | cbqry => exact .run h (.ite (.trap (.foreign h)) (.next (.update h)))
  | cbinitBuffer =>
    exact .run h (.notInDomain h (.checkRegs h (.releaseWait h (.withDws h (fun x _ hx => .after (fun x1 hx1 => .update hx1) (.cbinitBuffer hx))))))
  | cbinitWindow =>
    exact .run h (.notInDomain h (.checkRegs h (.releaseWait h (.withDws h (fun x _ hx => .after (fun x1 hx1 => .update hx1) (.cbinitWindow hx))))))
  | glaze => exact .execGlaze h
  | rdsr => exact .run h (.srWait h (.next (.update h)))
  | wrsr => exact .execWrsr h
  | tlbinv => exact .execTlbinv h
  | trap => exact .run h (.trap (.update h))
  | eret => exact .execEret h
  | cdopen => exact .execCdopen h
  | cdclose => exact .execCdclose h
  | taskAdmission => exact .execTaskAdmission h
  | taskReady => exact .execTaskReady h
  | readyAging => exact .execReadyAging h
  | rotation => exact .execRotation h
  | leadDistributorPlacement => exact .execLeadDistributorPlacement h
  | taskInstantiation => exact .execTaskInstantiation h
  | registerCacheFill => exact .execRegisterCacheFill h
  | snapshotFetch => exact .execSnapshotFetch h
  | codeFetch => exact .execCodeFetch h
  | tilePowerGating | wake | wakeComplete | voterReplacement | viStopped | rebuildStart | erasureGroupMatch => exact .ite (.next (.update h)) .noUnit
  | frequencyChange | powerLimit | viEnable | viStop | frzclr | linkPortFailure => exact .ite .noUnit (.next (.update h))
  | vectorCommandBegin => exact .execVectorCommandBegin h
  | vectorCommandComplete => exact .execVectorCommandComplete h
  | matrixCommandBegin => exact .execMatrixCommandBegin h
  | matrixCommandComplete => exact .execMatrixCommandComplete h
  | boxWrite => exact .execBoxWrite h
  | cbGrant => exact .execCbGrant h
  | transferBegin => exact .execTransferBegin h
  | moverTurn => exact .execMoverTurn h
  | transferCompletion => exact .execTransferCompletion h
  | chainDescriptorFetch => exact .execChainDescriptorFetch h
  | handleCacheFill => exact .execHandleCacheFill h
  | revoke => exact .execRevoke h
  | revocationDone => exact .execRevocationDone h
  | streamDelivery => exact .execStreamDelivery h
  | scrubRead => exact .execScrubRead h
  | protectedWrite => exact .execProtectedWrite h
  | parityDelta => exact .execParityDelta h
  | memberLoss => exact .execMemberLoss h
  | erasureRebuild => exact .execErasureRebuild h
  | pageMoveQueueStore => exact .next (.queued h (.storePageMove h))
  | pageMoveRecord => exact .execPageMoveRecord h
  | frameMove => exact .execFrameMove h
  | linkReplay | firmwareUpdate | attestationRequest => exact .next (.update h)
  | packetArrival => exact .execPacketArrival h
  | requestResend => exact .execRequestResend h
  | gets | getm => exact .homeServes h
  | writeBack => exact .execWriteBack h
  | eviction => exact .execEviction h
  | invalidation => exact .execInvalidation h
  | directoryEviction => exact .execDirectoryEviction h
  | incarnationChange => exact .execIncarnationChange h
  | translationWalk => exact .execTranslationWalk h
  | walkComplete => exact .execWalkComplete h
  | reservationGrant => exact .execReservationGrant h
  | reservationRelease => exact .execReservationRelease h
  | messageArrival => exact .execMessageArrival h
  | msendReply => exact .execMsendReply h
  | heldMessageBatch => exact .ite .noUnit (.next (.settleMail (.update (.foldl h (fun x a hx => .placeMsg hx)))))
  | handlerStart => exact .execHandlerStart h
  | colExchange => exact .execColExchange h
  | collectiveReady => exact .execCollectiveReady h
  | collectiveCommit => exact .execCollectiveCommit h
  | collectiveAbort => exact .execCollectiveAbort h
  | coordinatorTakeover => exact .execCoordinatorTakeover h
  | trapHandlerStart => exact .ite .noUnit (.next (.startTrapHandler h))
  | preemptionQueueStore => exact .next (.queued h (.storePreempt h))
  | preemption => exact .execPreemption h
  | resume => exact .next (.storeResume h)
  | domainDiscard => exact .execDomainDiscard h
  | tieBreakComparison => exact .execTieBreakComparison h
  | rectangleReset => exact .execRectangleReset h
  | quarantine => exact .ite .noUnit (.next (.sortHeld (.update h)))
  | quarantineRelease => exact .ite .noUnit (.next (.sortHeld (.foldl h (fun x a hx => .update hx))))
  | structuralTest => exact .ite .noUnit (.next (.ite (.update (.update (.update h))) (.update h)))
  | dieRetirement => exact .execDieRetirement h
  | dieEvacuation => exact .ite .noUnit (.next (.sortHeld (.update (.update (.update h)))))
  | heldState => exact .next (.update (.update h))
  | remoteFailure => exact .execRemoteFailure h
  | controlSpaceWrite => exact .execControlSpaceWrite h
  | trapConfigurationWrite => exact .next (.storeTrapCfg h)
  | mailboxEntryWrite => exact .next (.storeMailbox h)
  | streamEntryWrite => exact .next (.storeStream h)
  | workQueueConfigWrite => exact .next (.storeQueue h)
  | rectangleWrite => exact .next (.storeRect h)
  | lcancel => exact .next (.cancelLaunch h)
  | hostRequest => exact .execHostRequest h
  | launchWindowWrite => exact .execLaunchWindowWrite h
  | hostLaunchStart => exact .execHostLaunchStart h
  | jobtagWrite => exact .ite .noUnit (.next (.writeJobtag h))
  | contextEntryWrite => exact .ite .noUnit (.next (.writeContext h))
  | hostAlloc | hostFree => exact .ite .noUnit (.next (.hostAlloc h))
  | sparingApproval => exact .ite .noUnit (.next (.fenceDie (.update h)))
  | eraskind => exact .next (.writeEraskind h)
  | erasgrpSet => exact .next (.writeErasgrp h)
  | heqack => exact .next (.writeHeqack h)
  | heactResume | heactEnd | heactDiscard => exact .next (.hostAct h)
  | hwalk => exact .next (.hostWalk h)
  | boot => exact .ite .noUnit (.ite (.next (.update h)) (.next (.update (.update h))))
  | illegalInstruction => exact .next (.takeTrap h)
  | hbmStackFailure => exact .ite .noUnit (.next (.foldl h (fun x _ hx => .ite (.poisonRun hx) hx)))
  | detour => exact .execDetour h

theorem State.MemoryForm.together {s' : State} (h : s.MemoryForm) (hs' : s'.MemoryForm) : (s.together s').MemoryForm := by
  unfold State.together
  exact .ite hs' (.update h)

theorem State.MemoryForm.presented {s' : State} {i : Instr} (h : s'.MemoryForm) (hs : s.MemoryForm) : (s'.presented i s).MemoryForm := by
  unfold State.presented
  refine .ite h ?_
  split
  · exact h
  · exact h
  · exact .ite (.update hs) (.ite h (.update (.mismatch hs)))
  · exact .ite (.update hs) (.ite h (.update (.mismatch hs)))
  · exact .update h

theorem NextForm.paired {i : Instr} {o : Host.Outcome State Fault Refusal} (h : s.MemoryForm) (ho : NextForm o) : NextForm (paired i s o) := by
  unfold Machine.paired
  refine .ite ho (.ite (.next (.update h)) (.ite (.next (.update h)) (.ite (.next (.update (.mismatch h))) ?_)))
  cases ho with
  | next hs => exact .next (.presented hs h)
  | fault => exact .fault
  | refused => exact .refused

theorem State.MemoryForm.trailed {u : Task} {taken : Option (Twinned × List Twinned)} (h : s.MemoryForm) : (s.trailed u taken).MemoryForm := by
  unfold State.trailed
  split
  · exact .update h
  · exact .update (.update h)

theorem State.MemoryForm.differ {e : Twinned} {mine : List DWord} (h : s.MemoryForm) : (s.differ e mine).MemoryForm := by
  unfold State.differ
  exact .mismatch h

theorem OptForm.trailInstr {u : Task} {i : Instr} {stray : Bool} (h : s.MemoryForm) : OptForm (s.trailInstr u i stray) := by
  unfold State.trailInstr
  refine .ite ?_ (.ite ?_ (.ite (.some (.trailed h)) ?_))
  · split
    · exact .some (.trailed h)
    · exact .some (.differ h)
  · split
    · exact .some (.trailed h)
    · exact .some (.differ h)
  · split
    · exact .ite (.some (.differ h)) .none
    · refine .ite (.some (.differ h)) (.ite .none (.ite ?_ (.some (.trailed h))))
      split
      · exact .some (.trailed h)
      · exact .some (.differ h)

theorem OptForm.trailTurn {k : Nat} (h : s.MemoryForm) : OptForm (s.trailTurn k) := by
  unfold State.trailTurn
  extract_lets +onlyGivenNames s1 t
  have h1 : s1.MemoryForm := .select h
  refine .ite .none ?_
  split
  · exact .none
  · extract_lets +onlyGivenNames u stray
    split
    · exact .some (.differ h1)
    · exact .trailInstr (.fillLines h1)

theorem State.MemoryForm.settle {old : State} (h : s.MemoryForm) : (s.settle old).MemoryForm := by
  unfold State.settle
  exact .noteHeads (.linkTurn (.drainStores (.settleLeaves (.settleBumps (.keepHw (.waitOver h))))))

theorem NextForm.issueInstr {i : Instr} (h : s.MemoryForm) : NextForm (issueInstr i s) := by
  unfold Machine.issueInstr
  split
  · exact .next (.failAccess h)
  · split
    · exact .next (.update h)
    · exact .paired h (.exec h)

theorem NextForm.issueTurn (h : s.MemoryForm) : NextForm (issueTurn s) := by
  unfold Machine.issueTurn
  split
  · next he => exact .next (.together h (.of_some (.beforeIssue h) he))
  · extract_lets s1
    have h1 : s1.MemoryForm := .slotTurn h
    clear_value s1
    split
    · exact .issueInstr (.update h1)
    · split
      · exact .next (.together h1 (.fetchFault h1))
      · exact .next (.fetchPark h1)
      · exact .next (.freezeTask h1)
      · split
        · exact .issueInstr (.update h1)
        · exact .ite (.exec (.update h1)) (.next (.update h1))
        · exact .next (.together h1 (.fetchFault h1))

theorem NextForm.turnOf {k : Nat} (h : s.MemoryForm) : NextForm (turnOf k s) := by
  unfold Machine.turnOf
  exact .ite (.issueTurn (.select h)) (.next (.update (.select h)))

theorem moveNext_of_idle {s : State} (h : s.nextMove = .idle) : moveNext s = .next s.popAgenda.idle := by
  unfold moveNext
  generalize s.nextMove = m at h
  subst h
  rfl

theorem moveNext_of_trail {s : State} {k : Nat} (h : s.nextMove = .trail k) : moveNext s = .next
    ((s.popAgenda.trailTurn k).getD s.popAgenda.idle) := by
  unfold moveNext
  generalize s.nextMove = m at h
  subst h
  rfl

/-- A late turn that faults or is refused does so as the task's own turn does (`turn` as at `moveNext_of_late`). -/
theorem moveNext_of_late_stop {s : State} {k : Nat} {o : Host.Outcome State Fault Refusal} (h : s.nextMove = .late k)
    (ht : turnOf k { s.popAgenda with defer := true } = o) (ho : ∀ t, o ≠ .next t) : moveNext s = o := by
  unfold moveNext
  generalize s.nextMove = m at h
  subst h
  obtain ⟨turn, hturn⟩ : ∃ f, f = turnOf := ⟨_, rfl⟩
  rw [← hturn] at ht ⊢
  dsimp only
  rw [ht]
  cases o with
  | next t => exact absurd rfl (ho t)
  | fault => rfl
  | refused => rfl

theorem NextForm.moveNext (h : s.MemoryForm) : NextForm (moveNext s) := by
  have hp : s.popAgenda.MemoryForm := .update h
  cases hm : s.nextMove with
  | event i x => exact moveNext_of_event hm ▸ .exec (.update (.update hp))
  | idle => exact moveNext_of_idle hm ▸ .next (.update hp)
  | trail k =>
    rw [moveNext_of_trail hm]
    have ho : OptForm (s.popAgenda.trailTurn k) := .trailTurn hp
    generalize s.popAgenda.trailTurn k = o at ho
    cases ho with
    | none => exact .next (.update hp)
    | some ht => exact .next ht
  | issue k => exact moveNext_of_issue hm ▸ .turnOf hp
  | late k =>
    have ho : NextForm (Machine.turnOf k { s.popAgenda with defer := true }) := .turnOf (.update hp)
    generalize he : Machine.turnOf k { s.popAgenda with defer := true } = o at ho
    cases ho with
    | next ht => exact moveNext_of_late hm he ▸ .next (.update ht)
    | fault => exact moveNext_of_late_stop hm he (fun _ => nofun) ▸ .fault
    | refused => exact moveNext_of_late_stop hm he (fun _ => nofun) ▸ .refused
  | store n => exact moveNext_of_store hm ▸ .next (.update hp)

theorem NextForm.settled {o : Host.Outcome State Fault Refusal} (ho : NextForm o) : NextForm (settled s o) := by
  cases ho with
  | next ht => exact .next (.settle ht)
  | fault => exact .fault
  | refused => exact .refused

theorem NextForm.step (h : s.MemoryForm) : NextForm (step s) := .settled (.moveNext h)

end Sys2Proof.Machine

open Sys2Proof.Machine

/-- Settles O56: after reset memory lists no byte and no doubleword is marked. -/
theorem memoryFormAtReset : Obligations.MemoryFormAtReset := ⟨rfl, rfl⟩

/-- Settles O60: whatever the step does, memory changes only through writes that keep it listed in order without unwritten bytes, and the marks only
through insertions and removals that keep them rising. -/
theorem stepKeepsMemoryForm : Obligations.StepKeepsMemoryForm := by
  intro s t h ht
  have hstep : NextForm (step s) := .step h
  rw [ht] at hstep
  cases hstep with
  | next hf => exact hf

end

section
/-! PROOF. Records of 32 bytes in memory read back as stored (R178, R316), and so does the doubleword that an atomic or a release writes (R109, R346). -/

namespace Sys2Proof.Machine

/-! ## Doublewords stored and read -/

theorem dw_ofBytes_toBytes (d : DWord) : dw (ofBytes (toBytes 8 d.toNat)) = d := by
  have h8 : (256 : Nat) ^ 8 = 2 ^ 64 := by norm_num
  rw [ofBytes_toBytes, h8, Nat.mod_eq_of_lt d.isLt]
  simp [dw]

theorem dwordsOf_flatMap_toBytes (l : List DWord) : dwordsOf l.length (l.flatMap (fun d => toBytes 8 d.toNat)) = l := by
  induction l with
  | nil => rfl
  | cons d r ih =>
    simp only [List.length_cons, dwordsOf, List.flatMap_cons, List.take_left' (toBytes_length ..), List.drop_left' (toBytes_length ..), dw_ofBytes_toBytes, ih]

theorem length_flatMap_toBytes (l : List DWord) : (l.flatMap (fun d => toBytes 8 d.toNat)).length = 8 * l.length := by
  simp [List.length_flatMap, mul_comm]

/-- What is stored as doublewords is what is read back. -/
theorem getDws_putDws (s : State) (k : Nat) (l : List DWord) : (s.putDws k l).getDws k l.length = l := by
  have hfetch := fetch_put s k (l.flatMap (fun d => toBytes 8 d.toNat)) (List.replicate (8 * l.length) false)
  rw [length_flatMap_toBytes] at hfetch
  rw [State.getDws, State.putDws, hfetch, dwordsOf_flatMap_toBytes]

theorem byteAt_putDws_out (s : State) (k : Nat) (l : List DWord) (x : Nat) (h : x < k ∨ k + 8 * l.length ≤ x) :
    (s.putDws k l).byteAt x = s.byteAt x :=
  byteAt_put_out _ _ _ _ _ (by rwa [length_flatMap_toBytes])

/-! ## Fields of a doubleword -/

theorem bits_dw (x lo n : Nat) (hx : x < 2 ^ 64) : bits (dw x) lo n = x / 2 ^ lo % 2 ^ n := by
  rw [bits, dw, BitVec.toNat_ofNat, Nat.mod_eq_of_lt hx, Nat.shiftRight_eq_div_pow]

theorem bit_dw (x n : Nat) (b : Bool) (hn : n < 64) (h : x / 2 ^ n % 2 = b.toNat) : bit (dw x) n = b := by
  rw [bit, dw, BitVec.getLsbD_ofNat, Nat.testBit_eq_decide_div_mod_eq, h]
  cases b <;> simp [hn]

theorem ite_eq_toNat_mul (b : Bool) (n : Nat) : (if b = true then n else 0) = b.toNat * n := by
  cases b <;> simp

/-! ## The two records -/

/-- A barrier within its fields' widths is what its words hold (R178). -/
theorem barRead_words (b : Barrier) (ho : b.owed < 2 ^ 40) (hr : b.round < 2 ^ 32) (hs : b.seats < 2 ^ 32) (hq : b.quota < 2 ^ 32) :
    barRead b.words = b := by
  obtain ⟨owed, round, seats, quota, lfail, lpois, fail, pois⟩ := b
  dsimp only at ho hr hs hq
  have h3 := lfail.toNat_lt
  have h2 := lpois.toNat_lt
  have h1 := fail.toNat_lt
  have h0 := pois.toNat_lt
  simp only [barRead, Barrier.words, nthDw, List.getD_cons_zero, List.getD_cons_succ, ite_eq_toNat_mul]
  congr 1
  · rw [bits_dw _ _ _ (by omega)]; omega
  · rw [bits_dw _ _ _ (by omega)]; omega
  · rw [bits_dw _ _ _ (by omega)]; omega
  · rw [bits_dw _ _ _ (by omega)]; omega
  · exact bit_dw _ _ _ (by decide) (by omega)
  · exact bit_dw _ _ _ (by decide) (by omega)
  · exact bit_dw _ _ _ (by decide) (by omega)
  · exact bit_dw _ _ _ (by decide) (by omega)

/-- A group record within its fields' widths is what its words hold (R316). -/
theorem grpRead_words (g : Grp) (ha : g.arrived < 2 ^ 32) (hm : g.members < 2 ^ 32) (hs : g.step < 2 ^ 32) (hv : g.vop < 4) (hc : g.scope < 8)
    (hp : g.parity < 2) : grpRead g.words = g := by
  obtain ⟨arrived, members, step, vop, vset, scope, parity, vacc, vres⟩ := g
  dsimp only at ha hm hs hv hc hp
  have h5 := vset.toNat_lt
  simp only [grpRead, Grp.words, nthDw, List.getD_cons_zero, List.getD_cons_succ, ite_eq_toNat_mul]
  congr 1
  · rw [bits_dw _ _ _ (by omega)]; omega
  · rw [bits_dw _ _ _ (by omega)]; omega
  · rw [bits_dw _ _ _ (by omega)]; omega
  · rw [bits_dw _ _ _ (by omega)]; omega
  · exact bit_dw _ _ _ (by decide) (by omega)
  · rw [bits_dw _ _ _ (by omega)]; omega
  · rw [bits_dw _ _ _ (by omega)]; omega

/-! ## A doubleword at its home -/

/-- A clean write of a whole doubleword removes its mark and no other. -/
theorem markCells_clean_dword (p : List Nat) (k : Nat) (hk : k % 8 = 0) : markCells p k (List.replicate 8 false) 1 = sdel p (k / 8) := by
  have hlo : (k / 8 + 0) * 8 - k = 0 := by omega
  have hhi : (k / 8 + 0) * 8 + 8 - k = 8 := by omega
  simp only [markCells, hlo, hhi]
  rfl

theorem marked_put_dword (s : State) (k x : Nat) (bs : List Byte) (hb : bs.length = 8) (hk : k % 8 = 0) :
    (s.put k bs (List.replicate 8 false)).marked x = (s.marked x && x / 8 != k / 8) := by
  have hone : (k % 8 + bs.length + 7) / 8 = 1 := by omega
  rw [Bool.eq_iff_iff, marked_iff, Bool.and_eq_true, marked_iff, State.put_poison, hone, markCells_clean_dword _ _ hk, mem_sdel, bne_iff_ne, and_comm]

/-- The place of a slice's doubleword number is that doubleword (R343). -/
theorem wordLoc_wordKey_sram (s : State) (gt off : Nat) (hg : gt < 2 ^ 13) (ho : off < 2 ^ 25) :
    wordLoc (s.wordKey (.sram gt off)) = .sram gt (off / 8 * 8) := by
  have hw : s.wordKey (.sram gt off) = gt * 2 ^ 22 + off / 8 := by
    simp only [State.wordKey, State.byteNo, sramKey]
    omega
  have hlt : gt * 2 ^ 22 + off / 8 < 2 ^ 57 := by omega
  have hgt : (gt * 2 ^ 22 + off / 8) * 8 / 2 ^ 25 = gt := by omega
  have hoff : (gt * 2 ^ 22 + off / 8) * 8 % 2 ^ 25 = off / 8 * 8 := by omega
  rw [hw, wordLoc, if_pos hlt, hgt, hoff]

theorem homeWord_sram (s : State) {w gt off : Nat} (hw : wordLoc w = .sram gt off) :
    s.homeWord w = (dw (ofBytes ((s.fetch (sramKey gt off) 8).map (·.1))), s.marked (sramKey gt off)) := by
  simp only [State.homeWord, hw]

/-- After a release that writes a word of a slice, memory and the marks are those of the clean write of its eight bytes. -/
theorem releaseHome_sram_sameMemory {s : State} {w req gt off : Nat} {d : DWord} (hw : wordLoc w = .sram gt off) :
    SameMemory (s.put (sramKey gt off) (toBytes 8 d.toNat) (List.replicate 8 false)) (s.releaseHome w req (some d)).s := by
  simp only [State.releaseHome, hw]
  split <;> exact sameMemory_of_eq rfl rfl

/-- After a release that writes a word of a slice nobody holds the word. -/
theorem releaseHome_sram_holder {s : State} {w req gt off : Nat} {d : DWord} (hw : wordLoc w = .sram gt off) :
    ∀ y ∈ (s.releaseHome w req (some d)).s.resv, y.addr = w → y.holder = none := by
  intro y hy hyw
  simp only [State.releaseHome, hw] at hy
  obtain ⟨r, -, hr⟩ := List.mem_map.1 (List.mem_of_mem_filter hy)
  split at hr
  · rw [← hr]
  · next hne => exact absurd (hr ▸ hyw) hne

end Sys2Proof.Machine

open Sys2Proof.Machine

/-- Settles O23: each record's words hold its fields apart, and the bytes of doublewords that were put are the bytes fetched. -/
theorem recordsReadBack : Obligations.RecordsReadBack := by
  refine fun s k => ⟨fun b ho hr hs hq => ⟨?_, ?_⟩, fun g ha hm hs hv hc hp => ⟨?_, ?_⟩, fun gt off req d hg ho => ?_⟩
  · exact (congrArg barRead (getDws_putDws s k b.words)).trans (barRead_words b ho hr hs hq)
  · exact byteAt_putDws_out s k b.words
  · exact (congrArg grpRead (getDws_putDws s k g.words)).trans (grpRead_words g ha hm hs hv hc hp)
  · exact byteAt_putDws_out s k g.words
  intro n w t
  have hw : wordLoc w = .sram gt (off / 8 * 8) := wordLoc_wordKey_sram s gt off hg ho
  have hn : n % 8 = 0 := by
    simp only [n, sramKey]
    omega
  have hsame : SameMemory (s.put n (toBytes 8 d.toNat) (List.replicate 8 false)) t := releaseHome_sram_sameMemory hw
  have hholder : ∀ y ∈ t.resv, y.addr = w → y.holder = none := releaseHome_sram_holder hw
  have hread : t.homeWord w = (dw (ofBytes ((t.fetch n 8).map (·.1))), t.marked n) := homeWord_sram t hw
  clear_value t
  have hmark (x : Nat) : t.marked x = (s.marked x && x / 8 != n / 8) :=
    (hsame x).2.trans (marked_put_dword s n x _ (toBytes_length ..) hn)
  refine ⟨fun j hj => ?_, ?_, hholder, fun x hx => ⟨?_, ?_⟩⟩
  · have hj8 : j < (toBytes 8 d.toNat).length := by rwa [toBytes_length]
    rw [(hsame _).1, byteAt_put_in _ _ _ _ j hj8, toBytes_getElem]
  · have hfetch : (t.fetch n 8).map (·.1) = toBytes 8 d.toNat := by
      have := fetch_put s n (toBytes 8 d.toNat) (List.replicate 8 false)
      rw [toBytes_length] at this
      rw [← this]
      simp [State.fetch, (hsame _).1]
    have hclean : t.marked n = false := by simp [hmark]
    rw [hread, hfetch, hclean, dw_ofBytes_toBytes]
  · rw [(hsame _).1, byteAt_put_out _ _ _ _ _ (by rwa [toBytes_length])]
  · have hne : x / 8 ≠ n / 8 := by omega
    simp [hmark, hne]

end

section
/-! PROOF. Writes that a supervisor or the host makes (O49): registers of control space, table entries and launches (R263, R319, R336, R373, R396, R399, R400). -/

namespace Sys2Proof.Machine

variable {s : State} {v : Nat} {d : DWord}

/-! ## One VI changes -/

theorem State.vi_modVi (s : State) (v : Nat) (f : Vi → Vi) (w : Nat) : (s.modVi v f).vi w = if w = v then f (s.vi v) else s.vi w :=
  tget_tmod s.vis v w f

theorem State.vi_modVi_self (s : State) (v : Nat) (f : Vi → Vi) : (s.modVi v f).vi v = f (s.vi v) := by
  rw [State.vi_modVi, if_pos rfl]

/-- Nothing but VI v has changed, and it is y. -/
def State.OnlyVi (s t : State) (v : Nat) (y : Vi) : Prop := t = { s with vis := t.vis } ∧ ∀ w, t.vi w = if w = v then y else s.vi w

theorem State.onlyVi_modVi (s : State) (v : Nat) (f : Vi → Vi) : s.OnlyVi (s.modVi v f) v (f (s.vi v)) := ⟨rfl, s.vi_modVi v f⟩

/-! ## Refusals and log entries -/

theorem State.bump_vis (s : State) (v a l : Nat) : (s.bump v a l).1.vis = s.vis := by
  unfold State.bump
  split <;> rfl

/-- A log entry changes a VI's log and its index only. -/
theorem State.vi_logEvent (s : State) (v kind addr : Nat) (info : DWord) :
    ∃ log evidx, (s.logEvent v kind addr info).vi v = { s.vi v with log := log, evidx := evidx } := by
  refine ⟨tinsert (s.vi v).log ((s.vi v).evidx.toNat % 256) (dw (kind * 2 ^ 56 + addr % 2 ^ 56), info), (s.vi v).evidx + 1, ?_⟩
  unfold State.logEvent
  dsimp only
  split
  · exact s.vi_modVi_self v _
  · rw [State.vi, State.bump_vis]
    exact s.vi_modVi_self v _

/-- A refusal changes CSERR and the log of the VI only (R401). -/
theorem State.vi_refuse (s : State) (v reason vdie page off : Nat) :
    ∃ cserr log evidx, (s.refuse v reason vdie page off).vi v = { s.vi v with cserr := cserr, log := log, evidx := evidx } := by
  obtain ⟨log, evidx, h⟩ := State.vi_logEvent (s.modVi v fun x => { x with cserr := addRefusal x.cserr reason vdie page off }) v 7 0 (addRefusal 0 reason vdie page off)
  rw [State.vi_modVi_self] at h
  exact ⟨_, log, evidx, h⟩

theorem State.reports_refuse (s : State) (v reason vdie page off : Nat) : s.Reports (s.refuse v reason vdie page off) :=
  (s.reports_modVi v _).trans (State.reports_logEvent _ _ _ _ _)

/-! ## Control-space registers -/

/-- A supervisor's write that the control space accepts leaves the state that it names. -/
theorem execControlSpaceWrite_of_ctrlWrite {t : State} (hk : s.ev.kind = 0) (hi : s.ev.index = 0) (hd : s.ev.vdie = 0)
    (hw : s.ctrlWrite s.ev.vi 0 0 s.ev.offset (dw s.ev.value) = .ok t) : execControlSpaceWrite s = .next t := by
  simp only [execControlSpaceWrite, hk, hi, hd, hw, if_true, State.queued]

/-- A write of the host at an address of the module control page that lies in a VI's block. -/
theorem execControlSpaceWrite_block (hk : s.ev.kind = 1) {v off : Nat} (ha : s.ev.addr = 4096 * v + off) (hv : v < 64) (ho : off < 4096) :
    execControlSpaceWrite s = .next (s.writeViBlock v off s.ev.id (dw s.ev.value)) := by
  have hlt : ¬ 0x40000 ≤ s.ev.addr := by omega
  have hdiv : s.ev.addr / 4096 = v := by omega
  have hmod : s.ev.addr % 4096 = off := by omega
  simp only [execControlSpaceWrite, hk, if_neg hlt, hdiv, hmod, if_neg (by decide : ¬ (1 : Nat) = 0)]

theorem execControlSpaceWrite_module (hk : s.ev.kind = 1) {off : Nat} (ha : s.ev.addr = 0x40000 + off) :
    execControlSpaceWrite s = .next (s.writeModule off (dw s.ev.value)) := by
  have hle : 0x40000 ≤ s.ev.addr := by omega
  have hsub : s.ev.addr - 0x40000 = off := by omega
  simp only [execControlSpaceWrite, hk, if_pos hle, hsub, if_neg (by decide : ¬ (1 : Nat) = 0)]

/-! ## The trap configuration -/

theorem State.storeTrapCfg_ok (h : trapCfgOk d = true) (off : Nat) :
    s.storeTrapCfg v d off = s.modVi v (fun x => { x with trapcfg := d &&& 0x81FFFFFFFFFFFFFF }) := if_pos h

theorem State.storeTrapCfg_bad (h : trapCfgOk d = false) (off : Nat) : s.storeTrapCfg v d off = s.refuse v 1 0 0 off :=
  if_neg (Bool.eq_false_iff.1 h)

/-! ## Table entries -/

theorem State.mail_modTile (s : State) (gt m : Nat) (y : Mailbox) :
    (s.modTile gt (fun t => { t with mbox := tset {} t.mbox m y })).mail gt m = y := by
  rw [State.mail, State.tile_modTile, if_pos rfl, tget_tset, if_pos rfl]

theorem State.die_modDie_self (s : State) (k : Nat) (f : Die → Die) : (s.modDie k f).die k = f (s.die k) := by
  rw [State.die_modDie, if_pos rfl]

/-- A mailbox entry of the VI, or a free one, with nothing posted, handled or held. -/
structure State.MailFree (s : State) (v gt n : Nat) : Prop where
  owner : bit (s.mail gt n).dw0 63 = true → bits (s.mail gt n).dw0 57 6 = v
  posts : (s.mail gt n).posts = []
  handler : (s.mail gt n).handler = none
  held : ∀ g ∈ s.msgs, g.held = false

/-- Doubleword i of a mailbox entry, replaced. -/
def State.setMail (s : State) (gt n : Nat) (y : Mailbox) : State := s.modTile gt (fun t => { t with mbox := tset {} t.mbox n y })

section Mailbox

variable {vdie die tile n off : Nat} (hdie : (s.vi v).ldie vdie = some die) (hf : s.MailFree v (die * 128 + tile) n)
include hdie hf

/-- What a write of each doubleword of such an entry does (R336). -/
theorem State.storeMailbox_of_free (i : Nat) :
    s.storeMailbox v vdie tile n i d off =
      let x := s.mail (die * 128 + tile) n
      match i with
      | 0 => if !bit d 63 then s.setMail (die * 128 + tile) n { x with dw0 := 0 }
        else if bits d 57 6 != v then s.refuse v 3 vdie 0x10 off
        else if !mailPlaces vdie tile (bit d 56) x then s.refuse v 1 vdie 0x10 off
        else s.setMail (die * 128 + tile) n { x with dw0 := d &&& 0xFFC0001F00000000 }
      | 1 => if bit x.dw0 63 then s.refuse v 2 vdie 0x10 off else s.setMail (die * 128 + tile) n { x with dw1 := d &&& 0x00FFFFFFFFFFFFFF }
      | 2 => if bit x.dw0 63 then s.refuse v 2 vdie 0x10 off else s.setMail (die * 128 + tile) n { x with dw2 := d &&& 0x00FFFFFFFFFFFFFF }
      | _ => if bit x.dw0 63 then s.refuse v 2 vdie 0x10 off else s.setMail (die * 128 + tile) n { x with dw3 := d &&& 0x00FFFFFFFFFFFFFF } := by
  obtain ⟨howner, hposts, hhandler, hheld⟩ := hf
  have hown : (bit (s.mail (die * 128 + tile) n).dw0 63 && bits (s.mail (die * 128 + tile) n).dw0 57 6 != v) = false := by simpa using howner
  have hmsg : s.msgs.any (fun g => g.held && g.arrived && g.vi.any (fun u => (s.vi u).ldie (bits g.dest 14 6) == some die) && bits g.dest 7 7 == tile && bits g.dest 0 4 == n) = false := by
    rw [List.any_eq_false]
    intro g hg
    simp [hheld g hg]
  unfold State.mail at *
  simp only [State.storeMailbox, hdie, hown, hmsg, hposts, hhandler]
  rfl

end Mailbox

/-! ## Streams, work queues and rectangles -/

theorem State.storeStream_of_free {vdie die n off : Nat} (hdie : (s.vi v).ldie vdie = some die)
    (howner : bit (tget {} (s.die die).streams n).entry 63 = true → stOwner (tget {} (s.die die).streams n).entry = v)
    (hsubs : (tget {} (s.die die).streams n).subs = []) (hpages : (tget {} (s.die die).streams n).pages = []) (hpub : s.publishing die n = false)
    (hd : bit d 63 = true → stOwner d = v ∧ 8 ≤ stPlog d ∧ stPlog d ≤ 16 ∧ 1 ≤ stSubs d ∧ stSubs d ≤ 128 ∧ 1 ≤ stQuota d ∧ stQuota d ≤ 16384) :
    s.storeStream v vdie n d off =
      s.modDie die (fun y => { y with streams := tset {} y.streams n (if bit d 63 then { entry := d &&& 0xFFF0FF00FFFE0000 } else {}) }) := by
  have hown : (bit (tget {} (s.die die).streams n).entry 63 && stOwner (tget {} (s.die die).streams n).entry != v) = false := by simpa using howner
  have hnew : (bit d 63 && stOwner d != v) = false := by simpa using fun h => (hd h).1
  have hlimits : (bit d 63 && (decide (stPlog d < 8) || decide (16 < stPlog d) || stSubs d == 0 || decide (128 < stSubs d) || stQuota d == 0 ||
      decide (16384 < stQuota d))) = false := by
    rw [Bool.and_eq_false_imp]
    intro h
    obtain ⟨-, h1, h2, h3, h4, h5, h6⟩ := hd h
    simp
    omega
  simp only [State.storeStream, hdie, hown, hnew, hsubs, hpages, hpub, hlimits]
  rfl

theorem State.storeQueue_of_free {vdie die n off : Nat} (hdie : (s.vi v).ldie vdie = some die)
    (howner : (tget {} (s.die die).wq n).valid = true → (tget {} (s.die die).wq n).owner = v) (hitems : (tget {} (s.die die).wq n).items = [])
    (hparked : ∀ u ∈ s.tasks, u.status ≠ .parked (.queueFull die n) ∧ u.status ≠ .parked (.queueEmpty die n))
    (hd : bit d 63 = true → bits d 57 6 = v ∧ bits d 16 4 ≠ 0 ∧
      ((s.die die).wq.filter (fun e => e.2.valid && e.1 != n)).foldl (fun t e => t + 2 ^ e.2.lcap) 0 + 2 ^ bits d 16 4 ≤ 131072) :
    s.storeQueue v vdie n d off = s.modDie die (fun x => { x with wq := tset {} x.wq n (if bit d 63 then
        { valid := true, owner := v, closed := bit d 56, lcap := bits d 16 4, items := [] } else {}) }) := by
  have hown : ((tget {} (s.die die).wq n).valid && (tget {} (s.die die).wq n).owner != v) = false := by simpa using howner
  have hnew : (bit d 63 && bits d 57 6 != v) = false := by simpa using fun h => (hd h).1
  have hlimits : (bit d 63 && (bits d 16 4 == 0 || decide (131072 <
      ((s.die die).wq.filter (fun e => e.2.valid && e.1 != n)).foldl (fun (t : Nat) e => t + 2 ^ e.2.lcap) 0 + 2 ^ bits d 16 4))) = false := by
    rw [Bool.and_eq_false_imp]
    intro h
    obtain ⟨-, h1, h2⟩ := hd h
    simp [h1]
    omega
  unfold State.storeQueue
  rw [hdie]
  dsimp only
  rw [if_neg (Bool.eq_false_iff.1 hown), if_neg (Bool.eq_false_iff.1 hnew), if_neg ?parked, if_neg (Bool.eq_false_iff.1 hlimits)]
  · simp only [hitems]
  case parked =>
    rw [hitems, Bool.and_eq_true]
    rintro ⟨-, h⟩
    obtain ⟨u, hu, hp⟩ := List.any_eq_true.1 h
    obtain ⟨hfull, hempty⟩ := hparked u hu
    split at hp
    · next a b hs =>
      obtain ⟨ha, hb⟩ := Bool.and_eq_true_iff.1 hp
      exact hfull (by rw [hs, eq_of_beq ha, eq_of_beq hb])
    · next a b hs =>
      obtain ⟨ha, hb⟩ := Bool.and_eq_true_iff.1 hp
      exact hempty (by rw [hs, eq_of_beq ha, eq_of_beq hb])
    · exact Bool.false_ne_true hp

theorem State.storeRect_of_free {vdie die n off : Nat} (hdie : (s.vi v).ldie vdie = some die) (hrect : (s.vi v).rect = true)
    (hover : ∀ r ∈ (s.die die).rects, r.1 ≠ n → ∀ i, i < 128 → ¬ (rectCovers r.2 i = true ∧ rectCovers (d &&& 0x8000000000003FFF) i = true))
    (hstuck : ∀ i, i < 128 → (rectCovers (tget 0 (s.die die).rects n) i = true ∨ rectCovers (d &&& 0x8000000000003FFF) i = true) →
      (s.tile (die * 128 + i)).resetting = false ∧ (s.tile (die * 128 + i)).quarantined = false) :
    s.storeRect v vdie n d off = s.modDie die (fun x => { x with rects := tset 0 x.rects n (d &&& 0x8000000000003FFF) }) := by
  have hno : (s.die die).rects.any (fun e => e.1 != n && rectsOverlap e.2 (d &&& 0x8000000000003FFF)) = false := by
    simp only [List.any_eq_false, rectsOverlap, Bool.and_eq_true, bne_iff_ne, List.any_eq_true, List.mem_range]
    rintro r hr ⟨hne, i, hi, hc⟩
    exact hover r hr hne i hi hc
  have hfree : (List.range 128).any (fun t => (rectCovers (tget 0 (s.die die).rects n) t || rectCovers (d &&& 0x8000000000003FFF) t) &&
      ((s.tile (die * 128 + t)).resetting || (s.tile (die * 128 + t)).quarantined)) = false := by
    simp only [List.any_eq_false, Bool.and_eq_true, Bool.or_eq_true, List.mem_range]
    rintro i hi ⟨hc, hq⟩
    obtain ⟨h1, h2⟩ := hstuck i hi hc
    simp [h1, h2] at hq
  simp only [State.storeRect, hdie, hrect, hno, hfree]
  rfl

/-! ## Launches -/

/-- A cancelled launch that has nothing left to start (R396). -/
def Launch.Over (y : Launch) : Prop := y.cancelled = true ∧ y.waiting = [] ∧ y.held = []

theorem State.reports_bumpLaunch (s : State) (v a id : Nat) : s.Reports (s.bumpLaunch v a id) := by
  unfold State.bumpLaunch
  dsimp only
  split
  · exact s.reports_bump v a id
  · exact s.reports_logEvent v 9 a _

theorem State.reports_launchEnds (s : State) (v id n : Nat) : s.Reports (s.launchEnds v id n) := by
  unfold State.launchEnds
  split
  · exact .refl s
  · dsimp only
    split
    · exact s.reports_modVi v _
    · split
      · exact s.reports_modVi v _
      · exact (s.reports_modVi v _).trans (State.reports_bumpLaunch _ _ _ _)

theorem State.launches_logEvent (s : State) (v kind addr : Nat) (info : DWord) : ((s.logEvent v kind addr info).vi v).launches = (s.vi v).launches := by
  obtain ⟨log, evidx, h⟩ := s.vi_logEvent v kind addr info
  rw [h]

theorem State.launches_bumpLaunch (s : State) (v a id : Nat) : ((s.bumpLaunch v a id).vi v).launches = (s.vi v).launches := by
  unfold State.bumpLaunch
  dsimp only
  split
  · rw [State.vi, State.bump_vis, State.vi]
  · exact s.launches_logEvent v 9 a _

/-- The end of tasks of a launch leaves over what is over. -/
theorem State.launchEnds_over {id n : Nat} (h : ∀ y ∈ (s.vi v).launches, y.id = id → y.Over) :
    ∀ y ∈ ((s.launchEnds v id n).vi v).launches, y.id = id → y.Over := by
  unfold State.launchEnds
  split
  · exact h
  · dsimp only
    split
    · rw [State.modLaunch, State.vi_modVi_self]
      intro y hy hid
      obtain ⟨z, hz, rfl⟩ := List.mem_map.1 hy
      split at hid
      · next hzid => rw [if_pos hzid]; exact h z hz (eq_of_beq hzid)
      · next hzid => rw [if_neg hzid]; exact h z hz hid
    · next l _ _ =>
      have hfilter : ∀ y ∈ ((s.modVi v (fun x => { x with launches := x.launches.filter (fun l => l.id ≠ id) })).vi v).launches, y.id = id → y.Over := by
        rw [State.vi_modVi_self]
        exact fun y hy => h y (List.mem_of_mem_filter hy)
      split
      · exact hfilter
      · rwa [State.launches_bumpLaunch]

theorem State.cancelLaunch_completes {id : Nat} {l : Launch} (hl : (s.vi v).launches.find? (fun l => l.id == id) = some l) :
    (s.cancelLaunch v id).tasks = s.tasks ∧ ∀ y ∈ ((s.cancelLaunch v id).vi v).launches, y.id = l.id → y.Over := by
  have hid : l.id = id := by simpa using List.find?_some hl
  unfold State.cancelLaunch
  rw [hl, hid]
  dsimp only
  refine ⟨(((s.reports_modVi v _).trans (State.reports_launchEnds _ _ _ _)).trans (State.reports_logEvent _ _ _ _ _)).tasks, ?_⟩
  rw [State.launches_logEvent]
  refine State.launchEnds_over ?_
  rw [State.modLaunch, State.vi_modVi_self]
  intro y hy hyid
  obtain ⟨z, hz, rfl⟩ := List.mem_map.1 hy
  split at hyid
  · next hzid => rw [if_pos hzid]; exact ⟨rfl, rfl, rfl⟩
  · next hzid => exact absurd hyid (by simpa using hzid)

end Sys2Proof.Machine
end

section
/-! PROOF. Writes of the host to the module block (O49): KIND of frames, the erasure group, events and trapped tasks (R102, R376, R409 to R412). -/

namespace Sys2Proof.Machine

variable {s : State} {d : DWord}

/-! ## Home-map entries -/

theorem find?_tinsert {α : Type} (t : List (Nat × α)) (a k : Nat) (v : α) :
    ((tinsert t a v).find? (fun e => e.1 == k)).map (·.2) = if k = a then some v else (t.find? (fun e => e.1 == k)).map (·.2) := by
  induction t with
  | nil => by_cases hk : k = a <;> simp [tinsert, hk, Ne.symm]
  | cons e r ih =>
    obtain ⟨b, w⟩ := e
    have hba : (b == k) = decide (k = b) := by rw [Bool.eq_iff_iff, beq_iff_eq, decide_eq_true_iff, eq_comm]
    have hak : (a == k) = decide (k = a) := by rw [Bool.eq_iff_iff, beq_iff_eq, decide_eq_true_iff, eq_comm]
    unfold tinsert
    split
    · by_cases hk : k = a
      · simp [hk]
      · simp [List.find?_cons, hak, hk]
    · split
      · next hab =>
        subst hab
        by_cases hk : k = a <;> simp [hak, hk]
      · next hab =>
        by_cases hk : k = b
        · have hne : ¬ k = a := fun h => hab (h.symm.trans hk)
          subst hk
          simp [hne]
        · simp only [List.find?_cons, hba, hk, decide_false]
          exact ih

theorem State.homeEntry?_setHome (s : State) (f : Nat) (e : BitVec 32) (k : Nat) :
    (s.setHome f e).homeEntry? k = if k = f then some e else s.homeEntry? k :=
  find?_tinsert s.md.homeMap f k e

theorem State.frameKind_congr {t : State} {k : Nat} (h : t.homeEntry? k = s.homeEntry? k) : t.frameKind k = s.frameKind k := by
  rw [State.frameKind, h, State.frameKind]

/-- An entry of which the KIND field is replaced. -/
theorem kind_of_entry (h : BitVec 32) {k : Nat} (hk : k < 4) : (((h &&& 0xFF3FFFFF#32) ||| BitVec.ofNat 32 (k * 2 ^ 22)).toNat >>> 22) % 4 = k := by
  have hb : (BitVec.ofNat 32 (k * 2 ^ 22)).toNat >>> 22 = k := by
    rw [BitVec.toNat_ofNat, Nat.shiftRight_eq_div_pow]
    omega
  have hmask : (0xFF3FFFFF#32).toNat >>> 22 = 0x3FC := by decide
  have hzero : (h.toNat >>> 22 &&& 0x3FC) % 2 ^ 2 = 0 := by rw [Nat.and_mod_two_pow]; simp
  rw [BitVec.toNat_or, BitVec.toNat_and, Nat.shiftRight_or_distrib, Nat.shiftRight_and_distrib, hb, hmask, show (4 : Nat) = 2 ^ 2 from rfl,
    Nat.or_mod_two_pow, hzero, Nat.mod_eq_of_lt (show k < 2 ^ 2 from hk), Nat.zero_or]

/-! ## Packets that a module sends -/

/-- What sending leaves of a module: its home map and its place in the erasure group. -/
structure Module.SameGroup (m n : Module) : Prop where
  homeMap : n.homeMap = m.homeMap
  erasgrp : n.erasgrp = m.erasgrp

theorem Module.SameGroup.trans {m n o : Module} (h : m.SameGroup n) (h' : n.SameGroup o) : m.SameGroup o :=
  ⟨h'.homeMap.trans h.homeMap, h'.erasgrp.trans h.erasgrp⟩

theorem Module.post_sameGroup (m : Module) (p : Packet) : m.SameGroup (m.post p) := by
  unfold Module.post
  dsimp only
  split <;> exact ⟨rfl, rfl⟩

theorem Module.sendDelta_sameGroup (m : Module) (p : Nat) (x : Delta) : m.SameGroup (m.sendDelta p x) := by
  unfold Module.sendDelta
  dsimp only
  split
  · exact ⟨rfl, rfl⟩
  · exact ⟨(m.post_sameGroup _).homeMap, (m.post_sameGroup _).erasgrp⟩

/-- Nothing of the tasks has changed, and nothing of the home map and the erasure group. -/
structure State.SameFrames (s t : State) : Prop where
  cur : t.cur = s.cur
  others : t.others = s.others
  group : s.md.SameGroup t.md

theorem State.SameFrames.refl (s : State) : s.SameFrames s := ⟨rfl, rfl, rfl, rfl⟩

theorem State.SameFrames.trans {s t u : State} (h : s.SameFrames t) (h' : t.SameFrames u) : s.SameFrames u :=
  ⟨h'.cur.trans h.cur, h'.others.trans h.others, h.group.trans h'.group⟩

theorem State.SameFrames.frameKind {s t : State} (h : s.SameFrames t) (k : Nat) : t.frameKind k = s.frameKind k :=
  State.frameKind_congr (by rw [State.homeEntry?, h.group.homeMap, State.homeEntry?])

theorem State.SameFrames.pos {s t : State} (h : s.SameFrames t) : t.md.pos = s.md.pos := by rw [Module.pos, h.group.erasgrp, Module.pos]

theorem State.parity_sameFrames (s : State) (mma req : Nat) (word : Option DWord) (old new : Nat) : s.SameFrames (s.parity mma req word old new) := by
  have h (p : Nat) (x : Delta) (q : Nat) (y : Delta) : s.md.SameGroup ((s.md.sendDelta p x).sendDelta q y) :=
    (s.md.sendDelta_sameGroup p x).trans (Module.sendDelta_sameGroup _ q y)
  exact ⟨rfl, rfl, (h _ _ _ _).homeMap, (h _ _ _ _).erasgrp⟩

/-! ## KIND of frames -/

/-- The KIND that a frame takes when a range is set to `kind` (R102). -/
def Module.kindOf (m : Module) (f kind : Nat) : Nat := if kind = 0 then 0 else if m.pos = f % 10 ∨ m.pos = (f + 1) % 10 then 2 else 1

/-- `t` is `s` with the KIND of the frames that `p` names set; tasks and the module's place in its group are as before. -/
structure State.Kinds (s t : State) (p : Nat → Prop) (kind : Nat) : Prop where
  tasks : t.tasks = s.tasks
  pos : t.md.pos = s.md.pos
  set : ∀ f, p f → t.frameKind f = s.md.kindOf f kind
  kept : ∀ f, ¬ p f → t.frameKind f = s.frameKind f

theorem State.Kinds.trans {s t u : State} {p q : Nat → Prop} {kind : Nat} (h : s.Kinds t p kind) (h' : t.Kinds u q kind) :
    s.Kinds u (fun f => p f ∨ q f) kind where
  tasks := h'.tasks.trans h.tasks
  pos := h'.pos.trans h.pos
  set f hf := by
    have hk : t.md.kindOf f kind = s.md.kindOf f kind := by rw [Module.kindOf, h.pos, Module.kindOf]
    by_cases hq : q f
    · rw [h'.set f hq, hk]
    · rw [h'.kept f hq, h.set f (hf.resolve_right hq)]
  kept f hf := (h'.kept f fun hq => hf (.inr hq)).trans (h.kept f fun hp => hf (.inl hp))

theorem State.Kinds.congr {s t : State} {p q : Nat → Prop} {kind : Nat} (h : s.Kinds t p kind) (hq : ∀ f, q f ↔ p f) : s.Kinds t q kind :=
  ⟨h.tasks, h.pos, fun f hf => h.set f ((hq f).1 hf), fun f hf => h.kept f (fun hp => hf ((hq f).2 hp))⟩

theorem State.Kinds.sameFrames {s t u : State} {p : Nat → Prop} {kind : Nat} (h : s.Kinds t p kind) (h' : t.SameFrames u) : s.Kinds u p kind where
  tasks := by rw [State.tasks, h'.cur, h'.others, ← State.tasks, h.tasks]
  pos := h'.pos.trans h.pos
  set f hf := (h'.frameKind f).trans (h.set f hf)
  kept f hf := (h'.frameKind f).trans (h.kept f hf)

/-- Setting KIND of one frame does that, whatever follows for its stripe. -/
theorem State.setKind_kinds (s : State) (f kind : Nat) : s.Kinds (s.setKind f kind) (· = f) kind := by
  have hk : (if kind = 0 then 0 else if (s.md.pos == f % 10 || s.md.pos == (f + 1) % 10) = true then 2 else 1) = s.md.kindOf f kind := by
    simp [Module.kindOf]
  have hlt : s.md.kindOf f kind < 4 := by
    unfold Module.kindOf
    split
    · decide
    · split <;> decide
  have hhome : s.Kinds (s.setHome f ((s.home f &&& 0xFF3FFFFF#32) ||| BitVec.ofNat 32 (s.md.kindOf f kind * 2 ^ 22))) (· = f) kind := by
    refine ⟨rfl, rfl, fun g hg => ?_, fun g hg => State.frameKind_congr ?_⟩
    · rw [State.frameKind, State.homeEntry?_setHome, if_pos hg, hg]
      exact kind_of_entry (s.home f) hlt
    · rw [State.homeEntry?_setHome, if_neg hg]
  unfold State.setKind
  dsimp only
  rw [hk]
  generalize s.setHome f _ = t at hhome ⊢
  split
  · exact hhome.sameFrames ⟨rfl, rfl, rfl, rfl⟩
  · split
    · exact hhome.sameFrames (foldl_keeps t.SameFrames _ _ _ (.refl t) (fun x _ hx => hx.trans (x.parity_sameFrames _ _ _ _ _)))
    · exact hhome

theorem State.setKinds_kinds (s : State) (lo n kind : Nat) :
    s.Kinds ((List.range n).foldl (fun x i => x.setKind (lo + i) kind) s) (fun f => lo ≤ f ∧ f < lo + n) kind := by
  induction n with
  | zero => exact ⟨rfl, rfl, fun f hf => by omega, fun _ _ => rfl⟩
  | succ n ih =>
    rw [List.range_succ, List.foldl_append]
    exact (ih.trans (State.setKind_kinds _ (lo + n) kind)).congr (fun f => by omega)

/-- An accepted write of ERASKIND whose frames no other holder has lines of. -/
theorem State.writeEraskind_kinds (hbad : s.eraskindBad d = false)
    (hfree : ∀ y ∈ s.md.dir, bits d 0 19 ≤ y.1 * 128 / 2 ^ 21 → y.1 * 128 / 2 ^ 21 < bits d 0 19 + bits d 44 20 → y.2.owner = none) :
    s.Kinds (s.writeEraskind d) (fun f => bits d 0 19 ≤ f ∧ f < bits d 0 19 + bits d 44 20) (bits d 40 2) := by
  have hmine : ∀ y ∈ s.md.dir, (decide (bits d 0 19 ≤ y.1 * 128 / 2 ^ 21) && decide (y.1 * 128 / 2 ^ 21 < bits d 0 19 + bits d 44 20)) = true → y.2.owner = none := by
    intro y hy hm
    obtain ⟨h1, h2⟩ := Bool.and_eq_true_iff.1 hm
    exact hfree y hy (of_decide_eq_true h1) (of_decide_eq_true h2)
  have hdrop : (s.md.dir.filter (fun e => decide (bits d 0 19 ≤ e.1 * 128 / 2 ^ 21) && decide (e.1 * 128 / 2 ^ 21 < bits d 0 19 + bits d 44 20))).foldl
      (fun x e => if e.2.owner.any (fun o => o.1 == s.md.number) then x.dropOwn (e.1 * 128) else x) s = s := by
    have hkeep : ∀ (l : List (Nat × Dir)), (∀ y ∈ l, y.2.owner = none) →
        l.foldl (fun x e => if e.2.owner.any (fun o => o.1 == s.md.number) then x.dropOwn (e.1 * 128) else x) s = s := by
      intro l hl
      induction l with
      | nil => rfl
      | cons y r ih =>
        rw [List.foldl_cons, hl y List.mem_cons_self]
        exact ih (fun z hz => hl z (List.mem_cons_of_mem _ hz))
    exact hkeep _ (fun y hy => hmine y (List.mem_filter.1 hy).1 (List.mem_filter.1 hy).2)
  have hnone : s.md.dir.find? (fun e => decide (bits d 0 19 ≤ e.1 * 128 / 2 ^ 21) && decide (e.1 * 128 / 2 ^ 21 < bits d 0 19 + bits d 44 20) && e.2.owner.isSome) = none := by
    rw [List.find?_eq_none]
    intro y hy hm
    obtain ⟨h1, h2⟩ := Bool.and_eq_true_iff.1 hm
    rw [hmine y hy h1] at h2
    exact Bool.false_ne_true h2
  unfold State.writeEraskind
  dsimp only
  rw [hdrop, if_neg (Bool.eq_false_iff.1 hbad), hnone]
  exact s.setKinds_kinds _ _ _

/-! ## The erasure group -/

theorem setGroup_fields : ∀ k < 16, (dw (2 ^ 62 + k) &&& 0x400000000000000F).toNat = 2 ^ 62 + k ∧ bit (dw (2 ^ 62 + k)) 62 = true := by decide

theorem Module.mem_outbox_send (m : Module) (cls dst kind addr : Nat) (data : BitVec 1024) :
    (∀ y ∈ m.outbox, y ∈ (m.send cls dst kind addr data).outbox) ∧ ∃ y ∈ (m.send cls dst kind addr data).outbox, y.cls = cls ∧ y.dst = dst := by
  unfold Module.send Module.post
  dsimp only
  split
  · exact ⟨fun y hy => List.mem_append_left _ hy, _, List.mem_append_right _ (List.mem_singleton_self _), rfl, rfl⟩
  · exact ⟨fun y hy => List.mem_append_left _ hy, _, List.mem_append_right _ (List.mem_singleton_self _), rfl, rfl⟩

/-- Packets to a list of modules: what stands in the outbox stays, and each of them is sent one. -/
theorem State.mem_outbox_foldl_send (l : List Nat) (cls kind addr : Nat) (data : BitVec 1024) (s : State) :
    (∀ y ∈ s.md.outbox, y ∈ (l.foldl (fun x p => x.modMd (fun m => m.send cls p kind addr data)) s).md.outbox) ∧
    ∀ p ∈ l, ∃ y ∈ (l.foldl (fun x p => x.modMd (fun m => m.send cls p kind addr data)) s).md.outbox, y.cls = cls ∧ y.dst = p := by
  induction l generalizing s with
  | nil => exact ⟨fun _ hy => hy, nofun⟩
  | cons q r ih =>
    obtain ⟨hkept, hsent⟩ := ih (s.modMd (fun m => m.send cls q kind addr data))
    obtain ⟨hold, z, hz, hcls, hdst⟩ := s.md.mem_outbox_send cls q kind addr data
    refine ⟨fun y hy => hkept y (hold y hy), fun p hp => ?_⟩
    rcases List.mem_cons.1 hp with rfl | hp
    · exact ⟨z, hkept z hz, hcls, hdst⟩
    · exact hsent p hp

theorem Module.send_erasgrp (m : Module) (cls dst kind addr : Nat) (data : BitVec 1024) : (m.send cls dst kind addr data).erasgrp = m.erasgrp :=
  (m.post_sameGroup _).erasgrp

/-- The packets to the other members change nothing but the module, and not its ERASGRP. -/
theorem State.foldl_send_frame (l : List Nat) (cls kind addr : Nat) (data : BitVec 1024) (s : State) :
    let t := l.foldl (fun x p => x.modMd (fun m => m.send cls p kind addr data)) s
    t = { s with md := t.md } ∧ t.md.erasgrp = s.md.erasgrp :=
  foldl_keeps (fun (t : State) => t = { s with md := t.md } ∧ t.md.erasgrp = s.md.erasgrp) _ _ _ ⟨rfl, rfl⟩
    (fun x p ⟨hx, he⟩ => ⟨congrArg (fun y : State => y.modMd (fun m => m.send cls p kind addr data)) hx, (x.md.send_erasgrp _ _ _ _ _).trans he⟩)

theorem State.writeErasgrp_completes (hp : s.anyProtected = false) (n : Nat) :
    let t := s.writeErasgrp (dw (2 ^ 62 + n % 16))
    t = { s with md := t.md } ∧ t.md.erasgrp.toNat = 2 ^ 62 + n % 16 ∧
      ∀ p, p < 10 → s.md.member p ≠ s.md.number → ∃ y ∈ t.md.outbox, y.cls = cMGT ∧ y.dst = s.md.member p := by
  obtain ⟨hval, hbit⟩ := setGroup_fields (n % 16) (Nat.mod_lt _ (by decide))
  unfold State.writeErasgrp
  dsimp only
  rw [if_neg (Bool.eq_false_iff.1 hp), if_pos hbit]
  obtain ⟨hframe, hgrp⟩ := State.foldl_send_frame (s.md.members.filter (· != s.md.number)) cMGT kList
    (s.modMd (fun m => { m with erasgrp := dw (2 ^ 62 + n % 16) &&& 0x400000000000000F })).md.pos s.md.memberList
    (s.modMd (fun m => { m with erasgrp := dw (2 ^ 62 + n % 16) &&& 0x400000000000000F }))
  refine ⟨hframe, (congrArg BitVec.toNat hgrp).trans hval, fun p hlt hne => ?_⟩
  refine (State.mem_outbox_foldl_send _ cMGT kList _ _ _).2 _ (List.mem_filter.2 ⟨?_, bne_iff_ne.2 hne⟩)
  exact List.mem_map.2 ⟨p, List.mem_range.2 hlt, rfl⟩

theorem bits_setBit_63 (x : DWord) (b : Bool) : bits (setBit x 63 b) 0 63 = bits x 0 63 := by
  have hlow : (setBit x 63 b).setWidth 63 = x.setWidth 63 := by
    ext j hj
    have hne : j ≠ 63 := by omega
    have := bit_setBit x 63 b j (by decide)
    rw [if_neg hne] at this
    simpa [bit, BitVec.getLsbD_eq_getElem, hj] using this
  have hto (y : DWord) : bits y 0 63 = (y.setWidth 63).toNat := by simp [bits]
  rw [hto, hto, hlow]

/-! ## The host event queue -/

theorem State.hostEvent_frame (s : State) (e : HEvent) : s.hostEvent e = { s with md := (s.hostEvent e).md } ∧ (s.hostEvent e).md.heqack = s.md.heqack := by
  unfold State.hostEvent State.modMd
  dsimp only
  split <;> exact ⟨rfl, rfl⟩

theorem State.writeHeqack_frame (s : State) (n : Nat) :
    s.writeHeqack n = { s with md := (s.writeHeqack n).md } ∧ (s.writeHeqack n).md.heqack = BitVec.ofNat 32 n := by
  unfold State.writeHeqack
  dsimp only
  refine foldl_keeps (fun (t : State) => t = { s with md := t.md } ∧ t.md.heqack = BitVec.ofNat 32 n) _ _ _ ⟨rfl, rfl⟩ (fun x e ⟨hx, ha⟩ => ?_)
  obtain ⟨hf, hh⟩ := x.hostEvent_frame e
  refine ⟨?_, hh.trans ha⟩
  rw [hf, hx]

theorem State.writeHeqack_of_nil (h : s.md.heqWait = []) (n : Nat) : (s.writeHeqack n).md = { s.md with heqack := BitVec.ofNat 32 n } := by
  unfold State.writeHeqack
  rw [h]
  have : { s.md with heqack := BitVec.ofNat 32 n, heqWait := [] } = { s.md with heqack := BitVec.ofNat 32 n } := by
    rw [← h]
  exact this

end Sys2Proof.Machine
end

section
/-! PROOF. The host resumes a trapped task (R376, R412), and the obligation on control writes (O49). -/

namespace Sys2Proof.Machine

variable {s : State} {u : Task}

/-! ## What leaves the module alone -/

theorem State.sramWrite_md (s : State) (ag vd gt : Nat) (own : List (Nat × Nat)) (off : Nat) (bs : List Byte) (marks : List Bool) :
    (s.sramWrite ag vd gt own off bs marks).s.md = s.md := by
  refine foldl_keeps (fun (w : Wr) => w.s.md = s.md) _ _ _ rfl (fun w c hw => Eq.trans ?_ hw)
  unfold State.sramWrite1
  dsimp only
  split
  · rfl
  · split
    · rw [State.setGran_md, State.put_md, State.put_md]
    · split
      · rw [State.put_md]
      · rfl

theorem State.storeWords_md (s : State) (gt vd base : Nat) (ws : List (Nat × DWord)) : (s.storeWords gt vd base ws).1.md = s.md :=
  foldl_keeps (fun (r : State × List DWord) => r.1.md = s.md) _ _ _ rfl (fun _ _ hr => (State.sramWrite_md _ _ _ _ _ _ _ _).trans hr)

theorem State.modTask_md (s : State) (k : Nat) (f : Task → Task) : (s.modTask k f).md = s.md := by
  unfold State.modTask
  split <;> rfl

theorem State.writeLines_md (s : State) (k : Nat) (ls : List Nat) : (s.writeLines k ls).md = s.md := by
  unfold State.writeLines
  split
  · rfl
  · exact (State.modTask_md _ _ _).trans ((State.storeWords_md _ _ _ _ _).trans (State.storeWords_md _ _ _ _ _))

theorem State.dropLines_md (s : State) (k : Nat) (ls : List Nat) : (s.dropLines k ls).md = s.md := by
  unfold State.dropLines
  split
  · rfl
  · exact (State.modTask_md _ _ _).trans (State.writeLines_md _ _ _)

theorem State.makeRoom_md (s : State) (gt k n : Nat) : (s.makeRoom gt k n).md = s.md := by
  refine foldl_keeps (fun (x : State) => x.md = s.md) _ _ _ rfl (fun x v hx => Eq.trans ?_ hx)
  split
  · rfl
  · exact x.dropLines_md _ _

theorem State.fillLines_md (s : State) (k : Nat) (ls : List Nat) : (s.fillLines k ls).md = s.md := by
  unfold State.fillLines
  split
  · rfl
  · dsimp only
    split
    · rfl
    · refine (State.modTask_md _ _ _).trans ?_
      split
      · exact s.makeRoom_md _ _ _
      · rfl

theorem State.onLines_md (s : State) (k : Nat) (ls : List Nat) (f : Task → Task) : (s.onLines k ls f).md = s.md := by
  unfold State.onLines
  split
  · rfl
  · dsimp only
    split
    · exact (State.modTask_md _ _ _).trans (s.fillLines_md k ls)
    · exact (State.dropLines_md _ _ _).trans ((State.modTask_md _ _ _).trans (s.fillLines_md k ls))

theorem State.ready_md (s : State) (k : Nat) : (s.ready k).md = s.md := s.modTask_md k _

/-! ## Resuming a task -/

theorem State.trapped?_found {v wp : Nat} (h : s.trapped? v wp = some u) : s.task? u.key = some u := by
  unfold State.trapped? at h
  split at h
  · next t ht =>
    have hu : t = u := by
      split at h
      · exact Option.some.inj h
      · cases h
    subst hu
    rwa [State.task?_key ht]
  · cases h

theorem State.eretResume_md (s : State) (u : Task) : (s.eretResume u).md = s.md := by
  unfold State.eretResume
  exact (State.onLines_md _ _ _ _).trans ((State.ready_md _ _).trans (s.modTask_md _ _))

/-- A register line changed where it stands in the register cache: the task is filled and changed. -/
theorem State.task?_onLines {k : Nat} (h : s.task? k = some u) (hc : u.inCache = true) (l : Nat) (f : Task → Task)
    (hkey : ∀ x : Task, (f x).key = x.key) (hstat : ∀ x : Task, (f x).status = x.status) :
    ∃ y, (s.onLines k [l] f).task? k = some (f y) ∧ y.status = u.status := by
  obtain ⟨y, hy, hys, -⟩ := State.task?_fillLines h (Task.status_of_inCache hc) l
  refine ⟨y, ?_, hys⟩
  simp only [State.onLines, h, hc, if_true]
  refine State.task?_modTask hy ((hkey y).trans (State.task?_key hy)) ?_
  rw [hstat, hys]
  exact Task.status_of_inCache hc

/-- Bit 0 of an address is dropped (R376). -/
theorem toNat_setWidth_and_even (epc : DWord) : ((epc &&& 0xFFFFFFFFFFFFFFFE#64).setWidth 56).toNat = epc.toNat % 2 ^ 56 / 2 * 2 := by
  have hmask : ∀ i < 64, (0xFFFFFFFFFFFFFFFE#64).getLsbD i = decide (i ≠ 0) := by decide
  have heven : epc &&& 0xFFFFFFFFFFFFFFFE#64 = (epc >>> 1) <<< 1 := by
    ext i hi
    have := hmask i hi
    rw [BitVec.getLsbD_eq_getElem hi] at this
    cases i with
    | zero => simp [this]
    | succ i => simp [this, Nat.add_comm, BitVec.getLsbD_eq_getElem hi]
  have hlt := epc.isLt
  rw [heven, BitVec.toNat_setWidth, BitVec.toNat_shiftLeft, BitVec.toNat_ushiftRight, Nat.shiftRight_eq_div_pow, Nat.shiftLeft_eq]
  omega

/-- A task that resumes is ready at the address of its record's EPC (R376). -/
theorem State.eretResume_task? (h : s.task? u.key = some u) (hs : u.status ≠ .absent) :
    ∃ y, (s.eretResume u).task? u.key = some y ∧ y.status = .ready ∧
      y.pc.toNat = ((s.wsWord (s.taskGt u) (aOff u.wp.toNat) 0x1408).1).toNat % 2 ^ 56 / 2 * 2 := by
  have harea : (s.modTask u.key s.resumeArea).task? u.key = some (s.resumeArea u) := State.task?_modTask h rfl hs
  have hready := State.task?_ready harea
  obtain ⟨y, hy, hys⟩ := State.task?_onLines hready rfl 5
    (fun v => v.setPc (((s.wsWord (s.taskGt u) (aOff u.wp.toNat) 0x1408).1 &&& 0xFFFFFFFFFFFFFFFE).setWidth 56)) (fun _ => rfl) (fun _ => rfl)
  exact ⟨_, hy, hys, toNat_setWidth_and_even _⟩

theorem State.trapped?_status {v wp : Nat} (h : s.trapped? v wp = some u) : u.status ≠ .absent := by
  unfold State.trapped? at h
  split at h
  · split at h
    · next hst =>
      cases h
      rintro ha
      rcases hst with hst | hst <;> rw [ha] at hst <;> cases hst
    · cases h
  · cases h

/-! ## HEACT -/

/-- HESTAT after an action on the task that HEWP names (R412). -/
def State.hostDone (s : State) (st : Nat) : State := { s with md := { s.md with hestat := dw (2 ^ 63 + st) } }

theorem State.hostAct_none (h : s.trapped? (bits s.md.hewp 56 6) (bits s.md.hewp 0 56) = none) (k : Nat) : s.hostAct k = s.hostDone 1 := by
  rw [State.hostAct, h]
  rfl

theorem State.hostAct_some (h : s.trapped? (bits s.md.hewp 56 6) (bits s.md.hewp 0 56) = some u) {k : Nat} (hk : k < 3) :
    s.hostAct k = if s.eretOk u k = true then (s.finishTrap u k).hostDone 0 else s.hostDone 2 := by
  rw [State.hostAct, h]
  simp only [hk, true_and]
  rfl

theorem State.eretOk_end (s : State) (u : Task) : s.eretOk u 1 = true := by simp [State.eretOk]

theorem State.eretOk_discard (s : State) (u : Task) : s.eretOk u 2 = decide (u.depth ≠ 0) := by
  rw [Bool.eq_iff_iff]
  simp [State.eretOk]

end Sys2Proof.Machine
open Sys2Proof.Machine

/-- Settles O49: each write is the change of one entry that the operation behind it makes when its checks pass. -/
theorem controlWriteEventsComplete : Obligations.ControlWriteEventsComplete := by
  intro s e v x d m only onlyMd
  refine ⟨fun hk hi hd => ?regs, fun hk => ?host, fun h => ?trapOk, fun h => ?trapBad, fun die hdie => ⟨?mail, ?stream, ?queue, ?rect⟩, fun l hl => ?cancel,
    fun h => ?rebuild, fun hbad hfree => ?kind, fun hp => ?group, fun hv hm hall => ?alike, ?ack, ?act⟩
  case regs =>
    have set (f : Vi → Vi) (h : s.ctrlWrite v 0 0 e.offset d = .ok (s.modVi v f)) :
        Completes (exec .controlSpaceWrite s) (fun t => only t (f x)) :=
      ⟨_, execControlSpaceWrite_of_ctrlWrite hk hi hd h, s.onlyVi_modVi v f⟩
    refine ⟨fun ho => set (fun x => { x with root1 := d }) ?_, fun ho => set (fun x => { x with root2 := d }) ?_,
      fun ho => set (fun x => { x with htbase := d }) ?_, fun ho hq => set (fun x => { x with revq := x.revq ++ [d.toNat] }) ?_,
      fun ho => set (fun x => { x with evctr := d }) ?_, fun ho => ?_⟩
    · rw [ho]; rfl
    · rw [ho]; rfl
    · rw [ho]; rfl
    · rw [ho]; exact if_neg (Nat.not_le.2 hq)
    · rw [ho]; rfl
    · refine execControlSpaceWrite_of_ctrlWrite hk hi hd ?_
      rcases ho with ho | ho <;> rw [ho] <;> rfl
  case host =>
    exact ⟨fun ha hv => ⟨_, execControlSpaceWrite_block hk ha hv (by decide), s.onlyVi_modVi v _⟩,
      fun ha => ⟨_, execControlSpaceWrite_module (off := 0x60) hk ha, rfl, rfl⟩, fun ha => ⟨_, execControlSpaceWrite_module (off := 0x100) hk ha, rfl, rfl⟩⟩
  case trapOk => exact .next (by rw [State.storeTrapCfg_ok h]; exact s.onlyVi_modVi v _)
  case trapBad =>
    refine .next ?_
    rw [State.storeTrapCfg_bad h]
    obtain ⟨_, _, _, hvi⟩ := s.vi_refuse v 1 0 0 0x48
    exact ⟨by rw [hvi], (s.reports_refuse v 1 0 0 0x48).tasks⟩
  case mail =>
    intro gt n b howner hposts hhandler hheld put
    have hstore (i off : Nat) := State.storeMailbox_of_free (d := d) (off := off) hdie ⟨howner, hposts, hhandler, hheld⟩ i
    have hput (y : Mailbox) (h : ∀ off, s.storeMailbox v e.vdie (e.index % 128) n (e.kind % 4) d off = s.setMail gt n y) : put y :=
      ⟨_, congrArg Host.Outcome.next (h _), sameMemory_of_eq rfl rfl, rfl, s.mail_modTile gt n y⟩
    refine ⟨fun hk => ⟨fun h63 => hput _ fun off => ?_, fun h63 hv hm => hput _ fun off => ?_⟩,
      fun h63 => ⟨fun hk => hput _ fun off => ?_, fun hk => hput _ fun off => ?_, fun hk => hput _ fun off => ?_⟩, fun h63 hk => .next ?_⟩
    · rw [hk, hstore]
      exact if_pos (by rw [h63]; rfl)
    · rw [hk, hstore]
      have hplaces : (!mailPlaces e.vdie (e.index % 128) (bit d 56) b) = false := by rw [hm]; rfl
      exact (if_neg (by rw [h63]; decide)).trans ((if_neg (by simp [hv])).trans (if_neg (Bool.eq_false_iff.1 hplaces)))
    · rw [hk, hstore]
      exact if_neg (Bool.eq_false_iff.1 h63)
    · rw [hk, hstore]
      exact if_neg (Bool.eq_false_iff.1 h63)
    · rw [hk, hstore]
      exact if_neg (Bool.eq_false_iff.1 h63)
    · have hrefuse (off : Nat) : s.storeMailbox v e.vdie (e.index % 128) n (e.kind % 4) d off = s.refuse v 2 e.vdie 0x10 off := by
        rw [hstore]
        have hlt : e.kind % 4 < 4 := Nat.mod_lt _ (by decide)
        generalize e.kind % 4 = i at hk hlt
        match i, hk with
        | 1, _ => exact if_pos h63
        | 2, _ => exact if_pos h63
        | i + 3, _ => exact if_pos h63
      rw [hrefuse]
      intro g k
      rw [State.mail, (s.reports_refuse _ _ _ _ _).tile, State.mail]
  case stream =>
    intro b howner hsubs hpages hpub
    have hset (y : Stream) (h : ∀ off, s.storeStream v e.vdie (e.id % 256) d off = s.modDie die (fun z => { z with streams := tset {} z.streams (e.id % 256) y })) :
        Completes (exec .streamEntryWrite s) (fun t => SameMemory s t ∧ tget {} (t.die die).streams (e.id % 256) = y) :=
      ⟨_, congrArg Host.Outcome.next (h _), sameMemory_of_eq rfl rfl, by rw [State.die_modDie_self, tget_tset, if_pos rfl]⟩
    refine ⟨fun h63 h1 h2 h3 h4 h5 h6 h7 => hset _ fun off => ?_, fun h63 => hset _ fun off => ?_⟩
    · rw [State.storeStream_of_free hdie howner hsubs hpages hpub (fun _ => ⟨h1, h2, h3, h4, h5, h6, h7⟩), if_pos h63]
    · rw [State.storeStream_of_free hdie howner hsubs hpages hpub (fun h => absurd (h63.symm.trans h) Bool.false_ne_true), if_neg (Bool.eq_false_iff.1 h63)]
  case queue =>
    intro n b lcap howner hitems hparked
    have hset (y : WorkQ) (h : ∀ off, s.storeQueue v e.vdie n d off = s.modDie die (fun z => { z with wq := tset {} z.wq n y })) :
        Completes (exec .workQueueConfigWrite s) (fun t => SameMemory s t ∧ tget {} (t.die die).wq n = y) :=
      ⟨_, congrArg Host.Outcome.next (h _), sameMemory_of_eq rfl rfl, by rw [State.die_modDie_self, tget_tset, if_pos rfl]⟩
    refine ⟨fun h63 h1 h2 h3 => hset _ fun off => ?_, fun h63 => hset _ fun off => ?_⟩
    · rw [State.storeQueue_of_free hdie howner hitems hparked (fun _ => ⟨h1, h2, h3⟩), if_pos h63]
    · rw [State.storeQueue_of_free hdie howner hitems hparked (fun h => absurd (h63.symm.trans h) Bool.false_ne_true), if_neg (Bool.eq_false_iff.1 h63)]
  case rect =>
    intro n d' hrect hover hstuck
    refine ⟨_, congrArg Host.Outcome.next (State.storeRect_of_free hdie hrect hover hstuck), sameMemory_of_eq rfl rfl, fun k => ?_⟩
    rw [State.die_modDie_self, tget_tset]
  case cancel => exact .next (State.cancelLaunch_completes hl)
  case rebuild =>
    have hx : exec .rebuildStart s = .next (s.modMd (fun m => { m with pendingRebuild := sdel m.pendingRebuild e.id })) :=
      if_pos (List.contains_iff_mem.2 h)
    exact ⟨_, hx, rfl, sameMemory_of_eq rfl rfl, fun hmem => ((mem_sdel _ _ _).1 hmem).1 rfl⟩
  case kind => exact .next ⟨(State.writeEraskind_kinds hbad hfree).tasks, fun f h1 h2 => (State.writeEraskind_kinds hbad hfree).set f ⟨h1, h2⟩⟩
  case group => exact .next (s.writeErasgrp_completes hp e.value)
  case alike =>
    have hx : exec .erasureGroupMatch s = .next (s.modMd (fun m => { m with erasgrp := setBit m.erasgrp 63 true })) := by
      refine if_pos ?_
      rw [Bool.and_eq_true, Bool.and_eq_true, List.all_eq_true]
      refine ⟨⟨hv, beq_iff_eq.2 hm⟩, fun p hp => ?_⟩
      rcases hall p (List.mem_range.1 hp) with h | ⟨y, hy, h1, h2⟩
      · exact Bool.or_eq_true_iff.2 (.inl (beq_iff_eq.2 h))
      · refine Bool.or_eq_true_iff.2 (.inr ?_)
        rw [hy]
        exact Bool.and_eq_true_iff.2 ⟨beq_iff_eq.2 h1, beq_iff_eq.2 h2⟩
    exact ⟨_, hx, rfl, bit_setBit_same _ _ _ (by decide), bits_setBit_63 _ _⟩
  case ack => exact .next ⟨(s.writeHeqack_frame e.value).1, (s.writeHeqack_frame e.value).2, fun h => State.writeHeqack_of_nil h _⟩
  case act =>
    intro done
    refine ⟨fun h => ?_, fun u hu => ?_⟩
    · have hx (k : Nat) : Host.Outcome.next (s.hostAct k) = (.next (done s 1) : Host.Outcome State Fault Refusal) := congrArg _ (State.hostAct_none h k)
      exact ⟨hx 0, hx 1, hx 2⟩
    · have hx (k : Nat) (hk : k < 3) := congrArg (Host.Outcome.next (σ := State) (φ := Fault) (ρ := Refusal)) (State.hostAct_some hu hk)
      refine ⟨fun h => ⟨_, (hx 0 (by decide)).trans (congrArg _ (if_pos h)), ?_, ?_⟩, fun h => ?_, ?_, fun h => ?_, fun h => ?_⟩
      · exact congrArg (fun m : Module => { m with hestat := (0x8000000000000000 : Sys2Proof.DWord) }) (s.eretResume_md u)
      · exact State.eretResume_task? (State.trapped?_found hu) (State.trapped?_status hu)
      · exact (hx 0 (by decide)).trans (congrArg _ (if_neg (Bool.eq_false_iff.1 h)))
      · exact (hx 1 (by decide)).trans (congrArg _ (if_pos (s.eretOk_end u)))
      · exact (hx 2 (by decide)).trans (congrArg _ (if_pos (by rw [s.eretOk_discard]; exact decide_eq_true (Nat.pos_iff_ne_zero.1 h))))
      · exact (hx 2 (by decide)).trans (congrArg _ (if_neg (by rw [s.eretOk_discard, h]; decide)))

end

section
/-! PROOF. The host's requests through an aperture (R402): a slice is read and written there as a supervisor's request reads and writes it. -/

namespace Sys2Proof.Machine

variable {s : State} {v : Nat}

/-! ## Bytes of a number -/

/-- Byte j of the number that bytes hold. -/
theorem ofNat_ofBytes_div (l : List Byte) (j : Nat) (h : j < l.length) : BitVec.ofNat 8 (ofBytes l / 256 ^ j) = l[j] := by
  induction l generalizing j with
  | nil => exact absurd h (Nat.not_lt_zero _)
  | cons b r ih =>
    have hb := b.isLt
    cases j with
    | zero =>
      apply BitVec.eq_of_toNat_eq
      rw [BitVec.toNat_ofNat, ofBytes, pow_zero, Nat.div_one, List.getElem_cons_zero]
      omega
    | succ j =>
      have hdiv : (b.toNat + 256 * ofBytes r) / 256 ^ (j + 1) = ofBytes r / 256 ^ j := by
        rw [pow_succ', ← Nat.div_div_eq_div_mul]
        congr 1
        omega
      rw [ofBytes, hdiv, List.getElem_cons_succ]
      exact ih j (Nat.lt_of_succ_lt_succ h)

theorem length_fetch (s : State) (k n : Nat) : (s.fetch k n).length = n := by simp [State.fetch]

/-- The answer to a read of up to 128 bytes holds each of them (R402). -/
theorem byte_of_answer (s : State) (k : Nat) {n : Nat} (hn : n ≤ 128) (j : Nat) (hj : j < n) :
    BitVec.ofNat 8 ((BitVec.ofNat 1024 (ofBytes ((s.fetch k n).map (·.1)))).toNat / 256 ^ j) = s.byteAt (k + j) := by
  have hlen : ((s.fetch k n).map (·.1)).length = n := by rw [List.length_map, length_fetch]
  have hlt : ofBytes ((s.fetch k n).map (·.1)) < 2 ^ 1024 := by
    have h := ofBytes_lt ((s.fetch k n).map (·.1))
    rw [hlen] at h
    have hpow : (256 : Nat) ^ n = 2 ^ (8 * n) := (pow_mul 2 8 n).symm
    exact (h.trans_eq hpow).trans_le (Nat.pow_le_pow_right Nat.two_pos (by omega))
  rw [BitVec.toNat_ofNat, Nat.mod_eq_of_lt hlt, ofNat_ofBytes_div _ j (by rwa [hlen])]
  simp [State.fetch]

/-! ## Requests to a slice -/

/-- Only region 0 names a slice (R91). -/
theorem State.aRegion_of_check1_sram {w : Who} {gt right a g off : Nat} (h : s.check1 w gt right a = .ok (.sram g off)) : aRegion a = 0 := by
  unfold State.check1 at h
  split at h
  · cases h
  · split at h
    · assumption
    all_goals
      repeat' split at h
      all_goals cases h

theorem State.aRegion_of_check_sram {w : Who} {gt right a n g off : Nat} (h : s.check w gt right a n = .ok (.sram g off)) : aRegion a = 0 := by
  unfold State.check at h
  split at h
  · next l hl =>
    split at h
    · cases h
      exact State.aRegion_of_check1_sram hl
    · next he => exact absurd h (he _)
  · next he => exact absurd h (he _)

section Slice

variable {gt off : Nat} (hv : s.ev.vi < 64) (h0 : 0 < s.ev.size) (hn : s.ev.size ≤ 128) (hport : s.ev.id ∉ (s.vi s.ev.vi).frozenPorts)
  (hal : s.ev.size ≤ 8 → s.ev.addr % s.ev.size = 0)
  (hc : s.check ⟨s.ev.vi, true, 0⟩ 0 (if s.ev.write then rWR else rRD) s.ev.addr s.ev.size = .ok (.sram gt off))
include hv h0 hn hport hal hc

/-- What a request to a slice does, once its checks pass (R402). -/
theorem execHostRequest_sram :
    (s.ev.write = false → ∀ bs, s.readLoc .task 0 0 [] (.sram gt off) s.ev.size = { bytes := bs } →
      execHostRequest s = .next (if bs.any (·.2) then s.hostAnswer s.ev.vi 2 0 else s.hostAnswer s.ev.vi 0 (BitVec.ofNat 1024 (ofBytes (bs.map (·.1)))))) ∧
    (s.ev.write = true → s.writeHeld (2 ^ 63) (.sram gt off) s.ev.size = none → ∀ t : State,
      s.writeLoc (s.viMaster s.ev.vi) 0 0 [] (.sram gt off) (toBytes s.ev.size s.ev.data.toNat) (List.replicate s.ev.size false) = { s := t } →
      execHostRequest s = .next (t.hostAnswer s.ev.vi 0 0)) := by
  have hregion := State.aRegion_of_check_sram hc
  have h64 : ¬ s.ev.vi = 64 := by omega
  have hsize : ¬ (64 ≤ s.ev.vi ∨ s.ev.size = 0 ∨ 128 < s.ev.size) := by omega
  have hfrozen : ¬ (s.vi s.ev.vi).frozenPorts.contains s.ev.id = true := by simpa using hport
  have haligned : ¬ (s.ev.size ≤ 8 ∧ s.ev.addr % s.ev.size ≠ 0) := fun h => h.2 (hal h.1)
  have hplace : ¬ (aRegion s.ev.addr = 1 ∨ aRegion s.ev.addr = 2) := by rw [hregion]; decide
  unfold execHostRequest
  dsimp only
  rw [if_neg (fun h => h64 h.1), if_neg h64, if_neg hsize, if_neg hfrozen, if_neg hplace, hc]
  refine ⟨fun hr bs hread => ?_, fun hw hheld t hwrite => ?_⟩
  · refine (if_neg haligned).trans ((if_neg (Bool.eq_false_iff.1 hr)).trans ?_)
    rw [hread]
  · refine (if_neg haligned).trans ((if_pos hw).trans ?_)
    rw [hheld, hwrite]
    rfl

end Slice

end Sys2Proof.Machine
end

section
/-! PROOF. Launch windows, the registers of a VI's block and ALLOC and FREE by the host (R94, R140, R312, R403 to R407), and the obligation (O48). -/

namespace Sys2Proof.Machine

variable {s : State} {v : Nat}

/-! ## Launch windows (R403) -/

/-- A window of the VI, changed. -/
theorem tget_lwin_modVi (s : State) (v w : Nat) (f : LWin → LWin) (k : Nat) :
    tget {} ((s.modVi v (fun x => { x with lwin := tmod {} x.lwin w f })).vi v).lwin k =
      if k = w then f (tget {} (s.vi v).lwin w) else tget {} (s.vi v).lwin k := by
  rw [State.vi_modVi_self]
  exact tget_tmod (s.vi v).lwin w k f

/-- No pending launch is named by a window's slot. -/
theorem any_named_false {l : List Launch} {a : Nat} (h : ∀ y ∈ l, y.dep ≠ 0 → y.addr ≠ a) : l.any (fun l => l.dep != 0 && l.addr == a) = false := by
  rw [List.any_eq_false]
  intro y hy hn
  obtain ⟨h1, h2⟩ := Bool.and_eq_true_iff.1 hn
  exact h y hy (bne_iff_ne.1 h1) (eq_of_beq h2)

theorem State.windowWrite_queues {w off : Nat} {d : BitVec 512} (hal : off % 64 = 0) (hoff : off < 0xF80) (hlen : (tget {} (s.vi v).lwin w).queue.length < 64)
    (hnamed : ∀ y ∈ (s.vi v).launches, y.dep ≠ 0 → y.addr ≠ slotAddr w off) :
    s.windowWrite v w off 64 d = some (s.modVi v (fun x => { x with lwin := tmod {} x.lwin w (fun y => { y with queue := y.queue ++ [(off, d)] }) })) := by
  have hplace : ¬ ((64 : Nat) ≠ 64 ∨ off % 64 ≠ 0 ∨ 0xF80 ≤ off) := by omega
  unfold State.windowWrite
  rw [if_neg hplace, any_named_false hnamed, if_neg (by simpa using hlen)]

/-- A record that is refused leaves the launch table alone, and its window counts it (R403). -/
theorem State.refuseRecord_vi (s : State) (v w reason off : Nat) :
    ((s.refuseRecord v w reason off).vi v).launches = (s.vi v).launches ∧
    tget {} ((s.refuseRecord v w reason off).vi v).lwin w =
      { tget {} (s.vi v).lwin w with refused := min ((tget {} (s.vi v).lwin w).refused + 1) 0xFFFF } := by
  obtain ⟨_, _, _, h⟩ := State.vi_refuse (s.modVi v (fun x => { x with lwin := tmod {} x.lwin w (fun y => { y with refused := min (y.refused + 1) 0xFFFF }) }))
    v reason 0 (0x20 + w) off
  unfold State.refuseRecord
  rw [h]
  refine ⟨by rw [State.vi_modVi_self], ?_⟩
  exact (tget_lwin_modVi s v w (fun y => { y with refused := min (y.refused + 1) 0xFFFF }) w).trans (if_pos rfl)

section Start

variable {off : Nat} {rec_ : BitVec 512} {rest : List (Nat × BitVec 512)} (hq : (tget {} (s.vi s.ev.vi).lwin s.ev.index).queue = (off, rec_) :: rest)
include hq

/-- The window without its head. -/
def State.popWindow (s : State) (rest : List (Nat × BitVec 512)) : State :=
  s.modVi s.ev.vi (fun y => { y with lwin := tmod {} y.lwin s.ev.index (fun z => { z with queue := rest }) })

/-- The head of a window is refused when the VI is stopped or the record fails R312's checks. -/
theorem execHostLaunchStart_refuses (h : (s.vi s.ev.vi).stop = true ∨ recCheck s s.ev.vi true (dwordsOf 8 (toBytes 64 rec_.toNat)) ≠ none) :
    ∃ reason, execHostLaunchStart s = .next ((s.popWindow rest).refuseRecord s.ev.vi s.ev.index reason off) := by
  unfold execHostLaunchStart
  dsimp only
  rw [hq]
  dsimp only
  by_cases hstop : (s.vi s.ev.vi).stop = true
  · exact ⟨8, if_pos hstop⟩
  · exact ⟨5, (if_neg hstop).trans (if_pos (.inl (Option.isSome_iff_ne_none.2 (h.resolve_left hstop))))⟩

/-- The head of a window that passes R312's checks, names no group and finds room becomes a launch. -/
theorem execHostLaunchStart_enters (hstop : (s.vi s.ev.vi).stop = false) (hcheck : recCheck s s.ev.vi true (dwordsOf 8 (toBytes 64 rec_.toNat)) = none)
    (hplace : ¬ (recPlace (dwordsOf 8 (toBytes 64 rec_.toNat)) = 0 ∧ (s.vi s.ev.vi).assist / 8 % 2 = 1)) (hbsp : recBsp (dwordsOf 8 (toBytes 64 rec_.toNat)) = false)
    (hnamed : recDep (dwordsOf 8 (toBytes 64 rec_.toNat)) ≠ 0 → ∀ y ∈ (s.vi s.ev.vi).launches, y.dep ≠ 0 → y.addr ≠ slotAddr s.ev.index off)
    (hroom : (s.vi s.ev.vi).launches.length < 256) (hquota : (s.vi s.ev.vi).launches.length < (s.vi s.ev.vi).quotaLaunch) :
    execHostLaunchStart s = .next
      (((s.popWindow rest).enterLaunch s.ev.vi (slotAddr s.ev.index off) (dwordsOf 8 (toBytes 64 rec_.toNat))).1.modVi s.ev.vi (fun y =>
        { y with lwin := tmod {} y.lwin s.ev.index (fun z =>
          { z with last := ((s.popWindow rest).enterLaunch s.ev.vi (slotAddr s.ev.index off) (dwordsOf 8 (toBytes 64 rec_.toNat))).2 }) })) := by
  have hfree : ¬ ((recDep (dwordsOf 8 (toBytes 64 rec_.toNat)) ≠ 0 ∧
      (s.vi s.ev.vi).launches.any (fun l => l.dep != 0 && l.addr == slotAddr s.ev.index off) = true) ∨ 256 ≤ (s.vi s.ev.vi).launches.length) := by
    rintro (⟨h1, h2⟩ | h)
    · rw [any_named_false (hnamed h1)] at h2
      exact Bool.false_ne_true h2
    · omega
  unfold execHostLaunchStart
  dsimp only
  rw [hq]
  dsimp only
  rw [if_neg (Bool.eq_false_iff.1 hstop), hcheck, if_neg (fun h => h.elim Bool.false_ne_true hplace), if_neg (Bool.eq_false_iff.1 hbsp), if_neg hfree,
    if_neg (Nat.not_le.2 hquota)]
  rfl

end Start

/-- Without a group of its own a record enters the table as it is (R301). -/
theorem State.enterLaunch_alone (s : State) (v addr : Nat) {r : List DWord} (h : recBsp r = false) :
    s.enterLaunch v addr r = (s.modVi v (fun x => { x with
      launches := x.launches ++ [{ id := (s.vi v).freshId, record := r, addr := addr, dep := recDep r }]
      nextLaunch := if (s.vi v).freshId + 1 = 2 ^ 32 then 1 else (s.vi v).freshId + 1 }), (s.vi v).freshId) := by
  unfold State.enterLaunch
  rw [if_neg (Bool.eq_false_iff.1 h)]

/-! ## Refusals of the host (R404, R408) -/

/-- A refusal counts: the first sets the count to 1 with its other fields beside it, a later one adds 1. -/
theorem bits_addRefusal (c : DWord) {reason page off : Nat} (hc : bits c 56 8 < 255) (hr : reason < 256) (hp : page < 2 ^ 16) (ho : off < 2 ^ 16) :
    bits (addRefusal c reason 0 page off) 56 8 = bits c 56 8 + 1 := by
  unfold addRefusal
  split
  · next h =>
    rw [bits_dw _ _ _ (by omega), h]
    omega
  · rw [if_neg (by omega), bits_setBits_same _ _ _ _ (by decide)]
    omega

/-- A log entry leaves HCSERR alone. -/
theorem State.hcserr_logEvent (s : State) (v kind addr : Nat) (info : DWord) : (s.logEvent v kind addr info).md.hcserr = s.md.hcserr := by
  obtain ⟨_, _, _, _, h⟩ := (s.reports_logEvent v kind addr info).md
  rw [h]

theorem State.hostRefuseFree_counts (s : State) (v off : Nat) (hoff : off < 2 ^ 32) (hc : bits s.md.hcserr 56 8 < 255) :
    bits (s.hostRefuseFree (some v) off).md.hcserr 56 8 = bits s.md.hcserr 56 8 + 1 := by
  unfold State.hostRefuseFree State.hostRefuse
  dsimp only
  rw [State.hcserr_logEvent]
  exact bits_addRefusal _ hc (Config.hostRefusal s.fresh).isLt (by omega) (by omega)

theorem State.hostRefuseFree_vi (s : State) (v off : Nat) :
    ∃ log evidx, (s.hostRefuseFree (some v) off).vi v = { s.vi v with log := log, evidx := evidx } :=
  State.vi_logEvent _ v 7 0 _

/-! ## ALLOC and FREE by the host (R140, R406) -/

theorem State.gran_setGran (s : State) (gt i : Nat) (g : Gran) (j : Nat) : (s.setGran gt i g).gran gt j = if j = i then g else s.gran gt j := by
  rw [State.gran, State.setGran, State.tile_modTile, if_pos rfl]
  exact tget_tset _ _ _ _

/-- The VIs and memory are as before, and the granules of a body have a value. -/
structure State.Body (s t : State) (gt f n : Nat) (g : Gran) : Prop where
  vis : t.vis = s.vis
  memory : SameMemory s t
  body : ∀ i, f ≤ i → i < f + n → t.gran gt i = g

theorem State.Body.setGran_out {t : State} {gt f n : Nat} {g : Gran} (h : s.Body t gt f n g) {i : Nat} (hi : i < f ∨ f + n ≤ i) (x : Gran) :
    s.Body (t.setGran gt i x) gt f n g := by
  refine ⟨h.vis, h.memory, fun j hj hjn => ?_⟩
  rw [State.gran_setGran, if_neg (by omega)]
  exact h.body j hj hjn

theorem State.body_foldl (s : State) (gt f n : Nat) (g : Gran) : s.Body ((bodyOf f n).foldl (fun x i => x.setGran gt i g) s) gt f n g := by
  induction n with
  | zero => exact ⟨rfl, .refl s, fun i h1 h2 => by omega⟩
  | succ n ih =>
    rw [bodyOf, List.range_succ, List.map_append, List.foldl_append, ← bodyOf]
    refine ⟨ih.vis, ih.memory, fun i h1 h2 => ?_⟩
    refine (State.gran_setGran _ gt (f + n) g i).trans ?_
    split
    · rfl
    · exact ih.body i h1 (by omega)

theorem State.doAlloc_body (s : State) (gt n : Nat) {f : Nat} (hf : 0 < f) : s.Body (s.doAlloc gt f n) gt f n { state := 1 } :=
  ((s.body_foldl gt f n { state := 1 }).setGran_out (i := f - 1) (by omega) _).setGran_out (i := f + n) (by omega) _

theorem State.doFree_body (s : State) (gt n : Nat) {f : Nat} (hf : 0 < f) : s.Body (s.doFree gt f n) gt f n {} := by
  have h := s.body_foldl gt f n {}
  unfold State.doFree
  dsimp only
  generalize (bodyOf f n).foldl (fun x i => x.setGran gt i {}) s = s1 at h
  have h2 : s.Body (if f < 2 ∨ (s1.gran gt (f - 2)).state = 0 then s1.setGran gt (f - 1) {} else s1) gt f n {} := by
    split
    · exact h.setGran_out (i := f - 1) (by omega) _
    · exact h
  generalize (if f < 2 ∨ (s1.gran gt (f - 2)).state = 0 then s1.setGran gt (f - 1) {} else s1) = s2 at h2
  split
  · exact h2.setGran_out (i := f + n) (by omega) _
  · exact h2

theorem bodyOf_covered {x : Vi} {d f n : Nat} (h : ∀ i, f ≤ i → i < f + n → x.covers d i = true) : (bodyOf f n).any (fun i => !x.covers d i) = false := by
  rw [List.any_eq_false]
  intro i hi
  obtain ⟨j, hj, rfl⟩ := List.mem_map.1 hi
  rw [h (f + j) (by omega) (by have := List.mem_range.1 hj; omega)]
  decide

section HostAlloc

variable {gt off gb : Nat} (hc : s.check1 ⟨v, true, 0⟩ 0 rRD (bits (s.vi v).halloca 0 56) = .ok (.sram gt off)) (h0 : 0 < gb) (hmax : gb ≤ 25165312)
  (hal : bits (s.vi v).halloca 0 56 % 256 = 0) (hf : 0 < aOff (bits (s.vi v).halloca 0 56) / 256)
  (hend : aOff (bits (s.vi v).halloca 0 56) / 256 + (gb + 255) / 256 ≤ 98303)
  (hcov : ∀ i, aOff (bits (s.vi v).halloca 0 56) / 256 ≤ i → i < aOff (bits (s.vi v).halloca 0 56) / 256 + (gb + 255) / 256 →
    (s.vi v).covers (aVdie (bits (s.vi v).halloca 0 56)) i = true)
include hc h0 hmax hal hf hend hcov

/-- ALLOC and FREE whose checks pass, and the status that the VI's block then holds. -/
theorem State.hostAlloc_completes (port : Nat) :
    let f := aOff (bits (s.vi v).halloca 0 56) / 256
    let n := (gb + 255) / 256
    (bit (s.vi v).halloca 63 = false → s.allocStatus gt f n = 0 → (s.vi v).granules + n ≤ (s.vi v).quotaGran →
      s.Body (s.doAlloc gt f n) gt f n { state := 1 } ∧
      s.hostAlloc v port gb = ((s.doAlloc gt f n).modVi v (fun x => { x with granules := x.granules + n })).modVi v (fun x => { x with hallocst := dw (2 ^ 63 + 0) })) ∧
    (bit (s.vi v).halloca 63 = true → s.freeStatus gt f n = 0 →
      s.Body (s.doFree gt f n) gt f n {} ∧
      s.hostAlloc v port gb = ((s.doFree gt f n).modVi v (fun x => { x with granules := x.granules - n })).modVi v (fun x => { x with hallocst := dw (2 ^ 63 + 0) })) := by
  intro f n
  have hrange : allocRange (bits (s.vi v).halloca 0 56) gb = .inr (f, n) := by
    rw [allocRange, if_neg (by omega)]
    exact if_neg (by omega)
  have hcovered : (bodyOf f n).any (fun i => !(s.vi v).covers (aVdie (bits (s.vi v).halloca 0 56)) i) = false := bodyOf_covered hcov
  refine ⟨fun hop hst hq => ⟨s.doAlloc_body gt n hf, ?_⟩, fun hop hst => ⟨s.doFree_body gt n hf, ?_⟩⟩
  · simp only [State.hostAlloc, hc, State.allocFree, hrange, hcovered, hop, hst, if_neg (Nat.not_lt.2 hq)]
    rfl
  · simp only [State.hostAlloc, hc, State.allocFree, hrange, hcovered, hop, hst]
    rfl

end HostAlloc

end Sys2Proof.Machine
open Sys2Proof.Machine

/-- Settles O48: requests through the checks they pass, and each row of a VI's block as the change of that VI. -/
theorem hostRequestEventsComplete : Obligations.HostRequestEventsComplete := by
  intro s hv64 e v x answer only
  have hv : ¬ 64 ≤ v := Nat.not_le.2 hv64
  have set (f : Vi → Vi) : only (s.modVi v f) (f x) := s.onlyVi_modVi v f
  refine ⟨fun h0 hn => ⟨fun hport => ?frozen, fun gt off k hport hal hc => ⟨fun hr hat => ?read, fun hw hheld hat => ?write⟩⟩, ?windows,
    ⟨_, if_neg hv, set _⟩, ⟨_, if_neg hv, set _⟩, fun hq => ⟨_, if_pos hq, set _⟩, fun htag => ⟨_, (if_neg hv).trans (congrArg _ (if_neg ?tag)), set _⟩,
    fun y hy h0 hne hen htag => ?clash, ⟨_, if_neg hv, set _⟩, ?context, ?alloc⟩
  case frozen =>
    have hsize : ¬ (64 ≤ v ∨ e.size = 0 ∨ 128 < e.size) := fun h => h.elim hv fun h => h.elim (Nat.ne_of_gt h0) (Nat.not_lt.2 hn)
    exact (if_neg fun h => hv h.1.ge).trans ((if_neg fun h => hv h.ge).trans ((if_neg hsize).trans (if_pos (List.contains_iff_mem.2 hport))))
  case read =>
    have hread := (execHostRequest_sram hv64 h0 hn hport hal hc).1 hr _ (readLoc_of_ReadsAt s 0 0 _ _ k h0 hat)
    refine ⟨fun hp => hread.trans (congrArg _ (if_pos hp)), fun hp => ⟨_, hread.trans (congrArg _ (if_neg (Bool.eq_false_iff.1 hp))), _, rfl, fun j hj => ?_⟩⟩
    exact byte_of_answer s k hn j hj
  case write =>
    have hlen : (toBytes e.size e.data.toNat).length = e.size := toBytes_length _ _
    have hmarks : (List.replicate e.size false).length = (toBytes e.size e.data.toNat).length := by rw [hlen, List.length_replicate]
    have hat' : WritesAt s (.sram gt off) (toBytes e.size e.data.toNat).length k := by rwa [hlen]
    obtain ⟨dc, di, co, hwrite⟩ := writeLoc_of_WritesAt s (s.viMaster v) 0 0 _ _ _ k (by rwa [hlen]) hmarks hat'
    have hmd := s.sramWrite_md 0 0 gt [] off (toBytes e.size e.data.toNat) (List.replicate e.size false)
    refine ⟨_, (execHostRequest_sram hv64 h0 hn hport hal hc).2 hw hheld _ hwrite, ?_, fun j hj => ?_, fun z hz => ?_⟩
    · have hmd' : _ = s.md := (congrArg (fun w : Wr => w.s.md) hwrite).symm.trans hmd
      exact congrArg (fun m : Module => { m with hostReply := (v, 0, 0) }) hmd'
    · have hj' : j < (toBytes e.size e.data.toNat).length := by rwa [hlen]
      exact (byteAt_put_in _ _ _ (List.replicate e.size false) j hj').trans (toBytes_getElem _ _ _ hj')
    · exact byteAt_put_out _ _ _ (List.replicate e.size false) z (by rwa [hlen])
  case windows =>
    intro w l
    refine ⟨fun hw hport hsize hal hoff hlen hnamed => ?queues, fun off rec_ rest hq => ?starts⟩
    case queues =>
      have hx : exec .launchWindowWrite s =
          .next (s.modVi v (fun x => { x with lwin := tmod {} x.lwin w (fun y => { y with queue := y.queue ++ [(e.offset, e.data.setWidth 512)] }) })) := by
        refine (if_neg fun h => h.elim hv (Nat.not_le.2 hw)).trans ((if_neg fun h => hport (List.contains_iff_mem.1 h)).trans ?_)
        rw [show s.ev.size = 64 from hsize, State.windowWrite_queues hal hoff hlen hnamed]
      refine ⟨_, hx, ?_, tget_lwin_modVi s v w _⟩
      rw [State.vi_modVi_self]
      exact set _
    case starts =>
      intro r
      refine ⟨fun hstop hcheck hplace hbsp hnamed hroom hquota => ?enters, fun hbad => ?refuses⟩
      case enters =>
        have hx := execHostLaunchStart_enters hq hstop hcheck hplace hbsp hnamed hroom hquota
        rw [State.enterLaunch_alone _ _ _ hbsp] at hx
        refine ⟨_, hx, sameMemory_of_eq rfl rfl, ((s.popWindow rest).vi v).freshId, ?_, ?_⟩
        · rw [State.vi_modVi_self, State.vi_modVi_self, State.popWindow, State.vi_modVi_self]
        · have hpop : tget {} ((s.popWindow rest).vi v).lwin w = { l with queue := rest } := (tget_lwin_modVi s v w _ w).trans (if_pos rfl)
          rw [tget_lwin_modVi, if_pos rfl, State.vi_modVi_self]
          exact congrArg (fun z : LWin => { z with last := ((s.popWindow rest).vi v).freshId }) hpop
      case refuses =>
        obtain ⟨reason, hx⟩ := execHostLaunchStart_refuses hq hbad
        obtain ⟨hl, hw⟩ := State.refuseRecord_vi (s.popWindow rest) v w reason off
        refine ⟨_, hx, hl.trans ?_, hw.trans ?_⟩
        · rw [State.popWindow, State.vi_modVi_self]
        · rw [State.popWindow, tget_lwin_modVi, if_pos rfl]
  case tag =>
    rintro ⟨h0, hany⟩
    obtain ⟨y, hy, hc⟩ := List.any_eq_true.1 hany
    simp only [Bool.and_eq_true, bne_iff_ne, beq_iff_eq] at hc
    exact htag.elim h0 fun h => h y hy hc.1.1 hc.1.2 hc.2
  case clash =>
    have hany : s.vis.any (fun y => y.1 != v && y.2.enable && y.2.jobtag == e.value % 65536) = true :=
      List.any_eq_true.2 ⟨y, hy, by simp [hne, hen, htag]⟩
    have hx : exec .jobtagWrite s = .next (s.hostRefuseFree (some v) (4096 * v + 8)) := (if_neg hv).trans (congrArg _ (if_pos ⟨h0, hany⟩))
    obtain ⟨_, _, hvi⟩ := s.hostRefuseFree_vi v (4096 * v + 8)
    exact ⟨_, hx, by rw [hvi], s.hostRefuseFree_counts v _ (by omega)⟩
  case context =>
    intro b hd hstop htwice
    have hok : ¬ (!s.isStopped v || b.getLsbD 31 && x.ctx.any (fun c => c.1 != e.vdie && c.2.getLsbD 31 && c.2.toNat % 32 == b.toNat % 32)) = true := by
      rw [hstop, Bool.not_true, Bool.false_or, Bool.and_eq_true]
      rintro ⟨hb, hany⟩
      obtain ⟨c, hc, h⟩ := List.any_eq_true.1 hany
      simp only [Bool.and_eq_true, bne_iff_ne, beq_iff_eq] at h
      exact htwice hb c hc h.1.1 h.1.2 h.2
    have hx : exec .contextEntryWrite s = .next (s.modVi v (fun x => { x with ctx := tset 0 x.ctx e.vdie b })) :=
      (if_neg fun h => h.elim hv (Nat.not_le.2 hd)).trans (congrArg _ (if_neg hok))
    refine ⟨_, hx, ?_, fun k => ?_⟩
    · rw [State.vi_modVi_self]
      exact set _
    · rw [State.vi_modVi_self]
      exact tget_tset _ _ _ _
  case alloc =>
    intro ga f n gt off hc h0 hmax hal hf hend hcov
    obtain ⟨halloc, hfree⟩ := State.hostAlloc_completes hc h0 hmax hal hf hend hcov e.id
    refine ⟨fun hop hst hq => ?_, fun hop hst => ?_⟩
    · obtain ⟨hbody, hx⟩ := halloc hop hst hq
      generalize s.doAlloc gt f n = u at hx hbody
      have hok : ¬ (64 ≤ s.ev.vi ∨ bit (s.vi s.ev.vi).halloca 63 = true) := fun h => h.elim hv fun h => Bool.false_ne_true (hop.symm.trans h)
      have hexec : exec .hostAlloc s = .next (s.hostAlloc v e.id e.size) := if_neg hok
      refine ⟨_, hexec.trans (congrArg _ hx), hbody.memory, hbody.body, ?_⟩
      rw [State.vi_modVi_self, State.vi_modVi_self, State.vi, hbody.vis]
      rfl
    · obtain ⟨hbody, hx⟩ := hfree hop hst
      generalize s.doFree gt f n = u at hx hbody
      have hok : ¬ (64 ≤ s.ev.vi ∨ bit (s.vi s.ev.vi).halloca 63 = false) := fun h => h.elim hv fun h => Bool.false_ne_true (h.symm.trans hop)
      have hexec : exec .hostFree s = .next (s.hostAlloc v e.id e.size) := if_neg hok
      refine ⟨_, hexec.trans (congrArg _ hx), hbody.memory, hbody.body, ?_⟩
      rw [State.vi_modVi_self, State.vi_modVi_self, State.vi, hbody.vis]
      rfl

end

section
/-! PROOF. Frames of memory: their home-map entries, the copy of a frame, poisoned runs, and the obligation on page-move and scrub events (O46). -/

namespace Sys2Proof.Machine

variable {s : State} {v : Nat}

/-! ## Tables and sets of numbers -/

/-- A filter on keys leaves each key it passes as it was and takes the others out. -/
theorem tget_filter_key {α : Type} {d : α} (p : Nat → Bool) (t : List (Nat × α)) (k : Nat) :
    tget d (t.filter (fun e => p e.1)) k = if p k then tget d t k else d := by
  induction t with
  | nil => exact (ite_self d).symm
  | cons e r ih =>
    obtain ⟨b, w⟩ := e
    by_cases hb : p b = true
    · rw [List.filter_cons_of_pos (p := fun e : Nat × α => p e.1) hb, tget, tget, ih]
      by_cases hk : b = k
      · subst hk; simp [hb]
      · simp [hk]
    · rw [List.filter_cons_of_neg (p := fun e : Nat × α => p e.1) hb, ih, tget]
      by_cases hk : b = k
      · subst hk; simp [hb]
      · simp [hk]

theorem tget_of_forall_ne {α : Type} {d : α} {t : List (Nat × α)} {k : Nat} (h : ∀ e ∈ t, e.1 ≠ k) : tget d t k = d := by
  induction t with
  | nil => rfl
  | cons e r ih => rw [tget, if_neg (h e (.head _)), ih fun x hx => h x (.tail _ hx)]

/-- Entries that are put at other keys leave a key alone. -/
theorem tget_foldl_tinsert_of_ne {α : Type} {d : α} (f : Nat → Nat) {k : Nat} (l t : List (Nat × α)) (h : ∀ e ∈ l, f e.1 ≠ k) :
    tget d (l.foldl (fun r e => tinsert r (f e.1) e.2) t) k = tget d t k := by
  induction l generalizing t with
  | nil => rfl
  | cons e r ih => rw [List.foldl_cons, ih _ fun x hx => h x (.tail _ hx), tget_tinsert, if_neg (h e (.head _)).symm]

/-- Entries from `src` on, put in order at `dst` on. -/
theorem tget_foldl_tinsert_shift {α : Type} {d : α} (src dst j : Nat) (l t : List (Nat × α)) (hl : rising l = true) (hsrc : ∀ e ∈ l, src ≤ e.1) :
    tget d (l.foldl (fun r e => tinsert r (dst + (e.1 - src)) e.2) t) (dst + j) = tget (tget d t (dst + j)) l (src + j) := by
  induction l generalizing t with
  | nil => rfl
  | cons e r ih =>
    obtain ⟨a, x⟩ := e
    have ha : src ≤ a := hsrc (a, x) (.head _)
    rw [List.foldl_cons, ih _ ((rising_cons a x r).1 hl).1 fun y hy => hsrc y (.tail _ hy), tget_tinsert, tget]
    by_cases hk : a = src + j
    · rw [if_pos (by dsimp only; omega), if_pos hk]
      exact tget_of_forall_ne fun y hy => by have := rising_lt r a x hl y hy; omega
    · rw [if_neg (by dsimp only; omega), if_neg hk]

/-- A copied run reads as its source did. -/
theorem tget_copyRun_in {α : Type} {d : α} {t : List (Nat × α)} (ht : rising t = true) (src dst : Nat) {n j : Nat} (hj : j < n) :
    tget d (copyRun t src dst n) (dst + j) = tget d t (src + j) := by
  rw [copyRun, tget_foldl_tinsert_shift src dst j _ _ (rising_filter _ t ht) fun e he => (by simpa using (List.mem_filter.1 he).2 : _ ∧ _).1,
    tget_filter_key (fun k => !(decide (dst ≤ k) && decide (k < dst + n))), if_neg (by simp; omega),
    tget_filter_key (fun k => decide (src ≤ k) && decide (k < src + n)), if_pos (by simp; omega)]

/-- Outside its destination a copy changes nothing. -/
theorem tget_copyRun_out {α : Type} {d : α} (t : List (Nat × α)) (src : Nat) {dst n k : Nat} (hk : k < dst ∨ dst + n ≤ k) :
    tget d (copyRun t src dst n) k = tget d t k := by
  rw [copyRun, tget_foldl_tinsert_of_ne (fun a => dst + (a - src)), tget_filter_key (fun k => !(decide (dst ≤ k) && decide (k < dst + n))), if_pos]
  · simp only [Bool.not_eq_true', Bool.and_eq_false_iff, decide_eq_false_iff_not]
    omega
  · intro e he
    have : src ≤ e.1 ∧ e.1 < src + n := by simpa using (List.mem_filter.1 he).2
    omega

theorem mem_foldl_sadd (b n x : Nat) (p : List Nat) : x ∈ (List.range n).foldl (fun p i => sadd p (b + i)) p ↔ x ∈ p ∨ b ≤ x ∧ x < b + n := by
  induction n with
  | zero => exact (or_iff_left (by omega)).symm
  | succ n ih =>
    have hn : b ≤ x ∧ x < b + (n + 1) ↔ x = b + n ∨ b ≤ x ∧ x < b + n := by omega
    rw [List.range_succ, List.foldl_append, List.foldl_cons, List.foldl_nil, mem_sadd, ih, hn]
    exact or_left_comm

/-! ## Bytes and marks of a run -/

theorem State.byteAt_copyBytes_in (hm : Memory.wf s.mem = true) (src dst : Nat) {n j : Nat} (hj : j < n) :
    (s.copyBytes src dst n).byteAt (dst + j) = s.byteAt (src + j) := by
  unfold State.copyBytes
  split
  · next h => rw [h]
  · rw [Memory.wf, tableWf, Bool.and_eq_true] at hm
    exact tget_copyRun_in hm.1 src dst hj

theorem State.byteAt_copyBytes_out (s : State) (src : Nat) {dst n k : Nat} (hk : k < dst ∨ dst + n ≤ k) :
    (s.copyBytes src dst n).byteAt k = s.byteAt k := by
  unfold State.copyBytes
  split
  · rfl
  · exact tget_copyRun_out s.mem src hk

/-- The doublewords of a run, and no others, are poisoned (R109). -/
theorem State.marked_poisonRun (s : State) {k n : Nat} (hk : k % 8 = 0) (hn : n % 8 = 0) (z : Nat) :
    (s.poisonRun k n).marked z = true ↔ s.marked z = true ∨ k ≤ z ∧ z < k + n := by
  rw [marked_iff, marked_iff, State.poisonRun, mem_foldl_sadd]
  exact or_congr_right (by omega)

/-- The 64 bytes at `k` are poisoned; memory's bytes and the other marks are as they were. -/
def State.Poisons (s t : State) (k : Nat) : Prop :=
  t.mem = s.mem ∧ (∀ j, j < 64 → t.marked (k + j) = true) ∧ ∀ z, z < k ∨ k + 64 ≤ z → t.marked z = s.marked z

theorem State.poisons_poisonRun (s : State) {k : Nat} (hk : k % 8 = 0) : s.Poisons (s.poisonRun k 64) k := by
  refine ⟨rfl, fun j hj => (s.marked_poisonRun hk rfl _).2 (.inr (by omega)), fun z hz => ?_⟩
  rw [Bool.eq_iff_iff, s.marked_poisonRun hk rfl]
  exact or_iff_left (by omega)

/-! ## Home-map entries (R97) -/

theorem State.framePhys_of_entry {f : Nat} {e : BitVec 32} (h : s.homeEntry? f = some e) : s.framePhys f = e.toNat % 2 ^ 19 := by
  rw [State.framePhys, h]

theorem State.frameKind_of_entry {f : Nat} {e : BitVec 32} (h : s.homeEntry? f = some e) : s.frameKind f = (e.toNat >>> 22) % 4 := by
  rw [State.frameKind, h]

theorem State.frameBusy_of_entry {f : Nat} {e : BitVec 32} (h : s.homeEntry? f = some e) : s.frameBusy f = e.getLsbD 24 := by
  rw [State.frameBusy, h]

theorem toNat_append_eq {m n : Nat} (x : BitVec m) (y : BitVec n) : (x ++ y).toNat = x.toNat * 2 ^ n + y.toNat := by
  rw [BitVec.toNat_append, ← Nat.shiftLeft_add_eq_or_of_lt y.isLt, Nat.shiftLeft_eq]

/-- The entry that a frame reads as says where the frame is and what KIND it has, at reset too. -/
theorem State.home_fields (s : State) {f : Nat} (hf : f < 2 ^ 19) :
    (s.home f).toNat % 2 ^ 19 = s.framePhys f ∧ ((s.home f).toNat >>> 22) % 4 = s.frameKind f := by
  unfold State.home State.framePhys State.frameKind
  cases s.homeEntry? f with
  | some e => exact ⟨rfl, rfl⟩
  | none =>
    dsimp only
    rw [toNat_append_eq, toNat_append_eq, BitVec.toNat_ofNat, BitVec.toNat_ofNat, Nat.shiftRight_eq_div_pow]
    omega

/-- Numbers whose bits agree over a field have the same field. -/
theorem field_congr {a b : BitVec 32} (lo n : Nat) (h : ∀ i, lo ≤ i → i < lo + n → a.getLsbD i = b.getLsbD i) :
    (a.toNat >>> lo) % 2 ^ n = (b.toNat >>> lo) % 2 ^ n := by
  refine Nat.eq_of_testBit_eq fun i => ?_
  rw [Nat.testBit_mod_two_pow, Nat.testBit_mod_two_pow, Nat.testBit_shiftRight, Nat.testBit_shiftRight]
  by_cases hi : i < n
  · exact congrArg _ (h (lo + i) (Nat.le_add_right lo i) (Nat.add_lt_add_left hi lo))
  · rw [decide_eq_false hi, Bool.false_and, Bool.false_and]

theorem State.frameBusy_setBusy (s : State) (f : Nat) : (s.setBusy f true).frameBusy f = true := by
  have h : (s.setBusy f true).homeEntry? f = some (s.home f ||| 0x01000000#32) := (s.homeEntry?_setHome f _ f).trans (if_pos rfl)
  rw [State.frameBusy_of_entry h, BitVec.getLsbD_or]
  exact Bool.or_true _

theorem State.framePhys_setBusy (s : State) {f : Nat} (hf : f < 2 ^ 19) : (s.setBusy f true).framePhys f = s.framePhys f := by
  have h : (s.setBusy f true).homeEntry? f = some (s.home f ||| 0x01000000#32) := (s.homeEntry?_setHome f _ f).trans (if_pos rfl)
  have hmask : ∀ i < 19, (0x01000000#32).getLsbD i = false := by decide
  rw [State.framePhys_of_entry h, ← (s.home_fields hf).1]
  exact field_congr (a := s.home f ||| 0x01000000#32) (b := s.home f) 0 19 fun i _ hi => by rw [BitVec.getLsbD_or, hmask i (by omega), Bool.or_false]

/-- The entry of a frame that has moved to `dst`: STACK and FRAME are new, BUSY is clear, and the rest is kept (R101). -/
def movedEntry (e : BitVec 32) (dst : Nat) : BitVec 32 := (e &&& 0xFEF80000#32) ||| BitVec.ofNat 32 dst

theorem getLsbD_movedEntry (e : BitVec 32) {dst : Nat} (hd : dst < 2 ^ 19) {i : Nat} (hi : 19 ≤ i) (hlt : i < 32) :
    (movedEntry e dst).getLsbD i = (e.getLsbD i && decide (i ≠ 24)) := by
  have hmask : ∀ i < 32, 19 ≤ i → (0xFEF80000#32).getLsbD i = decide (i ≠ 24) := by decide
  have hbit : dst.testBit i = false := Nat.testBit_lt_two_pow (hd.trans_le (Nat.pow_le_pow_right (by decide) hi))
  rw [movedEntry, BitVec.getLsbD_or, BitVec.getLsbD_and, hmask i hlt hi, BitVec.getLsbD_ofNat, hbit, Bool.and_false, Bool.or_false]

theorem toNat_movedEntry (e : BitVec 32) {dst : Nat} (hd : dst < 2 ^ 19) : (movedEntry e dst).toNat % 2 ^ 19 = dst := by
  have hmask : ∀ i < 19, (0xFEF80000#32).getLsbD i = false := by decide
  have h := field_congr (a := movedEntry e dst) (b := BitVec.ofNat 32 dst) 0 19 fun i _ hi => by
    rw [movedEntry, BitVec.getLsbD_or, BitVec.getLsbD_and, hmask i (by omega), Bool.and_false, Bool.false_or]
  rw [Nat.shiftRight_zero, Nat.shiftRight_zero, BitVec.toNat_ofNat] at h
  omega

/-! ## A page move (R99 to R101) -/

theorem State.wake_vis (s : State) (p : Task → Park → Bool) : (s.wake p).vis = s.vis :=
  foldl_keeps (fun (x : State) => x.vis = s.vis) _ _ _ rfl fun x u hx => by
    refine Eq.trans ?_ hx
    unfold State.ready State.modTask
    dsimp only
    split <;> rfl

/-- A frame that is not yet busy is marked so, and stays where it is. -/
theorem execFrameMove_begins {p : PageMove} (hm : (s.vi s.ev.vi).move = some p) (hn : p.moved < p.count) (hb : s.frameBusy (p.first + p.moved) = false) :
    execFrameMove s = .next (s.setBusy (p.first + p.moved) true) := by
  unfold execFrameMove
  dsimp only
  rw [hm]
  dsimp only
  rw [if_neg (Nat.not_le.2 hn), hb, Bool.not_false, if_pos rfl]

/-- The state after frame `f` has been copied to `dst` and its entry rewritten. -/
def State.movedFrame (s : State) (f dst : Nat) : State :=
  (s.copyBytes (frameKey (s.framePhys f)) (frameKey dst) (2 ^ 21)).setHome f (movedEntry (s.home f) dst)

theorem execFrameMove_moves {p : PageMove} (hm : (s.vi s.ev.vi).move = some p) (hn : p.moved < p.count) (hb : s.frameBusy (p.first + p.moved) = true)
    (hu : s.frameInUse (p.first + p.moved) = false) :
    execFrameMove s = .next ((s.movedFrame (p.first + p.moved) (p.dstack * 32768 + p.dframe + p.moved)).modVi s.ev.vi
      (fun x => { x with move := some { p with moved := p.moved + 1 } })) := by
  unfold execFrameMove
  dsimp only
  rw [hm]
  dsimp only
  rw [if_neg (Nat.not_le.2 hn), hb, Bool.not_true, if_neg Bool.false_ne_true, if_neg (ne_true_of_eq_false hu)]
  rfl

theorem State.homeEntry?_movedFrame (s : State) (f dst : Nat) : (s.movedFrame f dst).homeEntry? f = some (movedEntry (s.home f) dst) :=
  (State.homeEntry?_setHome _ f _ f).trans (if_pos rfl)

theorem State.frameKind_movedFrame (s : State) {f dst : Nat} (hf : f < 2 ^ 19) (hd : dst < 2 ^ 19) : (s.movedFrame f dst).frameKind f = s.frameKind f := by
  rw [State.frameKind_of_entry (s.homeEntry?_movedFrame f dst), ← (s.home_fields hf).2]
  refine field_congr 22 2 fun i h h' => ?_
  rw [getLsbD_movedEntry _ hd (by omega) (by omega), decide_eq_true (by omega), Bool.and_true]

/-- An executed FRAME_MOVE that has no frame left reports. -/
theorem execFrameMove_reports {p : PageMove} (hm : (s.vi s.ev.vi).move = some p) (hn : p.count ≤ p.moved) :
    execFrameMove s = s.whenHw s.ev.vi "FRAME_MOVE" ((s.modVi s.ev.vi (fun x => { x with move := none })).hwStatus s.ev.vi p.stat p.status)
      ((s.modVi s.ev.vi (fun x => { x with move := none })).refuseMove s.ev.vi) := by
  unfold execFrameMove
  dsimp only
  rw [hm]
  exact if_pos hn

/-! ## Errors of memory (R106, R107, R398) -/

theorem State.mem_backed (s : State) (f : Nat) : f ∈ s.backed (s.framePhys f) := by
  unfold State.backed State.framePhys State.homeEntry?
  rw [List.mem_append, List.mem_map]
  cases hx : s.md.homeMap.find? (fun e => e.1 == f) with
  | some e =>
    refine .inl ⟨e, List.mem_filter.2 ⟨List.mem_of_find?_eq_some hx, beq_self_eq_true _⟩, ?_⟩
    simpa using List.find?_some hx
  | none => exact .inr (by simp [hx])

/-- What the failure of a stack does to one of its physical frames. -/
def State.loseFrame (s x : State) (p : Nat) : State := if (s.backed p).any (fun f => s.frameKind f == 0) then x.poisonRun (frameKey p) (2 ^ 21) else x

theorem frameKey_mod (p : Nat) : frameKey p % 8 = 0 := by
  unfold frameKey
  omega

theorem State.marked_loseFrame {s x : State} (p : Nat) {z : Nat} (h : x.marked z = true) : (s.loseFrame x p).marked z = true := by
  unfold State.loseFrame
  split
  · exact (x.marked_poisonRun (frameKey_mod p) (by decide) z).2 (.inl h)
  · exact h

theorem State.marked_loseFrames (s : State) {l : List Nat} {p : Nat} (hp : p ∈ l) (hk : (s.backed p).any (fun f => s.frameKind f == 0) = true) (x : State)
    {j : Nat} (hj : j < 2 ^ 21) : (l.foldl s.loseFrame x).marked (frameKey p + j) = true := by
  induction l generalizing x with
  | nil => cases hp
  | cons q r ih =>
    rw [List.foldl_cons]
    by_cases hq : p ∈ r
    · exact ih hq _
    · have hpq : p = q := (List.mem_cons.1 hp).resolve_right hq
      subst hpq
      refine foldl_keeps (fun y : State => y.marked (frameKey p + j) = true) _ r _ ?_ fun y q hy => State.marked_loseFrame q hy
      rw [State.loseFrame, if_pos hk]
      exact (x.marked_poisonRun (frameKey_mod p) (by decide) _).2 (.inr ⟨Nat.le_add_right _ _, Nat.add_lt_add_left hj _⟩)

theorem State.poisonRun_mem (s : State) (k n : Nat) : (s.poisonRun k n).mem = s.mem := rfl

theorem State.loseFrames_mem (s : State) (l : List Nat) (x : State) : (l.foldl s.loseFrame x).mem = x.mem :=
  foldl_keeps (fun y : State => y.mem = x.mem) _ l x rfl fun y p hy => by
    unfold State.loseFrame
    split
    · rw [State.poisonRun_mem, hy]
    · exact hy

theorem State.sameMemory_logScrub (s : State) (k c r p : Nat) :
    SameMemory s (s.logScrub k c r p) ∧ tget (0, 0, 0) (s.logScrub k c r p).md.scrubLog k =
      ((tget (0, 0, 0) s.md.scrubLog k).1 + c, (tget (0, 0, 0) s.md.scrubLog k).2.1 + r, (tget (0, 0, 0) s.md.scrubLog k).2.2 + p) :=
  ⟨sameMemory_of_eq rfl rfl, by rw [State.logScrub, State.modMd, tget_tmod, if_pos rfl]⟩

end Sys2Proof.Machine
end

section
/-! PROOF. The obligation on page-move and scrub events (O46). -/

namespace Sys2Proof.Machine

variable {s : State} {v : Nat}

/-- What the read of a record makes of it (R100). -/
def State.readMove (s : State) (v : Nat) (d : List DWord) : PageMove :=
  { first := bits (nthDw d 0) 0 19, count := bits (nthDw d 0) 32 20, dstack := bits (nthDw d 1) 16 4, dframe := bits (nthDw d 1) 0 15, stat := (nthDw d 2).toNat,
    moved := if s.pageMoveStatus v d = 0 then 0 else bits (nthDw d 0) 32 20, status := s.pageMoveStatus v d }

/-- The state after the oldest record has left the queue, and the tasks that waited for its place are ready. -/
def State.popMove (s : State) (v : Nat) (rest : List Nat) : State :=
  (s.modVi v (fun x => { x with pmq := rest })).wake (fun t p => t.vi == v && p == Park.hostQueue 1)

theorem execPageMoveRecord_reads {r : Nat} {rest : List Nat} {d : List DWord} (hm : (s.vi s.ev.vi).move = none) (hq : (s.vi s.ev.vi).pmq = r :: rest)
    (hr : r % 32 = 0) (hd : s.hwRead s.ev.vi r 4 = .ok d) :
    execPageMoveRecord s = .next ((s.popMove s.ev.vi rest).modVi s.ev.vi (fun x => { x with move := some (s.readMove s.ev.vi d) })) := by
  unfold execPageMoveRecord
  dsimp only
  rw [hm, hq]
  dsimp only
  rw [if_neg (not_not.2 hr), hd]
  rfl

theorem State.popMove_frame (s : State) (v : Nat) (rest : List Nat) :
    SameMemory s (s.popMove v rest) ∧ (s.popMove v rest).vi v = { s.vi v with pmq := rest } := by
  refine ⟨(sameMemory_of_eq (s.modVi_mem v _) (s.modVi_poison v _)).trans (State.wake_sameMemory _ _), ?_⟩
  rw [State.vi, State.popMove, State.wake_vis]
  exact s.vi_modVi_self v _

theorem State.vi_congr {t : State} (h : t.vis = s.vis) (v : Nat) : t.vi v = s.vi v := by rw [State.vi, h, State.vi]

theorem State.modTask_vis (s : State) (k : Nat) (f : Task → Task) : (s.modTask k f).vis = s.vis := by
  unfold State.modTask
  split <;> rfl

theorem State.byteAt_setHome (s : State) (f : Nat) (e : BitVec 32) (k : Nat) : (s.setHome f e).byteAt k = s.byteAt k := rfl

theorem State.byteAt_movedFrame (s : State) (f dst k : Nat) :
    (s.movedFrame f dst).byteAt k = (s.copyBytes (frameKey (s.framePhys f)) (frameKey dst) (2 ^ 21)).byteAt k := State.byteAt_setHome _ _ _ k

/-- Frame `f` of `s` stands at `dst` in `t`, free again, its bytes copied there. -/
structure State.Moved (s t : State) (f dst : Nat) : Prop where
  busy : t.frameBusy f = false
  phys : t.framePhys f = dst
  kind : t.frameKind f = s.frameKind f
  copied : ∀ j, j < 2 ^ 21 → t.byteAt (frameKey dst + j) = s.byteAt (frameKey (s.framePhys f) + j)
  kept : ∀ z, z < frameKey dst ∨ frameKey dst + 2 ^ 21 ≤ z → t.byteAt z = s.byteAt z

theorem State.movedFrame_moved (s : State) {f dst : Nat} (hf : f < 2 ^ 19) (hd : dst < 2 ^ 19) (hw : Memory.wf s.mem = true) :
    s.Moved (s.movedFrame f dst) f dst where
  busy := by
    rw [State.frameBusy_of_entry (s.homeEntry?_movedFrame f dst), getLsbD_movedEntry _ hd (by decide) (by decide)]
    exact Bool.and_false _
  phys := by rw [State.framePhys_of_entry (s.homeEntry?_movedFrame f dst), toNat_movedEntry _ hd]
  kind := s.frameKind_movedFrame hf hd
  copied j hj := by rw [State.byteAt_movedFrame, State.byteAt_copyBytes_in hw _ _ hj]
  kept z hz := by rw [State.byteAt_movedFrame, State.byteAt_copyBytes_out _ _ hz]

/-- A VI's record of the move is no part of the frame's. -/
theorem State.Moved.modVi {t : State} {f dst : Nat} (h : s.Moved t f dst) (v : Nat) (g : Vi → Vi) : s.Moved (t.modVi v g) f dst :=
  ⟨h.busy, h.phys, h.kind, h.copied, h.kept⟩

/-- A task that waits for `p` before it runs. -/
def Task.parkedOn (p : Park) (u : Task) : Task := { u with status := .parked p, snaps := [], sch := { u.sch with why := some p } }

/-! ## A scrub read -/

/-- The burst that a scrub read names. -/
def State.scrubAt (s : State) : Nat := s.ev.addr % 2 ^ 40 / 64 * 64

theorem execScrubRead_slice (hc : s.ev.cls = 1) (hk : s.ev.kind = 2) :
    execScrubRead s = .next (s.poisonRun (sramKey s.ev.gt (s.ev.offset % 2 ^ 25 / 64 * 64)) 64) :=
  (if_pos hc).trans (congrArg _ (if_pos hk))

theorem execScrubRead_line (hc : s.ev.cls = 2) (hk : s.ev.kind = 2) (hl : (s.dline s.ev.index s.scrubAt).state ≠ 0) :
    execScrubRead s = .next (s.poisonGran (.peer s.ev.index s.scrubAt)) :=
  (if_neg (by rw [hc]; decide)).trans ((if_pos hc).trans (congrArg _ (if_pos ⟨hk, hl⟩)))

theorem execScrubRead_memory (hc : s.ev.cls = 0) :
    execScrubRead s = if s.frameBusy (s.scrubAt / 2 ^ 21) ∨ s.ev.kind = 0 then .next s
      else if s.ev.kind = 1 then .next (s.logScrub (s.framePhys (s.scrubAt / 2 ^ 21) / 32768) 1 0 0)
      else if s.frameKind (s.scrubAt / 2 ^ 21) ≠ 0 ∧ s.ev.ok = true then .next (s.logScrub (s.framePhys (s.scrubAt / 2 ^ 21) / 32768) 0 1 0)
      else .next ((s.poisonRun (s.hbmKey s.scrubAt) 64).logScrub (s.framePhys (s.scrubAt / 2 ^ 21) / 32768) 0 0 1) :=
  (if_neg (by rw [hc]; decide)).trans (if_neg (by rw [hc]; decide))

theorem sramKey_mod (gt off : Nat) : sramKey gt (off / 64 * 64) % 8 = 0 := by
  unfold sramKey
  omega

theorem State.hbmKey_mod (s : State) {a : Nat} (ha : a % 64 = 0) : s.hbmKey a % 8 = 0 := by
  unfold State.hbmKey
  omega

/-- All eight marks of a granule of a line are set. -/
theorem State.dline_poisonGran (s : State) {m a : Nat} (hm : m ≠ s.md.number) (ha : a % 64 = 0) {i : Nat} (hi : i < 8) :
    ((s.poisonGran (.peer m a)).dline m a).marks.getLsbD (a % 128 / 8 + i) = true := by
  have hbits : ∀ i < 8, (255#16).getLsbD i = true := by decide
  have h : (s.poisonGran (.peer m a)).dline m a = { s.dline m a with marks := (s.dline m a).marks ||| ((255#16) <<< (a % 128 / 64 * 8)) } := by
    unfold State.poisonGran
    dsimp only
    rw [if_neg hm, State.dline, State.modMd, tget_tmod, if_pos rfl, State.dline]
  rw [h, BitVec.getLsbD_or, BitVec.getLsbD_shiftLeft, show a % 128 / 8 + i - a % 128 / 64 * 8 = i by omega, hbits i hi, decide_eq_true (by omega),
    decide_eq_false (by omega)]
  exact Bool.or_true _

theorem State.poisonGran_sameMemory (s : State) {m a : Nat} (hm : m ≠ s.md.number) : SameMemory s (s.poisonGran (.peer m a)) := by
  unfold State.poisonGran
  dsimp only
  rw [if_neg hm]
  exact sameMemory_of_eq rfl rfl

end Sys2Proof.Machine
end

section

open Sys2Proof.Machine

/-- Settles O46: each event is reduced to what it does to the state, and bytes, marks, home-map entries and queues are then read from that. -/
theorem pageEventsComplete : Obligations.PageEventsComplete := by
  unfold Obligations.PageEventsComplete
  intro s
  dsimp only
  refine ⟨fun h => ?store, fun u h hu => ?full, fun r rest d hm hq hr hd => ?record, fun p hm hn => ?report, fun p hm hn hf => ?move, ?scrub, fun he => ?stack⟩
  case store =>
    have hs : s.storePageMove s.ev.vi s.ev.value = .ok (s.modVi s.ev.vi (fun y => { y with pmq := y.pmq ++ [s.ev.value] })) := if_neg (Nat.not_le.2 h)
    have hx : exec .pageMoveQueueStore s = .next (s.modVi s.ev.vi (fun y => { y with pmq := y.pmq ++ [s.ev.value] })) :=
      congrArg (fun w => Host.Outcome.next (s.queued w)) hs
    exact ⟨_, hx, sameMemory_of_eq rfl rfl, rfl, by rw [State.vi_modVi_self]⟩
  case full =>
    have hs : s.storePageMove s.ev.vi s.ev.value = .park (.hostQueue 1) := if_pos h
    have hx : exec .pageMoveQueueStore s = .next (s.modTask s.ev.key (Task.parkedOn (.hostQueue 1))) := congrArg (fun w => Host.Outcome.next (s.queued w)) hs
    exact ⟨_, hx, s.modTask_sameMemory _ _, by rw [State.vi_congr (s.modTask_vis _ _)], State.task?_modTask hu (State.task?_key hu : u.key = _) nofun⟩
  case record =>
    obtain ⟨hmem, hvi⟩ := s.popMove_frame s.ev.vi rest
    refine ⟨_, execPageMoveRecord_reads hm hq hr hd, hmem.trans (sameMemory_of_eq rfl rfl), ?_, ?_⟩
    · rw [State.vi_modVi_self, hvi]
    · rw [State.vi_modVi_self]
      rfl
  case report =>
    have hx := execFrameMove_reports hm hn
    refine ⟨fun s1 h => ?_, fun c h => ?_⟩
    · exact hx.trans (by rw [h]; rfl)
    · refine ⟨_, hx.trans (by rw [h]; rfl), ?_⟩
      rw [State.refuseMove]
      obtain ⟨_, _, _, hvi⟩ := (s.modVi s.ev.vi (fun x => { x with move := none })).vi_refuse s.ev.vi 6 0 0 0x30
      rw [hvi, State.vi_modVi_self]
  case move =>
    refine ⟨fun hb => ⟨_, execFrameMove_begins hm hn hb, sameMemory_of_eq rfl rfl, s.frameBusy_setBusy _, s.framePhys_setBusy hf, hm⟩, fun hb hu hd hw => ?_⟩
    have hmoved := (s.movedFrame_moved hf hd hw).modVi s.ev.vi (fun x => { x with move := some { p with moved := p.moved + 1 } })
    have hexec : exec .frameMove s = _ := execFrameMove_moves hm hn hb hu
    refine ⟨_, hexec, hmoved.busy, hmoved.phys, hmoved.kind, ?_, hmoved.copied, hmoved.kept⟩
    rw [State.vi_modVi_self]
  case scrub =>
    have ha : s.scrubAt % 64 = 0 := Nat.mul_mod_left _ _
    have hmem (hc : s.ev.cls = 0) : exec .scrubRead s = _ := execScrubRead_memory hc
    refine ⟨fun hc hk => ⟨_, execScrubRead_slice hc hk, s.poisons_poisonRun (sramKey_mod _ _)⟩,
      fun hc hk hl hm => ⟨_, execScrubRead_line hc hk hl, s.poisonGran_sameMemory hm, fun i hi => s.dline_poisonGran hm ha hi⟩,
      fun hc hb => (hmem hc).trans (if_pos hb), fun hc hb => ?_⟩
    have hgo (hk : s.ev.kind ≠ 0) := (hmem hc).trans (if_neg (by rw [not_or]; exact ⟨ne_true_of_eq_false hb, hk⟩))
    refine ⟨fun hk => ?_, fun hk h0 hok => ?_, fun hk h => ?_⟩
    · have hx := (hgo (by omega)).trans (if_pos hk)
      exact ⟨_, hx, s.sameMemory_logScrub _ 1 0 0⟩
    · have hx := (hgo (by omega)).trans ((if_neg (by omega)).trans (if_pos ⟨h0, hok⟩))
      exact ⟨_, hx, s.sameMemory_logScrub _ 0 1 0⟩
    · have hx := (hgo (by omega)).trans ((if_neg (by omega)).trans (if_neg fun h' => h.elim h'.1 fun h => Bool.false_ne_true (h.symm.trans h'.2)))
      exact ⟨_, hx, s.poisons_poisonRun (s.hbmKey_mod ha), (State.sameMemory_logScrub _ _ 0 0 1).2⟩
  case stack =>
    have hx : exec .hbmStackFailure s = .next (((List.range 32768).map (fun i => s.ev.id * 32768 + i)).foldl s.loseFrame s) := if_neg (Nat.not_le.2 he)
    refine ⟨_, hx, s.loseFrames_mem _ s, fun f hp hk j hj => s.marked_loseFrames ?_ ?_ s hj⟩
    · exact List.mem_map.2 ⟨s.framePhys f % 32768, List.mem_range.2 (Nat.mod_lt _ (by decide)), by rw [← hp]; omega⟩
    · exact List.any_eq_true.2 ⟨f, s.mem_backed f, beq_iff_eq.2 hk⟩
end

section
/-! PROOF. Protected memory (R104, R105): a write to a protected frame and its deltas, a parity holder's granule, a lost member and a rebuilt granule. -/

namespace Sys2Proof.Machine

variable {s : State} {m n o : Module}

/-! ## Packets and deltas that leave -/

/-- A module that has only sent: its packets and deltas are still there, and what its sending rests on is as it was. -/
structure Module.Sends (m n : Module) : Prop where
  outbox : ∀ p ∈ m.outbox, p ∈ n.outbox
  deltas : ∀ d ∈ m.deltas, d ∈ n.deltas
  nextWrite : n.nextWrite = m.nextWrite
  lostMembers : n.lostMembers = m.lostMembers
  erasmem : n.erasmem = m.erasmem
  group : m.SameGroup n

theorem Module.Sends.refl (m : Module) : m.Sends m := ⟨fun _ h => h, fun _ h => h, rfl, rfl, rfl, rfl, rfl⟩

theorem Module.Sends.trans (h : m.Sends n) (h' : n.Sends o) : m.Sends o where
  outbox p hp := h'.outbox p (h.outbox p hp)
  deltas d hd := h'.deltas d (h.deltas d hd)
  nextWrite := h'.nextWrite.trans h.nextWrite
  lostMembers := h'.lostMembers.trans h.lostMembers
  erasmem := h'.erasmem.trans h.erasmem
  group := h.group.trans h'.group

theorem Module.Sends.member (h : m.Sends n) (p : Nat) : n.member p = m.member p := by rw [Module.member, h.erasmem, Module.member]

/-- A packet that leaves for another module stands in the outbox, with the fields that `post` leaves to its caller. -/
theorem Module.post_sends (m : Module) (p : Packet) :
    m.Sends (m.post p) ∧ ∃ q ∈ (m.post p).outbox, q = { p with seq := q.seq, inc := q.inc, expect := q.expect, prio := q.prio } := by
  unfold Module.post
  dsimp only
  split <;>
    exact ⟨⟨fun p hp => List.mem_append_left _ hp, fun _ h => h, rfl, rfl, rfl, rfl, rfl⟩, _, List.mem_append_right _ (.head _), rfl⟩

/-- A delta that leaves for a parity holder, and the packet that carries it. -/
def Module.Sent (n : Module) (dst : Nat) (d : Delta) : Prop :=
  ∃ x ∈ n.deltas, x = { d with seq := x.seq } ∧
    ∃ p ∈ n.outbox, p.cls = cREQ ∧ p.dst = dst ∧ p.kind = kDelta ∧ p.addr = d.granule ∧ p.data = d.data.setWidth 1024

theorem Module.Sent.sends {dst : Nat} {d : Delta} (h : m.Sent dst d) (h' : m.Sends n) : n.Sent dst d := by
  obtain ⟨x, hx, hxd, p, hp, hfields⟩ := h
  exact ⟨x, h'.deltas x hx, hxd, p, h'.outbox p hp, hfields⟩

/-- The packet that carries a delta to the holder at a position. -/
def Module.deltaPacket (m : Module) (p : Nat) (d : Delta) : Packet :=
  { cls := cREQ, dst := m.member p, kind := kDelta, addr := d.granule, agent := agentIo (d.granule / 128), dagent := agentIo (d.granule / 128)
    data := d.data.setWidth 1024, tag := d.req, code := if d.old.isSome then 1 else 0, re := (d.old.getD 0).toNat }

theorem Module.Sent.congr {dst : Nat} {d : Delta} (h : m.Sent dst d) (ho : n.outbox = m.outbox) (hd : n.deltas = m.deltas) : n.Sent dst d := by
  rw [Module.Sent, ho, hd]
  exact h

theorem Module.sendDelta_sends (m : Module) (p : Nat) (d : Delta) :
    m.Sends (m.sendDelta p d) ∧ (p ∉ m.lostMembers → (m.sendDelta p d).Sent (m.member p) d) := by
  unfold Module.sendDelta
  dsimp only
  split
  · next h => exact ⟨⟨fun _ h => h, fun _ h => h, rfl, rfl, rfl, rfl, rfl⟩, fun hp => absurd (List.contains_iff_mem.1 h) hp⟩
  · obtain ⟨hs, q, hq, hqp⟩ := m.post_sends (m.deltaPacket p d)
    refine ⟨⟨hs.outbox, fun x hx => List.mem_append_left _ hx, hs.nextWrite, hs.lostMembers, hs.erasmem, hs.group.homeMap, hs.group.erasgrp⟩,
      fun _ => ⟨_, List.mem_append_right _ (.head _), rfl, q, hq, ?_⟩⟩
    rw [hqp]
    exact ⟨rfl, rfl, rfl, rfl, rfl⟩

/-! ## A write to protected memory -/

/-- The bytes of a granule of memory as one number. -/
def State.granBytes (s : State) (g : Nat) : Nat := ofBytes ((s.fetch (s.hbmKey g) 64).map (·.1))

/-- A write inside one granule of a protected frame puts its bytes there and sends one delta for the granule (R104). -/
theorem hbmWrite_protected (s : State) (req : Nat) (word : Option DWord) {mma : Nat} {bs : List Byte} {marks : List Bool} (hm : marks.length = bs.length)
    (h0 : 0 < bs.length) (h : mma % 64 + bs.length ≤ 64) (hk : s.frameKind (mma / 2 ^ 21) = 1) :
    s.hbmWrite req word mma bs marks = (s.put (s.hbmKey mma) bs marks).parity (mma / 64 * 64) req word
      (s.granBytes (mma / 64 * 64)) ((s.put (s.hbmKey mma) bs marks).granBytes (mma / 64 * 64)) := by
  have hone : (mma % 64 + bs.length + 63) / 64 = 1 := by omega
  have hfit : bs.length ≤ 2 ^ 21 - mma % 2 ^ 21 := by omega
  have hframe : (mma / 64 + 0) * 64 / 2 ^ 21 = mma / 2 ^ 21 := by omega
  unfold State.hbmWrite
  dsimp only
  rw [List.take_of_length_le hfit, List.take_of_length_le (hm.trans_le hfit), if_pos hfit, hone, List.range_one, List.foldl_cons, List.foldl_nil, hframe,
    if_pos hk]
  rfl

/-- The delta of a granule's change for the holder of weight `w`. -/
def Module.delta (m : Module) (mma req : Nat) (word : Option DWord) (w v : Nat) : Delta :=
  { id := m.nextWrite, granule := mma, weight := w, seq := 0, data := BitVec.ofNat 512 v, req := req, old := word }

/-- What a change of a granule sends: P's delta is the XOR `v` of old and new bytes, and each holder that is not lost has one. -/
structure Module.ParitySent (m n : Module) (mma req : Nat) (word : Option DWord) (v : Nat) : Prop where
  nextWrite : n.nextWrite = m.nextWrite + 1
  homeMap : n.homeMap = m.homeMap
  p : mma / 2 ^ 21 % 10 ∉ m.lostMembers → n.Sent (m.member (mma / 2 ^ 21 % 10)) (m.delta mma req word 0 v)
  q : (mma / 2 ^ 21 + 1) % 10 ∉ m.lostMembers → ∃ v, n.Sent (m.member ((mma / 2 ^ 21 + 1) % 10)) (m.delta mma req word 1 v)

theorem State.parity_sent (s : State) (mma req : Nat) (word : Option DWord) (old new : Nat) :
    s.md.ParitySent (s.parity mma req word old new).md mma req word (old ^^^ new) := by
  obtain ⟨v, hpar⟩ : ∃ v, s.parity mma req word old new = { s with md := { (s.md.sendDelta (mma / 2 ^ 21 % 10) (s.md.delta mma req word 0 (old ^^^ new))).sendDelta
    ((mma / 2 ^ 21 + 1) % 10) (s.md.delta mma req word 1 v) with nextWrite := s.md.nextWrite + 1 } } := ⟨_, rfl⟩
  obtain ⟨hp, hpsent⟩ := s.md.sendDelta_sends (mma / 2 ^ 21 % 10) (s.md.delta mma req word 0 (old ^^^ new))
  obtain ⟨hq, hqsent⟩ := (s.md.sendDelta (mma / 2 ^ 21 % 10) (s.md.delta mma req word 0 (old ^^^ new))).sendDelta_sends ((mma / 2 ^ 21 + 1) % 10) (s.md.delta mma req word 1 v)
  rw [hp.member, hp.lostMembers] at hqsent
  rw [hpar]
  exact ⟨rfl, (hp.trans hq).group.homeMap, fun h => ((hpsent h).sends hq).congr rfl rfl, fun h => ⟨v, (hqsent h).congr rfl rfl⟩⟩

theorem State.hbmKey_congr {t : State} (h : t.md.homeMap = s.md.homeMap) (mma : Nat) : t.hbmKey mma = s.hbmKey mma := by
  rw [State.hbmKey, State.framePhys, State.homeEntry?, h, State.hbmKey, State.framePhys, State.homeEntry?]

theorem State.fetch_congr {t : State} (h : SameMemory s t) (k n : Nat) : t.fetch k n = s.fetch k n := by
  simp only [State.fetch, h _]

theorem State.granBytes_congr {t : State} (h : SameMemory s t) (hm : t.md.homeMap = s.md.homeMap) (g : Nat) : t.granBytes g = s.granBytes g := by
  rw [State.granBytes, State.hbmKey_congr hm, State.fetch_congr h, State.granBytes]

/-- A write to protected memory as a whole: the bytes, and the deltas of the granule's change. -/
theorem hbmWrite_sent (s : State) (req : Nat) {mma : Nat} {bs : List Byte} {marks : List Bool} (hm : marks.length = bs.length)
    (h0 : 0 < bs.length) (h : mma % 64 + bs.length ≤ 64) (hk : s.frameKind (mma / 2 ^ 21) = 1) :
    SameMemory (s.put (s.hbmKey mma) bs marks) (s.hbmWrite req none mma bs marks) ∧
      s.md.ParitySent (s.hbmWrite req none mma bs marks).md (mma / 64 * 64) req none
        (s.granBytes (mma / 64 * 64) ^^^ (s.hbmWrite req none mma bs marks).granBytes (mma / 64 * 64)) := by
  rw [hbmWrite_protected s req none hm h0 h hk]
  generalize hx : s.put (s.hbmKey mma) bs marks = x
  have hmd : x.md = s.md := hx ▸ rfl
  have hmem (v w : Nat) : SameMemory x (x.parity (mma / 64 * 64) req none v w) := sameMemory_of_eq rfl rfl
  have hgran (v w : Nat) : (x.parity (mma / 64 * 64) req none v w).granBytes (mma / 64 * 64) = x.granBytes (mma / 64 * 64) :=
    State.granBytes_congr (hmem v w) (x.parity_sent _ _ _ v w).homeMap _
  have hsent := x.parity_sent (mma / 64 * 64) req none (s.granBytes (mma / 64 * 64)) (x.granBytes (mma / 64 * 64))
  rw [hmd] at hsent
  rw [hgran]
  exact ⟨hmem _ _, hsent⟩

/-- A write that no other module's line stands against, inside one granule of a protected frame (R104, R119). -/
theorem homePut_protected (s : State) (req : Nat) {mma : Nat} {bs : List Byte} {marks : List Bool} (hm : marks.length = bs.length) (h0 : 0 < bs.length)
    (h : mma % 64 + bs.length ≤ 64) (hk : s.frameKind (mma / 2 ^ 21) = 1) (hr : ∀ y ∈ linesOf mma bs.length, s.remoteHeld y true = false) :
    ∃ t, s.homePut req none mma bs marks = { s := t, ids := t.openWrites s } ∧ SameMemory (s.put (s.hbmKey mma) bs marks) t ∧
      s.md.ParitySent t.md (mma / 64 * 64) req none (s.granBytes (mma / 64 * 64) ^^^ t.granBytes (mma / 64 * 64)) := by
  have hf : (linesOf mma bs.length).find? (fun y => s.remoteHeld y true) = none := by simpa using hr
  obtain ⟨dc, di, co, e⟩ := dropOwns_eq s (linesOf mma bs.length)
  obtain ⟨hmem, hsent⟩ := hbmWrite_sent { s with md := { s.md with dcache := dc, dir := di, counters := co } } req hm h0 h hk
  refine ⟨_, ?_, hmem, hsent.nextWrite, hsent.homeMap, hsent.p, hsent.q⟩
  unfold State.homePut
  rw [hf, e]

/-! ## The writer's acknowledgement -/

theorem State.answer_sends (s : State) (src agent seq : Nat) (p : Packet) : s.md.Sends (s.answer src agent seq p).md ∧
    ∃ q ∈ (s.answer src agent seq p).md.outbox, q.cls = p.cls ∧ q.dst = src ∧ q.kind = p.kind ∧ q.addr = p.addr ∧ q.re = seq ∧ q.data = p.data ∧ q.marks = p.marks ∧ q.code = p.code := by
  obtain ⟨hs, q, hq, hqp⟩ := s.md.post_sends { p with dst := src, dagent := agent, agent := agentIo (p.addr / 128), re := seq }
  refine ⟨⟨hs.outbox, hs.deltas, hs.nextWrite, hs.lostMembers, hs.erasmem, hs.group.homeMap, hs.group.erasgrp⟩, q, hq, ?_⟩
  rw [hqp]
  exact ⟨rfl, rfl, rfl, rfl, rfl, rfl, rfl, rfl⟩

theorem State.answer_sameMemory (s : State) (src agent seq : Nat) (p : Packet) : SameMemory s (s.answer src agent seq p) := sameMemory_of_eq rfl rfl

theorem State.acked_sends (s : State) (x : EvIn) (ids : List Nat) : SameMemory s (s.acked x ids) ∧ s.md.Sends (s.acked x ids).md := by
  unfold State.acked
  split
  · exact ⟨s.answer_sameMemory _ _ _ _, (s.answer_sends _ _ _ _).1⟩
  · exact ⟨sameMemory_of_eq rfl rfl, fun _ h => h, fun _ h => h, rfl, rfl, rfl, rfl, rfl⟩

theorem State.writers_acked (s : State) (x : EvIn) {ids : List Nat} {i : Nat} (h : i ∈ ids) : ∃ k, (k, x) ∈ (s.acked x ids).md.writers := by
  unfold State.acked
  cases ids with
  | nil => cases h
  | cons a r => exact ⟨a, List.mem_append_right _ (.head _)⟩

/-- The write of which a delta has just left is one whose acknowledgement is awaited. -/
theorem State.mem_openWrites {t : State} {dst w v mma req : Nat} {word : Option DWord} (hn : t.md.nextWrite = s.md.nextWrite + 1)
    (h : t.md.Sent dst (s.md.delta mma req word w v)) : s.md.nextWrite ∈ t.openWrites s := by
  obtain ⟨d, hd, hdx, -⟩ := h
  have hid : d.id = s.md.nextWrite := by rw [hdx]; rfl
  have hopen : d.acked = false := by rw [hdx]; rfl
  rw [State.openWrites, hn, Nat.add_sub_cancel_left, List.mem_filter]
  exact ⟨List.mem_map.2 ⟨0, List.mem_range.2 Nat.one_pos, rfl⟩, List.any_eq_true.2 ⟨d, hd, by rw [hid, hopen, beq_self_eq_true]; rfl⟩⟩

/-! ## PROTECTED_WRITE -/

theorem State.taken_eq {kinds : List Nat} {x : EvIn} {s1 : State} (h : s.taken kinds = some (x, s1)) : ∃ l, s1 = { s with md := { s.md with inbox := l } } := by
  unfold State.taken at h
  dsimp only at h
  split at h
  · cases h
    exact ⟨_, rfl⟩
  · cases h

/-- The poison marks of the first `n` bytes of a store that has come in. -/
def stMarks (x : EvIn) (n : Nat) : List Bool := (List.range n).map (fun i => x.value.testBit (i / 8))

theorem execProtectedWrite_stores {x : EvIn} {s1 : State} (hx : s.taken [kStore] = some (x, s1)) (hb : s.frameBusy (x.addr % 2 ^ 40 / 2 ^ 21) = false)
    (ht : s.tagOk (x.addr % 2 ^ 40) x.index = true)
    (hh : s.heldBy (fun _ => true) (.hbm (x.addr % 2 ^ 40)) (min x.size (64 - x.addr % 2 ^ 40 % 64)) = none) {t : State} {ids : List Nat}
    (hp : s1.homePut (tagOf x.src x.gt x.seq) none (x.addr % 2 ^ 40) (toBytes (min x.size (64 - x.addr % 2 ^ 40 % 64)) x.data.toNat)
      (stMarks x (min x.size (64 - x.addr % 2 ^ 40 % 64))) = { s := t, ids := ids }) :
    execProtectedWrite s = .next (t.acked x ids) := by
  unfold execProtectedWrite
  rw [hx]
  dsimp only
  rw [if_neg (ne_true_of_eq_false hb), if_neg (by rw [ht]; decide), hh, if_neg (by decide)]
  rw [show (List.range (min x.size (64 - x.addr % 2 ^ 40 % 64))).map (fun i => x.value.testBit (i / 8)) = stMarks x _ from rfl, hp]

end Sys2Proof.Machine
end

section
/-! PROOF. Parity holders, lost members and rebuilt granules (R104, R105). -/

namespace Sys2Proof.Machine

variable {s t u : State} {m n : Module}

/-! ## Bytes of numbers -/

/-- Bit i of byte j of a number. -/
theorem getLsbD_byte (a j : Nat) {i : Nat} (hi : i < 8) : (BitVec.ofNat 8 (a / 256 ^ j)).getLsbD i = a.testBit (8 * j + i) := by
  have hpow : (256 : Nat) ^ j = 2 ^ (8 * j) := (pow_mul 2 8 j).symm
  rw [BitVec.getLsbD_ofNat, decide_eq_true hi, Bool.true_and, hpow, Nat.testBit_div_two_pow, Nat.add_comm]

theorem byte_xor (a b j : Nat) : BitVec.ofNat 8 ((a ^^^ b) / 256 ^ j) = BitVec.ofNat 8 (a / 256 ^ j) ^^^ BitVec.ofNat 8 (b / 256 ^ j) := by
  refine BitVec.eq_of_getLsbD_eq fun i hi => ?_
  rw [BitVec.getLsbD_xor, getLsbD_byte _ _ hi, getLsbD_byte _ _ hi, getLsbD_byte _ _ hi, Nat.testBit_xor]

theorem byte_mod (a : Nat) {j n : Nat} (hj : j < n) : BitVec.ofNat 8 (a % 2 ^ (8 * n) / 256 ^ j) = BitVec.ofNat 8 (a / 256 ^ j) := by
  refine BitVec.eq_of_getLsbD_eq fun i hi => ?_
  rw [getLsbD_byte _ _ hi, getLsbD_byte _ _ hi, Nat.testBit_mod_two_pow, decide_eq_true (by omega), Bool.true_and]

/-! ## Marks of whole doublewords -/

/-- Doublewords that are written whole, clean or poisoned, are marked so (R109). -/
theorem marked_put_run (s : State) {k n : Nat} {bs : List Byte} (b : Bool) (hk : k % 8 = 0) (hn : n % 8 = 0) (hb : bs.length = n) {j : Nat} (hj : j < n) :
    (s.put k bs (List.replicate n b)).marked (k + j) = b := by
  have hcount : (k % 8 + bs.length + 7) / 8 = n / 8 := by omega
  have hdw : (k + j) / 8 = k / 8 + j / 8 := by omega
  have hpart : ((List.replicate n b).take ((k / 8 + j / 8) * 8 + 8 - k)).drop ((k / 8 + j / 8) * 8 - k) = List.replicate 8 b := by
    rw [List.take_replicate, List.drop_replicate]
    congr 1
    omega
  rw [Bool.eq_iff_iff, marked_iff, State.put_poison, hcount, hdw, markCells_in _ _ _ _ _ (by omega), hpart, List.length_replicate]
  cases b <;> simp

/-! ## PARITY_DELTA -/

theorem State.byteAt_modMd (s : State) (f : Module → Module) (z : Nat) : (s.modMd f).byteAt z = s.byteAt z := rfl

/-- A granule of a parity holder becomes the XOR of its bytes and a delta's (R104). -/
theorem State.byteAt_applyDelta (s : State) (h : HeldDelta) :
    (∀ j, j < 64 → (s.applyDelta h).byteAt (s.hbmKey h.granule + j) = s.byteAt (s.hbmKey h.granule + j) ^^^ BitVec.ofNat 8 (h.data.toNat / 256 ^ j)) ∧
    ∀ z, z < s.hbmKey h.granule ∨ s.hbmKey h.granule + 64 ≤ z → (s.applyDelta h).byteAt z = s.byteAt z := by
  have hlen : ((s.fetch (s.hbmKey h.granule) 64).map (·.1)).length = 64 := by rw [List.length_map, length_fetch]
  obtain ⟨marks, hx⟩ : ∃ marks, s.applyDelta h = (s.put (s.hbmKey h.granule) (toBytes 64 (s.granBytes h.granule ^^^ h.data.toNat)) marks).modMd
      (fun m => { m with kept := m.kept ++ [h] }) := ⟨_, rfl⟩
  have hput (z : Nat) : (s.applyDelta h).byteAt z = _ := (congrArg (State.byteAt · z) hx).trans (State.byteAt_modMd _ _ z)
  refine ⟨fun j hj => ?_, fun z hz => ?_⟩
  · rw [hput, byteAt_put_in _ _ _ _ j (by rwa [toBytes_length]), toBytes_getElem, byte_xor, State.granBytes, ofNat_ofBytes_div _ j (by rwa [hlen])]
    simp [State.fetch]
  · rw [hput, byteAt_put_out _ _ _ _ z (by rwa [toBytes_length])]

/-- The delta of a packet, as its holder keeps it. -/
def heldOf (x : EvIn) : HeldDelta :=
  { home := x.src, seq := x.seq, granule := x.addr % 2 ^ 40 / 64 * 64, data := x.data.setWidth 512, req := x.index
    old := if x.code = 1 then some (dw x.offset) else none }

theorem execParityDelta_applies {x : EvIn} {s1 : State} (hx : s.taken [kDelta] = some (x, s1)) (hk : s.frameKind ((heldOf x).granule / 2 ^ 21) = 2)
    (hp : s.md.pos = (heldOf x).granule / 2 ^ 21 % 10 ∨ s.md.pos = ((heldOf x).granule / 2 ^ 21 + 1) % 10)
    (hb : s.frameBusy ((heldOf x).granule / 2 ^ 21) = false) :
    execParityDelta s = .next ((s1.applyDelta (heldOf x)).answer x.src x.gt x.seq { cls := cRSP, dst := x.src, kind := kDeltaAck, addr := (heldOf x).granule }) := by
  have hholds : ¬ (s.frameKind ((heldOf x).granule / 2 ^ 21) ≠ 2 ∨
      s.md.pos ≠ (heldOf x).granule / 2 ^ 21 % 10 ∧ s.md.pos ≠ ((heldOf x).granule / 2 ^ 21 + 1) % 10) := by
    rintro (h | ⟨h1, h2⟩)
    · exact h hk
    · exact hp.elim h1 h2
  unfold execParityDelta
  rw [hx]
  exact (if_neg hholds).trans (if_neg (ne_true_of_eq_false hb))

/-! ## Lost members (R105) -/

/-- Memory and the set of lost members are as they were. -/
def State.SameLost (s t : State) : Prop := SameMemory s t ∧ t.md.lostMembers = s.md.lostMembers

theorem State.SameLost.refl (s : State) : s.SameLost s := ⟨.refl s, rfl⟩

theorem State.SameLost.trans (h : s.SameLost t) (h' : t.SameLost u) : s.SameLost u := ⟨h.1.trans h'.1, h'.2.trans h.2⟩

theorem State.sameLost_hostEvent (s : State) (e : HEvent) : s.SameLost (s.hostEvent e) := by
  unfold State.hostEvent State.modMd
  dsimp only
  split <;> exact ⟨sameMemory_of_eq rfl rfl, rfl⟩

theorem State.sameLost_retireDeltas (s : State) : s.SameLost s.retireDeltas := by
  unfold State.retireDeltas
  dsimp only
  refine foldl_keeps (fun x : State => s.SameLost x) _ _ _ (foldl_keeps (fun x : State => s.SameLost x) _ _ _ ⟨sameMemory_of_eq rfl rfl, rfl⟩ ?_) ?_
  · exact fun x e hx => hx.trans ⟨(x.acked_sends _ _).1, (x.acked_sends _ _).2.lostMembers⟩
  · intro x d hx
    split
    · exact hx
    · exact hx.trans ⟨sameMemory_of_eq rfl rfl, (x.md.post_sends _).1.lostMembers⟩

/-- The member at position `p` is lost: nothing is announced or sent to it any more, and its deltas hold no write up. -/
def State.declareLost (s : State) (p : Nat) : State :=
  let gone (d : Delta) : Bool := (d.granule / 2 ^ 21 + d.weight) % 10 == p
  s.modMd (fun m => { m with
    lostMembers := sadd m.lostMembers p, announce := m.announce.filter (· ≠ m.member p)
    degradedStripes := (m.deltas.filter (fun d => gone d && !d.acked)).foldl (fun l d => sadd l (d.granule / 2 ^ 21)) m.degradedStripes
    outbox := m.outbox.filter (fun q => !(q.kind == kDelta && q.dst == m.member p))
    deltas := m.deltas.map (fun d => if gone d then { d with acked := true } else d) })

theorem State.mem_declareLost (s : State) (p k : Nat) : k ∈ (s.declareLost p).md.lostMembers ↔ k = p ∨ k ∈ s.md.lostMembers := mem_sadd s.md.lostMembers p k

/-- Writes that waited for a lost member alone are acknowledged, and its rebuild waits for the host's approval where the host has reserved that (R411). -/
def State.holdRebuild (s : State) (assisted : Bool) (p : Nat) : State :=
  s.retireDeltas.modMd (fun m => { m with pendingRebuild := if assisted then sadd m.pendingRebuild p else m.pendingRebuild })

def State.tellLost (s : State) (e e' : HEvent) (assisted : Bool) (p : Nat) : State :=
  let s2 := (s.holdRebuild assisted p).hostEvent e
  if assisted then s2.hostEvent e' else s2

theorem State.sameLost_tellLost (s : State) (e e' : HEvent) (assisted : Bool) (p : Nat) : s.SameLost (s.tellLost e e' assisted p) := by
  have h : s.SameLost ((s.holdRebuild assisted p).hostEvent e) :=
    (s.sameLost_retireDeltas.trans ⟨sameMemory_of_eq rfl rfl, rfl⟩).trans (State.sameLost_hostEvent _ e)
  unfold State.tellLost
  dsimp only
  split
  · exact h.trans (State.sameLost_hostEvent _ e')
  · exact h

theorem execMemberLoss_eq (hv : s.voted = true) (hp : s.ev.id < 10) : ∃ e e' assisted, execMemberLoss s = .next ((s.declareLost s.ev.id).tellLost e e' assisted s.ev.id) := by
  have hgo : ¬ (!s.voted || decide (10 ≤ s.ev.id)) = true := by rw [hv]; simpa using hp
  exact ⟨_, _, _, if_neg hgo⟩

/-! ## ERASURE_REBUILD -/

theorem execErasureRebuild_lost (hk : s.ev.kind = 0) (hl : s.ev.id ∈ s.md.lostMembers) (hp : s.ev.id ∉ s.md.pendingRebuild) :
    ∃ degraded kept, execErasureRebuild s =
      .next { s with md := { s.md with lostMembers := sdel s.md.lostMembers s.ev.id, degradedStripes := degraded, kept := kept } } := by
  have hlost : (s.md.lostMembers.contains s.ev.id && !s.md.pendingRebuild.contains s.ev.id) = true := by simp [hl, hp]
  unfold execErasureRebuild
  dsimp only
  rw [hk]
  exact ⟨_, _, if_pos hlost⟩

theorem execErasureRebuild_shares (hk : s.ev.kind = 2) (hl : s.ev.id ∈ s.md.lostMembers) (hp : s.ev.id ∉ s.md.pendingRebuild) :
    execErasureRebuild s = .next (s.shareDeltas (s.md.member s.ev.id)) := by
  have hlost : (s.md.lostMembers.contains s.ev.id && !s.md.pendingRebuild.contains s.ev.id) = true := by simp [hl, hp]
  unfold execErasureRebuild
  dsimp only
  rw [hk]
  exact if_pos hlost

/-- The position of the stripe's other parity holder. -/
def Module.otherHolder (m : Module) (i : Nat) : Nat := if m.pos = i % 10 then (i + 1) % 10 else i % 10

/-- The packet that shares a kept delta, of weight `w` at this module, with the holder at `dst`. -/
def sharePacket (dst w home : Nat) (h : HeldDelta) : Packet :=
  { cls := cREQ, dst := dst, kind := kShareDelta, addr := h.granule, agent := agentIo (h.granule / 128), dagent := agentIo (h.granule / 128)
    tag := h.req, size := home, re := (h.old.getD 0).toNat, code := w, data := h.data.setWidth 1024 }

/-- What the sharing of one kept delta with the stripe's other holder does (R105). -/
def State.shareDelta (s : State) (home : Nat) (x : State) (h : HeldDelta) : State :=
  let w := if s.md.pos = h.granule / 2 ^ 21 % 10 then 0 else 1
  let p := (h.granule / 2 ^ 21 + 1 - w) % 10
  if x.md.lostMembers.contains p then x
  else x.modMd (fun m => m.post (sharePacket (m.member p) w home h))

theorem State.shareDeltas_eq (s : State) (home : Nat) : s.shareDeltas home = (s.md.kept.filter (fun h => h.home == home)).foldl (s.shareDelta home) s := rfl

/-- A packet that shares a kept delta with a holder. -/
def Module.Shared (n : Module) (dst : Nat) (h : HeldDelta) : Prop :=
  ∃ q ∈ n.outbox, q.cls = cREQ ∧ q.dst = dst ∧ q.kind = kShareDelta ∧ q.addr = h.granule ∧ q.data = h.data.setWidth 1024

theorem State.shareDelta_sends (s : State) (home : Nat) (x : State) (h : HeldDelta) :
    SameMemory x (s.shareDelta home x h) ∧ x.md.Sends (s.shareDelta home x h).md ∧
      (s.md.otherHolder (h.granule / 2 ^ 21) ∉ x.md.lostMembers →
        (s.shareDelta home x h).md.Shared (x.md.member (s.md.otherHolder (h.granule / 2 ^ 21))) h) := by
  have hp : (h.granule / 2 ^ 21 + 1 - if s.md.pos = h.granule / 2 ^ 21 % 10 then 0 else 1) % 10 = s.md.otherHolder (h.granule / 2 ^ 21) := by
    unfold Module.otherHolder
    split <;> rfl
  unfold State.shareDelta
  dsimp only
  rw [hp]
  split
  · next hl => exact ⟨.refl x, .refl _, fun hn => absurd (List.contains_iff_mem.1 hl) hn⟩
  · obtain ⟨hs, q, hq, hqp⟩ := x.md.post_sends (sharePacket (x.md.member (s.md.otherHolder (h.granule / 2 ^ 21)))
      (if s.md.pos = h.granule / 2 ^ 21 % 10 then 0 else 1) home h)
    refine ⟨sameMemory_of_eq rfl rfl, hs, fun _ => ⟨q, hq, ?_⟩⟩
    rw [hqp]
    exact ⟨rfl, rfl, rfl, rfl, rfl⟩

/-- Every delta of a list is shared where the other holder is not lost. -/
theorem State.foldl_shareDelta_sends (s : State) (home : Nat) (l : List HeldDelta) (x : State) :
    SameMemory x (l.foldl (s.shareDelta home) x) ∧ x.md.Sends (l.foldl (s.shareDelta home) x).md ∧
      ∀ h ∈ l, s.md.otherHolder (h.granule / 2 ^ 21) ∉ x.md.lostMembers →
        (l.foldl (s.shareDelta home) x).md.Shared (x.md.member (s.md.otherHolder (h.granule / 2 ^ 21))) h := by
  induction l generalizing x with
  | nil => exact ⟨.refl x, .refl _, fun _ hh => absurd hh List.not_mem_nil⟩
  | cons a r ih =>
    obtain ⟨hmem, hsend, hshare⟩ := s.shareDelta_sends home x a
    obtain ⟨ihmem, ihsend, ihshare⟩ := ih (s.shareDelta home x a)
    refine ⟨hmem.trans ihmem, hsend.trans ihsend, fun h hh hl => ?_⟩
    rcases List.mem_cons.1 hh with rfl | hr
    · obtain ⟨q, hq, hfields⟩ := hshare hl
      exact ⟨q, ihsend.outbox q hq, hfields⟩
    · have := ihshare h hr (hsend.lostMembers ▸ hl)
      rwa [hsend.member] at this

theorem execErasureRebuild_brings (hk : s.ev.kind = 1) : execErasureRebuild s =
    .next (s.put (s.hbmKey (s.ev.addr % 2 ^ 40 / 64 * 64)) (toBytes 64 (if s.ev.ok then s.ev.data.toNat % 2 ^ 512 else 0)) (List.replicate 64 (!s.ev.ok))) := by
  unfold execErasureRebuild
  dsimp only
  simp only [hk]

theorem execErasureRebuild_records (hk : s.ev.kind = 3) (hn : ∀ r ∈ s.md.served, ¬ (r.src = s.ev.src ∧ r.agent = s.ev.gt ∧ r.seq = s.ev.seq)) :
    execErasureRebuild s = .next { s with md := { s.md with served :=
      s.md.served ++ [{ src := s.ev.src, agent := s.ev.gt, seq := s.ev.seq, kind := kStore, answer := some (kAck, s.ev.addr, 0, 0, 0) }] } } := by
  have hnone : ¬ s.md.served.any (fun r => r.src == s.ev.src && r.agent == s.ev.gt && r.seq == s.ev.seq) = true := by
    rw [List.any_eq_true]
    rintro ⟨r, hr, h⟩
    simp only [Bool.and_eq_true, beq_iff_eq] at h
    exact hn r hr ⟨h.1.1, h.1.2, h.2⟩
  unfold execErasureRebuild
  dsimp only
  rw [hk]
  exact if_neg hnone

end Sys2Proof.Machine
end

section
/-! PROOF. Requests that recovery fails (R397), and the obligation on protected memory and remote failure (O45). -/

namespace Sys2Proof.Machine

variable {s t : State} {u : Task} {k : Nat}

/-- A change of a task that leaves its key and its status is found under the key. -/
theorem State.task?_modTask_kept {f : Task → Task} (h : s.task? k = some u) (hk : (f u).key = u.key) (hs : (f u).status = u.status) :
    (s.modTask k f).task? k = some (f u) := by
  by_cases ha : u.status = .absent
  · have hc : ¬ (s.cur.status ≠ .absent ∧ s.cur.key = k) := fun hc => by
      rw [State.task?, if_pos hc] at h
      cases h
      exact hc.1 ha
    have ho : s.others.find? (Task.hasKey k) = some u := (if_neg hc).symm.trans h
    rw [State.modTask, if_neg hc]
    exact (if_neg hc).trans (find?_modWhere_same ho (by rw [Task.hasKey, hk, State.task?_key h, beq_self_eq_true]))
  · exact State.task?_modTask h (hk.trans (State.task?_key h)) (by rwa [hs])

/-! ## A transfer that fails -/

/-- The entry of transfer `x` in tile `gt` is stopped with code 0x06. -/
def State.Halted (s : State) (gt : Nat) (x : Transfer) : Prop := ∃ y, (x.id % 1024, y) ∈ (s.tile gt).xfers ∧ y.id = x.id ∧ y.stop = true ∧ y.code = 6

theorem State.halted_xPut (s : State) (gt : Nat) {x : Transfer} (hc : x.code = 0) : (s.xPut gt (x.halt 6)).Halted gt x := by
  have hset : x.setCode 6 = { x with code := 6 } := if_pos hc
  have hhalt : x.halt 6 = { x with code := 6, stop := true } := by rw [Transfer.halt, hset]
  rw [hhalt]
  refine ⟨{ x with code := 6, stop := true }, ?_, rfl, rfl, rfl⟩
  rw [State.xPut, State.tile_modTile, if_pos rfl]
  exact mem_tinsert_self _ _ _

theorem State.Halted.congr {gt : Nat} {x : Transfer} (h : s.Halted gt x) (ht : t.tiles = s.tiles) : t.Halted gt x := by
  rw [State.Halted, State.tile, ht]
  exact h

theorem State.xPut_sameMemory (s : State) (gt : Nat) (x : Transfer) : SameMemory s (s.xPut gt x) := sameMemory_of_eq rfl rfl

theorem State.modMd_sameMemory (s : State) (f : Module → Module) : SameMemory s (s.modMd f) := sameMemory_of_eq rfl rfl

theorem State.colSend_tiles (s : State) (c : Coll) (kind code : Nat) : (s.colSend c kind code).tiles = s.tiles ∧ SameMemory s (s.colSend c kind code) :=
  foldl_keeps (fun x : State => x.tiles = s.tiles ∧ SameMemory s x) _ _ _ ⟨rfl, .refl s⟩ fun x _ hx => ⟨hx.1, hx.2.trans (x.modMd_sameMemory _)⟩

theorem State.putColl_sameMemory (s : State) (c : Coll) : SameMemory s (s.putColl c) := sameMemory_of_eq rfl rfl

theorem State.putColl_tiles (s : State) (c : Coll) : (s.putColl c).tiles = s.tiles := rfl

/-- A collective whose one own transfer is `x` stops it. -/
theorem State.halted_failColl (s : State) (c : Coll) {gt : Nat} {x : Transfer} (hc : x.code = 0) (hx : s.colXfers c = [(gt, x)]) :
    SameMemory s (s.failColl c 6 true) ∧ (s.failColl c 6 true).Halted gt x := by
  have hsend := (s.xPut gt (x.halt 6)).colSend_tiles c kAbort 6
  have he : s.failColl c 6 true = ((s.xPut gt (x.halt 6)).colSend c kAbort 6).putColl { c with failed := some 6, shares := [], source := [] } := by
    unfold State.failColl
    rw [hx]
    rfl
  rw [he]
  exact ⟨((s.xPut_sameMemory _ _).trans hsend.2).trans (State.putColl_sameMemory _ _), ((s.halted_xPut gt hc).congr hsend.1).congr (State.putColl_tiles _ _)⟩

theorem execRemoteFailure_transfer {x : Transfer} (hk : s.ev.kind = 3) (hx : s.xfer? s.ev.gt s.ev.id = some x) :
    execRemoteFailure s = .next (if mvDkind x.regs = 4 then s.failColl (s.collOf x) 6 true else s.xPut s.ev.gt (x.halt 6)) := by
  unfold execRemoteFailure
  rw [if_pos hk, hx]

/-! ## A store that fails -/

theorem State.modTask_stores (s : State) (k : Nat) (f : Task → Task) : (s.modTask k f).stores = s.stores := by
  unfold State.modTask
  split <;> rfl

theorem execRemoteFailure_store {y : Store} (hk : s.ev.kind = 1) (hy : s.stores.find? (fun y => y.key == s.ev.key && y.addr == s.ev.addr) = some y) :
    execRemoteFailure s = .next (s.failStore y) := by
  unfold execRemoteFailure
  rw [if_neg (by rw [hk]; decide), if_pos hk, hy]

/-- A task that learns of a failed store, its first. -/
def Task.losesStore (a : Nat) (u : Task) : Task :=
  u.modSch (fun x => { x with failedStore := match x.failedStore with | some b => some b | none => some a })

theorem State.failStore_eq (s : State) (y : Store) :
    ∃ md, s.failStore y = ({ s with stores := s.stores.erase y, md := md } : State).modTask y.key (Task.losesStore y.addr) := by
  obtain ⟨md, h⟩ : ∃ md, y.reqs.foldl (fun x n => x.finished n) ({ s with stores := s.stores.erase y } : State) = { s with stores := s.stores.erase y, md := md } := by
    refine foldl_keeps (fun x : State => ∃ md, x = { s with stores := s.stores.erase y, md := md }) _ _ _ ⟨s.md, rfl⟩ ?_
    rintro x n ⟨md, rfl⟩
    exact ⟨_, rfl⟩
  refine ⟨md, ?_⟩
  rw [← h]
  rfl

/-! ## A load, an atomic or an MSEND that fails -/

/-- A task that learns of a failed load or atomic. -/
def Task.failsAccess (a : Nat) (u : Task) : Task := u.modSch (fun x => { x with failedAccess := some a })

theorem execRemoteFailure_access (hu : s.task? s.ev.key = some u) (hw : (∃ l w, u.status = .parked (.line l w)) ∨ (∃ w, u.status = .parked (.grant w)))
    (hk : s.ev.kind = 0) :
    ∃ resv md, execRemoteFailure s = .next ((({ s with resv := resv, md := md } : State).modTask u.key
      (Task.failsAccess s.ev.addr)).ready u.key) := by
  unfold execRemoteFailure
  rw [if_neg (by rw [hk]; decide), if_neg (by rw [hk]; decide), hu]
  dsimp only
  rw [if_neg (by rw [hk]; decide)]
  rcases hw with ⟨l, w, h⟩ | ⟨w, h⟩
  · simp only [h]
    exact ⟨s.resv, s.md, rfl⟩
  · simp only [h]
    exact ⟨_, _, rfl⟩

theorem execRemoteFailure_send (hu : s.task? s.ev.key = some u) (hk : s.ev.kind = 2) (hs : u.sch.sending = true) :
    execRemoteFailure s = .next (s.takeReply u.key u.sch.sentId 3) := by
  unfold execRemoteFailure
  rw [if_neg (by rw [hk]; decide), if_neg (by rw [hk]; decide), hu]
  dsimp only
  rw [if_pos hk, if_pos hs]

/-- A task that has been replied to keeps the reply and its registers while others become ready. -/
theorem State.replied_wake {st : Nat} {g : Vector DWord 32} (h : ∃ y, s.task? k = some y ∧ y.sch.reply = some st ∧ y.g = g) (p : Task → Park → Bool) :
    ∃ y, (s.wake p).task? k = some y ∧ y.sch.reply = some st ∧ y.g = g := by
  refine foldl_keeps (fun x : State => ∃ y, x.task? k = some y ∧ y.sch.reply = some st ∧ y.g = g) _ _ _ h ?_
  rintro x v ⟨y, hy, hr, hg⟩
  by_cases hv : v.key = k
  · rw [hv]
    exact ⟨_, State.task?_ready hy, hr, hg⟩
  · exact ⟨y, (State.task?_ready_other hv).trans hy, hr, hg⟩

/-- A task to which a reply has come. -/
def Task.replied (st : Nat) (u : Task) : Task := u.modSch (fun x => { x with reply := some st })

theorem State.takeReply_completes (hu : s.task? k = some u) (hs : u.sch.sending = true) (st : Nat) :
    SameMemory s (s.takeReply k u.sch.sentId st) ∧ ∃ y, (s.takeReply k u.sch.sentId st).task? k = some y ∧ y.sch.reply = some st ∧ y.g = u.g := by
  have hawaits : (u.sch.sending && u.sch.sentId == u.sch.sentId) = true := by rw [hs, beq_self_eq_true]; rfl
  unfold State.takeReply
  dsimp only
  rw [hu]
  dsimp only
  rw [if_pos hawaits]
  have hreply : (s.modTask k (Task.replied st)).task? k = some (u.replied st) := State.task?_modTask_kept hu rfl rfl
  exact ⟨(s.modTask_sameMemory _ _).trans (State.wake_sameMemory _ _), State.replied_wake ⟨_, hreply, rfl, rfl⟩ _⟩

/-! ## What has been sent -/

/-- The delta that has left for a holder, with the packet that carries it. -/
theorem Module.Sent.delta {m n : Module} {dst mma req w v : Nat} (h : n.Sent dst (m.delta mma req none w v)) :
    ∃ d ∈ n.deltas, d.granule = mma ∧ d.weight = w ∧ d.acked = false ∧ d.req = req ∧ d.data = BitVec.ofNat 512 v ∧
      ∃ p ∈ n.outbox, p.cls = cREQ ∧ p.dst = dst ∧ p.kind = kDelta ∧ p.addr = mma ∧ p.data = d.data.setWidth 1024 := by
  obtain ⟨d, hd, hdx, p, hp, hfields⟩ := h
  refine ⟨d, hd, ?_⟩
  rw [hdx]
  exact ⟨rfl, rfl, rfl, rfl, rfl, p, hp, hfields⟩

theorem length_stMarks (x : EvIn) (n : Nat) : (stMarks x n).length = n := by rw [stMarks, List.length_map, List.length_range]

end Sys2Proof.Machine
end

section

open Sys2Proof.Machine

/-- Settles O45: each event is reduced to what it does to the state; the deltas, packets and tasks are then found there. -/
theorem erasureAndRemoteFailureEventsComplete : Obligations.ErasureAndRemoteFailureEventsComplete := by
  unfold Obligations.ErasureAndRemoteFailureEventsComplete
  intro s
  dsimp only
  refine ⟨fun x s1 hx hkind hsize hbusy htag hheld hline => ?write, fun x s1 hx hkind hpos hbusy => ?delta, fun hv hp => ?loss,
    fun hl hp => ⟨fun hk => ?rebuilt, fun hk => ?shares⟩, fun hk => ?brings, execErasureRebuild_records, fun x hk hx hc hcol => ?transfer,
    fun y hk hy => ?store, fun u hu => ⟨fun hw hk => ?access, fun hk hs => ?send⟩⟩
  case write =>
    obtain ⟨l, rfl⟩ := State.taken_eq hx
    generalize ha : x.addr % 2 ^ 40 = a at *
    generalize hn : min x.size (64 - a % 64) = n at *
    have hgran : a / 64 * 64 / 2 ^ 21 = a / 2 ^ 21 := by omega
    obtain ⟨t, hput, hmem, hsent⟩ := homePut_protected { s with md := { s.md with inbox := l } } (tagOf x.src x.gt x.seq) (mma := a) (bs := toBytes n x.data.toNat)
      (marks := stMarks x n) (by rw [length_stMarks, toBytes_length]) (by rw [toBytes_length]; omega) (by rw [toBytes_length]; omega) hkind
      (by rw [toBytes_length]; exact hline)
    have hexec : exec .protectedWrite s = _ := execProtectedWrite_stores hx (by rwa [ha]) (by rwa [ha]) (by rwa [ha, hn]) (by rw [ha, hn]; exact hput)
    have hack := t.acked_sends x (t.openWrites { s with md := { s.md with inbox := l } })
    have hbyte (z : Nat) := ((hack.1 z).1).trans (hmem z).1
    have hbytes := State.granBytes_congr hack.1 hack.2.group.homeMap (a / 64 * 64)
    obtain ⟨hnext, -, hp, hq⟩ := hsent
    rw [hgran] at hp hq
    refine ⟨_, hexec, fun j hj => ?_, fun z hz => ?_, fun h => ?_, fun h => ?_, fun h => State.writers_acked t x (i := s.md.nextWrite) ?_⟩
    · exact (hbyte _).trans ((byteAt_put_in _ _ _ _ j (by rwa [toBytes_length])).trans (toBytes_getElem _ _ _ _))
    · exact (hbyte _).trans (byteAt_put_out _ _ _ _ z (by rwa [toBytes_length]))
    · obtain ⟨d, hd, h1, h2, h3, h4, h5, hpacket⟩ := ((hp h).sends hack.2).delta
      rw [← hbytes] at h5
      exact ⟨d, hd, h1, h2, h3, h4, fun _ => h5, hpacket⟩
    · obtain ⟨v, hsent⟩ := hq h
      obtain ⟨d, hd, h1, h2, h3, h4, -, hpacket⟩ := (hsent.sends hack.2).delta
      exact ⟨d, hd, h1, h2, h3, h4, fun h => absurd h Nat.one_ne_zero, hpacket⟩
    · rcases h with h | h
      · exact State.mem_openWrites hnext (hp h)
      · obtain ⟨v, hsent⟩ := hq h
        exact State.mem_openWrites hnext hsent
  case delta =>
    obtain ⟨l, rfl⟩ := State.taken_eq hx
    have hexec : exec .parityDelta s = _ := execParityDelta_applies hx hkind hpos hbusy
    obtain ⟨hin, hout⟩ := State.byteAt_applyDelta { s with md := { s.md with inbox := l } } (heldOf x)
    have hkept : heldOf x ∈ (State.applyDelta { s with md := { s.md with inbox := l } } (heldOf x)).md.kept := List.mem_append_right _ (.head _)
    generalize State.applyDelta { s with md := { s.md with inbox := l } } (heldOf x) = t at hexec hin hout hkept
    obtain ⟨-, q, hq, h1, h2, h3, h4, h5, -⟩ := t.answer_sends x.src x.gt x.seq { cls := cRSP, dst := x.src, kind := kDeltaAck, addr := (heldOf x).granule }
    refine ⟨_, hexec, fun j hj => ?_, hout, ⟨heldOf x, hkept, rfl, rfl, rfl, rfl⟩, q, hq, h1, h2, h3, h4, h5⟩
    refine (hin j hj).trans (congrArg _ ?_)
    rw [heldOf, BitVec.toNat_setWidth]
    exact byte_mod x.data.toNat (n := 64) hj
  case loss =>
    obtain ⟨e, e', assisted, hx⟩ := execMemberLoss_eq hv hp
    have hsame := (s.declareLost s.ev.id).sameLost_tellLost e e' assisted s.ev.id
    have hmem : SameMemory s (s.declareLost s.ev.id) := s.modMd_sameMemory _
    refine ⟨_, hx, hmem.trans hsame.1, fun k => ?_⟩
    rw [hsame.2]
    exact s.mem_declareLost _ k
  case rebuilt =>
    obtain ⟨degraded, kept, hx⟩ := execErasureRebuild_lost hk hl hp
    exact ⟨_, hx, sameMemory_of_eq rfl rfl, mem_sdel _ _⟩
  case shares =>
    have hx := execErasureRebuild_shares hk hl hp
    rw [State.shareDeltas_eq] at hx
    obtain ⟨hmem, -, hshare⟩ := s.foldl_shareDelta_sends (s.md.member s.ev.id) (s.md.kept.filter (fun h => h.home == s.md.member s.ev.id)) s
    exact ⟨_, hx, hmem, fun h hh hhome hlost => hshare h (List.mem_filter.2 ⟨hh, beq_iff_eq.2 hhome⟩) hlost⟩
  case brings =>
    have hk8 : s.hbmKey (s.ev.addr % 2 ^ 40 / 64 * 64) % 8 = 0 := s.hbmKey_mod (Nat.mul_mod_left _ _)
    refine ⟨_, execErasureRebuild_brings hk, fun j hj => ⟨?_, marked_put_run s _ hk8 rfl (toBytes_length _ _) hj⟩,
      fun z hz => byteAt_put_out s _ _ _ z (by rwa [toBytes_length])⟩
    rw [byteAt_put_in _ _ _ _ j (by rwa [toBytes_length]), toBytes_getElem]
    split
    · exact byte_mod s.ev.data.toNat (n := 64) hj
    · exact congrArg (BitVec.ofNat 8) (Nat.zero_div _)
  case transfer =>
    have hexec : exec .remoteFailure s = _ := execRemoteFailure_transfer hk hx
    by_cases hd : mvDkind x.regs = 4
    · rw [if_pos hd] at hexec
      exact ⟨_, hexec, s.halted_failColl _ hc (hcol hd)⟩
    · rw [if_neg hd] at hexec
      exact ⟨_, hexec, s.xPut_sameMemory _ _, s.halted_xPut _ hc⟩
  case store =>
    obtain ⟨md, he⟩ := s.failStore_eq y
    have hexec : exec .remoteFailure s = _ := (execRemoteFailure_store hk hy).trans (congrArg _ he)
    have hid : y.key = s.ev.key ∧ y.addr = s.ev.addr := by simpa using List.find?_some hy
    refine ⟨_, hexec, (sameMemory_of_eq rfl rfl).trans (State.modTask_sameMemory _ _ _), State.modTask_stores _ _ _, fun u hu hnone => ?_⟩
    rw [hid.1, hid.2]
    exact ⟨_, State.task?_modTask_kept hu rfl rfl, by rw [Task.losesStore, Task.modSch, hnone], rfl⟩
  case access =>
    obtain ⟨resv, md, hexec⟩ := execRemoteFailure_access hu hw hk
    rw [State.task?_key hu] at hexec
    have hfails : (State.modTask { s with resv := resv, md := md } s.ev.key (Task.failsAccess s.ev.addr)).task? s.ev.key = some (u.failsAccess s.ev.addr) :=
      State.task?_modTask_kept hu rfl rfl
    have hstate : SameMemory s { s with resv := resv, md := md } := sameMemory_of_eq rfl rfl
    have hready (x : State) : SameMemory x (x.ready s.ev.key) := sameMemory_of_eq (x.ready_mem _) (x.ready_poison _)
    exact ⟨_, hexec, (hstate.trans (State.modTask_sameMemory _ _ _)).trans (hready _), _, State.task?_ready hfails, rfl, rfl, rfl⟩
  case send =>
    have hx := execRemoteFailure_send hu hk hs
    rw [State.task?_key hu] at hx
    exact ⟨_, hx, State.takeReply_completes hu hs 3⟩

end

section
/-! PROOF. Lines of memory (R117 to R122): the directory, the domain cache, and what a grant and a request to the holders do. -/

namespace Sys2Proof.Machine

variable {s t x : State} {mma : Nat}

/-! ## The directory -/

theorem State.dirOf_modDir (s : State) (mma : Nat) (f : Dir → Dir) (a : Nat) :
    (s.modDir mma f).dirOf a = if a / 128 = mma / 128 then f (s.dirOf mma) else s.dirOf a :=
  tget_tmod s.md.dir (mma / 128) (a / 128) f

theorem State.dirOf_modDir_self (s : State) (mma : Nat) (f : Dir → Dir) : (s.modDir mma f).dirOf mma = f (s.dirOf mma) :=
  (s.dirOf_modDir mma f mma).trans (if_pos rfl)

theorem State.dirOf_congr (h : t.md.dir = s.md.dir) (mma : Nat) : t.dirOf mma = s.dirOf mma := by rw [State.dirOf, h, State.dirOf]

/-- A module that sends keeps its directory, its domain cache and its number. -/
structure Module.SameLines (m n : Module) : Prop where
  dir : n.dir = m.dir
  dcache : n.dcache = m.dcache
  number : n.number = m.number

theorem Module.SameLines.refl (m : Module) : m.SameLines m := ⟨rfl, rfl, rfl⟩

theorem Module.SameLines.trans {m n o : Module} (h : m.SameLines n) (h' : n.SameLines o) : m.SameLines o :=
  ⟨h'.dir.trans h.dir, h'.dcache.trans h.dcache, h'.number.trans h.number⟩

theorem Module.post_sameLines (m : Module) (p : Packet) : m.SameLines (m.post p) := by
  unfold Module.post
  dsimp only
  split <;> exact ⟨rfl, rfl, rfl⟩

theorem State.answer_sameLines (s : State) (src agent seq : Nat) (p : Packet) : s.md.SameLines (s.answer src agent seq p).md :=
  ⟨(s.md.post_sameLines _).dir, (s.md.post_sameLines _).dcache, (s.md.post_sameLines _).number⟩

/-! ## Bytes of a line -/

/-- Memory reads as before, at the same places, and the module is the same one. -/
structure State.SamePlaces (s t : State) : Prop where
  memory : SameMemory s t
  homeMap : t.md.homeMap = s.md.homeMap
  number : t.md.number = s.md.number

theorem State.SamePlaces.trans (h : s.SamePlaces t) (h' : t.SamePlaces x) : s.SamePlaces x :=
  ⟨h.memory.trans h'.memory, h'.homeMap.trans h.homeMap, h'.number.trans h.number⟩

theorem State.SamePlaces.modDir (h : s.SamePlaces t) (mma : Nat) (f : Dir → Dir) : s.SamePlaces (t.modDir mma f) :=
  h.trans ⟨sameMemory_of_eq rfl rfl, rfl, rfl⟩

theorem State.SamePlaces.refl (s : State) : s.SamePlaces s := ⟨.refl s, rfl, rfl⟩

theorem State.SamePlaces.lineData (h : s.SamePlaces t) (mma : Nat) : t.lineData mma = s.lineData mma := by
  rw [State.lineData, State.hbmKey_congr h.homeMap, State.fetch_congr h.memory, State.lineData]

theorem State.SamePlaces.lineMarks (h : s.SamePlaces t) (mma : Nat) : t.lineMarks mma = s.lineMarks mma := by
  simp only [State.lineMarks, State.hbmKey_congr h.homeMap, (h.memory _).2]

/-! ## A line leaves the domain cache -/

/-- The packets that give a line of another module up: its write-back, and the notice of a clean one. -/
def backPacket (home mma : Nat) (l : DLine) : Packet :=
  { cls := cREQ, dst := home, kind := kWriteBack, addr := mma, agent := agentIo (mma / 128), dagent := agentIo (mma / 128), data := l.data, marks := l.marks }

def evictPacket (home mma : Nat) : Packet :=
  { cls := cREQ, dst := home, kind := kEvict, addr := mma, agent := agentIo (mma / 128), dagent := agentIo (mma / 128) }

/-- The state without a line in the domain cache. -/
def State.dropped (s : State) (home mma : Nat) : State :=
  let s1 := s.setOwnLine home mma {}
  if (s.dline home mma).state = 3 ∨ (s.dline home mma).state = 4 then s1.count mma 2 else s1

theorem State.giveUp_eq (s : State) (home mma : Nat) : s.giveUp home mma =
    if home = s.md.number then (s.dropped home mma).modDir mma (·.without home)
    else if (s.dline home mma).state = 3 ∨ (s.dline home mma).state = 4 then
      (s.dropped home mma).modMd (fun m => m.post (backPacket home mma (s.dline home mma)))
    else if (s.dline home mma).state = 2 then (s.dropped home mma).modMd (fun m => m.post (evictPacket home mma))
    else s.dropped home mma := by
  unfold State.giveUp State.dropped backPacket evictPacket
  rfl

theorem State.dropped_samePlaces (s : State) (home mma : Nat) : s.SamePlaces (s.dropped home mma) ∧ (s.dropped home mma).md.dir = s.md.dir ∧
    (s.dropped home mma).md.dcache = tset {} s.md.dcache (lineKey home mma) {} := by
  unfold State.dropped
  dsimp only
  split <;> exact ⟨⟨sameMemory_of_eq (by simp) (by simp), by simp, by simp⟩, by simp, by simp⟩

/-- What giving a line up does (R119, R122): the cache has it no more, a line of this module has one holder less, and another home is told. -/
structure State.GivesUp (s t : State) (home mma : Nat) : Prop where
  places : s.SamePlaces t
  dcache : t.md.dcache = tset {} s.md.dcache (lineKey home mma) {}
  own : home = s.md.number → ∀ a, t.dirOf a = if a / 128 = mma / 128 then (s.dirOf mma).without home else s.dirOf a
  other : home ≠ s.md.number → t.md.dir = s.md.dir
  writesBack : home ≠ s.md.number → (s.dline home mma).state = 3 ∨ (s.dline home mma).state = 4 →
    ∃ p ∈ t.md.outbox, p.cls = cREQ ∧ p.dst = home ∧ p.kind = kWriteBack ∧ p.addr = mma ∧ p.data = (s.dline home mma).data ∧ p.marks = (s.dline home mma).marks
  notifies : home ≠ s.md.number → (s.dline home mma).state = 2 → ∃ p ∈ t.md.outbox, p.cls = cREQ ∧ p.dst = home ∧ p.kind = kEvict ∧ p.addr = mma

theorem State.post_samePlaces (s : State) (p : Packet) : s.SamePlaces (s.modMd (fun m => m.post p)) :=
  ⟨s.modMd_sameMemory _, (s.md.post_sends p).1.group.homeMap, (s.md.post_sameLines p).number⟩

theorem State.giveUp_givesUp (s : State) (home mma : Nat) : s.GivesUp (s.giveUp home mma) home mma := by
  obtain ⟨hplaces, hdir, hcache⟩ := s.dropped_samePlaces home mma
  rw [State.giveUp_eq]
  generalize s.dropped home mma = x at hplaces hdir hcache
  have hdirOf (a : Nat) : x.dirOf a = s.dirOf a := State.dirOf_congr hdir a
  have hlines (p : Packet) := x.md.post_sameLines p
  split
  · next h =>
    refine ⟨hplaces.modDir _ _, hcache, fun _ a => ?_, fun hn => absurd h hn, fun hn => absurd h hn, fun hn => absurd h hn⟩
    rw [State.dirOf_modDir, hdirOf, hdirOf]
  · next h =>
    split
    · next hw =>
      obtain ⟨-, q, hq, hqp⟩ := x.md.post_sends (backPacket home mma (s.dline home mma))
      refine ⟨hplaces.trans (x.post_samePlaces _), (hlines _).dcache.trans hcache, fun hh => absurd hh h, fun _ => (hlines _).dir.trans hdir,
        fun _ _ => ⟨q, hq, ?_⟩, fun _ h2 => by omega⟩
      rw [hqp]
      exact ⟨rfl, rfl, rfl, rfl, rfl, rfl⟩
    · next hw =>
      split
      · obtain ⟨-, q, hq, hqp⟩ := x.md.post_sends (evictPacket home mma)
        refine ⟨hplaces.trans (x.post_samePlaces _), (hlines _).dcache.trans hcache, fun hh => absurd hh h, fun _ => (hlines _).dir.trans hdir,
          fun _ h34 => absurd h34 hw, fun _ _ => ⟨q, hq, ?_⟩⟩
        rw [hqp]
        exact ⟨rfl, rfl, rfl, rfl⟩
      · next he => exact ⟨hplaces, hcache, fun hh => absurd hh h, fun _ => hdir, fun _ h34 => absurd h34 hw, fun _ h2 => absurd h2 he⟩

/-! ## A line enters the domain cache -/

/-- What takes a line's place is another line. -/
theorem State.dirOf_giveUp_other (s : State) {e : Nat} (_ : mma < 2 ^ 40) (he : e ≠ lineKey s.md.number mma) :
    (s.giveUp (keyModule e) (keyMma e)).dirOf mma = s.dirOf mma := by
  have hg := s.giveUp_givesUp (keyModule e) (keyMma e)
  by_cases h : keyModule e = s.md.number
  · have hne : mma / 128 ≠ keyMma e / 128 := by
      unfold keyModule at h
      unfold lineKey at he
      unfold keyMma
      omega
    rw [hg.own h, if_neg hne]
  · exact State.dirOf_congr (hg.other h) mma

theorem State.dline_setOwnLine (s : State) (home mma : Nat) (l : DLine) : (s.setOwnLine home mma l).dline home mma = l :=
  (tget_tset s.md.dcache (lineKey home mma) (lineKey home mma) l).trans (if_pos rfl)

theorem State.install_completes (s : State) (hm : mma < 2 ^ 40) (l : DLine) :
    s.SamePlaces (s.install s.md.number mma l) ∧ (s.install s.md.number mma l).dline s.md.number mma = l ∧
      (s.install s.md.number mma l).dirOf mma = s.dirOf mma := by
  have hset (x : State) (hp : s.SamePlaces x) (hd : x.dirOf mma = s.dirOf mma) :
      s.SamePlaces (x.setOwnLine s.md.number mma l) ∧ (x.setOwnLine s.md.number mma l).dline s.md.number mma = l ∧
        (x.setOwnLine s.md.number mma l).dirOf mma = s.dirOf mma :=
    ⟨hp.trans ⟨sameMemory_of_eq rfl rfl, rfl, rfl⟩, x.dline_setOwnLine _ _ _, hd⟩
  unfold State.install
  dsimp only
  split
  · exact hset s (.refl s) rfl
  · split
    · next e he =>
      have hmem := List.mem_of_getElem? he
      have hne : e.1 ≠ lineKey s.md.number mma := by
        have hk := (List.mem_filter.1 (List.mem_filter.1 hmem).1).2
        rw [Bool.and_eq_true, bne_iff_ne] at hk
        exact hk.2
      exact hset _ (s.giveUp_givesUp _ _).places (s.dirOf_giveUp_other hm hne)
    · exact hset s (.refl s) rfl

/-! ## Grants and requests to the holders -/

/-- Requester `src` has the line in state `st` (R120, R121): in the own domain cache, or its data are on their way. -/
def State.Granted (s t : State) (src seq mma st kind : Nat) : Prop :=
  SameMemory s t ∧ (src = s.md.number → (t.dline s.md.number mma).state = st) ∧
    (src ≠ s.md.number → ∃ p ∈ t.md.outbox, p.cls = cRSP ∧ p.dst = src ∧ p.kind = kind ∧ p.addr = mma ∧ p.re = seq ∧ p.data = s.lineData mma ∧ p.marks = s.lineMarks mma)

theorem State.Granted.of_samePlaces {src seq st kind : Nat} (h : t.Granted x src seq mma st kind) (hs : s.SamePlaces t) : s.Granted x src seq mma st kind := by
  obtain ⟨hmem, hown, hother⟩ := h
  rw [hs.number, hs.lineData, hs.lineMarks] at *
  exact ⟨hs.memory.trans hmem, hown, hother⟩

/-- The kind of the packet that grants a line in a state. -/
def grantKind (st : Nat) : Nat := if st = 1 then kData else if st = 2 then kDataE else kDataM

theorem State.grantLine_grants (s : State) (src seq : Nat) (hm : mma < 2 ^ 40) (st : Nat) :
    s.Granted (s.grantLine src seq mma st) src seq mma st (grantKind st) ∧
      ((s.grantLine src seq mma st).dirOf mma).owner = (s.dirOf mma).owner ∧ ((s.grantLine src seq mma st).dirOf mma).sharers = (s.dirOf mma).sharers ∧
      (src ≠ s.md.number → (s.grantLine src seq mma st).md.dcache = s.md.dcache) := by
  unfold State.grantLine
  split
  · next h =>
    subst h
    obtain ⟨hp, hl, hd⟩ := s.install_completes hm { state := st }
    generalize s.install s.md.number mma { state := st } = x at hp hl hd
    have hdir : (x.finished seq).dirOf mma = s.dirOf mma := hd
    have hline : (x.finished seq).dline s.md.number mma = { state := st } := hl
    exact ⟨⟨hp.memory.trans (x.modMd_sameMemory _), fun _ => by rw [hline], fun h => absurd rfl h⟩, by rw [hdir], by rw [hdir], fun h => absurd rfl h⟩
  · next h =>
    generalize hx : s.answer src (s.agentOf src seq) seq _ = x
    have hlines : s.md.SameLines x.md := hx ▸ s.answer_sameLines _ _ _ _
    have hmem : SameMemory s x := hx ▸ s.answer_sameMemory _ _ _ _
    have hdir : x.dirOf mma = s.dirOf mma := State.dirOf_congr hlines.dir mma
    obtain ⟨-, q, hq, h1, h2, h3, h4, h5, h6, h7, -⟩ := s.answer_sends src (s.agentOf src seq) seq
      { cls := cRSP, dst := src, kind := if st = 1 then kData else if st = 2 then kDataE else kDataM, addr := mma, data := s.lineData mma, marks := s.lineMarks mma }
    rw [hx] at hq
    rw [State.dirOf_modDir_self, hdir]
    exact ⟨⟨hmem.trans (x.modMd_sameMemory _), fun hh => absurd hh h, fun _ => ⟨q, hq, h1, h2, h3, h4, h5, h6, h7⟩⟩, rfl, rfl, fun _ => hlines.dcache⟩

/-- Every holder of a list is asked, and the directory serves the request. -/
theorem State.post_foldl (packet : Nat → Packet) (hs : List Nat) (s : State) :
    s.SamePlaces (hs.foldl (fun x h => x.modMd (fun m => m.post (packet h))) s) ∧
      s.md.SameLines (hs.foldl (fun x h => x.modMd (fun m => m.post (packet h))) s).md ∧
      s.md.Sends (hs.foldl (fun x h => x.modMd (fun m => m.post (packet h))) s).md ∧
      ∀ h ∈ hs, ∃ q ∈ (hs.foldl (fun x h => x.modMd (fun m => m.post (packet h))) s).md.outbox,
        q = { packet h with seq := q.seq, inc := q.inc, expect := q.expect, prio := q.prio } := by
  induction hs generalizing s with
  | nil => exact ⟨.refl s, .refl _, .refl _, fun _ h => absurd h List.not_mem_nil⟩
  | cons a r ih =>
    obtain ⟨hsend, q, hq, hqp⟩ := s.md.post_sends (packet a)
    obtain ⟨hp, hl, hs, hr⟩ := ih (s.modMd (fun m => m.post (packet a)))
    refine ⟨(s.post_samePlaces _).trans hp, (s.md.post_sameLines _).trans hl, hsend.trans hs, fun h hh => ?_⟩
    rcases List.mem_cons.1 hh with rfl | hh
    · exact ⟨q, hs.outbox q hq, hqp⟩
    · exact hr h hh

/-- What a holder of a line is asked. -/
def askPacket (mma : Nat) (who : Nat × Nat × Nat) (kind h : Nat) : Packet :=
  { cls := cSNP, dst := h, kind := kind, addr := mma, agent := agentIo (mma / 128), dagent := agentIo (mma / 128), re := who.2.1, code := who.1 }

/-- Every holder of a list is asked, and the directory serves the request. -/
theorem State.serve_asks (s : State) (mma : Nat) (who : Nat × Nat × Nat) (kind : Nat) (hs : List Nat) :
    s.SamePlaces (s.serve mma who kind hs) ∧ (s.serve mma who kind hs).dirOf mma = { s.dirOf mma with serving := some who, awaited := hs } ∧
      ∀ h ∈ hs, ∃ p ∈ (s.serve mma who kind hs).md.outbox, p.cls = cSNP ∧ p.dst = h ∧ p.kind = kind ∧ p.addr = mma := by
  obtain ⟨hp, hl, -, ha⟩ := State.post_foldl (askPacket mma who kind) hs s
  refine ⟨hp.modDir _ _, (State.dirOf_modDir_self _ _ _).trans ?_, fun h hh => ?_⟩
  · exact congrArg (fun d : Dir => { d with serving := some who, awaited := hs }) (State.dirOf_congr hl.dir mma)
  · obtain ⟨q, hq, hqp⟩ := ha h hh
    refine ⟨q, hq, ?_⟩
    rw [hqp]
    exact ⟨rfl, rfl, rfl, rfl⟩

end Sys2Proof.Machine
end

section
/-! PROOF. How the home serves a GetS and a GetM (R119 to R121, R130). -/

namespace Sys2Proof.Machine

variable {s t x : State} {mma src seq : Nat}

/-! ## The holders of a line -/

theorem State.mem_otherHolders (s : State) (mma h : Nat) :
    h ∈ s.otherHolders mma true ↔ h ≠ s.md.number ∧ ((∃ st, (s.dirOf mma).owner = some (h, st)) ∨ h ∈ (s.dirOf mma).sharers) := by
  unfold State.otherHolders
  dsimp only
  rw [List.mem_eraseDups, List.mem_filter, List.mem_append, bne_iff_ne, and_comm, if_pos rfl]
  refine and_congr_right fun _ => or_congr_left ?_
  cases ho : (s.dirOf mma).owner with
  | none => simp
  | some o =>
    obtain ⟨o, st⟩ := o
    simp [eq_comm]

theorem State.dirOf_dropOwn (s : State) (mma : Nat) : (s.dropOwn mma).dirOf mma = (s.dirOf mma).without s.md.number := by
  unfold State.dropOwn
  split
  · exact s.dirOf_modDir_self _ _
  · have hd : (s.setOwnLine s.md.number mma {}).dirOf mma = s.dirOf mma := State.dirOf_congr (by rw [State.setOwnLine_md]) mma
    exact (State.dirOf_congr (by rw [State.count_md]) mma).trans ((State.dirOf_modDir_self _ _ _).trans (congrArg (·.without s.md.number) hd))

theorem State.dropOwn_samePlaces (s : State) (mma : Nat) : s.SamePlaces (s.dropOwn mma) := by
  obtain ⟨_, _, _, h⟩ := dropOwn_eq s mma
  rw [h]
  exact ⟨sameMemory_of_eq rfl rfl, rfl, rfl⟩

theorem Dir.owner_without (d : Dir) (h : Nat) : (∀ o, (d.without h).owner = some o ↔ d.owner = some o ∧ o.1 ≠ h) := by
  intro o
  unfold Dir.without
  cases d.owner with
  | none => simp
  | some p =>
    by_cases hp : p.1 = h
    · simp only [if_pos hp, reduceCtorEq, Option.some.injEq, false_iff, not_and, not_not]
      rintro rfl
      exact hp
    · simp only [if_neg hp, Option.some.injEq]
      refine ⟨?_, And.left⟩
      rintro rfl
      exact ⟨rfl, hp⟩

theorem Dir.mem_sharers_without (d : Dir) (h k : Nat) : k ∈ (d.without h).sharers ↔ k ∈ d.sharers ∧ k ≠ h := (mem_sdel d.sharers h k).trans and_comm

/-- The other modules that hold a line are the same without the own domain cache. -/
theorem State.mem_otherHolders_dropOwn (s : State) (mma h : Nat) : h ∈ (s.dropOwn mma).otherHolders mma true ↔ h ∈ s.otherHolders mma true := by
  rw [State.mem_otherHolders, State.mem_otherHolders, State.dirOf_dropOwn, (s.dropOwn_samePlaces mma).number]
  refine and_congr_right fun hne => or_congr ?_ ?_
  · simp only [Dir.owner_without, hne, ne_eq, not_false_eq_true, and_true]
  · rw [Dir.mem_sharers_without, and_iff_left hne]

/-! ## The branches of the service -/

/-- Nothing of the line is in progress, and the requester has not just given it up. -/
structure State.Open (s : State) (write : Bool) (src mma : Nat) (up : Bool) : Prop where
  idle : (s.dirOf mma).serving = none
  uncrossed : ∀ st, (s.dirOf mma).owner = some (src, st) → src = s.md.number ∨ (write = true ∧ up = true ∧ st = 4)

/-- The state in which a GetM of an unprotected, unreserved line is served. -/
def State.writeFrom (s : State) (src mma : Nat) : State := if src = s.md.number then s else s.dropOwn mma

/-- The service of a GetM (R121). -/
def State.serveWrite (s : State) (src seq mma : Nat) : Option State :=
  if s.frameKind (mma / 2 ^ 21) = 1 then some (s.answer src (s.agentOf src seq) seq { cls := cRSP, dst := src, kind := kThrough, addr := mma })
  else if s.lineReserved mma = true then none
  else if ((s.writeFrom src mma).otherHolders mma true).filter (· ≠ src) = [] then
    some (((s.writeFrom src mma).modDir mma (fun _ => { owner := some (src, 3) })).grantLine src seq mma 3)
  else some ((s.writeFrom src mma).serve mma (src, seq, 1) kInval (((s.writeFrom src mma).otherHolders mma true).filter (· ≠ src)))

/-- The own domain cache, which holds a line in E, M or O, shares it: E becomes S, M becomes O. -/
def State.shareOwn (s : State) (src mma st : Nat) : State :=
  (s.modMd (fun m => { m with dcache := tmod {} m.dcache (lineKey s.md.number mma) (fun l => { l with state := if st = 2 then 1 else 4 }) })).modDir mma (fun x =>
    if st = 2 then { x with owner := none, sharers := sadd (sadd x.sharers s.md.number) src }
    else { x with owner := some (s.md.number, 4), clean := true, sharers := sadd x.sharers src })

/-- A line that gets one sharer more. -/
def State.share (s : State) (src mma : Nat) : State := s.modDir mma (fun x => { x with sharers := sadd x.sharers src })

theorem State.Open.not_crossed {write up : Bool} (h : s.Open write src mma up) {o st : Nat} (ho : (s.dirOf mma).owner = some (o, st)) :
    (src != s.md.number && (o == src && !(write && up && st == 4))) = false := by
  by_contra hc
  simp only [Bool.not_eq_false, Bool.and_eq_true, bne_iff_ne, beq_iff_eq] at hc
  obtain ⟨hne, rfl, hup⟩ := hc
  rcases h.uncrossed st ho with hme | ⟨rfl, rfl, rfl⟩
  · exact hne hme
  · exact absurd hup (by decide)

theorem State.serveGet_write {up : Bool} (h : s.Open true src mma up) : s.serveGet true src seq mma up = s.serveWrite src seq mma := by
  refine (if_neg ?_).trans ((if_pos rfl).trans ?_)
  · cases ho : (s.dirOf mma).owner with
    | none => simp [h.idle]
    | some o =>
      dsimp only
      rw [h.not_crossed ho, h.idle]
      exact Bool.false_ne_true
  · unfold State.serveWrite State.writeFrom
    simp only [beq_iff_eq]
    split
    · rfl
    · split
      · rfl
      · cases (State.otherHolders (if src = s.md.number then s else s.dropOwn mma) mma true).filter (· ≠ src) with
        | nil => rfl
        | cons a r => rfl

theorem State.serveGet_unowned {up : Bool} (h : s.Open false src mma up) (ho : (s.dirOf mma).owner = none) : s.serveGet false src seq mma up =
    if ((s.dirOf mma).sharers.filter (· ≠ src)).isEmpty && !(s.frameKind (mma / 2 ^ 21) == 1) && !s.lineReserved mma then
      some ((s.modDir mma (fun x => { x with owner := some (src, 2), sharers := [] })).grantLine src seq mma 2)
    else some ((s.share src mma).grantLine src seq mma 1) := by
  refine (if_neg ?_).trans ((if_neg Bool.false_ne_true).trans ?_)
  · rw [ho]
    simp [h.idle]
  · rw [ho]
    rfl

theorem State.serveGet_owned {up : Bool} {o st : Nat} (h : s.Open false src mma up) (ho : (s.dirOf mma).owner = some (o, st)) :
    s.serveGet false src seq mma up =
      if o = s.md.number then some ((s.shareOwn src mma st).grantLine src seq mma 1)
      else if (s.dirOf mma).clean = true then some ((s.share src mma).grantLine src seq mma 1)
      else some (s.serve mma (src, seq, 0) kForward [o]) := by
  refine (if_neg ?_).trans ((if_neg Bool.false_ne_true).trans ?_)
  · rw [ho]
    dsimp only
    rw [h.not_crossed ho, h.idle]
    exact Bool.false_ne_true
  · rw [ho]
    dsimp only
    split
    · next h =>
      subst h
      rfl
    · rfl

/-! ## What a service comes to -/

section Served

variable {up : Bool} (hm : mma < 2 ^ 40)
include hm

/-- A grant after the directory has been changed. -/
theorem State.grant_after (hp : s.SamePlaces x) (src seq st : Nat) :
    s.Granted (x.grantLine src seq mma st) src seq mma st (grantKind st) ∧
      ((x.grantLine src seq mma st).dirOf mma).owner = (x.dirOf mma).owner ∧ ((x.grantLine src seq mma st).dirOf mma).sharers = (x.dirOf mma).sharers := by
  obtain ⟨hg, ho, hs, -⟩ := x.grantLine_grants src seq hm st
  exact ⟨hg.of_samePlaces hp, ho, hs⟩

/-- A line that no one else holds goes out in E. -/
theorem State.serveGet_alone (h : s.Open false src mma up) (ho : (s.dirOf mma).owner = none) (hs : ∀ k ∈ (s.dirOf mma).sharers, k = src)
    (hk : s.frameKind (mma / 2 ^ 21) ≠ 1) (hr : s.lineReserved mma = false) :
    ∃ t, s.serveGet false src seq mma up = some t ∧ (t.dirOf mma).owner = some (src, 2) ∧ (t.dirOf mma).sharers = [] ∧ s.Granted t src seq mma 2 kDataE := by
  have halone : (((s.dirOf mma).sharers.filter (· ≠ src)).isEmpty && !(s.frameKind (mma / 2 ^ 21) == 1) && !s.lineReserved mma) = true := by
    rw [hr, beq_false_of_ne hk, List.filter_eq_nil_iff.2 (by simpa using hs)]
    rfl
  obtain ⟨hg, ho', hs'⟩ := State.grant_after hm ((State.SamePlaces.refl s).modDir mma (fun x => { x with owner := some (src, 2), sharers := [] })) src seq 2
  rw [State.dirOf_modDir_self] at ho' hs'
  exact ⟨_, (State.serveGet_unowned h ho).trans (if_pos halone), ho', hs', hg⟩

/-- One that others share, or that is protected or reserved, in S. -/
theorem State.serveGet_shared (h : s.Open false src mma up) (ho : (s.dirOf mma).owner = none)
    (hs : (∃ k ∈ (s.dirOf mma).sharers, k ≠ src) ∨ ¬ s.frameKind (mma / 2 ^ 21) ≠ 1 ∨ s.lineReserved mma = true) :
    ∃ t, s.serveGet false src seq mma up = some t ∧ (t.dirOf mma).owner = none ∧ (t.dirOf mma).sharers = sadd (s.dirOf mma).sharers src ∧
      s.Granted t src seq mma 1 kData := by
  have hnot : ¬ (((s.dirOf mma).sharers.filter (· ≠ src)).isEmpty && !(s.frameKind (mma / 2 ^ 21) == 1) && !s.lineReserved mma) = true := by
    simp only [Bool.and_eq_true, List.isEmpty_iff, List.filter_eq_nil_iff, Bool.not_eq_true', beq_eq_false_iff_ne, decide_eq_true_eq, not_not]
    rintro ⟨⟨h1, h2⟩, h3⟩
    rcases hs with ⟨k, hk, hne⟩ | hk | hr
    · exact hne (h1 k hk)
    · exact hk h2
    · exact Bool.false_ne_true (h3.symm.trans hr)
  obtain ⟨hg, ho', hs'⟩ := State.grant_after hm ((State.SamePlaces.refl s).modDir mma (fun x => { x with sharers := sadd x.sharers src })) src seq 1
  rw [State.dirOf_modDir_self] at ho' hs'
  exact ⟨_, (State.serveGet_unowned h ho).trans (if_neg hnot), ho'.trans ho, hs', hg⟩

/-- One that the own cache holds is granted in S: M becomes O, and E becomes S. -/
theorem State.serveGet_own {st : Nat} (h : s.Open false src mma up) (ho : (s.dirOf mma).owner = some (s.md.number, st)) (hne : src ≠ s.md.number) :
    ∃ t, s.serveGet false src seq mma up = some t ∧ s.Granted t src seq mma 1 kData ∧ src ∈ (t.dirOf mma).sharers ∧
      (t.dline s.md.number mma).state = (if st = 2 then 1 else 4) ∧ (t.dirOf mma).owner = (if st = 2 then none else some (s.md.number, 4)) := by
  have hp : s.SamePlaces (s.shareOwn src mma st) := ⟨sameMemory_of_eq rfl rfl, rfl, rfl⟩
  have hdir : (s.shareOwn src mma st).dirOf mma = _ := State.dirOf_modDir_self _ _ _
  have hline : ((s.shareOwn src mma st).dline s.md.number mma).state = if st = 2 then 1 else 4 := by
    rw [State.dline, State.shareOwn, State.modDir_md, State.modMd, tget_tmod, if_pos rfl]
  obtain ⟨hg, ho', hs', hcache⟩ := (s.shareOwn src mma st).grantLine_grants src seq hm 1
  refine ⟨_, (State.serveGet_owned h ho).trans (if_pos rfl), hg.of_samePlaces hp, ?_, ?_, ?_⟩
  · rw [hs', hdir]
    split
    · exact (mem_sadd _ _ _).2 (.inl rfl)
    · exact (mem_sadd _ _ _).2 (.inl rfl)
  · rw [State.dline, hcache hne, ← State.dline]
    exact hline
  · rw [ho', hdir]
    split <;> rfl

/-- One in O whose data memory has is granted in S. -/
theorem State.serveGet_clean {o st : Nat} (h : s.Open false src mma up) (ho : (s.dirOf mma).owner = some (o, st)) (hne : o ≠ s.md.number)
    (hc : (s.dirOf mma).clean = true) :
    ∃ t, s.serveGet false src seq mma up = some t ∧ s.Granted t src seq mma 1 kData ∧ (t.dirOf mma).owner = some (o, st) ∧
      (t.dirOf mma).sharers = sadd (s.dirOf mma).sharers src := by
  obtain ⟨hg, ho', hs'⟩ := State.grant_after hm ((State.SamePlaces.refl s).modDir mma (fun x => { x with sharers := sadd x.sharers src })) src seq 1
  rw [State.dirOf_modDir_self] at ho' hs'
  exact ⟨_, (State.serveGet_owned h ho).trans ((if_neg hne).trans (if_pos hc)), hg, ho'.trans ho, hs'⟩

omit hm in
/-- One that another module holds otherwise is forwarded to it. -/
theorem State.serveGet_forwarded {o st : Nat} (h : s.Open false src mma up) (ho : (s.dirOf mma).owner = some (o, st)) (hne : o ≠ s.md.number)
    (hc : (s.dirOf mma).clean = false) :
    ∃ t, s.serveGet false src seq mma up = some t ∧ SameMemory s t ∧ (t.dirOf mma).owner = some (o, st) ∧ (t.dirOf mma).serving = some (src, seq, 0) ∧
      ∃ p ∈ t.md.outbox, p.cls = cSNP ∧ p.dst = o ∧ p.kind = kForward ∧ p.addr = mma := by
  obtain ⟨hp, hd, hall⟩ := s.serve_asks mma (src, seq, 0) kForward [o]
  refine ⟨_, (State.serveGet_owned h ho).trans ((if_neg hne).trans (if_neg (ne_true_of_eq_false hc))), hp.memory, ?_, ?_, hall o (.head _)⟩
  · rw [hd]
    exact ho
  · rw [hd]

omit hm in
/-- A store to a protected line goes through (R120). -/
theorem State.serveGet_through (h : s.Open true src mma up) (hk : ¬ s.frameKind (mma / 2 ^ 21) ≠ 1) :
    ∃ t, s.serveGet true src seq mma up = some t ∧ SameMemory s t ∧ (∃ p ∈ t.md.outbox, p.cls = cRSP ∧ p.dst = src ∧ p.kind = kThrough ∧ p.addr = mma) ∧
      t.dirOf mma = s.dirOf mma := by
  obtain ⟨-, q, hq, h1, h2, h3, h4, -⟩ := s.answer_sends src (s.agentOf src seq) seq { cls := cRSP, dst := src, kind := kThrough, addr := mma }
  exact ⟨_, (State.serveGet_write h).trans (if_pos (not_not.1 hk)), s.answer_sameMemory _ _ _ _, ⟨q, hq, h1, h2, h3, h4⟩,
    State.dirOf_congr (s.answer_sameLines _ _ _ _).dir mma⟩

omit hm in
theorem State.writeFrom_samePlaces (s : State) (src mma : Nat) : s.SamePlaces (s.writeFrom src mma) := by
  unfold State.writeFrom
  split
  · exact .refl s
  · exact s.dropOwn_samePlaces mma

omit hm in
theorem State.mem_otherHolders_writeFrom (s : State) (src mma h : Nat) : h ∈ (s.writeFrom src mma).otherHolders mma true ↔ h ∈ s.otherHolders mma true := by
  unfold State.writeFrom
  split
  · exact .rfl
  · exact s.mem_otherHolders_dropOwn mma h

/-- A GetM of a line that no other module holds is granted in M. -/
theorem State.serveGet_exclusive (h : s.Open true src mma up) (hk : s.frameKind (mma / 2 ^ 21) ≠ 1) (hr : s.lineReserved mma = false)
    (hs : ∀ k ∈ s.otherHolders mma true, k = src) :
    ∃ t, s.serveGet true src seq mma up = some t ∧ (t.dirOf mma).owner = some (src, 3) ∧ (t.dirOf mma).sharers = [] ∧ s.Granted t src seq mma 3 kDataM := by
  have hnone : ((s.writeFrom src mma).otherHolders mma true).filter (· ≠ src) = [] := by
    rw [List.filter_eq_nil_iff]
    intro k hk
    simpa using hs k ((s.mem_otherHolders_writeFrom src mma k).1 hk)
  obtain ⟨hg, ho', hs'⟩ := State.grant_after hm ((s.writeFrom_samePlaces src mma).modDir mma (fun _ => { owner := some (src, 3) })) src seq 3
  rw [State.dirOf_modDir_self] at ho' hs'
  exact ⟨_, (State.serveGet_write h).trans ((if_neg hk).trans ((if_neg (ne_true_of_eq_false hr)).trans (if_pos hnone))), ho', hs', hg⟩

omit hm in
/-- One that other modules hold waits for them, and each is told to give it up. -/
theorem State.serveGet_invalidates (h : s.Open true src mma up) (hk : s.frameKind (mma / 2 ^ 21) ≠ 1) (hr : s.lineReserved mma = false)
    (hs : ∃ k ∈ s.otherHolders mma true, k ≠ src) :
    ∃ t, s.serveGet true src seq mma up = some t ∧ SameMemory s t ∧ (t.dirOf mma).serving = some (src, seq, 1) ∧
      ∀ k ∈ s.otherHolders mma true, k ≠ src → ∃ p ∈ t.md.outbox, p.cls = cSNP ∧ p.dst = k ∧ p.kind = kInval ∧ p.addr = mma := by
  have hmem (k : Nat) (hk : k ∈ s.otherHolders mma true) (hne : k ≠ src) : k ∈ ((s.writeFrom src mma).otherHolders mma true).filter (· ≠ src) :=
    List.mem_filter.2 ⟨(s.mem_otherHolders_writeFrom src mma k).2 hk, decide_eq_true hne⟩
  obtain ⟨k, hk', hne⟩ := hs
  obtain ⟨hp, hd, hall⟩ := (s.writeFrom src mma).serve_asks mma (src, seq, 1) kInval (((s.writeFrom src mma).otherHolders mma true).filter (· ≠ src))
  refine ⟨_, (State.serveGet_write h).trans ((if_neg hk).trans ((if_neg (ne_true_of_eq_false hr)).trans (if_neg (List.ne_nil_of_mem (hmem k hk' hne))))),
    (s.writeFrom_samePlaces src mma).memory.trans hp.memory, ?_, fun k hk hne => hall k (hmem k hk hne)⟩
  rw [hd]

end Served

end Sys2Proof.Machine
end

section
/-! PROOF. GETS, GETM and the lines that are given up (R119 to R122, R130), and the obligation on them (O43). -/

namespace Sys2Proof.Machine

variable {s t : State} {src seq mma tag : Nat} {up w : Bool}

/-! ## A request that is served -/

/-- The request that GETS or, with `w`, GETM serves: an own one, or one that has come in. -/
def State.Asks (s : State) (w : Bool) (src seq mma tag : Nat) (up : Bool) : Prop :=
  (s.ev.src = s.md.number ∧ src = s.md.number ∧ ∃ p, s.md.outbox.find? (fun p => p.cls == cREQ && p.dst == s.md.number && p.kind == (if w then kGetM else kGetS) && p.seq == s.ev.seq) = some p ∧
    seq = p.seq ∧ mma = lineOf p.addr ∧ tag = p.tag ∧ up = (p.code == 1)) ∨
  (s.ev.src ≠ s.md.number ∧ ∃ x s1, s.taken [if w then kGetM else kGetS] = some (x, s1) ∧ src = x.src ∧ seq = x.seq ∧ mma = lineOf x.addr ∧ tag = x.index ∧ up = (x.code == 1))

/-- The row of the request. -/
def getRow (w : Bool) : Instr := if w then .getm else .gets

/-- What becomes of a request, `s1` being the state without it and `busy` the one in which it is turned away. -/
def State.serveOr (s s1 busy : State) (w : Bool) (src seq mma tag : Nat) (up : Bool) (name : String) : Host.Outcome State Fault Refusal :=
  if s.frameBusy (mma / 2 ^ 21) = true then .next busy
  else if (!s.tagOk mma tag) = true then .next (s1.refusePeer src seq mma)
  else match s1.serveGet w src seq mma up with
    | some s2 => .next s2
    | none => noUnit name

theorem State.taken_src {kinds : List Nat} {x : EvIn} {s1 : State} (h : s.taken kinds = some (x, s1)) : x.src = s.ev.src := by
  unfold State.taken at h
  dsimp only at h
  split at h
  · next y hy =>
    cases h
    have := List.find?_some hy
    simp only [Bool.and_eq_true, beq_iff_eq] at this
    exact this.1.1
  · cases h

theorem lineOf_lt (a : Nat) : lineOf a < 2 ^ 40 := by
  unfold lineOf
  omega

theorem State.refusePacket_refuses (s : State) (x : EvIn) (kind code : Nat) :
    SameMemory s (s.refusePacket x kind code) ∧ ∃ p ∈ (s.refusePacket x kind code).md.outbox, p.cls = cRSP ∧ p.dst = x.src ∧ p.kind = kind := by
  obtain ⟨-, q, hq, hqp⟩ := s.md.post_sends
    { cls := cRSP, dst := x.src, kind := kind, addr := x.addr, agent := agentIo (x.addr / 128), dagent := x.gt, re := x.seq, code := code }
  refine ⟨s.modMd_sameMemory _, q, hq, ?_⟩
  rw [hqp]
  exact ⟨rfl, rfl, rfl⟩

theorem homeServes_of_asks (h : s.Asks w src seq mma tag up) (name : String) :
    ∃ l busy, s.homeServes w name = s.serveOr { s with md := { s.md with inbox := l } } busy w src seq mma tag up name ∧ (src = s.md.number → busy = s) ∧
      (src ≠ s.md.number → SameMemory s busy ∧ ∃ p ∈ busy.md.outbox, p.cls = cRSP ∧ p.dst = src ∧ p.kind = kRefuse) ∧ mma < 2 ^ 40 := by
  rcases h with ⟨he, rfl, p, hp, rfl, rfl, rfl, rfl⟩ | ⟨he, x, s1, hx, rfl, rfl, rfl, rfl, rfl⟩
  · refine ⟨s.md.inbox, s, ?_, fun _ => rfl, fun h => absurd rfl h, lineOf_lt _⟩
    unfold State.homeServes
    dsimp only
    rw [if_pos he, hp]
    rfl
  · obtain ⟨l, hl⟩ := State.taken_eq hx
    subst hl
    have hrefuse := State.refusePacket_refuses { s with md := { s.md with inbox := l } } x kRefuse 0
    refine ⟨l, State.refusePacket { s with md := { s.md with inbox := l } } x kRefuse 0, ?_, fun hs => ?_, fun _ => hrefuse, lineOf_lt _⟩
    · unfold State.homeServes
      dsimp only
      rw [if_neg he, hx]
      rfl
    · exact absurd ((State.taken_src hx).symm.trans hs) he

theorem exec_getRow (s : State) (w : Bool) : ∃ name, exec (getRow w) s = s.homeServes w name := by
  cases w
  · exact ⟨"GETS", rfl⟩
  · exact ⟨"GETM", rfl⟩

/-! ## A request that is turned away, and one that is served -/

/-- The module without a packet that has come in serves the line as it did with it. -/
theorem State.SamePlaces.inbox (s : State) (l : List EvIn) : s.SamePlaces { s with md := { s.md with inbox := l } } := ⟨sameMemory_of_eq rfl rfl, rfl, rfl⟩

theorem State.refusePeer_other {src : Nat} (h : src ≠ s.md.number) (seq mma : Nat) :
    SameMemory s (s.refusePeer src seq mma) ∧ ∃ p ∈ (s.refusePeer src seq mma).md.outbox, p.cls = cRSP ∧ p.dst = src ∧ p.kind = kViolation ∧ p.addr = mma := by
  have he : s.refusePeer src seq mma = s.answer src (s.agentOf src seq) seq { cls := cRSP, dst := src, kind := kViolation, addr := mma, code := 3 } := if_neg h
  obtain ⟨-, q, hq, h1, h2, h3, h4, -⟩ := s.answer_sends src (s.agentOf src seq) seq { cls := cRSP, dst := src, kind := kViolation, addr := mma, code := 3 }
  rw [he]
  exact ⟨s.answer_sameMemory _ _ _ _, q, hq, h1, h2, h3, h4⟩

/-! ## A holder that gives its line up -/

/-- Module `m` is no longer a holder of the line, and the others are. -/
def State.Without (s t : State) (mma m : Nat) : Prop :=
  (∀ k, k ∈ (t.dirOf mma).sharers ↔ k ∈ (s.dirOf mma).sharers ∧ k ≠ m) ∧
    (t.dirOf mma).owner = (match (s.dirOf mma).owner with | some o => if o.1 = m then none else some o | none => none)

theorem State.without_of_dir {m : Nat} (hs : (t.dirOf mma).sharers = ((s.dirOf mma).without m).sharers)
    (ho : (t.dirOf mma).owner = ((s.dirOf mma).without m).owner) : s.Without t mma m := by
  refine ⟨fun k => ?_, ho⟩
  rw [hs]
  exact Dir.mem_sharers_without _ _ _

/-- A holder that is gone while nothing of the line is in progress. -/
theorem State.holderGone_idle (h : (s.dirOf mma).serving = none) (src : Nat) :
    s.holderGone src mma = s.modDir mma (fun d => { d.without src with awaited := d.awaited.filter (· ≠ src) }) := by
  have hserving : ((s.modDir mma (fun d => { d.without src with awaited := d.awaited.filter (· ≠ src) })).dirOf mma).serving = none := by
    rw [State.dirOf_modDir_self]
    exact h
  unfold State.holderGone
  dsimp only
  rw [hserving]
  dsimp only
  unfold State.allAnswered
  dsimp only
  rw [hserving]

/-- What the home does for a module that has given a line up: it is no holder any more, and is acknowledged. -/
theorem State.holderGone_acked (h : (s.dirOf mma).serving = none) (x : EvIn) :
    SameMemory s ((s.holderGone x.src mma).acked x []) ∧ s.Without ((s.holderGone x.src mma).acked x []) mma x.src ∧
      ∃ p ∈ ((s.holderGone x.src mma).acked x []).md.outbox, p.cls = cRSP ∧ p.dst = x.src ∧ p.kind = kAck ∧ p.re = x.seq := by
  rw [State.holderGone_idle h]
  have hdir := s.dirOf_modDir_self mma (fun d => { d.without x.src with awaited := d.awaited.filter (· ≠ x.src) })
  have hmem : SameMemory s (s.modDir mma (fun d => { d.without x.src with awaited := d.awaited.filter (· ≠ x.src) })) := s.modMd_sameMemory _
  generalize s.modDir mma _ = y at hdir hmem
  have hback : y.acked x [] = y.answer x.src x.gt x.seq { cls := cRSP, dst := x.src, kind := kAck, addr := x.addr } := rfl
  obtain ⟨-, q, hq, h1, h2, h3, -, h5, -⟩ := y.answer_sends x.src x.gt x.seq { cls := cRSP, dst := x.src, kind := kAck, addr := x.addr }
  rw [hback]
  have hd := (State.dirOf_congr (y.answer_sameLines x.src x.gt x.seq { cls := cRSP, dst := x.src, kind := kAck, addr := x.addr }).dir mma).trans hdir
  exact ⟨hmem.trans (y.answer_sameMemory _ _ _ _), State.without_of_dir (by rw [hd]) (by rw [hd]), q, hq, h1, h2, h3, h5⟩

theorem execWriteBack_arrives {x : EvIn} {s1 : State} {st : Nat} (he : s.ev.src ≠ s.md.number) (hx : s.taken [kWriteBack] = some (x, s1))
    (hb : s.frameBusy (lineOf x.addr / 2 ^ 21) = false) (ho : (s.dirOf (lineOf x.addr)).owner = some (x.src, st)) :
    execWriteBack s = .next (((s1.setLine (lineOf x.addr) x.data x.value).holderGone x.src (lineOf x.addr)).acked x []) := by
  unfold execWriteBack
  rw [if_neg he, hx]
  dsimp only
  rw [ho, if_neg (ne_true_of_eq_false hb)]
  dsimp only
  rw [if_pos (beq_self_eq_true _)]

theorem execEviction_arrives {x : EvIn} {s1 : State} (he : s.ev.src ≠ s.md.number) (hx : s.taken [kEvict] = some (x, s1)) :
    execEviction s = .next ((s1.holderGone x.src (lineOf x.addr)).acked x []) := by
  unfold execEviction
  rw [if_neg he, hx]

/-- A line that is written to its place in memory. -/
theorem State.byteAt_setLine (s : State) (mma : Nat) (d : BitVec 1024) (marks : Nat) :
    (∀ j, j < 128 → (s.setLine mma d marks).byteAt (s.hbmKey mma + j) = BitVec.ofNat 8 (d.toNat / 256 ^ j)) ∧
      ∀ z, z < s.hbmKey mma ∨ s.hbmKey mma + 128 ≤ z → (s.setLine mma d marks).byteAt z = s.byteAt z := by
  refine ⟨fun j hj => ?_, fun z hz => ?_⟩
  · rw [State.setLine, byteAt_put_in _ _ _ _ j (by rwa [toBytes_length]), toBytes_getElem]
  · rw [State.setLine, byteAt_put_out _ _ _ _ z (by rwa [toBytes_length])]

/-! ## An invalidation -/

/-- What a holder answers of a line: 16 that it has none, 8 that it sends the data of an M or O line. -/
def inCode (l : DLine) : Nat := if l.state = 0 then 16 else if 3 ≤ l.state then 8 else 0

/-- The answer of a holder. -/
def heldPacket (x : EvIn) (code : Nat) (l : DLine) : Packet :=
  { cls := cRSP, dst := x.src, kind := kForwarded, addr := lineOf x.addr, agent := agentIo (x.addr / 128), dagent := agentIo (x.addr / 128), re := x.offset
    code := code, data := l.data, marks := l.marks }

theorem State.holderReply_sends (s : State) (x : EvIn) (code : Nat) (l : DLine) :
    SameMemory s (s.holderReply x code l) ∧ s.md.SameLines (s.holderReply x code l).md ∧
      ∃ p ∈ (s.holderReply x code l).md.outbox, p.cls = cRSP ∧ p.dst = x.src ∧ p.kind = kForwarded ∧ p.addr = lineOf x.addr ∧ p.code = code ∧
        p.data = l.data ∧ p.marks = l.marks := by
  obtain ⟨-, q, hq, hqp⟩ := s.md.post_sends (heldPacket x code l)
  refine ⟨s.modMd_sameMemory _, s.md.post_sameLines (heldPacket x code l), q, hq, ?_⟩
  rw [hqp]
  exact ⟨rfl, rfl, rfl, rfl, rfl, rfl, rfl⟩

theorem State.dline_congr (h : t.md.dcache = s.md.dcache) (home mma : Nat) : t.dline home mma = s.dline home mma := by rw [State.dline, h, State.dline]

/-- The state without the invalidated line. -/
def State.invalidate (s : State) (x : EvIn) : State := (s.setOwnLine x.src (lineOf x.addr) {}).count (lineOf x.addr) 3

theorem State.invalidate_completes (s : State) (x : EvIn) : SameMemory s (s.invalidate x) ∧ (s.invalidate x).dline x.src (lineOf x.addr) = {} := by
  refine ⟨sameMemory_of_eq (by simp [State.invalidate]) (by simp [State.invalidate]), ?_⟩
  rw [State.dline, State.invalidate, State.count_md, State.setOwnLine_md, tget_tset, if_pos rfl]

theorem execInvalidation_drops {x : EvIn} {s1 : State} (hx : s.taken [kInval] = some (x, s1)) :
    execInvalidation s = .next ((s1.invalidate x).holderReply x (inCode (s1.dline x.src (lineOf x.addr))) (s1.dline x.src (lineOf x.addr))) := by
  unfold execInvalidation
  rw [hx]
  rfl

/-! ## A line that the own cache gives up -/

theorem State.ownGivesUp_eq {states : List Nat} (hs : (s.dline s.ev.index (lineOf s.ev.addr)).state ∈ states)
    (hask : s.asking s.ev.index (lineOf s.ev.addr) = false) (name : String) :
    s.ownGivesUp states name = .next (s.giveUp s.ev.index (lineOf s.ev.addr)) := by
  refine if_neg ?_
  rw [hask, Bool.or_false, Bool.not_eq_true', Bool.not_eq_false, List.contains_iff_mem]
  exact hs

theorem State.GivesUp.dline {home : Nat} (h : s.GivesUp t home mma) : t.dline home mma = {} := by
  rw [State.dline, h.dcache, tget_tset, if_pos rfl]

theorem State.GivesUp.without {home : Nat} (h : s.GivesUp t home mma) (hh : home = s.md.number) : s.Without t mma s.md.number := by
  have hd := (h.own hh mma).trans (if_pos rfl)
  rw [hh] at hd
  exact State.without_of_dir (by rw [hd]) (by rw [hd])

/-! ## A directory eviction -/

theorem execDirectoryEviction_completes (hs : (s.dirOf (lineOf s.ev.addr)).serving = none) (hb : s.frameBusy (lineOf s.ev.addr / 2 ^ 21) = false) :
    ∃ t, execDirectoryEviction s = .next t ∧ SameMemory s t ∧ (t.dirOf (lineOf s.ev.addr)).sharers = ((s.dirOf (lineOf s.ev.addr)).without s.md.number).sharers ∧
      (t.dirOf (lineOf s.ev.addr)).owner = ((s.dirOf (lineOf s.ev.addr)).without s.md.number).owner ∧
      ∀ h ∈ s.otherHolders (lineOf s.ev.addr) true, ∃ p ∈ t.md.outbox, p.cls = cSNP ∧ p.dst = h ∧ p.kind = kInval ∧ p.addr = lineOf s.ev.addr := by
  have hgo : ¬ ((s.dirOf (lineOf s.ev.addr)).serving.isSome || s.frameBusy (lineOf s.ev.addr / 2 ^ 21)) = true := by rw [hs, hb]; decide
  have hd := s.dirOf_dropOwn (lineOf s.ev.addr)
  have hmem := (s.dropOwn_samePlaces (lineOf s.ev.addr)).memory
  have hsame (h : Nat) := s.mem_otherHolders_dropOwn (lineOf s.ev.addr) h
  unfold execDirectoryEviction
  dsimp only
  rw [if_neg hgo]
  cases hl : (s.dropOwn (lineOf s.ev.addr)).otherHolders (lineOf s.ev.addr) true with
  | nil =>
    rw [hl] at hsame
    exact ⟨_, rfl, hmem, by rw [hd], by rw [hd], fun h hh => absurd ((hsame h).2 hh) List.not_mem_nil⟩
  | cons a r =>
    rw [hl] at hsame
    obtain ⟨hp, hdir, hall⟩ := (s.dropOwn (lineOf s.ev.addr)).serve_asks (lineOf s.ev.addr) (s.md.number, 0, 4) kInval (a :: r)
    exact ⟨_, rfl, hmem.trans hp.memory, by rw [hdir, hd], by rw [hdir, hd], fun h hh => hall h ((hsame h).2 hh)⟩

end Sys2Proof.Machine
end

section

open Sys2Proof.Machine

/-- Settles O43: the home's service of a line is one lemma for each state of its directory entry; every other event is what a holder, or the home, does
when a line is given up. -/
theorem lineEventsComplete : Obligations.LineEventsComplete := by
  unfold Obligations.LineEventsComplete
  intro s
  dsimp only
  refine ⟨fun w src seq mma tag up h => ?request, fun he => ⟨fun x s1 hidle => ⟨fun st hx hb ho => ?writesBack, fun hx => ?evicts⟩, fun x s1 hx => ?inval⟩,
    fun he hask => ⟨fun hl => ?ownBack, fun hl => ?ownEvicts⟩, fun hidle hb => ?directory⟩
  case request =>
    replace h : s.Asks w src seq mma tag up := h
    obtain ⟨name, hname⟩ := exec_getRow s w
    obtain ⟨l, busy, hx, hown, hother, hm⟩ := homeServes_of_asks h name
    have hexec : exec (if w then .getm else .gets) s = _ := hname.trans hx
    refine ⟨fun hb => ?busy, fun hb ht hne => ?denied, fun hb ht hidle hopen => ?served⟩
    case busy =>
      have hbusy := hexec.trans (if_pos hb)
      refine ⟨fun hs => ?_, fun hne => ⟨busy, hbusy, hother hne⟩⟩
      rwa [hown hs] at hbusy
    case denied =>
      have hdeny := hexec.trans ((if_neg (ne_true_of_eq_false hb)).trans (if_pos (by rw [ht]; rfl)))
      exact ⟨_, hdeny, State.refusePeer_other (s := { s with md := { s.md with inbox := l } }) hne seq mma⟩
    case served =>
      have hserves (t : State) (hserve : State.serveGet { s with md := { s.md with inbox := l } } w src seq mma up = some t) :
          exec (if w then .getm else .gets) s = .next t := by
        refine hexec.trans ((if_neg (ne_true_of_eq_false hb)).trans ((if_neg (by rw [ht]; decide)).trans ?_))
        rw [hserve]
      have hplaces := State.SamePlaces.inbox s l
      have hopen : State.Open { s with md := { s.md with inbox := l } } w src mma up := ⟨hidle, hopen⟩
      refine ⟨fun hw => ⟨fun ho => ⟨fun hs hk hr => ?alone, fun hs => ?shared⟩, fun st hne ho => ?own, fun o st ho hne hme => ⟨fun hc => ?clean, fun hc => ?forwarded⟩⟩,
        fun hw => ⟨fun hne hk => ?through, fun hk hr hs => ?exclusive, fun hk hr hs => ?invalidates⟩⟩
      all_goals subst hw
      case alone =>
        obtain ⟨t, hserve, hd1, hd2, hg⟩ := State.serveGet_alone hm hopen ho hs hk hr (seq := seq)
        exact ⟨t, hserves t hserve, hd1, hd2, hg.of_samePlaces hplaces⟩
      case shared =>
        obtain ⟨t, hserve, hd1, hd2, hg⟩ := State.serveGet_shared hm hopen ho hs (seq := seq)
        exact ⟨t, hserves t hserve, hd1, hd2, hg.of_samePlaces hplaces⟩
      case own =>
        obtain ⟨t, hserve, hg, hshare, hrest⟩ := State.serveGet_own hm hopen ho hne (seq := seq)
        exact ⟨t, hserves t hserve, hg.of_samePlaces hplaces, hshare, hrest⟩
      case clean =>
        obtain ⟨t, hserve, hg, hrest⟩ := State.serveGet_clean hm hopen ho hme hc (seq := seq)
        exact ⟨t, hserves t hserve, hg.of_samePlaces hplaces, hrest⟩
      case forwarded =>
        obtain ⟨t, hserve, hrest⟩ := State.serveGet_forwarded hopen ho hme hc (seq := seq)
        exact ⟨t, hserves t hserve, hrest⟩
      case through =>
        obtain ⟨t, hserve, hrest⟩ := State.serveGet_through hopen hk (seq := seq)
        exact ⟨t, hserves t hserve, hrest⟩
      case exclusive =>
        obtain ⟨t, hserve, hd1, hd2, hg⟩ := State.serveGet_exclusive hm hopen hk hr hs (seq := seq)
        exact ⟨t, hserves t hserve, hd1, hd2, hg.of_samePlaces hplaces⟩
      case invalidates =>
        obtain ⟨t, hserve, hrest⟩ := State.serveGet_invalidates hopen hk hr hs (seq := seq)
        exact ⟨t, hserves t hserve, hrest⟩
  case writesBack =>
    obtain ⟨l, rfl⟩ := State.taken_eq hx
    have hexec : exec .writeBack s = _ := execWriteBack_arrives he hx hb ho
    obtain ⟨hin, hout⟩ := State.byteAt_setLine { s with md := { s.md with inbox := l } } (lineOf x.addr) x.data x.value
    obtain ⟨hmem, hwithout, hpacket⟩ := State.holderGone_acked
      (s := State.setLine { s with md := { s.md with inbox := l } } (lineOf x.addr) x.data x.value) (mma := lineOf x.addr) hidle x
    exact ⟨_, hexec, hwithout, fun j hj => (hmem _).1.trans (hin j hj), fun z hz => (hmem z).1.trans (hout z hz), hpacket⟩
  case evicts =>
    obtain ⟨l, rfl⟩ := State.taken_eq hx
    have hexec : exec .eviction s = _ := execEviction_arrives he hx
    exact ⟨_, hexec, State.holderGone_acked (s := { s with md := { s.md with inbox := l } }) hidle x⟩
  case inval =>
    obtain ⟨l, rfl⟩ := State.taken_eq hx
    have hexec : exec .invalidation s = _ := execInvalidation_drops hx
    obtain ⟨hmem, hline⟩ := State.invalidate_completes { s with md := { s.md with inbox := l } } x
    generalize State.invalidate { s with md := { s.md with inbox := l } } x = y at hexec hmem hline
    obtain ⟨hmem', hlines, p, hp, h1, h2, h3, h4, h5, h6, h7⟩ := y.holderReply_sends x (inCode (s.dline x.src (lineOf x.addr))) (s.dline x.src (lineOf x.addr))
    have hgone := (State.dline_congr hlines.dcache x.src (lineOf x.addr)).trans hline
    exact ⟨_, hexec, hmem.trans hmem', hgone, p, hp, h1, h2, h3, h4, h5, fun _ => ⟨h6, h7⟩⟩
  case ownBack =>
    have hg := s.giveUp_givesUp s.ev.index (lineOf s.ev.addr)
    have hexec : exec .writeBack s = _ := (if_pos he).trans (State.ownGivesUp_eq (states := [3, 4]) (List.mem_cons.2 (hl.imp_right List.mem_singleton.2)) hask "WRITE_BACK")
    exact ⟨_, hexec, hg.places.memory, hg.dline, hg.without, fun hne => hg.writesBack hne hl⟩
  case ownEvicts =>
    have hg := s.giveUp_givesUp s.ev.index (lineOf s.ev.addr)
    have hexec : exec .eviction s = _ := (if_pos he).trans (State.ownGivesUp_eq (states := [1, 2]) (List.mem_cons.2 (hl.imp_right List.mem_singleton.2)) hask "EVICTION")
    exact ⟨_, hexec, hg.places.memory, hg.dline, hg.without, fun hne h2 => hg.notifies hne h2⟩
  case directory =>
    obtain ⟨t, hexec, hmem, hsharers, howner, hall⟩ := execDirectoryEviction_completes hidle hb
    refine ⟨t, hexec, hmem, fun hme => ?_, fun o ho => ?_, hall⟩
    · rw [hsharers, Dir.mem_sharers_without] at hme
      exact hme.2 rfl
    · rw [howner, Dir.owner_without] at ho
      exact ho.2

end

section
/-! PROOF. TLBINV (O31): what it drops from the translation caches of the tiles (R132, R420). -/

namespace Sys2Proof.Machine

variable {s : State}

/-- A supervisor's instruction that its guard lets run does what its body says (R51). -/
theorem runSup_of_runs (i : Instr) (q : BitVec 4) (body : State → Act) (hs : s.cur.sup = true) (h : Runs s q) :
    runSup i q s body = finish i (body s) := by
  rw [runSup, if_pos hs, run_of_runs i q s body h]

/-- The entries of a tile that a TLBINV of VI v leaves: all but those of v that it names. -/
def Tile.withoutNamed (v k ga : Nat) (x : Tile) : Tile := { x with tlb := x.tlb.filter (fun y => !(y.vi == v && tlbNames k ga y.region y.base y.size)) }

/-- Every tile without the entries that a TLBINV names. -/
def State.dropNamed (s : State) (v k ga : Nat) : State := { s with tiles := s.tiles.map (fun e => (e.1, e.2.withoutNamed v k ga)) }

theorem State.tile_dropNamed (s : State) (v k ga g : Nat) : (s.dropNamed v k ga).tile g = (s.tile g).withoutNamed v k ga :=
  tget_map (fun _ x => Tile.withoutNamed v k ga x) {} s.tiles g

/-- With no walk in flight, TLBINV drops the entries that it names and moves on. -/
theorem execTlbinv_drops {e a : BitVec 5} {q : BitVec 4} (hsup : s.cur.sup = true) (hr : Runs s q) (hd : s.cur.depth = 0) (hc : CleanG s [a])
    (hf : ReleaseFree s) (h2 : e.toNat = 2 → (s.gv a).toNat = 0)
    (hne : e.toNat ≠ 2 → (s.gv a).toNat < 2 ^ 56 ∧ (aRegion (s.gv a).toNat = 1 ∨ aRegion (s.gv a).toNat = 2))
    (hw : s.md.walks = []) (hu : s.undrained s.cur.vi e.toNat (s.gv a).toNat = false) :
    execTlbinv e a q s = .next (((s.dropNamed s.cur.vi e.toNat (s.gv a).toNat).modCur (fun t => t.noteReads [a])).advance 4) := by
  have hok : ¬ ((e.toNat = 2 ∧ (s.gv a).toNat ≠ 0) ∨
      (e.toNat ≠ 2 ∧ (2 ^ 56 ≤ (s.gv a).toNat ∨ (aRegion (s.gv a).toNat ≠ 1 ∧ aRegion (s.gv a).toNat ≠ 2)))) := by
    rintro (⟨h, h0⟩ | ⟨h, hbad⟩)
    · exact h0 (h2 h)
    · obtain ⟨hlt, hreg⟩ := hne h
      omega
  have hmd (f : Walk → Walk) : s.modMd (fun m => { m with walks := m.walks.map f }) = s := by
    rw [State.modMd, hw, List.map_nil, ← hw]
  rw [execTlbinv, runSup_of_runs _ _ _ hsup hr, notInDomain, if_neg (not_not_intro hd), checkRegs_clean s [a] _ hc]
  dsimp only
  rw [show (s.cur.rdG a).v = s.gv a from rfl, if_neg hok, releaseWait_of s _ hf, hmd, if_neg (by rw [hu]; decide)]
  rfl

theorem tlbNames_iff (k ga region base size : Nat) : tlbNames k ga region base size = true ↔
    k = 2 ∨ (region = aRegion ga ∧ (k = 1 ∨ (base ≤ ga % 2 ^ 40 ∧ ga % 2 ^ 40 < base + size))) := by
  simp only [tlbNames, Bool.or_eq_true, Bool.and_eq_true, beq_iff_eq, decide_eq_true_eq]

/-- What TLBINV leaves of a tile's cache. -/
theorem Tile.mem_withoutNamed (t : Tile) (v k ga : Nat) (x : TlbEntry) : x ∈ (t.withoutNamed v k ga).tlb ↔ x ∈ t.tlb ∧
    ¬ (x.vi = v ∧ (k = 2 ∨ (x.region = aRegion ga ∧ (k = 1 ∨ (x.base ≤ ga % 2 ^ 40 ∧ ga % 2 ^ 40 < x.base + x.size))))) := by
  rw [Tile.withoutNamed, List.mem_filter, ← tlbNames_iff, Bool.not_eq_true', Bool.and_eq_false_iff, beq_eq_false_iff_ne, Bool.eq_false_iff, not_and_or]

end Sys2Proof.Machine
end

section

open Sys2Proof.Machine

/-- Settles O31: with no walk in flight and no request under way, TLBINV filters the translation cache of every tile. -/
theorem tlbinvDropsWhatItNames : Obligations.TlbinvDropsWhatItNames := by
  unfold Obligations.TlbinvDropsWhatItNames
  intro e a q s hsup hr hd hc hf ga h2 hne hw hu
  have hk (n : Nat) (hn : n < 32) : e.toNat = n ↔ e = BitVec.ofNat 5 n := by
    rw [← BitVec.toNat_inj, BitVec.toNat_ofNat, Nat.mod_eq_of_lt hn]
  have hk2 : e.toNat = 2 ↔ e = 2 := hk 2 (by decide)
  have hk1 : e.toNat = 1 ↔ e = 1 := hk 1 (by decide)
  refine ⟨_, execTlbinv_drops hsup hr hd hc hf (fun h => h2 (hk2.1 h)) (fun h => hne (fun he => h (hk2.2 he))) hw hu, fun g x => ?_, ?_, ?_⟩
  · rw [← hk2, ← hk1, ← Tile.mem_withoutNamed, ← State.tile_dropNamed]
    rfl
  · have hpc : (s.cur.noteReads [a]).pc = s.cur.pc := by
      unfold Task.noteReads
      split <;> rfl
    exact congrArg (fun p : BitVec 56 => { s.cur.noteReads [a] with pc := p + 4 }) hpc
  · exact sameMemory_of_eq rfl rfl

end

section
/-! PROOF. Packets that come in (O44): drops and their counters, accepted packets, and new incarnations (R112, R115, R116, R123, R124). -/

namespace Sys2Proof.Machine

variable {s : State} {x : EvIn}

/-! ## The checks on arrival (R123) -/

/-- Of two incarnations at most one is earlier than the other. -/
theorem earlier_asymm {a b : BitVec 16} (h : earlier a b = true) : earlier b a = false := by
  simp only [earlier, Bool.and_eq_true, decide_eq_true_eq, Bool.and_eq_false_iff, decide_eq_false_iff_not, BitVec.toNat_sub] at h ⊢
  omega

theorem earlier_self (a : BitVec 16) : earlier a a = false := by
  rw [earlier, BitVec.sub_self]
  rfl

/-- The incarnation of a packet's sender, as the packet says and as I/O die `id` has recorded it. -/
def State.sentInc (s : State) : BitVec 16 := BitVec.ofNat 16 s.ev.srcInc
def State.recordedInc (s : State) : BitVec 16 := tget 0 s.md.peers (1024 * (s.ev.id % 4) + s.ev.src)

/-- A packet expects this module's present incarnation. -/
def State.forMe (s : State) : Prop := BitVec.ofNat 16 s.ev.dstInc = s.md.incarnation

theorem execPacketArrival_stale (h : earlier s.sentInc s.recordedInc = true) : execPacketArrival s = .next (s.countAt s.ev.id 5) := if_pos h

theorem execPacketArrival_notForMe (h : earlier s.sentInc s.recordedInc = false) (hme : ¬ s.forMe) : execPacketArrival s = .next (s.countAt s.ev.id 6) :=
  (if_neg (Bool.eq_false_iff.1 h)).trans (if_pos hme)

theorem execPacketArrival_unannounced (h : earlier s.recordedInc s.sentInc = true) (hme : s.forMe) (hk : s.ev.kind ≠ kInc) :
    execPacketArrival s = .next (s.countAt s.ev.id 7) :=
  (if_neg (Bool.eq_false_iff.1 (earlier_asymm h))).trans ((if_neg (not_not_intro hme)).trans ((if_neg fun hi => hk hi.1).trans (if_pos h)))

theorem execPacketArrival_announces (h : earlier s.sentInc s.recordedInc = false) (hme : s.forMe) (hk : s.ev.kind = kInc)
    (hne : s.sentInc ≠ s.recordedInc) : execPacketArrival s = .next (s.announced s.ev s.sentInc) :=
  (if_neg (Bool.eq_false_iff.1 h)).trans ((if_neg (not_not_intro hme)).trans (if_pos ⟨hk, hne⟩))

theorem execPacketArrival_accepts (h : s.sentInc = s.recordedInc) (hme : s.forMe) : execPacketArrival s = .next (s.accept s.ev) := by
  have he : earlier s.sentInc s.recordedInc = false := by rw [h, earlier_self]
  have he' : earlier s.recordedInc s.sentInc = false := by rw [h, earlier_self]
  exact (if_neg (Bool.eq_false_iff.1 he)).trans ((if_neg (not_not_intro hme)).trans ((if_neg fun hi => hi.2 h).trans (if_neg (Bool.eq_false_iff.1 he'))))

/-- A counter of an I/O die counts one more, and nothing else changes (R122). -/
theorem State.countAt_counts (s : State) (k c : Nat) : s.countAt k c = { s with md := { s.md with counters := (s.countAt k c).md.counters } } ∧
    ∀ j, tget 0 (s.countAt k c).md.counters j = tget 0 s.md.counters j + (if j = 8 * (k % 4) + c then 1 else 0) := by
  refine ⟨rfl, fun j => ?_⟩
  have h := tget_tmod (d := (0 : BitVec 48)) s.md.counters (8 * (k % 4) + c) j (· + 1)
  refine h.trans ?_
  split
  · next h => rw [h]
  · exact (BitVec.add_zero _).symm

/-! ## Requests and their repeats (R116) -/

/-- Whether a record is that of a request. -/
def Served.isOf (x : EvIn) (r : Served) : Bool := r.src == x.src && r.agent == x.gt && r.seq == x.seq

/-- A new request that waits for its event is recorded. -/
theorem State.takeRequest_new (h : s.md.served.find? (Served.isOf x) = none) (h1 : x.kind ≠ kReserve) (h2 : x.kind ≠ kRetire) (h3 : x.kind ≠ kShareDelta) :
    s.takeRequest x = { s with md := { s.md with
      served := s.md.served ++ [{ src := x.src, agent := x.gt, seq := x.seq, kind := x.kind }], inbox := s.md.inbox ++ [x] } } := by
  unfold State.takeRequest
  rw [show s.md.served.find? (fun r => r.src == x.src && r.agent == x.gt && r.seq == x.seq) = none from h]
  dsimp only
  rw [if_neg h1, if_neg h2, if_neg h3]
  rfl

/-- A repeated request is answered as before. -/
theorem State.takeRequest_repeated {r : Served} {a : Nat × Nat × BitVec 1024 × BitVec 16 × Nat} (h : s.md.served.find? (Served.isOf x) = some r)
    (ha : r.answer = some a) (h1 : x.kind ≠ kGetS) (h2 : x.kind ≠ kGetM) (h3 : x.kind ≠ kReserve) : s.takeRequest x = s.sendAgain x a := by
  unfold State.takeRequest
  rw [show s.md.served.find? (fun r => r.src == x.src && r.agent == x.gt && r.seq == x.seq) = some r from h]
  dsimp only
  rw [if_neg (not_or.2 ⟨h1, h2⟩), ha]
  exact if_neg fun hk => h3 hk.1

theorem Module.post_inbox (m : Module) (p : Packet) : (m.post p).inbox = m.inbox := by
  unfold Module.post
  dsimp only
  split <;> rfl

/-- The packet that repeats an answer. -/
def againPacket (x : EvIn) (a : Nat × Nat × BitVec 1024 × BitVec 16 × Nat) : Packet :=
  { cls := cRSP, dst := x.src, kind := a.1, addr := a.2.1, agent := x.die, dagent := x.gt, re := x.seq, data := a.2.2.1, marks := a.2.2.2.1, code := a.2.2.2.2 }

theorem State.sendAgain_sends (s : State) (x : EvIn) (a : Nat × Nat × BitVec 1024 × BitVec 16 × Nat) :
    SameMemory s (s.sendAgain x a) ∧ (s.sendAgain x a).md.inbox = s.md.inbox ∧
      ∃ p ∈ (s.sendAgain x a).md.outbox, p.cls = cRSP ∧ p.dst = x.src ∧ p.kind = a.1 ∧ p.re = x.seq ∧ p.data = a.2.2.1 := by
  obtain ⟨-, q, hq, hqp⟩ := s.md.post_sends (againPacket x a)
  refine ⟨s.modMd_sameMemory _, s.md.post_inbox (againPacket x a), q, hq, ?_⟩
  rw [hqp]
  exact ⟨rfl, rfl, rfl, rfl, rfl⟩

/-! ## A line that arrives (R117) -/

/-- The request of this module for the line that a packet brings. -/
def State.lineAsked (s : State) (x : EvIn) : Option Packet :=
  s.md.outbox.find? (fun p => p.cls == cREQ && p.seq == x.offset && (p.kind == kGetS || p.kind == kGetM) && lineOf p.addr == lineOf x.addr)

theorem State.install_line (s : State) (home mma : Nat) (l : DLine) : SameMemory s (s.install home mma l) ∧ (s.install home mma l).dline home mma = l :=
  ⟨install_same s home mma l, State.dline_setOwnLine _ home mma l⟩

/-- A requester's receipt of a line. -/
def receiptPacket (home mma seq : Nat) : Packet :=
  { cls := cRSP, dst := home, kind := kForwarded, addr := mma, agent := agentIo (mma / 128), dagent := agentIo (mma / 128), re := seq, code := 32 }

/-- The line that was asked for enters the domain cache, and its home is told. -/
theorem State.dataArrives_installs {p : Packet} (hp : s.lineAsked x = some p) (hl : s.dline p.dst (lineOf x.addr) = {}) (st : Nat) :
    SameMemory s (s.dataArrives st x) ∧
      (s.dataArrives st x).dline p.dst (lineOf x.addr) = { state := st, data := x.data, marks := BitVec.ofNat 16 x.value } ∧
      ∃ q ∈ (s.dataArrives st x).md.outbox, q.cls = cRSP ∧ q.dst = p.dst ∧ q.kind = kForwarded ∧ q.addr = lineOf x.addr ∧ q.re = p.seq ∧ q.code = 32 := by
  have heq : s.dataArrives st x = ((s.install p.dst (lineOf x.addr) { state := st, data := x.data, marks := BitVec.ofNat 16 x.value }).finished p.seq).modMd
      (fun m => m.post (receiptPacket p.dst (lineOf x.addr) p.seq)) := by
    unfold State.dataArrives
    rw [show s.md.outbox.find? _ = some p from hp]
    dsimp only
    rw [hl, if_neg (by decide)]
    rfl
  obtain ⟨hmem, hline⟩ := s.install_line p.dst (lineOf x.addr) { state := st, data := x.data, marks := BitVec.ofNat 16 x.value }
  rw [heq]
  generalize s.install p.dst (lineOf x.addr) { state := st, data := x.data, marks := BitVec.ofNat 16 x.value } = y at hmem hline
  obtain ⟨-, q, hq, hqp⟩ := (y.finished p.seq).md.post_sends (receiptPacket p.dst (lineOf x.addr) p.seq)
  refine ⟨hmem.trans (sameMemory_of_eq rfl rfl), (State.dline_congr ?_ _ _).trans hline, q, hq, ?_⟩
  · exact ((y.finished p.seq).md.post_sameLines _).dcache
  · rw [hqp]
    exact ⟨rfl, rfl, rfl, rfl, rfl, rfl⟩

/-! ## Ordered classes (R115) -/

/-- The number that a packet's flow takes next. -/
def State.wanted (s : State) (x : EvIn) : Nat := tget 0 s.md.inFlows (flowKey x.cls x.src x.gt x.die)

/-- The state with a packet's flow past it, and nothing kept back. -/
def State.pastFlow (s : State) (x : EvIn) : State :=
  { s with md := { s.md with early := [], inFlows := tset 0 s.md.inFlows (flowKey x.cls x.src x.gt x.die) ((x.seq + 1) % 2 ^ 32) } }

/-- With nothing kept back, a packet that is not behind its flow is kept until its flow reaches it. -/
theorem State.takeOrdered_keeps (he : s.md.early = []) (hle : s.wanted x ≤ x.seq) (hlt : x.seq < s.wanted x + 2 ^ 31) :
    s.takeOrdered x = State.deliverNext { s with md := { s.md with early := [x] } } 1 := by
  have hnew : ¬ 2 ^ 31 ≤ (x.seq + 2 ^ 32 - s.wanted x) % 2 ^ 32 := by omega
  have hadd : s.modMd (fun m => { m with early := m.early ++ [x] }) = { s with md := { s.md with early := [x] } } := by rw [State.modMd, he, List.nil_append]
  unfold State.takeOrdered
  dsimp only
  rw [if_neg, hadd, he]
  · rfl
  · rw [he]
    exact not_or.2 ⟨hnew, Bool.false_ne_true⟩

theorem State.takeOrdered_inTurn (he : s.md.early = []) (hseq : x.seq = s.wanted x) : s.takeOrdered x = (s.pastFlow x).deliver x := by
  have hdue : (tget 0 s.md.inFlows (flowKey x.cls x.src x.gt x.die) == x.seq) = true := beq_iff_eq.2 hseq.symm
  rw [State.takeOrdered_keeps he hseq.ge (by omega)]
  simp only [State.deliverNext, List.find?_cons, hdue, State.modMd, List.erase_cons_head]
  rfl

theorem State.takeOrdered_ahead (he : s.md.early = []) (hgt : s.wanted x < x.seq) (hlt : x.seq < s.wanted x + 2 ^ 31) :
    s.takeOrdered x = { s with md := { s.md with early := [x] } } := by
  have hdue : (tget 0 s.md.inFlows (flowKey x.cls x.src x.gt x.die) == x.seq) = false := beq_false_of_ne (Nat.ne_of_lt hgt)
  rw [State.takeOrdered_keeps he hgt.le hlt]
  simp only [State.deliverNext, List.find?_cons, hdue, List.find?_nil]

theorem State.accept_ordered (h0 : x.cls ≠ cREQ) (h1 : x.cls ≠ cRSP) (h2 : x.cls ≠ cSNP) : s.accept x = s.takeOrdered x := by
  rw [State.accept, if_neg h0, if_neg h1, if_neg h2]

end Sys2Proof.Machine
end

section
/-! PROOF. New incarnations, resends, routes and ports (O44; R114, R116, R124, R125). -/

namespace Sys2Proof.Machine

variable {s t : State} {x : EvIn}

/-! ## What forgetting a module leaves of the tables (R124) -/

theorem Module.post_peers (m : Module) (p : Packet) : (m.post p).peers = m.peers := by
  unfold Module.post
  dsimp only
  split <;> rfl

theorem State.modMd_post_peers (s : State) (p : Packet) : (s.modMd (fun m => m.post p)).md.peers = s.md.peers := s.md.post_peers p

theorem State.dropped_peers (s : State) (home mma : Nat) : (s.dropped home mma).md.peers = s.md.peers := by
  unfold State.dropped
  dsimp only
  split
  · rw [State.count_md, State.setOwnLine_md]
  · rw [State.setOwnLine_md]

theorem State.giveUp_peers (s : State) (home mma : Nat) : (s.giveUp home mma).md.peers = s.md.peers := by
  rw [State.giveUp_eq]
  split
  · exact s.dropped_peers home mma
  · split
    · exact (State.modMd_post_peers _ _).trans (s.dropped_peers home mma)
    · split
      · exact (State.modMd_post_peers _ _).trans (s.dropped_peers home mma)
      · exact s.dropped_peers home mma

theorem State.install_peers (s : State) (home mma : Nat) (l : DLine) : (s.install home mma l).md.peers = s.md.peers := by
  unfold State.install
  dsimp only
  split
  · rfl
  · split
    · exact s.giveUp_peers _ _
    · rfl

theorem State.grantLine_peers (s : State) (dst seq mma st : Nat) : (s.grantLine dst seq mma st).md.peers = s.md.peers := by
  unfold State.grantLine
  split
  · exact s.install_peers dst mma { state := st }
  · exact s.md.post_peers _

theorem State.serve_peers (s : State) (mma : Nat) (who : Nat × Nat × Nat) (kind : Nat) (hs : List Nat) : (s.serve mma who kind hs).md.peers = s.md.peers :=
  foldl_keeps (fun y : State => y.md.peers = s.md.peers) _ hs s rfl fun y _ hy => (y.modMd_post_peers _).trans hy

/-- What comes of a request, if it can be served, keeps the incarnations that are recorded. -/
def State.KeepsPeers (s : State) (o : Option State) : Prop := ∀ t ∈ o, t.md.peers = s.md.peers

theorem State.keepsPeers_none (s : State) : s.KeepsPeers none := fun _ h => absurd h (Option.not_mem_none _)

theorem State.keepsPeers_some (h : t.md.peers = s.md.peers) : s.KeepsPeers (some t) := by
  rintro y ⟨⟩
  exact h

theorem State.keepsPeers_ite {c : Prop} [Decidable c] {o o' : Option State} (h : s.KeepsPeers o) (h' : s.KeepsPeers o') : s.KeepsPeers (if c then o else o') :=
  iteInduction (fun _ => h) (fun _ => h')

/-- A GetS that is served anew. -/
theorem State.serveGet_keepsPeers (s : State) (src seq mma : Nat) (up : Bool) : s.KeepsPeers (s.serveGet false src seq mma up) := by
  unfold State.serveGet
  refine State.keepsPeers_ite s.keepsPeers_none (iteInduction (fun h => absurd h Bool.false_ne_true) fun _ => ?_)
  split
  · refine State.keepsPeers_ite (State.keepsPeers_some ((State.grantLine_peers _ _ _ _ _).trans ?_)) (State.keepsPeers_ite
      (State.keepsPeers_some (State.grantLine_peers _ _ _ _ _)) (State.keepsPeers_some (s.serve_peers _ _ _ _)))
    rw [State.modDir_md, State.modMd_md]
  · exact State.keepsPeers_ite (State.keepsPeers_some (State.grantLine_peers _ _ _ _ _)) (State.keepsPeers_some (State.grantLine_peers _ _ _ _ _))

theorem State.allAnswered_peers (s : State) (mma : Nat) : (s.allAnswered mma).md.peers = s.md.peers := by
  unfold State.allAnswered
  dsimp only
  split
  · split
    · rfl
    · split
      · split
        · exact State.grantLine_peers _ _ _ _ _
        · rfl
      · split
        · exact State.grantLine_peers _ _ _ _ _
        · rfl
  · rfl

theorem State.holderGone_peers (s : State) (src mma : Nat) : (s.holderGone src mma).md.peers = s.md.peers := by
  unfold State.holderGone
  dsimp only
  split
  · next r seq _ =>
    generalize hy : State.modDir _ mma (fun d => { d with serving := none, awaited := [] }) = y
    have hpeers : y.md.peers = s.md.peers := by rw [← hy]; rfl
    cases h : y.serveGet false r seq mma false with
    | none => exact hpeers
    | some t => exact (y.serveGet_keepsPeers r seq mma false t h).trans hpeers
  · exact State.allAnswered_peers _ _

theorem State.forgetModule_peers (s : State) (src : Nat) : (s.forgetModule src).md.peers = s.md.peers := by
  unfold State.forgetModule
  dsimp only
  refine foldl_keeps (fun y : State => y.md.peers = s.md.peers) _ _ _ ?_ fun y e hy => ?_
  · exact foldl_keeps (fun y : State => y.md.peers = s.md.peers) _ _ _ rfl fun _ _ hy => hy
  · refine (State.holderGone_peers _ _ _).trans ?_
    split
    · exact hy
    · exact hy

/-! ## A new incarnation is announced (R123, R124) -/

/-- The same value written at several keys of a table. -/
theorem tget_foldl_tset {α : Type} [DecidableEq α] {d : α} (f : Nat → Nat) (v : α) (l : List Nat) (t : List (Nat × α)) (j : Nat) :
    tget d (l.foldl (fun p k => tset d p (f k) v) t) j = if j ∈ l.map f then v else tget d t j := by
  induction l generalizing t with
  | nil => rfl
  | cons k r ih =>
    rw [List.foldl_cons, ih, tget_tset, List.map_cons]
    by_cases hr : j ∈ r.map f
    · rw [if_pos hr, if_pos (List.mem_cons_of_mem _ hr)]
    · rw [if_neg hr]
      exact if_congr (by rw [List.mem_cons, or_iff_left hr]) rfl rfl

/-- The acknowledgement of an announcement. -/
def incAckPacket (src : Nat) : Packet := { cls := cMGT, dst := src, kind := kIncAck, addr := 0, agent := agentSp, dagent := agentSp }

/-- An announced incarnation stands in the tables of all four I/O dies, and is acknowledged. -/
theorem State.announced_completes (s : State) (x : EvIn) (inc : BitVec 16) :
    (∀ k, k < 4 → tget 0 (s.announced x inc).md.peers (1024 * k + x.src) = inc) ∧
      (∀ p, (∀ k, k < 4 → p ≠ 1024 * k + x.src) → tget 0 (s.announced x inc).md.peers p = tget 0 s.md.peers p) ∧
      ∃ p ∈ (s.announced x inc).md.outbox, p.cls = cMGT ∧ p.dst = x.src ∧ p.kind = kIncAck := by
  have hpeers : (s.announced x inc).md.peers = (List.range 4).foldl (fun p k => tset 0 p (1024 * k + x.src) inc) s.md.peers := by
    refine (Module.post_peers _ (incAckPacket x.src)).trans ?_
    exact congrArg (fun l => (List.range 4).foldl (fun p k => tset 0 p (1024 * k + x.src) inc) l) (s.forgetModule_peers x.src)
  refine ⟨fun k hk => ?_, fun p hp => ?_, ?_⟩
  · rw [hpeers, tget_foldl_tset, if_pos (List.mem_map.2 ⟨k, List.mem_range.2 hk, rfl⟩)]
  · rw [hpeers, tget_foldl_tset, if_neg]
    rintro hmem
    obtain ⟨k, hk, rfl⟩ := List.mem_map.1 hmem
    exact hp k (List.mem_range.1 hk) rfl
  · obtain ⟨-, q, hq, hqp⟩ := Module.post_sends (((s.forgetModule x.src).freshFlows x.src).modMd (fun m => { m with
      peers := (List.range 4).foldl (fun p k => tset 0 p (1024 * k + x.src) inc) m.peers
      inFlows := tset 0 m.inFlows (flowKey x.cls x.src x.gt x.die) ((x.seq + 1) % 2 ^ 32) })).md (incAckPacket x.src)
    refine ⟨q, hq, ?_⟩
    rw [hqp]
    exact ⟨rfl, rfl, rfl⟩

/-! ## This module changes its incarnation (R124) -/

/-- A module that has told others of its incarnation. -/
structure State.Tells (s t : State) : Prop where
  memory : SameMemory s t
  incarnation : t.md.incarnation = s.md.incarnation
  announce : t.md.announce = s.md.announce
  outbox : ∀ p ∈ s.md.outbox, p ∈ t.md.outbox

theorem State.Tells.refl (s : State) : s.Tells s := ⟨.refl s, rfl, rfl, fun _ h => h⟩

theorem State.Tells.trans {y : State} (h : s.Tells t) (h' : t.Tells y) : s.Tells y :=
  ⟨h.memory.trans h'.memory, h'.incarnation.trans h.incarnation, h'.announce.trans h.announce, fun p hp => h'.outbox p (h.outbox p hp)⟩

theorem State.tells_hostEvent (s : State) (e : HEvent) : s.Tells (s.hostEvent e) := by
  unfold State.hostEvent State.modMd
  dsimp only
  split <;> exact ⟨sameMemory_of_eq rfl rfl, rfl, rfl, fun _ h => h⟩

/-- The announcement that goes to a module. -/
def incPacket (inc : BitVec 16) (p : Nat) : Packet :=
  { cls := cMGT, dst := p, kind := kInc, addr := 0, agent := agentSp, dagent := agentSp, data := inc.setWidth 1024 }

/-- Module p is sent the announcement, its flows beginning anew. -/
def State.tell (inc : BitVec 16) (s : State) (p : Nat) : State := (s.freshFlows p).modMd (fun m => m.post (incPacket inc p))

theorem State.tells_tell (inc : BitVec 16) (s : State) (p : Nat) : s.Tells (s.tell inc p) ∧
    ∃ q ∈ (s.tell inc p).md.outbox, q.cls = cMGT ∧ q.dst = p ∧ q.kind = kInc ∧ q.data = inc.setWidth 1024 := by
  obtain ⟨hsends, q, hq, hqp⟩ := (s.freshFlows p).md.post_sends (incPacket inc p)
  refine ⟨⟨sameMemory_of_eq rfl rfl, ?_, ?_, hsends.outbox⟩, q, hq, ?_⟩
  · unfold State.tell Module.post
    exact apply_ite Module.incarnation _ _ _ |>.trans (ite_self _)
  · unfold State.tell Module.post
    exact apply_ite Module.announce _ _ _ |>.trans (ite_self _)
  · rw [hqp]
    exact ⟨rfl, rfl, rfl, rfl⟩

/-- Every module of a list is told. -/
theorem State.tells_foldl (inc : BitVec 16) (l : List Nat) (s : State) : s.Tells (l.foldl (State.tell inc) s) ∧
    ∀ p ∈ l, ∃ q ∈ (l.foldl (State.tell inc) s).md.outbox, q.cls = cMGT ∧ q.dst = p ∧ q.kind = kInc ∧ q.data = inc.setWidth 1024 := by
  induction l generalizing s with
  | nil => exact ⟨.refl s, nofun⟩
  | cons a r ih =>
    obtain ⟨hone, q, hq, hfields⟩ := s.tells_tell inc a
    obtain ⟨hrest, hsent⟩ := ih (s.tell inc a)
    refine ⟨hone.trans hrest, fun p hp => ?_⟩
    rcases List.mem_cons.1 hp with rfl | hp
    · exact ⟨q, hrest.outbox q hq, hfields⟩
    · exact hsent p hp

/-- After a vote the incarnation is the next one, and every other present module is told and owed an acknowledgement. -/
theorem execIncarnationChange_completes (hv : s.voted = true) : Completes (execIncarnationChange s) (fun t =>
    SameMemory s t ∧ t.md.incarnation = s.md.incarnation + 1 ∧ (∀ p, p ∈ t.md.announce ↔ p ∈ s.md.present ∧ p ≠ s.md.number) ∧
      ∀ p ∈ s.md.present, p ≠ s.md.number → ∃ q ∈ t.md.outbox, q.cls = cMGT ∧ q.dst = p ∧ q.kind = kInc ∧ q.data = (s.md.incarnation + 1).setWidth 1024) := by
  have hmem (p : Nat) : p ∈ s.md.present.filter (· ≠ s.md.number) ↔ p ∈ s.md.present ∧ p ≠ s.md.number := by
    rw [List.mem_filter, decide_eq_true_eq]
  obtain ⟨htells, hsent⟩ := State.tells_foldl (s.md.incarnation + 1) (s.md.present.filter (· ≠ s.md.number))
    (s.modMd (fun m => { m with incarnation := s.md.incarnation + 1, announce := s.md.present.filter (· ≠ s.md.number) }))
  have hall := htells.trans (State.tells_hostEvent _ { kind := 7, vi := 0, d1 := dw s.md.number, d2 := (s.md.incarnation + 1).setWidth 64, d3 := 2 })
  unfold execIncarnationChange
  rw [hv, if_neg (by decide)]
  refine .next ⟨(s.modMd_sameMemory _).trans hall.memory, hall.incarnation, fun p => ?_, fun p hp hne => ?_⟩
  · rw [← hmem]
    exact iff_of_eq (congrArg (p ∈ ·) hall.announce)
  · obtain ⟨q, hq, hfields⟩ := hsent p ((hmem p).2 ⟨hp, hne⟩)
    exact ⟨q, (State.tells_hostEvent _ _).outbox q hq, hfields⟩

end Sys2Proof.Machine
end

section
/-! PROOF. Resends, ports and detours (O44; R114, R116, R125), and O44 itself. -/

namespace Sys2Proof.Machine

variable {s : State}

/-! ## A request is sent again (R116) -/

/-- A request as it is sent again, on any route and with the incarnations as they are now. -/
def Packet.resent (m : Module) (p : Packet) : Packet := { p with sends := p.sends + 1, route := none, inc := m.incarnation, expect := m.peerInc p.dst }

theorem execRequestResend_completes {p : Packet} (hp : s.md.outbox.find? (fun p => p.cls == cREQ && p.seq == s.ev.seq && p.dst != s.md.number) = some p) :
    Completes (execRequestResend s) (fun t => SameMemory s t ∧ p.resent s.md ∈ t.md.outbox ∧ (p.sends = 7 → p.seq ∈ t.md.unanswered)) := by
  unfold execRequestResend
  rw [hp]
  refine .next ⟨sameMemory_of_eq rfl rfl, List.mem_map.2 ⟨p, List.mem_of_find?_eq_some hp, if_pos (beq_self_eq_true p)⟩, fun h7 => ?_⟩
  have h8 : p.sends + 1 = 8 := by omega
  rw [State.count_md, State.modMd_md]
  dsimp only
  rw [if_pos h8, mem_sadd]
  exact .inl rfl

/-! ## Ports (R114) -/

theorem execLinkPortFailure_completes (h : s.ev.id < 64) : Completes (execLinkPortFailure s) (fun t =>
    t = { s with md := { s.md with darkPorts := t.md.darkPorts } } ∧ ∀ k, k ∈ t.md.darkPorts ↔ k = s.ev.id ∨ k ∈ s.md.darkPorts) := by
  unfold execLinkPortFailure
  rw [if_neg (Nat.not_le.2 h)]
  exact .next ⟨rfl, mem_sadd s.md.darkPorts s.ev.id⟩

/-! ## A detour (R114) -/

/-- The better of a choice so far and one more, the earlier in a tie. -/
def better (free : Nat → Nat) (b : Nat × Nat) (i : Nat) : Nat × Nat := if b.2 < free i then (i, free i) else b

theorem foldl_better_of_le {free : Nat → Nat} {b : Nat × Nat} {l : List Nat} (h : ∀ j ∈ l, free j ≤ b.2) : l.foldl (better free) b = b := by
  induction l with
  | nil => rfl
  | cons j r ih =>
    rw [List.foldl_cons, better, if_neg (Nat.not_lt.2 (h j List.mem_cons_self))]
    exact ih fun k hk => h k (List.mem_cons_of_mem _ hk)

/-- Of a rising list the choice falls on the first element that no other beats. -/
theorem foldl_better_eq {free : Nat → Nat} {i : Nat} {l : List Nat} (hl : l.Pairwise (· < ·)) (hi : i ∈ l) (hle : ∀ j ∈ l, free j ≤ free i)
    (hlt : ∀ j ∈ l, j < i → free j < free i) {b : Nat × Nat} (hb : b.2 < free i) : l.foldl (better free) b = (i, free i) := by
  induction l generalizing b with
  | nil => cases hi
  | cons j r ih =>
    obtain ⟨hj, hr⟩ := List.pairwise_cons.1 hl
    rw [List.foldl_cons]
    rcases List.mem_cons.1 hi with rfl | hir
    · rw [better, if_pos hb]
      exact foldl_better_of_le fun k hk => hle k (List.mem_cons_of_mem _ hk)
    · refine ih hr hir (fun k hk => hle k (List.mem_cons_of_mem _ hk)) (fun k hk => hlt k (List.mem_cons_of_mem _ hk)) ?_
      unfold better
      split
      · exact hlt j List.mem_cons_self (hj i hir)
      · exact hb

/-- The row peers by which a packet to module `dst` can make a detour. -/
def Module.rowPeers (m : Module) (dst : Nat) : List Nat := ((List.range 32).map (fun c => m.number / 32 * 32 + c)).filter (fun i => i != m.number && i != dst)

theorem Module.mem_rowPeers (m : Module) (dst i : Nat) : i ∈ m.rowPeers dst ↔ i / 32 = m.number / 32 ∧ i ≠ m.number ∧ i ≠ dst := by
  rw [Module.rowPeers, List.mem_filter, Bool.and_eq_true, bne_iff_ne, bne_iff_ne, List.mem_map]
  refine and_congr_left fun _ => ⟨?_, fun h => ⟨i % 32, List.mem_range.2 (Nat.mod_lt _ (by decide)), by omega⟩⟩
  rintro ⟨c, hc, rfl⟩
  have := List.mem_range.1 hc
  omega

theorem Module.rowPeers_rising (m : Module) (dst : Nat) : (m.rowPeers dst).Pairwise (· < ·) :=
  (List.pairwise_map.2 (List.pairwise_lt_range.imp fun h => by omega)).filter _

/-- Credits of a class on the link to a module; none where no link is lit. -/
def Module.freeTo (m : Module) (cls i : Nat) : Nat := match m.litPort i with | some g => m.creditSum g cls | none => 0

theorem Module.freeTo_lit {m : Module} {i g : Nat} (h : m.litPort i = some g) (cls : Nat) : m.freeTo cls i = m.creditSum g cls := by rw [Module.freeTo, h]

/-- Row peer `i` has a lit port `g` with credits for the packet, more than any row peer before it and no fewer than any other. -/
structure Module.Detours (m : Module) (p : Packet) (i g : Nat) : Prop where
  row : i ∈ m.rowPeers p.dst
  lit : m.litPort i = some g
  fits : p.flits ≤ m.creditSum g p.cls
  most : ∀ j h, j ∈ m.rowPeers p.dst → m.litPort j = some h → m.creditSum h p.cls ≤ m.creditSum g p.cls ∧ (j < i → m.creditSum h p.cls < m.creditSum g p.cls)

/-- The row peer with the most credits for a packet, and how many. -/
def Module.bestPeer (m : Module) (p : Packet) : Nat × Nat := (m.rowPeers p.dst).foldl (better (m.freeTo p.cls)) (0, 0)

theorem Packet.flits_pos (p : Packet) : 0 < p.flits := by
  unfold Packet.flits
  split
  · decide
  · split <;> decide

theorem Module.Detours.best {m : Module} {p : Packet} {i g : Nat} (h : m.Detours p i g) : m.bestPeer p = (i, m.creditSum g p.cls) := by
  have hi := Module.freeTo_lit h.lit p.cls
  have hpos : 0 < m.freeTo p.cls i := hi ▸ p.flits_pos.trans_le h.fits
  have hall (j : Nat) (hj : j ∈ m.rowPeers p.dst) : m.freeTo p.cls j ≤ m.freeTo p.cls i ∧ (j < i → m.freeTo p.cls j < m.freeTo p.cls i) := by
    cases hp : m.litPort j with
    | none =>
      have h0 : m.freeTo p.cls j = 0 := by rw [Module.freeTo, hp]
      rw [h0]
      exact ⟨Nat.zero_le _, fun _ => hpos⟩
    | some h' =>
      rw [Module.freeTo_lit hp, hi]
      exact h.most j h' hj hp
  rw [← hi]
  exact foldl_better_eq (m.rowPeers_rising p.dst) h.row (fun j hj => (hall j hj).1) (fun j hj => (hall j hj).2) hpos

/-- The packet has left by row peer `i`. -/
def State.detoured (s : State) (p : Packet) (i : Nat) : State :=
  s.modMd (fun m => { (m.depart p [i, p.dst]).1 with outbox := m.outbox.flatMap (fun q => if q == p then (m.depart p [i, p.dst]).2 else [q]) })

theorem execDetour_eq {p : Packet}
    (hp : s.md.outbox.find? (fun p => p.cls == s.ev.cls && p.seq == s.ev.seq && p.dst == s.ev.src && p.route.isNone) = some p) :
    execDetour s =
      if p.dst = s.md.number ∨ (s.md.minimal p.dst).all (fun r => !s.md.open_ p r) = false ∨ (s.md.bestPeer p).2 < p.flits ∨
          s.ev.index ≠ (s.md.bestPeer p).1 ∨ (s.md.announce ≠ [] ∧ p.cls ≠ cMGT) then noUnit "DETOUR"
      else .next (s.detoured p (s.md.bestPeer p).1) := by
  unfold execDetour
  dsimp only
  rw [hp]
  rfl

/-- The credits that a packet takes on the first link of its route. -/
def Module.taking (m : Module) (p : Packet) (g : Nat) : LinkUse :=
  { port := g, cls := p.cls, hop := 0, own := min p.flits (m.credits g p.cls 0).1, shared := p.flits - min p.flits (m.credits g p.cls 0).1 }

/-- A packet both of whose minimal routes are closed leaves by the row peer that has the most credits. -/
theorem execDetour_leaves {p : Packet} {g : Nat}
    (hp : s.md.outbox.find? (fun p => p.cls == s.ev.cls && p.seq == s.ev.seq && p.dst == s.ev.src && p.route.isNone) = some p)
    (hd : p.dst ≠ s.md.number) (hclosed : ∀ r ∈ s.md.minimal p.dst, s.md.open_ p r = false) (ha : s.md.announce = [] ∨ p.cls = cMGT)
    (h : s.md.Detours p s.ev.index g) : execDetour s = .next (s.detoured p s.ev.index) := by
  have hbest : s.md.bestPeer p = (s.ev.index, s.md.creditSum g p.cls) := h.best
  have hblocked : (s.md.minimal p.dst).all (fun r => !s.md.open_ p r) = true := List.all_eq_true.2 fun r hr => by rw [hclosed r hr]; rfl
  rw [execDetour_eq hp, hbest, hblocked, if_neg]
  rintro (h1 | h2 | h3 | h4 | ⟨h5, h6⟩)
  · exact hd h1
  · cases h2
  · exact Nat.not_le.2 h3 h.fits
  · exact h4 rfl
  · exact ha.elim h5 h6

/-- A request that leaves stays in the outbox with its route, any other packet does not; its flits hold credits on the first link. -/
theorem State.detoured_completes {p : Packet} {i g : Nat} (hmem : p ∈ s.md.outbox) (hlit : s.md.litPort i = some g) :
    SameMemory s (s.detoured p i) ∧ (p.cls = cREQ → { p with route := some [i, p.dst] } ∈ (s.detoured p i).md.outbox) ∧
      (p.cls ≠ cREQ → p ∉ (s.detoured p i).md.outbox) ∧ s.md.taking p g ∈ (s.detoured p i).md.links := by
  have hdepart : s.md.depart p [i, p.dst] =
      ({ s.md with links := s.md.links ++ [s.md.taking p g] }, if p.cls = cREQ then [{ p with route := some [i, p.dst] }] else []) := by
    rw [Module.depart, List.headD_cons, hlit]
    rfl
  rw [State.detoured, State.modMd_md, hdepart]
  refine ⟨s.modMd_sameMemory _, fun hc => ?_, fun hc hin => ?_, List.mem_append_right _ (List.mem_singleton_self _)⟩
  · refine List.mem_flatMap.2 ⟨p, hmem, ?_⟩
    rw [if_pos (beq_self_eq_true p), if_pos hc]
    exact List.mem_singleton_self _
  · obtain ⟨q, -, hq⟩ := List.mem_flatMap.1 hin
    by_cases hqp : (q == p) = true
    · rw [if_pos hqp, if_neg hc] at hq
      cases hq
    · rw [if_neg hqp] at hq
      exact hqp (beq_iff_eq.2 (List.mem_singleton.1 hq).symm)

theorem Module.taking_flits (m : Module) (p : Packet) (g : Nat) : (m.taking p g).own + (m.taking p g).shared = p.flits :=
  Nat.add_sub_of_le (Nat.min_le_left _ _)

end Sys2Proof.Machine
end

section

open Sys2Proof.Machine

/-- Settles O44: what arrives is one lemma for each of R123's outcomes and for each way in which an accepted packet is taken; every other event is one
lemma of its own. -/
theorem packetEventsComplete : Obligations.PacketEventsComplete := by
  unfold Obligations.PacketEventsComplete
  intro s
  dsimp only
  refine ⟨?stale, ?notForMe, ?unannounced, ?announces, ?accepted, ?resent, ?changes, rfl, ?fails, ?detours⟩
  case stale => exact fun h => ⟨_, execPacketArrival_stale h, s.countAt_counts s.ev.id 5⟩
  case notForMe => exact fun h hme => ⟨_, execPacketArrival_notForMe h hme, s.countAt_counts s.ev.id 6⟩
  case unannounced => exact fun h hme hk => ⟨_, execPacketArrival_unannounced h hme hk, s.countAt_counts s.ev.id 7⟩
  case announces => exact fun hk h hne hme => ⟨_, execPacketArrival_announces h hme hk hne, s.announced_completes s.ev _⟩
  case accepted =>
    intro hinc hme
    have haccept : exec .packetArrival s = .next (s.accept s.ev) := execPacketArrival_accepts hinc hme
    refine ⟨fun hc => ?requests, fun p hc hk hl hp => ?data, fun hc hk => ?invalidation, fun h0 h1 h2 he hlt => ?ordered⟩
    case requests =>
      have htake : s.accept s.ev = s.takeRequest s.ev := if_pos hc
      exact ⟨fun hr h1 h2 h3 => ⟨_, haccept, htake.trans (State.takeRequest_new hr h1 h2 h3)⟩,
        fun x a hr ha h1 h2 h3 => ⟨_, haccept.trans (congrArg _ (htake.trans (State.takeRequest_repeated hr ha h1 h2 h3))), s.sendAgain_sends s.ev a⟩⟩
    case data =>
      have htake : s.accept s.ev = s.dataArrives 1 s.ev := by
        rw [State.accept, if_neg (by rw [hc]; decide), if_pos hc, State.takeAnswer, if_pos hk]
      exact ⟨_, haccept.trans (congrArg _ htake), State.dataArrives_installs hp hl 1⟩
    case invalidation =>
      refine ⟨_, haccept, ?_⟩
      rw [State.accept, if_neg (by rw [hc]; decide), if_neg (by rw [hc]; decide), if_pos hc, if_neg (by rw [hk]; decide)]
      rfl
    case ordered =>
      have htake : s.accept s.ev = s.takeOrdered s.ev := State.accept_ordered h0 h1 h2
      have hturn (hseq : s.ev.seq = s.wanted s.ev) : exec .packetArrival s = .next ((s.pastFlow s.ev).deliver s.ev) :=
        haccept.trans (congrArg _ (htake.trans (State.takeOrdered_inTurn he hseq)))
      refine ⟨fun hseq hk => ⟨_, hturn hseq, ?_⟩, fun hseq h13 h12 => ⟨_, hturn hseq, ?_⟩,
        fun hgt hlt => ⟨_, haccept, htake.trans (State.takeOrdered_ahead he hgt hlt)⟩⟩
      · rw [State.deliver, if_neg (by rw [hk]; decide), if_pos hk]
        refine ⟨sameMemory_of_eq rfl rfl, fun p => ?_⟩
        exact List.mem_filter.trans (and_congr_right fun _ => decide_eq_true_iff)
      · rw [State.deliver, if_neg h12, if_neg h13]
        exact ⟨sameMemory_of_eq rfl rfl, rfl, rfl⟩
  case resent => exact fun p hp => execRequestResend_completes hp
  case changes => exact execIncarnationChange_completes
  case fails => exact execLinkPortFailure_completes
  case detours =>
    intro p g hp hd hclosed ha hrow hne hnd hlit hfits hmost
    have hdet : s.md.Detours p s.ev.index g := ⟨(s.md.mem_rowPeers _ _).2 ⟨hrow, hne, hnd⟩, hlit, hfits, fun j h hj hp =>
      have ⟨h1, h2, h3⟩ := (s.md.mem_rowPeers _ _).1 hj
      hmost j h h1 h2 h3 hp⟩
    obtain ⟨hmem, hreq, hother, hlink⟩ := State.detoured_completes (List.mem_of_find?_eq_some hp) hlit
    exact ⟨_, execDetour_leaves hp hd hclosed ha hdet, hmem, hreq, hother, _, hlink, rfl, rfl, s.md.taking_flits p g⟩

end

section
/-! PROOF. Translation walks (O42; R131, R409, R412, R420). -/

namespace Sys2Proof.Machine

variable {s : State} {u : Task} {w : Walk}

/-! ## Starting a walk (R131, R409) -/

/-- The walk that a miss starts when none in flight serves its page. -/
def State.newWalk (s : State) (key page : Nat) : Walk :=
  let v := page / 2 ^ 26
  let region := page / 2 ^ 24 % 4
  let off := page % 2 ^ 24 * 2 ^ 16
  let host : Bool := (s.vi v).assist / 2 % 2 == 1
  { tag := s.newTag, vi := v, region := region, offset := off, wps := [key], host := host, read := if host then none else (s.pageWalk v region off).reading }

/-- Whether a walk serves the page of a park key. -/
def Walk.servesPage (page : Nat) (w : Walk) : Bool := w.serves (page / 2 ^ 26) (page / 2 ^ 24 % 4) (page % 2 ^ 24 * 2 ^ 16)

theorem State.hostEvent_walks (s : State) (e : HEvent) : (s.hostEvent e).md.walks = s.md.walks := by
  unfold State.hostEvent
  rw [State.modMd_md]
  split <;> rfl

theorem State.hostEvent_sameMemory (s : State) (e : HEvent) : SameMemory s (s.hostEvent e) := s.modMd_sameMemory _

/-- The state with a task in the walks that serve its page. -/
def State.joinWalk (s : State) (key page : Nat) : State :=
  s.modMd (fun m => { m with walks := modWhere (Walk.servesPage page) (fun (w : Walk) => { w with wps := w.wps ++ [key] }) m.walks })

/-- The state with a walk of its own for a task. -/
def State.addWalk (s : State) (key page : Nat) : State :=
  s.modMd (fun m => { m with walks := m.walks ++ [s.newWalk key page], nextTag := (m.nextTag + 1) % 65536 })

theorem State.startWalk_eq (s : State) (key page : Nat) : s.startWalk key page =
    if s.md.walks.any (Walk.servesPage page) then s.joinWalk key page
    else if (s.newWalk key page).host then
      (s.addWalk key page).hostEvent { kind := 3, vi := page / 2 ^ 26, d1 := dw (page / 2 ^ 24 % 4 * 2 ^ 52 + page % 2 ^ 24 * 2 ^ 16), d2 := dw s.newTag }
    else s.addWalk key page := rfl

theorem State.startWalk_joins {page : Nat} (hw : w ∈ s.md.walks) (hserves : w.servesPage page = true) (key : Nat) :
    SameMemory s (s.startWalk key page) ∧ { w with wps := w.wps ++ [key] } ∈ (s.startWalk key page).md.walks := by
  rw [State.startWalk_eq, if_pos (List.any_eq_true.2 ⟨w, hw, hserves⟩)]
  exact ⟨s.modMd_sameMemory _, List.mem_map.2 ⟨w, hw, if_pos hserves⟩⟩

theorem State.startWalk_starts {page : Nat} (hnone : s.md.walks.any (Walk.servesPage page) = false) (key : Nat) :
    SameMemory s (s.startWalk key page) ∧ s.newWalk key page ∈ (s.startWalk key page).md.walks := by
  have hadd : SameMemory s (s.addWalk key page) ∧ s.newWalk key page ∈ (s.addWalk key page).md.walks :=
    ⟨s.modMd_sameMemory _, List.mem_append_right _ (List.mem_singleton_self _)⟩
  rw [State.startWalk_eq, hnone, if_neg Bool.false_ne_true]
  split
  · exact ⟨hadd.1.trans (State.hostEvent_sameMemory _ _), (State.hostEvent_walks _ _).symm ▸ hadd.2⟩
  · exact hadd

theorem execTranslationWalk_starts {page : Nat} (hu : s.task? s.ev.key = some u) (hp : s.walkWanted u = some page)
    (h : s.md.walks.any (Walk.servesPage page) = true ∨ ((s.vi (page / 2 ^ 26)).assist / 2 % 2 == 1) = true ∨
      (s.walkerFree page = true ∧ ∀ p, s.pageWalk (page / 2 ^ 26) (page / 2 ^ 24 % 4) (page % 2 ^ 24 * 2 ^ 16) ≠ .park p)) :
    execTranslationWalk s = .next (s.startWalk u.key page) := by
  unfold execTranslationWalk
  rw [hu]
  dsimp only
  rw [hp]
  dsimp only
  by_cases hjoin : (s.md.walks.any (Walk.servesPage page) || (s.vi (page / 2 ^ 26)).assist / 2 % 2 == 1) = true
  · exact if_pos hjoin
  · obtain ⟨hfree, hnow⟩ := (h.imp_right fun h => h.resolve_left fun hh => hjoin (by rw [hh, Bool.or_true])).resolve_left
      fun hh => hjoin (by rw [hh, Bool.true_or])
    refine (if_neg hjoin).trans ?_
    rw [hfree, if_neg (by decide)]
    cases hr : s.pageWalk (page / 2 ^ 26) (page / 2 ^ 24 % 4) (page % 2 ^ 24 * 2 ^ 16) with
    | park p => exact absurd hr (hnow p)
    | ok => rfl
    | trap => rfl
    | freeze => rfl

/-! ## Waking the tasks that wait (R302) -/

/-- A fold reaches what the step of one of its elements reaches, from what every step keeps. -/
theorem foldl_reaches {α β : Type} {p q : β → Prop} {f : β → α → β} {l : List α} {a : α} (ha : a ∈ l) (hp : ∀ b c, p b → p (f b c))
    (hq : ∀ b c, q b → q (f b c)) (hpq : ∀ b, p b → q (f b a)) {b : β} (hb : p b) : q (l.foldl f b) := by
  obtain ⟨l1, l2, rfl⟩ := List.append_of_mem ha
  rw [List.foldl_append, List.foldl_cons]
  exact foldl_keeps q f l2 _ (hpq _ (foldl_keeps p f l1 b hb hp)) hq

theorem State.mem_tasks_of_task? {k : Nat} (h : s.task? k = some u) : u ∈ s.tasks := by
  rw [State.mem_tasks]
  unfold State.task? at h
  split at h
  · next hc =>
    cases h
    exact .inl ⟨rfl, hc.1⟩
  · exact .inr (List.mem_of_find?_eq_some h)

/-- The task under a key is `u`, whatever its place in the schedule. -/
def State.Still (s : State) (k : Nat) (u : Task) : Prop := ∃ status sch, s.task? k = some (u.placed status sch)

/-- The task under a key is `u`, in the ready queue. -/
def State.Readied (s : State) (k : Nat) (u : Task) : Prop := ∃ sch, s.task? k = some (u.placed .ready sch)

theorem State.Still.readied {k : Nat} (h : s.Still k u) : (s.ready k).Readied k u := by
  obtain ⟨status, sch, h⟩ := h
  have hready := State.task?_ready h
  exact ⟨_, hready⟩

theorem State.Readied.still {k : Nat} (h : s.Readied k u) : s.Still k u := ⟨.ready, h⟩

theorem State.Readied.ready {k : Nat} (h : s.Readied k u) (j : Nat) : (s.ready j).Readied k u := by
  by_cases hjk : j = k
  · exact hjk ▸ h.still.readied
  · exact h.imp fun _ h => (State.task?_ready_other hjk).trans h

theorem State.Still.ready {k : Nat} (h : s.Still k u) (j : Nat) : (s.ready j).Still k u := by
  by_cases hjk : j = k
  · exact hjk ▸ h.readied.still
  · exact h.imp fun _ h => h.imp fun _ h => (State.task?_ready_other hjk).trans h

/-- A parked task whose park meets the test is ready, and otherwise as it was. -/
theorem State.readied_wake {k : Nat} {park : Park} {p : Task → Park → Bool} (h : s.task? k = some u) (hs : u.status = .parked park) (hp : p u park = true) :
    (s.wake p).Readied k u := by
  have hmem : u ∈ s.tasks.filter (fun t => match t.status with | .parked w => p t w | _ => false) :=
    List.mem_filter.2 ⟨State.mem_tasks_of_task? h, by rw [hs]; exact hp⟩
  refine foldl_reaches (p := fun x : State => x.Still k u) (q := fun x : State => x.Readied k u) hmem (fun x v hx => hx.ready v.key)
    (fun x v hx => hx.ready v.key) (fun x hx => ?_) ⟨u.status, u.sch, h⟩
  rw [State.task?_key h]
  exact hx.readied

theorem State.wake_md (s : State) (p : Task → Park → Bool) : (s.wake p).md = s.md :=
  foldl_keeps (fun x : State => x.md = s.md) _ _ _ rfl fun x v hx => (x.ready_md v.key).trans hx

/-! ## A walk that returns (R131, R420) -/

theorem Tile.mem_cacheLeaf (t : Tile) (e : TlbEntry) : e ∈ (t.cacheLeaf e).tlb := List.mem_append_right _ (List.mem_singleton_self _)

/-- A leaf enters the translation cache of a task's tile. -/
def State.cacheLeafFor (e : TlbEntry) (s : State) (u : Task) : State := s.modTile (s.taskGt u) (fun y => y.cacheLeaf e)

theorem State.cacheLeafFor_kept {e : TlbEntry} {g : Nat} (h : e ∈ (s.tile g).tlb) (u : Task) : e ∈ ((s.cacheLeafFor e u).tile g).tlb := by
  rw [State.cacheLeafFor, State.tile_modTile]
  split
  · exact Tile.mem_cacheLeaf _ e
  · exact h

/-- The state with a leaf in the caches of the tiles of a walk's tasks. -/
def State.cacheLeafOf (s : State) (w : Walk) (e : TlbEntry) : State := (s.tasks.filter (fun t => w.wps.contains t.key)).foldl (State.cacheLeafFor e) s

theorem State.cacheLeafOf_frame (s : State) (w : Walk) (e : TlbEntry) : s.cacheLeafOf w e = { s with tiles := (s.cacheLeafOf w e).tiles } :=
  foldl_keeps (fun x : State => x = { s with tiles := x.tiles }) _ _ _ rfl fun x u hx => by
    rw [State.cacheLeafFor, State.modTile, hx]

theorem State.cacheLeafOf_leaf {e : TlbEntry} (hu : u ∈ s.tasks) (hw : u.key ∈ w.wps) : e ∈ ((s.cacheLeafOf w e).tile (s.taskGt u)).tlb := by
  have hmem : u ∈ s.tasks.filter (fun t => w.wps.contains t.key) := List.mem_filter.2 ⟨hu, List.contains_iff_mem.2 hw⟩
  refine foldl_reaches (f := State.cacheLeafFor e) (p := fun x : State => x.taskGt u = s.taskGt u) (q := fun x : State => e ∈ (x.tile (s.taskGt u)).tlb) hmem
    (fun x v hx => hx) (fun x v hx => State.cacheLeafFor_kept hx v) (fun x hx => ?_) rfl
  rw [State.cacheLeafFor, hx, State.tile_modTile, if_pos rfl]
  exact Tile.mem_cacheLeaf _ e

/-- The reading of a walk reaches those who wait for it. -/
structure State.Delivered (s t : State) (w : Walk) (r : Option (DWord × Nat × Nat)) : Prop where
  memory : SameMemory s t
  ready : ∀ k u p, k ∈ w.wps → s.task? k = some u → u.status = .parked (.walk p) → ∃ y, t.task? k = some y ∧ y.status = .ready ∧ y.pc = u.pc ∧ y.g = u.g
  leaf : ∀ leaf base size, r = some (leaf, base, size) → w.dropped = false →
    ∀ u ∈ s.tasks, u.key ∈ w.wps → ⟨w.vi, w.region, base, size, leaf⟩ ∈ (t.tile (s.taskGt u)).tlb
  fault : r = none → ∃ y ∈ t.md.walks, y.tag = w.tag ∧ y.result = some none ∧ y.wps = w.wps

/-- The state with walk `w` out of the way, or kept with its reading. -/
def State.walkRead (s : State) (w : Walk) (r : Option (DWord × Nat × Nat)) : State :=
  let keep := match r with | some _ => w.dropped | none => true
  let rest := s.md.walks.filter (fun x => x.tag ≠ w.tag)
  s.modMd (fun m => { m with walks := if keep then rest ++ [{ w with result := some r }] else rest })

/-- The state with the reading of walk `w` in the translation caches that it belongs in. -/
def State.leafCached (s : State) (w : Walk) (r : Option (DWord × Nat × Nat)) : State :=
  match r with
  | some (leaf, base, size) => if w.dropped then s.walkRead w r else (s.walkRead w r).cacheLeafOf w ⟨w.vi, w.region, base, size, leaf⟩
  | none => s.walkRead w r

/-- The parks that a walk's return ends. -/
def Walk.ends (w : Walk) (t : Task) (p : Park) : Bool :=
  (w.wps.contains t.key && match p with | .walk _ => true | _ => false) || match p with | .requests _ _ => true | _ => false

theorem State.deliverWalk_eq (s : State) (w : Walk) (r : Option (DWord × Nat × Nat)) : s.deliverWalk w r = (s.leafCached w r).wake w.ends := by
  cases r <;> rfl

theorem State.leafCached_frame (s : State) (w : Walk) (r : Option (DWord × Nat × Nat)) :
    s.leafCached w r = { s with tiles := (s.leafCached w r).tiles, md := (s.walkRead w r).md } := by
  unfold State.leafCached
  split
  · split
    · rfl
    · rw [State.cacheLeafOf_frame]
      rfl
  · rfl

theorem State.leafCached_task? (s : State) (w : Walk) (r : Option (DWord × Nat × Nat)) (k : Nat) : (s.leafCached w r).task? k = s.task? k := by
  rw [s.leafCached_frame]
  rfl

theorem State.delivered_deliverWalk (s : State) (w : Walk) (r : Option (DWord × Nat × Nat)) : s.Delivered (s.deliverWalk w r) w r := by
  rw [State.deliverWalk_eq]
  have hframe := s.leafCached_frame w r
  constructor
  case memory =>
    refine SameMemory.trans ?_ (State.wake_sameMemory _ _)
    rw [hframe]
    exact sameMemory_of_eq rfl rfl
  case ready =>
    intro k u p hk hu hs
    have hends : w.ends u (.walk p) = true := by rw [Walk.ends, State.task?_key hu, List.contains_iff_mem.2 hk]; rfl
    obtain ⟨sch, hy⟩ := State.readied_wake ((s.leafCached_task? w r k).trans hu) hs hends
    exact ⟨_, hy, rfl, rfl, rfl⟩
  case leaf =>
    rintro leaf base size rfl hd u hu hw
    rw [State.tile, State.wake_tiles, State.leafCached, hd, if_neg (by decide)]
    exact State.cacheLeafOf_leaf (s := s.walkRead w (some (leaf, base, size))) hu hw
  case fault =>
    rintro rfl
    rw [State.wake_md]
    exact ⟨{ w with result := some none }, List.mem_append_right _ (List.mem_singleton_self _), rfl, rfl, rfl⟩

theorem execWalkComplete_delivers {r : Option (DWord × Nat × Nat)} (hw : s.md.walks.find? (fun w => w.tag == s.ev.id && w.result.isNone) = some w)
    (hr : w.read = some r) : execWalkComplete s = .next (s.deliverWalk w r) := by
  unfold execWalkComplete
  rw [hw]
  dsimp only
  rw [hr]

theorem State.hostWalk_found {tag : Nat} (hw : s.md.walks.find? (fun w => w.host && w.tag == tag % 65536 && w.result.isNone) = some w) :
    s.hostWalk tag = s.deliverWalk w (hostLeaf s.md.hleaf w.offset) := by
  unfold State.hostWalk
  rw [hw]

theorem State.hostWalk_ignored {tag : Nat} (hw : s.md.walks.find? (fun w => w.host && w.tag == tag % 65536 && w.result.isNone) = none) : s.hostWalk tag = s := by
  unfold State.hostWalk
  rw [hw]

end Sys2Proof.Machine
end

section
/-! PROOF. What the hardware's own writes leave of the tasks and the VIs (O42; R99, R377, R378). -/

namespace Sys2Proof.Machine

variable {s t : State} {u : Task} {k : Nat}

/-- Two states have the same tasks and the same VIs. -/
structure State.SameTasks (s t : State) : Prop where
  cur : t.cur = s.cur
  others : t.others = s.others
  vis : t.vis = s.vis

namespace State.SameTasks

theorem refl (s : State) : s.SameTasks s := ⟨rfl, rfl, rfl⟩

theorem trans {x : State} (h : s.SameTasks t) (h' : t.SameTasks x) : s.SameTasks x :=
  ⟨h'.cur.trans h.cur, h'.others.trans h.others, h'.vis.trans h.vis⟩

theorem foldl {α : Type} (f : State → α → State) (hf : ∀ (x : State) a, x.SameTasks (f x a)) (l : List α) (s : State) : s.SameTasks (l.foldl f s) :=
  foldl_keeps (s.SameTasks ·) f l s (.refl s) fun x a hx => hx.trans (hf x a)

theorem modMd (s : State) (f : Module → Module) : s.SameTasks (s.modMd f) := ⟨rfl, rfl, rfl⟩

theorem put (s : State) (a : Nat) (bs : List Byte) (marks : List Bool) : s.SameTasks (s.put a bs marks) := ⟨rfl, rfl, rfl⟩

theorem setGran (s : State) (gt i : Nat) (g : Gran) : s.SameTasks (s.setGran gt i g) := ⟨rfl, rfl, rfl⟩

theorem task? (h : s.SameTasks t) (k : Nat) : t.task? k = s.task? k := State.task?_congr h.cur h.others k

theorem vi (h : s.SameTasks t) (v : Nat) : t.vi v = s.vi v := State.vi_congr h.vis v

end State.SameTasks

/-! ## Writes of a place -/

theorem State.sramWrite1_sameTasks (s : State) (ag vd gt : Nat) (own : List (Nat × Nat)) (off : Nat) (bs : List Byte) (marks : List Bool) :
    s.SameTasks (s.sramWrite1 ag vd gt own off bs marks).s := by
  unfold State.sramWrite1
  dsimp only
  split
  · exact .refl s
  · split
    · exact (SameTasks.put s _ _ _).trans ((SameTasks.put _ _ _ _).trans (.setGran _ _ _ _))
    · split
      · exact .put s _ _ _
      · exact .refl s

theorem State.sramWrite_sameTasks (s : State) (ag vd gt : Nat) (own : List (Nat × Nat)) (off : Nat) (bs : List Byte) (marks : List Bool) :
    s.SameTasks (s.sramWrite ag vd gt own off bs marks).s :=
  foldl_keeps (fun w : Wr => s.SameTasks w.s) _ _ _ (.refl s) fun _ _ hw => hw.trans (State.sramWrite1_sameTasks _ _ _ _ _ _ _ _)

theorem State.storeWords_sameTasks (s : State) (gt vd base : Nat) (ws : List (Nat × DWord)) : s.SameTasks (s.storeWords gt vd base ws).1 :=
  foldl_keeps (fun r : State × List DWord => s.SameTasks r.1) _ _ _ (.refl s) fun _ _ hr => hr.trans (State.sramWrite_sameTasks _ _ _ _ _ _ _ _)

theorem State.parity_sameTasks (s : State) (mma req : Nat) (word : Option DWord) (old new : Nat) : s.SameTasks (s.parity mma req word old new) :=
  ⟨rfl, rfl, rfl⟩

theorem State.hbmWrite_sameTasks (s : State) (req : Nat) (word : Option DWord) (mma : Nat) (bs : List Byte) (marks : List Bool) :
    s.SameTasks (s.hbmWrite req word mma bs marks) := by
  unfold State.hbmWrite
  dsimp only
  refine SameTasks.trans ?_ (SameTasks.foldl _ (fun x n => ?_) _ _)
  · split
    · exact .put s _ _ _
    · exact (SameTasks.put s _ _ _).trans (.put _ _ _ _)
  · split
    · exact x.parity_sameTasks _ _ _ _ _
    · exact .refl x

theorem State.dropOwn_sameTasks (s : State) (mma : Nat) : s.SameTasks (s.dropOwn mma) := by
  unfold State.dropOwn
  split
  · exact .modMd s _
  · exact ((SameTasks.modMd s _).trans (.modMd _ _)).trans (.modMd _ _)

theorem State.homePut_sameTasks (s : State) (req : Nat) (word : Option DWord) (mma : Nat) (bs : List Byte) (marks : List Bool) :
    s.SameTasks (s.homePut req word mma bs marks).s := by
  unfold State.homePut
  split
  · exact .refl s
  · exact (SameTasks.foldl _ (fun x y => x.dropOwn_sameTasks y) _ s).trans (State.hbmWrite_sameTasks _ _ _ _ _ _)

theorem State.sendThrough_sameTasks (s : State) (q : Option Asker) (gt tag m mma : Nat) (bs : List Byte) (marks : List Bool) :
    s.SameTasks (s.sendThrough q gt tag m mma bs marks).1 := by
  refine foldl_keeps (fun r : State × List Nat => s.SameTasks r.1) _ _ _ (SameTasks.foldl _ (fun x _ => .modMd x _) _ s) fun r c hr => hr.trans ?_
  exact ⟨rfl, rfl, rfl⟩

theorem State.writeLoc_sameTasks (s : State) (w : Master) (ag vd : Nat) (own : List (Nat × Nat)) (l : Loc) (bs : List Byte) (marks : List Bool) :
    s.SameTasks (s.writeLoc w ag vd own l bs marks).s := by
  unfold State.writeLoc
  dsimp only
  split
  · exact s.sramWrite_sameTasks _ _ _ _ _ _ _
  · exact s.homePut_sameTasks _ _ _ _ _
  · split
    · exact s.homePut_sameTasks _ _ _ _ _
    · split
      · exact .refl s
      · split
        · exact (SameTasks.foldl _ (fun x _ => .modMd x _) _ s).trans (State.hbmWrite_sameTasks _ _ _ _ _ _)
        · split
          · exact s.sendThrough_sameTasks _ _ _ _ _ _ _
          · exact SameTasks.foldl _ (fun x _ => .modMd x _) _ s
  · exact .refl s

/-! ## Accesses of the hardware for a VI -/

theorem State.hwWrite_sameTasks {v a : Nat} {ds : List DWord} (h : s.hwWrite v a ds = .ok t) : s.SameTasks t := by
  induction ds generalizing s a with
  | nil =>
    cases h
    exact .refl _
  | cons d ds ih =>
    unfold State.hwWrite at h
    split at h
    · split at h
      · cases h
      · dsimp only at h
        split at h
        · cases h
        · cases h
        · split at h
          · cases h
          · exact (s.writeLoc_sameTasks _ _ _ _ _ _ _).trans (ih h)
    all_goals cases h

theorem State.hwStatus_sameTasks {v a st : Nat} (h : s.hwStatus v a st = .ok t) : s.SameTasks t := by
  unfold State.hwStatus at h
  split at h
  · cases h
  · split at h
    · exact State.hwWrite_sameTasks h
    all_goals cases h

theorem State.hwPut_sameTasks (s : State) (v fuel a : Nat) (bs : List Byte) : s.SameTasks (s.hwPut v fuel a bs) := by
  induction fuel generalizing s a bs with
  | zero =>
    unfold State.hwPut
    exact .refl s
  | succ n ih =>
    cases bs with
    | nil =>
      unfold State.hwPut
      exact .refl s
    | cons b bs =>
      unfold State.hwPut
      dsimp only
      refine SameTasks.trans ?_ (ih _ _ _)
      split
      · exact s.writeLoc_sameTasks _ _ _ _ _ _ _
      · exact .refl s

/-- An event with an access that need not wait happens, whether the access can be made or not. -/
theorem State.whenHw_completes {v : Nat} {name : String} {r : Chk State} {x : State} (hr : ∀ p, r ≠ .park p) (hok : ∀ y, r = .ok y → x.SameTasks y) :
    Completes (s.whenHw v name r x) (x.SameTasks ·) := by
  cases r with
  | ok y => exact .next (hok y rfl)
  | park p => exact absurd rfl (hr p)
  | trap c => exact .next (.refl x)
  | freeze c => exact .next (.refl x)

/-! ## What leaves the VIs alone -/

theorem State.writeLines_vis (s : State) (k : Nat) (ls : List Nat) : (s.writeLines k ls).vis = s.vis := by
  unfold State.writeLines
  split
  · rfl
  · exact (State.modTask_vis _ _ _).trans ((State.storeWords_sameTasks _ _ _ _ _).vis.trans (State.storeWords_sameTasks _ _ _ _ _).vis)

theorem State.dropLines_vis (s : State) (k : Nat) (ls : List Nat) : (s.dropLines k ls).vis = s.vis := by
  unfold State.dropLines
  split
  · rfl
  · exact (State.modTask_vis _ _ _).trans (State.writeLines_vis _ _ _)

theorem State.makeRoom_vis (s : State) (gt k n : Nat) : (s.makeRoom gt k n).vis = s.vis := by
  refine foldl_keeps (fun x : State => x.vis = s.vis) _ _ _ rfl fun x v hx => Eq.trans ?_ hx
  split
  · rfl
  · exact x.dropLines_vis _ _

theorem State.fillLines_vis (s : State) (k : Nat) (ls : List Nat) : (s.fillLines k ls).vis = s.vis := by
  unfold State.fillLines
  split
  · rfl
  · dsimp only
    split
    · rfl
    · refine (State.modTask_vis _ _ _).trans ?_
      split
      · exact s.makeRoom_vis _ _ _
      · rfl

theorem State.onLines_vis (s : State) (k : Nat) (ls : List Nat) (f : Task → Task) : (s.onLines k ls f).vis = s.vis := by
  unfold State.onLines
  split
  · rfl
  · dsimp only
    split
    · exact (State.modTask_vis _ _ _).trans (s.fillLines_vis k ls)
    · exact (State.dropLines_vis _ _ _).trans ((State.modTask_vis _ _ _).trans (s.fillLines_vis k ls))

theorem State.dropAll_vis (s : State) (k : Nat) : (s.dropAll k).vis = s.vis := by
  unfold State.dropAll
  split
  · rfl
  · exact (State.modTask_vis _ _ _).trans (State.dropLines_vis _ _ _)

theorem State.enterTrap_vis (s : State) (k : Nat) (x : TrapInfo) (epc iword : Nat) (st : TaskStatus) : (s.enterTrap k x epc iword st).vis = s.vis := by
  have hstopped : ((s.onLines k [5] (fun t => t.setPc (BitVec.ofNat 56 epc))).dropAll k).vis = s.vis := (State.dropAll_vis _ _).trans (s.onLines_vis _ _ _)
  unfold State.enterTrap
  refine (State.modTask_vis _ _ _).trans ?_
  split
  · exact hstopped
  · exact (State.storeWords_sameTasks _ _ _ _ _).vis.trans hstopped

end Sys2Proof.Machine
end

section
/-! PROOF. Pre-emption (O42; R377, R378). -/

namespace Sys2Proof.Machine

variable {s t : State} {u : Task} {k : Nat} {p q : Task → Prop}

/-! ## A task that stays where it is found -/

/-- The task under a key has a property. -/
def State.HasTask (s : State) (k : Nat) (p : Task → Prop) : Prop := ∃ y, s.task? k = some y ∧ p y

namespace State.HasTask

theorem congr (h : s.HasTask k p) (ht : t.task? k = s.task? k) : t.HasTask k p := by rwa [State.HasTask, ht]

theorem modTask {f : Task → Task} (h : s.HasTask k p) (hk : ∀ y, (f y).key = y.key) (hs : ∀ y, (f y).status = y.status) (hpq : ∀ y, p y → q (f y)) :
    (s.modTask k f).HasTask k q :=
  have ⟨y, hy, hp⟩ := h
  ⟨f y, State.task?_modTask_kept hy (hk y) (hs y), hpq y hp⟩

/-- A task's lines are filled: it is found as before. -/
theorem fillLines (h : s.HasTask k p) (ls : List Nat) : (s.fillLines k ls).HasTask k (fun _ => True) := by
  obtain ⟨u, hu, -⟩ := h
  unfold State.fillLines
  rw [hu]
  dsimp only
  split
  · exact ⟨u, hu, trivial⟩
  · refine HasTask.modTask (p := fun _ => True) ?_ (fun y => ?_) (fun y => ?_) fun _ _ => trivial
    · refine congr ⟨u, hu, trivial⟩ ?_
      split
      · exact s.task?_makeRoom _ k _
      · rfl
    · exact foldl_keeps (fun z : Task => z.key = y.key) _ _ y rfl fun z l hz => (State.fillLine_key _ z l).trans hz
    · exact foldl_keeps (fun z : Task => z.status = y.status) _ _ y rfl fun z l hz => (State.fillLine_status _ z l).trans hz

variable {pc : BitVec 56}

theorem writeLines (h : s.HasTask k (·.pc = pc)) (ls : List Nat) : (s.writeLines k ls).HasTask k (·.pc = pc) := by
  obtain ⟨u, hu, hpc⟩ := h
  unfold State.writeLines
  rw [hu]
  refine HasTask.modTask (p := (·.pc = pc)) ?_ (fun y => y.charge_key _) (fun y => y.charge_status _) fun y hy => (y.charge_pc _).trans hy
  exact congr ⟨u, hu, hpc⟩ ((State.task?_storeWords _ _ _ _ _ k).trans (State.task?_storeWords _ _ _ _ _ k))

/-- The lines of a task leave the register cache: it is found with its PC. -/
theorem dropLines (h : s.HasTask k (·.pc = pc)) (ls : List Nat) : (s.dropLines k ls).HasTask k (·.pc = pc) := by
  have hwritten := h.writeLines
  obtain ⟨u, hu, -⟩ := h
  unfold State.dropLines
  rw [hu]
  refine (hwritten _).modTask (fun y => ?_) (fun y => ?_) fun y hy => ?_
  · dsimp only
    split <;> rfl
  · dsimp only
    split <;> rfl
  · dsimp only
    split
    · exact hy
    · exact hy

theorem dropAll (h : s.HasTask k (·.pc = pc)) : (s.dropAll k).HasTask k (·.pc = pc) := by
  have hdropped := h.dropLines
  obtain ⟨u, hu, -⟩ := h
  unfold State.dropAll
  rw [hu]
  exact (hdropped _).modTask (fun _ => rfl) (fun _ => rfl) fun _ hy => hy

/-- The hardware sets a task's PC, wherever its line is. -/
theorem onLines_setPc (h : s.HasTask k p) (pc : BitVec 56) : (s.onLines k [5] (fun t => t.setPc pc)).HasTask k (·.pc = pc) := by
  have hset : ((s.fillLines k [5]).modTask k (fun t => t.setPc pc)).HasTask k (·.pc = pc) :=
    (h.fillLines [5]).modTask (fun _ => rfl) (fun _ => rfl) fun _ _ => rfl
  obtain ⟨u, hu, -⟩ := h
  unfold State.onLines
  rw [hu]
  dsimp only
  split
  · exact hset
  · exact hset.dropLines [5]

end State.HasTask

/-- A task as a trap leaves it. -/
def Task.stopped (st : TaskStatus) (order : Nat) (u : Task) : Task :=
  { u with status := st, snaps := [], sch := { u.sch with trapOrder := order, served := false, glaze := none, again := none, why := none } }

/-- The state with a trapped task's lines and its record written (R374). -/
def State.trapRecorded (s : State) (k : Nat) (x : TrapInfo) (epc iword : Nat) : State :=
  let s1 := (s.onLines k [5] (fun t => t.setPc (BitVec.ofNat 56 epc))).dropAll k
  match s1.task? k with
  | none => s1
  | some t => (s1.storeWords (s1.taskGt t) t.vdie (aOff t.wp.toNat) (trapRecord t.depth x epc iword 0)).1

theorem State.enterTrap_eq (s : State) (k : Nat) (x : TrapInfo) (epc iword : Nat) (st : TaskStatus) :
    s.enterTrap k x epc iword st = { (s.trapRecorded k x epc iword).modTask k (Task.stopped st s.clock) with clock := s.clock + 1 } := rfl

theorem State.HasTask.trapRecorded (h : s.HasTask k p) (x : TrapInfo) (epc iword : Nat) :
    (s.trapRecorded k x epc iword).HasTask k (·.pc = BitVec.ofNat 56 epc) := by
  obtain ⟨u, hu, hpc⟩ := (h.onLines_setPc (BitVec.ofNat 56 epc)).dropAll
  unfold State.trapRecorded
  dsimp only
  rw [hu]
  exact ⟨u, (State.task?_storeWords _ _ _ _ _ k).trans hu, hpc⟩

/-- A trap leaves its task with the PC that it resumes at, in the status given. -/
theorem State.HasTask.enterTrap {st : TaskStatus} (h : s.HasTask k p) (x : TrapInfo) (epc iword : Nat) (hst : st ≠ .absent) :
    (s.enterTrap k x epc iword st).HasTask k (fun y => y.pc = BitVec.ofNat 56 epc ∧ y.status = st) := by
  obtain ⟨u, hu, hpc⟩ := h.trapRecorded x epc iword
  rw [State.enterTrap_eq]
  exact ⟨u.stopped st s.clock, State.task?_modTask (f := Task.stopped st s.clock) hu (State.task?_key hu : u.key = k) hst, hpc, rfl⟩

/-! ## Saving a task (R378) -/

theorem State.modCbs_sameTasks (s : State) (gt : Nat) (f : CBuf → CBuf) : s.SameTasks (s.modCbs gt f) := ⟨rfl, rfl, rfl⟩

theorem State.dropQueued_sameTasks (s : State) (u : Task) : s.SameTasks (s.dropQueued u) := by
  unfold State.dropQueued
  dsimp only
  refine SameTasks.trans (t := s.modTile _ _) ⟨rfl, rfl, rfl⟩ (SameTasks.foldl _ (fun x c => ?_) _ _)
  refine (x.modCbs_sameTasks _ _).trans (SameTasks.foldl _ (fun z g => ?_) _ _)
  exact ⟨rfl, rfl, rfl⟩

/-- A block of tile `gt` is written to the save area at `a` of VI `v` (R379). -/
def State.saveBlock (v gt a : Nat) (s : State) (n : Nat) : State :=
  let img := imageOf (s.blk gt n)
  s.hwPut v (img.length / 64 + 2) (a + 576 + 17600 * n) img

/-- A save writes a head and the blocks, notes in the task's schedule what was saved, and drops the commands. -/
theorem State.saveTask_eq (s : State) (u : Task) (a : Nat) : ∃ head f, s.saveTask u a =
    ((s.savedBlocks u).foldl (State.saveBlock u.vi (s.taskGt u) a) ((s.hwPut u.vi 16 a head).modTask u.key (·.modSch f))).dropQueued u := ⟨_, _, rfl⟩

theorem State.saveTask_keeps {u : Task} (h : s.HasTask u.key p) (a : Nat) :
    (s.saveTask u a).vis = s.vis ∧ (s.saveTask u a).HasTask u.key (fun _ => True) := by
  obtain ⟨head, f, heq⟩ := s.saveTask_eq u a
  have hhead := s.hwPut_sameTasks u.vi 16 a head
  have hblocks (x : State) := (SameTasks.foldl (State.saveBlock u.vi (s.taskGt u) a) (fun y n => y.hwPut_sameTasks _ _ _ _) (s.savedBlocks u) x).trans
    (State.dropQueued_sameTasks _ u)
  have hnoted : ((s.hwPut u.vi 16 a head).modTask u.key (·.modSch f)).HasTask u.key (fun _ => True) :=
    (h.congr (hhead.task? _)).modTask (fun _ => rfl) (fun _ => rfl) fun _ _ => trivial
  rw [heq]
  exact ⟨(hblocks _).vis.trans ((State.modTask_vis _ _ _).trans hhead.vis), hnoted.congr ((hblocks _).task? _)⟩

/-! ## A task that is pre-empted (R378) -/

/-- A task whose register blocks are given up. -/
def Task.unclaimed (u : Task) : Task := { u with hw := { u.hw with claim := setBits u.hw.claim 8 8 0 } }

/-- A pre-empted task as it stays behind, with its asynchronous fault. -/
def Task.saved (async : Option (Nat × DWord) → Option (Nat × DWord)) (u : Task) : Task :=
  u.modSch (fun x => { x with saved := true, reply := none, sending := false, foot := 0, async := async x.async })

/-- The asynchronous fault of a task that is pre-empted: the residue fault of a block that is saved, or the one it has (R378 step 5). -/
def State.residueOf (s : State) (u : Task) (old : Option (Nat × DWord)) : Option (Nat × DWord) :=
  match (s.savedBlocks u).find? (fun n => (s.blk (s.taskGt u) n).corrupt.isSome) with
  | some n => some (0x15, dw (n * 2 ^ 16 + 3 * 2 ^ 12 + ((s.blk (s.taskGt u) n).corrupt.getD 0)))
  | none => old

/-- The state with a task no longer among those that wait for a reserved word. -/
def State.forgetWaiter (s : State) (k : Nat) : State := { s with resv := s.resv.map (fun r => { r with waiters := r.waiters.filter (· ≠ k) }) }

theorem State.forgetWaiter_sameTasks (s : State) (k : Nat) : s.SameTasks (s.forgetWaiter k) := ⟨rfl, rfl, rfl⟩

/-- A task that is saved and has trapped with the code of pre-emption. -/
def State.preemptTrap (s : State) (u : Task) (a word : Nat) : State :=
  ((s.saveTask u a).modTask u.key Task.unclaimed).enterTrap u.key { code := 0x1B, cls := 3 } u.pc.toNat word .preempted

/-- The state with the address of a task's save area in its trap record. -/
def State.preemptNoted (s : State) (u : Task) (a word : Nat) : State :=
  ((s.preemptTrap u a word).storeWords (s.taskGt u) u.vdie (aOff u.wp.toNat) [(0x1428, dw a)]).1

theorem State.preemptTask_eq (s : State) (u : Task) (a : Nat) :
    s.preemptTask u a = ((s.preemptNoted u a (s.wordAtPc u)).modTask u.key (Task.saved (s.residueOf u))).forgetWaiter u.key := rfl

/-- A task is pre-empted where it stands. -/
structure State.Preempted (s t : State) (u : Task) : Prop where
  vis : t.vis = s.vis
  task : t.HasTask u.key (fun y => y.status = .preempted ∧ y.sch.saved = true ∧ y.pc = u.pc)

theorem State.preemptTrap_vis {u : Task} (h : s.HasTask u.key p) (a word : Nat) : (s.preemptTrap u a word).vis = s.vis :=
  (State.enterTrap_vis _ _ _ _ _ _).trans ((State.modTask_vis _ _ _).trans (State.saveTask_keeps h a).1)

theorem State.preemptTrap_task {u : Task} (h : s.HasTask u.key p) (a word : Nat) :
    (s.preemptTrap u a word).HasTask u.key (fun y => y.pc = u.pc ∧ y.status = .preempted) := by
  have hpc : BitVec.ofNat 56 u.pc.toNat = u.pc := (BitVec.ofNat_toNat 56 u.pc).trans (BitVec.setWidth_eq u.pc)
  have hclaim : ((s.saveTask u a).modTask u.key Task.unclaimed).HasTask u.key (fun _ => True) :=
    (State.saveTask_keeps h a).2.modTask (fun _ => rfl) (fun _ => rfl) fun _ _ => trivial
  rw [← hpc]
  exact hclaim.enterTrap _ _ _ nofun

theorem State.preemptNoted_sameTasks (s : State) (u : Task) (a word : Nat) : (s.preemptTrap u a word).SameTasks (s.preemptNoted u a word) :=
  State.storeWords_sameTasks _ _ _ _ _

theorem State.preempted_preemptTask {u : Task} (h : s.HasTask u.key p) (a : Nat) : s.Preempted (s.preemptTask u a) u := by
  have hnoted := s.preemptNoted_sameTasks u a (s.wordAtPc u)
  have htask := (State.preemptTrap_task h a (s.wordAtPc u)).congr (hnoted.task? _)
  have hvis := hnoted.vis.trans (State.preemptTrap_vis h a (s.wordAtPc u))
  rw [State.preemptTask_eq]
  generalize s.preemptNoted u a (s.wordAtPc u) = x at htask hvis
  have hforgot := (x.modTask u.key (Task.saved (s.residueOf u))).forgetWaiter_sameTasks u.key
  have hsaved : (x.modTask u.key (Task.saved (s.residueOf u))).HasTask u.key (fun y => y.status = .preempted ∧ y.sch.saved = true ∧ y.pc = u.pc) :=
    htask.modTask (fun _ => rfl) (fun _ => rfl) fun y hy => ⟨hy.2, rfl, hy.1⟩
  exact ⟨hforgot.vis.trans ((State.modTask_vis _ _ _).trans hvis), hsaved.congr (hforgot.task? _)⟩

/-! ## A request that is served (R377) -/

/-- A task whose domain is being discarded. -/
def Task.discarding (u : Task) : Bool := match u.status with | .parked (.discard _) => true | _ => false

theorem Task.not_discarding {u : Task} (h : ∀ n, u.status ≠ .parked (.discard n)) : u.discarding = false := by
  unfold Task.discarding
  split
  · next n hn => exact absurd hn (h n)
  · rfl

/-- The oldest request of a VI's pre-emption queue is gone, and who waits for a place in the queue is ready. -/
def State.popPreempt (s : State) (v : Nat) (rest : List Nat) : State :=
  (s.modVi v (fun x => { x with preq := rest })).wake (fun t p => t.vi == v && p == Park.hostQueue 2)

theorem State.popPreempt_preq (s : State) (v : Nat) (rest : List Nat) : ((s.popPreempt v rest).vi v).preq = rest := by
  rw [State.popPreempt, State.vi_congr (State.wake_vis _ _), State.vi_modVi_self]

/-- A request's status is reported from state `x`. -/
def State.report (s : State) (d : List DWord) (x : State) : Host.Outcome State Fault Refusal :=
  s.whenHw s.ev.vi "PREEMPTION" (x.hwStatus s.ev.vi (nthDw d 2).toNat (s.preemptStatus s.ev.vi d)) x

theorem execPreemption_eq {r : Nat} {rest : List Nat} {d : List DWord} (hq : (s.vi s.ev.vi).preq = r :: rest) (hr : r % 32 = 0)
    (hd : s.hwRead s.ev.vi r 4 = .ok d) (hw : s.runWait s.ev.vi (nthDw d 1).toNat saveBytes true = none) :
    execPreemption s =
      if s.preemptStatus s.ev.vi d ≠ 0 then s.report d (s.popPreempt s.ev.vi rest)
      else match (s.popPreempt s.ev.vi rest).task? (s.ev.vi * 2 ^ 56 + bits (nthDw d 0) 0 56) with
        | none => s.report d (s.popPreempt s.ev.vi rest)
        | some t => if t.discarding || !t.caughtUp || (s.cmdsOf t).any (fun c => c.phase == .begun) then noUnit "PREEMPTION"
          else s.report d ((s.popPreempt s.ev.vi rest).preemptTask t (nthDw d 1).toNat) := by
  unfold execPreemption
  dsimp only
  rw [hq]
  dsimp only
  rw [if_neg (not_not_intro hr), hd]
  dsimp only
  rw [hw]
  rfl

theorem execPreemption_preempts {r : Nat} {rest : List Nat} {d : List DWord} {u : Task} (hq : (s.vi s.ev.vi).preq = r :: rest) (hr : r % 32 = 0)
    (hd : s.hwRead s.ev.vi r 4 = .ok d) (hw : s.runWait s.ev.vi (nthDw d 1).toNat saveBytes true = none) (hst : s.preemptStatus s.ev.vi d = 0)
    (hu : (s.popPreempt s.ev.vi rest).task? (s.ev.vi * 2 ^ 56 + bits (nthDw d 0) 0 56) = some u) (hdiscard : ∀ n, u.status ≠ .parked (.discard n))
    (hcaught : u.caughtUp = true) (hbegun : ∀ c ∈ s.cmdsOf u, c.phase ≠ .begun) :
    execPreemption s = s.report d ((s.popPreempt s.ev.vi rest).preemptTask u (nthDw d 1).toNat) := by
  have hnone : (s.cmdsOf u).any (fun c => c.phase == .begun) = false := List.any_eq_false.2 fun c hc hb => hbegun c hc (beq_iff_eq.1 hb)
  rw [execPreemption_eq hq hr hd hw, if_neg (not_not_intro hst), hu]
  dsimp only
  rw [Task.not_discarding hdiscard, hcaught, hnone]
  rfl

/-- A status that can be written or cannot is reported from a state whose tasks and VIs are kept. -/
theorem State.report_completes {d : List DWord} {x : State}
    (h : ∀ p, x.hwStatus s.ev.vi (nthDw d 2).toNat (s.preemptStatus s.ev.vi d) ≠ .park p) : Completes (s.report d x) (x.SameTasks ·) :=
  State.whenHw_completes h fun _ hy => State.hwStatus_sameTasks hy

end Sys2Proof.Machine
end

section
/-! PROOF. The pre-emption queue and resumption (O42; R377, R380). -/

namespace Sys2Proof.Machine

variable {s : State} {u : Task}

/-! ## The pre-emption queue (R377) -/

theorem execPreemptionQueueStore_queues (h : (s.vi s.ev.vi).preq.length < 16) :
    execPreemptionQueueStore s = .next (s.modVi s.ev.vi (fun y => { y with preq := y.preq ++ [s.ev.value] })) := by
  unfold execPreemptionQueueStore State.storePreempt
  rw [if_neg (Nat.not_le.2 h)]
  rfl

theorem execPreemptionQueueStore_parks (h : 16 ≤ (s.vi s.ev.vi).preq.length) :
    execPreemptionQueueStore s = .next (s.modTask s.ev.key (Task.parkedOn (.hostQueue 2))) := by
  unfold execPreemptionQueueStore State.storePreempt
  rw [if_pos h]
  rfl

/-! ## Resumption (R380) -/

theorem State.ready_sameMemory (s : State) (k : Nat) : SameMemory s (s.ready k) := sameMemory_of_eq (s.ready_mem k) (s.ready_poison k)

theorem State.resumeArea_kept (s : State) (u : Task) :
    (s.resumeArea u).key = u.key ∧ (s.resumeArea u).status = u.status ∧ (s.resumeArea u).pc = u.pc ∧ (s.resumeArea u).absentLines = areaLines :=
  ⟨rfl, rfl, rfl, rfl⟩

theorem execResume_completes (hu : s.task? (s.ev.vi * 2 ^ 56 + s.ev.value % 2 ^ 56) = some u) (hp : u.status = .preempted) :
    Completes (execResume s) (fun t => SameMemory s t ∧ ∃ y, t.task? u.key = some y ∧ y.status = .ready ∧ y.absentLines = areaLines ∧ y.pc = u.pc) := by
  obtain ⟨hkey, hstatus, hpc, hlines⟩ := s.resumeArea_kept u
  have hfound : s.task? u.key = some u := by rwa [State.task?_key hu]
  have hresumed : (s.modTask u.key s.resumeArea).task? u.key = some (s.resumeArea u) := State.task?_modTask_kept hfound hkey hstatus
  unfold execResume State.storeResume
  rw [hu]
  dsimp only
  rw [if_pos hp]
  exact .next ⟨(s.modTask_sameMemory _ _).trans (State.ready_sameMemory _ _), _, State.task?_ready hresumed, rfl, hlines, hpc⟩

end Sys2Proof.Machine
end

section
/-! PROOF. A task comes to exist (O42; R186, R299): its workspace is all that it writes. -/

namespace Sys2Proof.Machine

variable {s t x : State} {u : Task} {gt lo hi : Nat}

/-! ## Writes within an area -/

/-- Memory outside `[lo, hi)` is in `t` as in `s`, and tile `gt` has no windows. -/
structure State.WritesIn (s t : State) (gt lo hi : Nat) : Prop where
  win : (t.tile gt).win = []
  outside : ∀ k, k < lo ∨ hi ≤ k → t.byteAt k = s.byteAt k ∧ t.marked k = s.marked k

/-- A write of whole doublewords leaves the bytes and the marks of others. -/
theorem State.put_outside (s : State) {a k : Nat} {bs : List Byte} (marks : List Bool) (ha : a % 8 = 0) (hbs : bs.length % 8 = 0)
    (hk : k < a ∨ a + bs.length ≤ k) : (s.put a bs marks).byteAt k = s.byteAt k ∧ (s.put a bs marks).marked k = s.marked k := by
  refine ⟨byteAt_put_out s a bs marks k hk, ?_⟩
  rw [Bool.eq_iff_iff, marked_iff, marked_iff, State.put_poison]
  exact markCells_out _ _ _ _ _ (by omega)

theorem State.WritesIn.put {a : Nat} {bs : List Byte} (h : s.WritesIn x gt lo hi) (marks : List Bool) (ha : a % 8 = 0) (hbs : bs.length % 8 = 0)
    (hlo : lo ≤ a) (hhi : a + bs.length ≤ hi) : s.WritesIn (x.put a bs marks) gt lo hi := by
  refine ⟨h.win, fun k hk => ?_⟩
  obtain ⟨hbyte, hmark⟩ := x.put_outside marks ha hbs (k := k) (by omega)
  exact ⟨hbyte.trans (h.outside k hk).1, hmark.trans (h.outside k hk).2⟩

theorem State.WritesIn.setGran (h : s.WritesIn x gt lo hi) (i : Nat) (g : Gran) : s.WritesIn (x.setGran gt i g) gt lo hi := by
  refine ⟨?_, h.outside⟩
  rw [State.setGran, State.tile_modTile, if_pos rfl]
  exact h.win

theorem Tile.redirect_of_noWin {c : Tile} (h : c.win = []) (write : Bool) (off : Nat) : c.redirect write off = .at_ off := by
  rw [Tile.redirect, h]
  rfl

/-- A doubleword of a slice area of whole granules is written there: its granule may be zeroed first. -/
theorem State.WritesIn.sramWrite1 {b off n : Nat} {bs : List Byte} (h : s.WritesIn x gt (sramKey gt b) (sramKey gt b + 256 * n)) (ag vd : Nat) (marks : List Bool)
    (hb : b % 256 = 0) (ho : off % 8 = 0) (hlo : b ≤ off) (hhi : off < b + 256 * n) (hbs : bs.length = 8) :
    s.WritesIn (x.sramWrite1 ag vd gt [] off bs marks).s gt (sramKey gt b) (sramKey gt b + 256 * n) := by
  have hkey (o : Nat) (h8 : o % 8 = 0) : sramKey gt o % 8 = 0 := by unfold sramKey; omega
  have hlo' (o : Nat) (h : b ≤ o) : sramKey gt b ≤ sramKey gt o := Nat.add_le_add_left h _
  have hhi' (o m : Nat) (h : o + m ≤ b + 256 * n) : sramKey gt o + m ≤ sramKey gt b + 256 * n := by unfold sramKey; omega
  unfold State.sramWrite1
  rw [Tile.redirect_of_noWin h.win]
  dsimp only
  split
  · refine State.WritesIn.setGran (.put (.put h _ (hkey _ (by omega)) ?_ (hlo' _ (by omega)) (hhi' _ _ ?_)) marks (hkey _ ho) (by omega) (hlo' _ hlo) (hhi' _ _ (by omega))) _ _
    · rw [List.length_replicate]
    · rw [List.length_replicate]
      omega
  · split
    · exact h.put marks (hkey _ ho) (by omega) (hlo' _ hlo) (hhi' _ _ (by omega))
    · exact h

/-- A doubleword goes to the slice in one piece. -/
theorem State.sramWrite_dword (s : State) (ag vd gt : Nat) (own : List (Nat × Nat)) {off : Nat} {bs : List Byte} {marks : List Bool} (ho : off % 8 = 0)
    (hbs : bs.length = 8) (hm : marks.length = 8) : (s.sramWrite ag vd gt own off bs marks).s = (s.sramWrite1 ag vd gt own off bs marks).s := by
  unfold State.sramWrite
  rw [granChunks_one _ _ _ (by omega) (by omega), List.foldl_cons, List.foldl_nil]
  dsimp only
  rw [Nat.sub_self, List.drop_zero, List.drop_zero, List.take_length, hbs, ← hm, List.take_length]

/-- Doublewords stored at offsets from `base` that lie in an area of whole granules are written there. -/
theorem State.WritesIn.storeWords {b base n : Nat} {ws : List (Nat × DWord)} (h : s.WritesIn x gt (sramKey gt b) (sramKey gt b + 256 * n)) (vd : Nat)
    (hb : b % 256 = 0) (hws : ∀ w ∈ ws, (base + w.1) % 8 = 0 ∧ b ≤ base + w.1 ∧ base + w.1 < b + 256 * n) :
    s.WritesIn (x.storeWords gt vd base ws).1 gt (sramKey gt b) (sramKey gt b + 256 * n) := by
  refine List.foldlRecOn (motive := fun r : State × List DWord => s.WritesIn r.1 gt (sramKey gt b) (sramKey gt b + 256 * n)) ws _ h fun r hr w hw => ?_
  obtain ⟨h8, hlo, hhi⟩ := hws w hw
  have hlen : (toBytes 8 w.2.toNat).length = 8 := toBytes_length ..
  dsimp only
  rw [State.sramWrite_dword _ _ _ _ _ h8 hlen List.length_replicate]
  exact hr.sramWrite1 _ _ _ hb h8 hlo hhi hlen

/-! ## The doublewords of a workspace image -/

theorem mem_at8 {off : Nat} {l : List DWord} {e : Nat × DWord} (h : e ∈ at8 off l) : ∃ i < l.length, e.1 = off + 8 * i := by
  obtain ⟨i, hi, rfl⟩ := List.mem_map.1 h
  exact ⟨i, List.mem_range.1 hi, rfl⟩

/-- A doubleword is at an offset in a run of `n` doublewords from `off`. -/
def inRun (off n : Nat) (e : Nat × DWord) : Prop := ∃ i < n, e.1 = off + 8 * i

theorem inRun_of_at8 {off n : Nat} {l : List DWord} {e : Nat × DWord} (h : e ∈ at8 off l) (hl : l.length ≤ n) : inRun off n e :=
  (mem_at8 h).imp fun _ hi => ⟨hi.1.trans_le hl, hi.2⟩

theorem Task.lineWords_inRun {l : Nat} {e : Nat × DWord} (h : e ∈ u.lineWords l) : inRun (64 * l) 8 e := by
  unfold Task.lineWords at h
  split at h
  · exact inRun_of_at8 (List.mem_filter.1 h).1 (List.length_take_le _ _)
  split at h
  · next hl => exact hl ▸ inRun_of_at8 h (by simp)
  split at h
  · next hl => exact hl ▸ inRun_of_at8 h (by simp)
  split at h
  · next hl => exact hl ▸ inRun_of_at8 h (by simp)
  split at h
  · next hl => exact hl ▸ inRun_of_at8 h (by simp)
  split at h
  · obtain rfl | rfl : l = 8 ∨ l = 9 := by omega
    · exact inRun_of_at8 h (by simp [limbs])
    · exact inRun_of_at8 h (by simp [limbs])
  split at h
  · next hl => exact hl ▸ inRun_of_at8 h (by simp)
  split at h
  · next hl => exact hl ▸ inRun_of_at8 h (by simp)
  split at h
  · cases h
  split at h
  · exact inRun_of_at8 h (by simp [limbs])
  · cases h

theorem Task.hwWords_inRun {e : Nat × DWord} (h : e ∈ u.hwWords) : inRun 0x300 32 e := inRun_of_at8 h (by simp)

/-- The image of lines below `n` stands below line `n`, as the hardware area does from line 16 on. -/
theorem Task.words_below {n : Nat} {ls : List Nat} {e : Nat × DWord} (hn : 16 ≤ n) (hls : ∀ l ∈ ls, l < n) (h : e ∈ u.words ls) : e.1 % 8 = 0 ∧ e.1 < 64 * n := by
  rcases List.mem_append.1 h with h | h
  · obtain ⟨l, hl, he⟩ := List.mem_flatMap.1 h
    obtain ⟨i, hi, he⟩ := Task.lineWords_inRun he
    have := hls l hl
    omega
  · obtain ⟨i, hi, he⟩ := Task.hwWords_inRun h
    omega

theorem areaLines_below {l : Nat} (h : l ∈ areaLines) : l < 80 := by
  rcases List.mem_append.1 h with h | h
  · have := List.mem_range.1 h
    omega
  · obtain ⟨i, hi, rfl⟩ := List.mem_map.1 h
    have := List.mem_range.1 hi
    omega

theorem Task.copyWords_below {ls : List Nat} {e : Nat × DWord} (h : e ∈ u.copyWords ls) : e.1 % 8 = 0 ∧ e.1 < 64 * 16 := by
  unfold Task.copyWords at h
  split at h
  · refine Task.words_below (by decide) (fun l hl => ?_) h
    have hl := (List.mem_filter.1 hl).2
    simp only [Bool.and_eq_true, decide_eq_true_eq] at hl
    omega
  · cases h

/-! ## A new task (R299) -/

/-- A new task, as its creation writes it: a redundant one with its trailing copy. -/
def Task.created (u : Task) : Task := if u.redundant then { u with twin := some { pc := u.pc, g := u.g, st := u.st } } else u

/-- The lines that creation writes. -/
def createdLines : List Nat := areaLines.filter (fun l => l != 8 && l != 9)

/-- The state with a new task's workspace written, and the crust entries of that. -/
def State.createWords (s : State) (u : Task) : State × List DWord :=
  let r := s.storeWords (s.taskGt u) u.vdie (aOff u.wp.toNat) (u.created.words createdLines)
  let r2 := r.1.storeWords (s.taskGt u) u.vdie (aOff u.wp.toNat + 0x2000) (u.created.copyWords createdLines)
  (r2.1, r.2 ++ r2.2)

/-- A new task as it enters the list of tasks. -/
def Task.entered (u : Task) (crust : List DWord) : Task := { u.created with absentLines := areaLines }.charge crust

theorem State.addTask_eq (s : State) (u : Task) : s.addTask u = { (s.createWords u).1 with others := (s.createWords u).1.others ++ [u.entered (s.createWords u).2] } := rfl

theorem State.createWords_sameTasks (s : State) (u : Task) : s.SameTasks (s.createWords u).1 :=
  (State.storeWords_sameTasks _ _ _ _ _).trans (State.storeWords_sameTasks _ _ _ _ _)

theorem State.newWorkspace_addTask (s : State) (u : Task) : NewWorkspace s (s.addTask u) (s.taskGt u) (aOff u.wp.toNat) := by
  intro hwin hb
  rw [State.addTask_eq]
  have hstart : s.WritesIn s (s.taskGt u) (sramKey (s.taskGt u) (aOff u.wp.toNat)) (sramKey (s.taskGt u) (aOff u.wp.toNat) + 256 * 36) :=
    ⟨hwin, fun _ _ => ⟨rfl, rfl⟩⟩
  have hfirst := hstart.storeWords (base := aOff u.wp.toNat) (ws := u.created.words createdLines) u.vdie hb fun w hw => by
    have := Task.words_below (n := 80) (by decide) (fun l hl => areaLines_below (List.mem_filter.1 hl).1) hw
    omega
  have hsecond := hfirst.storeWords (base := aOff u.wp.toNat + 0x2000) (ws := u.created.copyWords createdLines) u.vdie hb fun w hw => by
    have := Task.copyWords_below hw
    omega
  exact hsecond.outside

end Sys2Proof.Machine
end

section
/-! PROOF. The start of a trap handler (O42; R374), and O42 itself. -/

namespace Sys2Proof.Machine

variable {s : State} {u : Task} {p : Task → Prop}

/-! ## The next trapped task (R374 step 4) -/

/-- The task that trapped first, of one and the earliest so far. -/
def earliest (b : Option Task) (t : Task) : Option Task :=
  match b with
  | none => some t
  | some u => if t.sch.trapOrder < u.sch.trapOrder then some t else some u

theorem earliest_eq (b : Option Task) (t : Task) : earliest b t = some t ∨ earliest b t = b := by
  unfold earliest
  split
  · exact .inl rfl
  · exact (ite_eq_or_eq _ _ _)

theorem mem_of_foldl_earliest {l : List Task} {b : Option Task} (h : l.foldl earliest b = some u) : b = some u ∨ u ∈ l := by
  induction l generalizing b with
  | nil => exact .inl h
  | cons t r ih =>
    rcases ih h with hb | hr
    · rcases earliest_eq b t with he | he
      · exact .inr (List.mem_cons.2 (.inl (Option.some.inj (hb.symm.trans he))))
      · exact .inl (he.symm.trans hb)
    · exact .inr (List.mem_cons_of_mem _ hr)

theorem State.nextTrapped_eq (s : State) (v gt : Nat) : s.nextTrapped v gt =
    (s.tasks.filter (fun t => t.status == .trapped && !t.sch.served && t.vi == v && s.taskGt t == gt)).foldl earliest none := rfl

theorem State.mem_of_nextTrapped {v gt : Nat} (h : s.nextTrapped v gt = some u) : u ∈ s.tasks := by
  rw [State.nextTrapped_eq] at h
  rcases mem_of_foldl_earliest h with h | h
  · cases h
  · exact (List.mem_filter.1 h).1

/-- A task is found under its key, it or another with that key. -/
theorem State.hasTask_of_mem (h : u ∈ s.tasks) : s.HasTask u.key (fun _ => True) := by
  unfold State.HasTask State.task?
  split
  · exact ⟨s.cur, rfl, trivial⟩
  · next hc =>
    rcases (s.mem_tasks u).1 h with ⟨rfl, ha⟩ | ho
    · exact absurd ⟨ha, rfl⟩ hc
    · obtain ⟨y, hy⟩ := Option.isSome_iff_exists.1 ((List.find?_isSome (p := Task.hasKey u.key)).2 ⟨u, ho, beq_self_eq_true u.key⟩)
      exact ⟨y, hy, trivial⟩

/-! ## A task that enters the list and the ready queue -/

theorem State.HasTask.addTask {k : Nat} (h : s.HasTask k p) (u : Task) : (s.addTask u).HasTask k p := by
  obtain ⟨y, hy, hp⟩ := h.congr ((s.createWords_sameTasks u).task? k)
  refine ⟨y, ?_, hp⟩
  rw [State.addTask_eq]
  unfold State.task? at hy ⊢
  split at hy
  · next hc => rwa [if_pos hc]
  · next hc => rw [if_neg hc, List.find?_append, hy, Option.some_or]

theorem State.HasTask.ready {k : Nat} (h : s.HasTask k p) (hp : ∀ y order since, p y → p (Task.readied y order since)) (j : Nat) : (s.ready j).HasTask k p := by
  by_cases hjk : j = k
  · obtain ⟨y, hy, hpy⟩ := h
    exact hjk ▸ ⟨_, State.task?_ready (hjk ▸ hy), hp y _ _ hpy⟩
  · exact h.congr (State.task?_ready_other hjk)

/-- A task on the list stays there as a task enters the ready queue, as it was or ready itself. -/
theorem State.mem_others_ready (h : u ∈ s.others) (k : Nat) : ∃ y ∈ (s.ready k).others, y = u ∨ ∃ order since, y = u.readied order since := by
  rw [State.ready_eq]
  unfold State.modTask
  split
  · exact ⟨u, h, .inl rfl⟩
  · refine ⟨_, List.mem_map_of_mem h, ?_⟩
    split
    · exact .inr ⟨_, _, rfl⟩
    · exact .inl rfl

/-! ## The handler (R374 step 4) -/

/-- The handler that starts for a trapped task of VI `v` on tile `gt`. -/
def State.handlerOf (s : State) (v gt : Nat) (u : Task) : Task :=
  let cfg := (s.vi v).trapcfg
  let base := u.wp.toNat / 2 ^ 25 * 2 ^ 25
  let b := aOff u.wp.toNat
  newTask v (base + bits cfg 32 25) (base + bits cfg 0 25) (dw (bits (s.wsWord gt b 0x1400).1 0 8)) (u.wp.setWidth 64) (s.wsWord gt b 0x1408).1 0 0x8800
    { claim := dw (3 * 2 ^ 16) } (.trapHandler u.key)

/-- The start registers of the handler: the trap's code, the WP and the EPC of its task, and 0 (R374). -/
theorem State.handlerOf_g (s : State) (v gt : Nat) (u : Task) :
    (s.handlerOf v gt u).g[0].toNat = bits (s.wsWord gt (aOff u.wp.toNat) 0x1400).1 0 8 ∧ (s.handlerOf v gt u).g[1] = u.wp.setWidth 64 ∧
      (s.handlerOf v gt u).g[2] = (s.wsWord gt (aOff u.wp.toNat) 0x1408).1 ∧ (s.handlerOf v gt u).g[3] = 0 := by
  have hcode : bits (s.wsWord gt (aOff u.wp.toNat) 0x1400).1 0 8 < 2 ^ 8 := Nat.mod_lt _ (by decide)
  have hdw : (dw (bits (s.wsWord gt (aOff u.wp.toNat) 0x1400).1 0 8)).toNat = bits (s.wsWord gt (aOff u.wp.toNat) 0x1400).1 0 8 :=
    (BitVec.toNat_ofNat _ _).trans (Nat.mod_eq_of_lt (by omega))
  simp [State.handlerOf, newTask, hdw]

/-- A trapped task for which a handler has been started. -/
def Task.beingServed (u : Task) : Task := u.modSch (fun x => { x with served := true })

theorem execTrapHandlerStart_starts (hhost : bit (s.vi s.ev.vi).trapcfg 63 = false) (hfree : s.handlerRuns s.ev.vi s.ev.gt = false)
    (hnext : s.nextTrapped s.ev.vi s.ev.gt = some u) :
    execTrapHandlerStart s =
      .next (((s.modTask u.key Task.beingServed).addTask (s.handlerOf s.ev.vi s.ev.gt u)).ready (s.handlerOf s.ev.vi s.ev.gt u).key) := by
  unfold execTrapHandlerStart State.startTrapHandler
  dsimp only
  rw [hhost, hfree, hnext]
  rfl

/-- A handler with its start registers, ready. -/
structure State.HandlerStarted (s : State) (v gt : Nat) (u y : Task) : Prop where
  kind : y.kind = .trapHandler u.key
  status : y.status = .ready
  vi : y.vi = v
  wp : y.wp = (s.handlerOf v gt u).wp
  pc : y.pc = (s.handlerOf v gt u).pc
  g : y.g = (s.handlerOf v gt u).g
  prio : y.prio = 3

theorem State.handlerStarted_entered (s : State) (v gt : Nat) (u : Task) (crust : List DWord) :
    s.HandlerStarted v gt u ((s.handlerOf v gt u).entered crust) := by
  have hred : (s.handlerOf v gt u).redundant = false := by
    show bit (0x8800#64 ||| 0x10#64) 13 = false
    decide
  rw [Task.entered, Task.created, hred, if_neg Bool.false_ne_true]
  refine ⟨Task.charge_kind _ _, Task.charge_status _ _, Task.charge_vi _ _, Task.charge_wp _ _, Task.charge_pc _ _, Task.charge_g _ _, ?_⟩
  rw [Task.prio, Task.charge_hw]
  show bits (dw (3 * 2 ^ 16)) 16 2 = 3
  decide

theorem State.HandlerStarted.readied {v gt : Nat} {y : Task} (h : s.HandlerStarted v gt u y) (order since : Nat) : s.HandlerStarted v gt u (y.readied order since) :=
  ⟨h.kind, rfl, h.vi, h.wp, h.pc, h.g, h.prio⟩

theorem execTrapHandlerStart_completes (hhost : bit (s.vi s.ev.vi).trapcfg 63 = false) (hfree : s.handlerRuns s.ev.vi s.ev.gt = false)
    (hnext : s.nextTrapped s.ev.vi s.ev.gt = some u) : Completes (execTrapHandlerStart s) (fun t =>
      NewWorkspace s t (s.taskGt (s.handlerOf s.ev.vi s.ev.gt u)) (aOff (s.handlerOf s.ev.vi s.ev.gt u).wp.toNat) ∧ t.HasTask u.key (fun y => y.sch.served = true) ∧
        ∃ y ∈ t.others, s.HandlerStarted s.ev.vi s.ev.gt u y) := by
  refine ⟨_, execTrapHandlerStart_starts hhost hfree hnext, ?_⟩
  have hstarted := s.handlerStarted_entered s.ev.vi s.ev.gt u
  have hserved : (s.modTask u.key Task.beingServed).HasTask u.key (fun y => y.sch.served = true) :=
    (State.hasTask_of_mem (State.mem_of_nextTrapped hnext)).modTask (fun _ => rfl) (fun _ => rfl) fun _ _ => rfl
  have hvi : (s.modTask u.key Task.beingServed).vi = s.vi := funext (State.vi_congr (State.modTask_vis _ _ _))
  generalize s.handlerOf s.ev.vi s.ev.gt u = h at hstarted
  have hnew := (s.modTask u.key Task.beingServed).newWorkspace_addTask h
  refine ⟨?workspace, (hserved.addTask h).ready (fun _ _ _ hy => hy) _, ?handler⟩
  case workspace =>
    intro hwin hb k hk
    have hgt : (s.modTask u.key Task.beingServed).taskGt h = s.taskGt h := by rw [State.taskGt, State.gtOf, hvi, State.taskGt, State.gtOf]
    rw [hgt] at hnew
    obtain ⟨hbyte, hmark⟩ := hnew (by rwa [State.tile_modTask]) hb k hk
    obtain ⟨hbyte', hmark'⟩ := s.modTask_sameMemory u.key Task.beingServed k
    obtain ⟨hbyte'', hmark''⟩ := State.ready_sameMemory ((s.modTask u.key Task.beingServed).addTask h) h.key k
    exact ⟨hbyte''.trans (hbyte.trans hbyte'), hmark''.trans (hmark.trans hmark')⟩
  case handler =>
    have hlast : h.entered ((s.modTask u.key Task.beingServed).createWords h).2 ∈ ((s.modTask u.key Task.beingServed).addTask h).others :=
      List.mem_append_right _ (List.mem_singleton_self _)
    obtain ⟨y, hy, rfl | ⟨order, since, rfl⟩⟩ := State.mem_others_ready hlast h.key
    · exact ⟨_, hy, hstarted _⟩
    · exact ⟨_, hy, (hstarted _).readied _ _⟩

end Sys2Proof.Machine
end

section

open Sys2Proof.Machine

/-- Settles O42: the walks, the pre-emption queue and resumption each by a lemma for the event; a pre-emption by what its steps leave of the VIs and of
the task; the handler's start by what a new task's workspace writes. -/
theorem translationAndPreemptionEventsComplete : Obligations.TranslationAndPreemptionEventsComplete := by
  unfold Obligations.TranslationAndPreemptionEventsComplete
  intro s
  dsimp only
  refine ⟨?walk, ?returns, ?hostReturns, ?hostIgnored, ?preempts, ?queues, ?parks, ?resumes, ?handler⟩
  case walk =>
    intro u page hu hp
    refine ⟨fun hnone hfree => ?starts, fun w hw hserves => ?joins⟩
    case starts =>
      obtain ⟨hmem, hw⟩ := State.startWalk_starts hnone u.key
      exact ⟨_, execTranslationWalk_starts hu hp (.inr hfree), hmem, _, hw, rfl, rfl, rfl, rfl, rfl, rfl, rfl⟩
    case joins => exact ⟨_, execTranslationWalk_starts hu hp (.inl (List.any_eq_true.2 ⟨w, hw, hserves⟩)), State.startWalk_joins hw hserves u.key⟩
  case returns =>
    intro w r hw hr
    obtain ⟨hmem, hready, hleaf, hfault⟩ := s.delivered_deliverWalk w r
    exact ⟨_, execWalkComplete_delivers hw hr, hmem, hready, hleaf, hfault⟩
  case hostReturns =>
    intro w hw
    obtain ⟨hmem, hready, hleaf, hfault⟩ := s.delivered_deliverWalk w (hostLeaf s.md.hleaf w.offset)
    exact ⟨_, congrArg Host.Outcome.next (State.hostWalk_found hw), hmem, hready, hleaf, hfault⟩
  case hostIgnored => exact fun hw => congrArg Host.Outcome.next (State.hostWalk_ignored hw)
  case preempts =>
    intro r rest d hq hr hd hw
    refine ⟨fun hst hreport => ?refused, fun u hst hu hdiscard hcaught hbegun hreport => ?preempted⟩
    case refused =>
      obtain ⟨t, ht, hsame⟩ := State.report_completes hreport
      exact ⟨t, (execPreemption_eq hq hr hd hw).trans ((if_pos hst).trans ht), (congrArg Vi.preq (hsame.vi _)).trans (s.popPreempt_preq _ _)⟩
    case preempted =>
      obtain ⟨t, ht, hsame⟩ := State.report_completes hreport
      have hfound : (s.popPreempt s.ev.vi rest).HasTask u.key (fun _ => True) := ⟨u, (State.task?_key hu).symm ▸ hu, trivial⟩
      obtain ⟨hvis, htask⟩ := State.preempted_preemptTask hfound (nthDw d 1).toNat
      exact ⟨t, (execPreemption_preempts hq hr hd hw hst hu hdiscard hcaught hbegun).trans ht,
        (congrArg Vi.preq ((hsame.vi _).trans (State.vi_congr hvis _))).trans (s.popPreempt_preq _ _), htask.congr (hsame.task? _)⟩
  case queues =>
    intro hroom
    exact ⟨_, execPreemptionQueueStore_queues hroom, sameMemory_of_eq rfl rfl, rfl, congrArg Vi.preq (s.vi_modVi_self _ _)⟩
  case parks =>
    intro u hfull hu
    exact ⟨_, execPreemptionQueueStore_parks hfull, s.modTask_sameMemory _ _, by rw [State.vi_congr (s.modTask_vis _ _)],
      State.task?_modTask hu (State.task?_key hu : u.key = _) nofun⟩
  case resumes => exact fun u hu hp => execResume_completes hu hp
  case handler =>
    intro u hhost hfree hnext
    obtain ⟨t, ht, hnew, hserved, y, hy, hstart⟩ := execTrapHandlerStart_completes hhost hfree hnext
    obtain ⟨h0, h1, h2, h3⟩ := s.handlerOf_g s.ev.vi s.ev.gt u
    rw [← hstart.g] at h0 h1 h2 h3
    exact ⟨t, ht, hnew, hserved, y, hy, hstart.kind, hstart.status, hstart.vi, hstart.wp, hstart.pc, h0, h1, h2, h3, hstart.prio⟩

end

section
/-! PROOF. Tile memory (O19 to O21): what a completed instruction leaves in the G registers, and how granules, buffers and windows read after a change. -/

namespace Sys2Proof.Machine

variable {i : Instr} {q : BitVec 4} {s t u : State} {body : State → Act}

/-! ## Instructions that complete -/

/-- An instruction that its guard lets run and whose body takes effect leaves the body's state, past the instruction. -/
theorem completes_of_run {p : State → Prop} (h : guardOf i = some q) (he : ∀ s, exec i s = run i q s body) (hr : Runs s q) (hb : body s = .next u)
    (hp : p (u.advance 4)) : Completes (exec i s) p :=
  ⟨u.advance 4, by rw [he, run_of_runs i q s body hr, hb, finish, length_of_guardOf h], hp⟩

theorem notInDomain_outside (hd : s.cur.depth = 0) (k : Act) : notInDomain s k = k := if_neg (not_not_intro hd)

/-- A buffer or a window that its VI owns, when it is valid, is not foreign (R146, R147). -/
theorem not_foreign {valid : Bool} {owner v : Nat} (h : valid = true → owner = v) : (valid && owner != v) = false := by
  cases valid
  · rfl
  · rw [h rfl, bne_self_eq_false, Bool.and_false]

/-! ## G registers (R198, R200, R202) -/

/-- After a G write the written register, when it is live, reads as the value, and every other one as before. -/
theorem WritesG.rdG {reads : List (BitVec 5)} {d : BitVec 5} {x : RegV} {len : Nat} (h : WritesG s t reads d x len) (r : BitVec 5) :
    t.cur.rdG r = if r = d ∧ s.cur.liveG d = true then ⟨x.v, x.p, s.cur.det && x.t⟩ else s.cur.rdG r := by
  have hscope : t.cur.scope = s.cur.scope := by rw [h.frame]
  have hlive : t.cur.liveG r = s.cur.liveG r := by rw [Task.liveG, hscope, Task.liveG]
  have hnum : r.toNat = d.toNat ↔ r = d := BitVec.toNat_inj
  simp only [Task.rdG, hlive, h.g, h.pois, h.taint, hnum]
  by_cases hw : r = d ∧ s.cur.liveG d = true
  · obtain ⟨rfl, hl⟩ := hw
    simp [hl]
  · simp only [if_neg hw]

theorem WritesG.rdG_same {reads : List (BitVec 5)} {d : BitVec 5} {x : RegV} {len : Nat} (h : WritesG s t reads d x len) (hl : s.cur.liveG d = true) :
    t.cur.rdG d = ⟨x.v, x.p, s.cur.det && x.t⟩ := by
  rw [h.rdG, if_pos ⟨rfl, hl⟩]

theorem WritesG.rdG_other {reads : List (BitVec 5)} {d r : BitVec 5} {x : RegV} {len : Nat} (h : WritesG s t reads d x len) (hr : r ≠ d) :
    t.cur.rdG r = s.cur.rdG r := by
  rw [h.rdG, if_neg (fun hw => hr hw.1)]

/-! ## Granules, buffers and windows after a change -/

theorem State.gran_setGran_tile (s : State) (gt j : Nat) (g : Gran) (x i : Nat) :
    (s.setGran gt j g).gran x i = if x = gt ∧ i = j then g else s.gran x i := by
  by_cases hx : x = gt
  · subst hx
    simpa using s.gran_setGran x j g i
  · rw [if_neg (fun h => hx h.1), State.gran, State.setGran, State.tile_modTile, if_neg hx, State.gran]

theorem State.cb_modCb (s : State) (gt h : Nat) (f : CBuf → CBuf) : (s.modCb gt h f).cb gt h = f (s.cb gt h) := by
  rw [State.cb, State.modCb, State.tile_modTile, if_pos rfl, tget_tmod, if_pos rfl, State.cb]

theorem State.win_modWin (s : State) (gt w : Nat) (f : Win → Win) (x y : Nat) :
    (s.modWin gt w f).win x y = if x = gt ∧ y = w then f (s.win gt w) else s.win x y := by
  rw [State.win, State.modWin, State.tile_modTile]
  by_cases hx : x = gt
  · subst hx
    simp only [if_true, true_and, tget_tmod, State.win]
  · simp only [hx, if_false, false_and, State.win]

theorem State.cb_congr (h : t.tiles = s.tiles) (gt b : Nat) : t.cb gt b = s.cb gt b := by rw [State.cb, State.tile, h, State.cb, State.tile]

/-! ## Descriptors (R92, R135) -/

/-- Doublewords of written memory are read at once. -/
theorem withDws_of_readsAt {l : Loc} {a n k : Nat} (h0 : 0 < n) (hc : s.check s.cur.who (s.taskGt s.cur) rRD a (8 * n) = .ok l) (hu : AccessFree s l (8 * n))
    (hr : ReadsAt s l (8 * n) k) (f : State → List DWord → Act) : withDws s a n f = f s (loadedDws n (s.fetch k (8 * n))) := by
  simp only [withDws, withLoad, hc, chkAct, accessWait_of s _ _ _ hu, readLoc_of_ReadsAt s 0 (aVdie a) l (8 * n) k (by omega) hr, chargeCur_nil,
    countHits_of_ReadsAt s s _ l (8 * n) k hr]

/-! ## Waking (R302) -/

theorem State.modTask_pc (s : State) (k : Nat) {f : Task → Task} (hf : ∀ x, (f x).pc = x.pc) : (s.modTask k f).cur.pc = s.cur.pc := by
  unfold State.modTask
  split
  · exact hf s.cur
  · rfl

theorem State.ready_pc (s : State) (k : Nat) : (s.ready k).cur.pc = s.cur.pc := by
  rw [State.ready_eq]
  exact s.modTask_pc k (fun _ => rfl)

theorem State.wake_pc (s : State) (p : Task → Park → Bool) : (s.wake p).cur.pc = s.cur.pc :=
  foldl_keeps (fun (x : State) => x.cur.pc = s.cur.pc) _ _ _ rfl (fun x _ hx => (x.ready_pc _).trans hx)

end Sys2Proof.Machine

end

section
/-! PROOF. ALLOC and FREE (O19; R140, R141, R405). -/

namespace Sys2Proof.Machine

variable {s : State} {gt f n : Nat}

/-! ## Granules -/

/-- After the granules of a body are set, those of the body have the value and every other one is as before. -/
theorem State.gran_setBody (s : State) (gt f n : Nat) (g : Gran) (x i : Nat) :
    ((bodyOf f n).foldl (fun y j => y.setGran gt j g) s).gran x i = if x = gt ∧ f ≤ i ∧ i < f + n then g else s.gran x i := by
  induction n with
  | zero => exact (if_neg (by omega)).symm
  | succ n ih =>
    rw [bodyOf, List.range_succ, List.map_append, List.foldl_append, ← bodyOf]
    refine (State.gran_setGran_tile _ gt (f + n) g x i).trans ?_
    rw [ih]
    grind

theorem State.gran_doAlloc (hf : 0 < f) (x i : Nat) : (s.doAlloc gt f n).gran x i =
    if x = gt ∧ f ≤ i ∧ i < f + n then ⟨1, false⟩ else if x = gt ∧ (i = f - 1 ∨ i = f + n) then ⟨0, true⟩ else s.gran x i := by
  simp only [State.doAlloc, State.gran_setGran_tile, State.gran_setBody]
  grind

theorem State.gran_ite_setGran (c : Prop) [Decidable c] (s : State) (gt j : Nat) (g : Gran) (x i : Nat) :
    (if c then s.setGran gt j g else s).gran x i = if c ∧ x = gt ∧ i = j then g else s.gran x i := by
  by_cases hc : c
  · simp only [hc, if_true, true_and, State.gran_setGran_tile]
  · simp only [hc, if_false, false_and]

/-- A guard is cleared when the granule beyond it is free, so that no other allocation shares it. -/
theorem State.gran_doFree (hf : 0 < f) (x i : Nat) : (s.doFree gt f n).gran x i =
    if x = gt ∧ f ≤ i ∧ i < f + n then {}
    else if x = gt ∧ (i = f - 1 ∧ (f = 1 ∨ (s.gran gt (f - 2)).state = 0) ∨ i = f + n ∧ (s.gran gt (f + n + 1)).state = 0) then {}
    else s.gran x i := by
  have h1 := s.gran_setBody gt f n {}
  rw [State.doFree]
  generalize (bodyOf f n).foldl (fun y j => y.setGran gt j {}) s = s1 at h1
  have hbelow : (f < 2 ∨ (s1.gran gt (f - 2)).state = 0) ↔ f = 1 ∨ (s.gran gt (f - 2)).state = 0 := by
    rw [h1]
    grind
  generalize hs2 : (if f < 2 ∨ (s1.gran gt (f - 2)).state = 0 then s1.setGran gt (f - 1) {} else s1) = s2
  have h2 (x i : Nat) : s2.gran x i = if (f = 1 ∨ (s.gran gt (f - 2)).state = 0) ∧ x = gt ∧ i = f - 1 then {} else s1.gran x i := by
    simp only [← hs2, State.gran_ite_setGran, hbelow]
  have habove : s2.gran gt (f + n + 1) = s.gran gt (f + n + 1) := by
    rw [h2, if_neg (by omega), h1, if_neg (by omega)]
  rw [State.gran_ite_setGran, habove, h2, h1]
  grind

/-! ## Statuses -/

theorem allocRange_of_place {ga gb : Nat} (h0 : 0 < gb) (hmax : gb ≤ 25165312) (hal : ga % 256 = 0) (hf : 0 < aOff ga / 256)
    (hend : aOff ga / 256 + (gb + 255) / 256 ≤ 98303) : allocRange ga gb = .inr (aOff ga / 256, (gb + 255) / 256) := by
  rw [allocRange, if_neg (by omega)]
  exact if_neg (by omega)

theorem mem_bodyOf {i : Nat} : i ∈ bodyOf f n ↔ f ≤ i ∧ i < f + n := by
  simp only [bodyOf, List.mem_map, List.mem_range]
  exact ⟨by rintro ⟨j, hj, rfl⟩; omega, fun h => ⟨i - f, by omega, by omega⟩⟩

theorem State.allocStatus_of_free (hbody : ∀ i, f ≤ i → i < f + n → s.gran gt i = ⟨0, false⟩) (hlo : (s.gran gt (f - 1)).state = 0)
    (hhi : (s.gran gt (f + n)).state = 0) : s.allocStatus gt f n = 0 := by
  have hfree : (bodyOf f n).any (fun i => (s.gran gt i).state != 0 || (s.gran gt i).crust) = false := by
    rw [List.any_eq_false]
    intro i hi
    obtain ⟨h1, h2⟩ := mem_bodyOf.1 hi
    rw [hbody i h1 h2]
    decide
  rw [State.allocStatus, hfree, hlo, hhi]
  rfl

theorem State.freeStatus_of_allocated (hlo : (s.gran gt (f - 1)).crust = true) (hhi : (s.gran gt (f + n)).crust = true)
    (hbody : ∀ i, f ≤ i → i < f + n → ((s.gran gt i).state = 1 ∨ (s.gran gt i).state = 2) ∧ (s.tile gt).inUse i = false) : s.freeStatus gt f n = 0 := by
  have hnone : (bodyOf f n).find? (fun i => (s.gran gt i).state == 0 || (s.gran gt i).state == 3 || (s.tile gt).inUse i) = none := by
    rw [List.find?_eq_none]
    intro i hi
    obtain ⟨h1, h2⟩ := mem_bodyOf.1 hi
    obtain ⟨hstate, huse⟩ := hbody i h1 h2
    rcases hstate with h | h <;> rw [h, huse] <;> decide
  rw [State.freeStatus, hlo, hhi, hnone]
  rfl

/-! ## The instructions -/

theorem State.setBody_cur (s : State) (gt f n : Nat) (g : Gran) : ((bodyOf f n).foldl (fun y j => y.setGran gt j g) s).cur = s.cur :=
  foldl_keeps (fun (y : State) => y.cur = s.cur) _ _ _ rfl (fun _ _ hy => hy)

theorem State.doAlloc_cur (s : State) (gt f n : Nat) : (s.doAlloc gt f n).cur = s.cur := s.setBody_cur gt f n _

theorem State.doFree_cur (s : State) (gt f n : Nat) : (s.doFree gt f n).cur = s.cur := by
  have hset (c : Prop) [Decidable c] (y : State) (j : Nat) : (if c then y.setGran gt j {} else y).cur = y.cur := by split <;> rfl
  simp only [State.doFree, hset, State.setBody_cur]

/-- The issuing task has read ga and gb, and gd takes a status. -/
def State.giveStatus (s : State) (a b d : BitVec 5) (st : Nat) : State := { s with cur := (s.cur.noteReads [a, b]).wrG d ⟨dw st, false, true⟩ }

/-- The VI's count of granules follows (R405). -/
def State.countGranules (s : State) (v : Nat) (g : Nat → Nat) : State := s.modVi v (fun x => { x with granules := g x.granules })

theorem State.gran_giveStatus (s : State) (v : Nat) (g : Nat → Nat) (a b d : BitVec 5) (st x i : Nat) :
    (((s.countGranules v g).giveStatus a b d st).advance 4).gran x i = s.gran x i := rfl

/-- What a status 0 leaves of the count, of memory and of the task's registers, where only granules have changed before it. -/
theorem State.giveStatus_leaves {y : State} (hcur : y.cur = s.cur) (hvis : y.vis = s.vis) (hmem : SameMemory s y) (v : Nat) (g : Nat → Nat) (a b d : BitVec 5) :
    let t := ((y.countGranules v g).giveStatus a b d 0).advance 4
    (t.vi v).granules = g (s.vi v).granules ∧ SameMemory s t ∧ t.cur.pc = s.cur.pc + 4 ∧
      (s.cur.liveG d = true → t.cur.rdG d = ⟨0, false, s.cur.det⟩) ∧ ∀ r : BitVec 5, r ≠ d → t.cur.rdG r = s.cur.rdG r := by
  intro t
  have h : WritesG (y.countGranules v g) t [a, b] d ⟨dw 0, false, true⟩ 4 := writesG_intro (y.countGranules v g) [a, b] d _ 4
  have hcount : (t.vi v).granules = g (y.vi v).granules := congrArg Vi.granules (y.vi_modVi_self v (fun x => { x with granules := g x.granules }))
  rw [hcount, State.vi_congr hvis, ← hcur]
  refine ⟨rfl, hmem.trans h.memory, h.pc, fun hl => ?_, fun r hr => h.rdG_other hr⟩
  rw [h.rdG_same hl, Bool.and_true]
  rfl

/-- ALLOC or FREE whose checks pass gives its status to gd. -/
theorem allocAct_of_status {isFree : Bool} {a b d : BitVec 5} {off st : Nat} {s' : State} (hd : s.cur.depth = 0) (hc : CleanG s [a, b]) (hf : ReleaseFree s)
    (hk : s.check1 s.cur.who (s.taskGt s.cur) rRD (s.gv a).toNat = .ok (.sram gt off))
    (hs : s.allocFree s.cur.vi gt (aVdie (s.gv a).toNat) isFree (s.gv a).toNat (s.gv b).toNat = .status st s') :
    allocAct isFree b a d s = .next (s'.giveStatus a b d st) := by
  rw [State.gv] at hk
  rw [State.gv, State.gv] at hs
  rw [allocAct, notInDomain_outside hd, checkRegs_clean s _ _ hc, releaseWait_of s _ hf]
  simp only [hk, hs]
  rfl

end Sys2Proof.Machine

open Sys2Proof.Machine

/-- Settles O19: the checks pass, so that the granules change as `State.gran_doAlloc` and `State.gran_doFree` have it. -/
theorem allocAndFreeComplete : Obligations.AllocAndFreeComplete := by
  intro b a d q s gt off hr hc hd hf ga gb f n v hk h0 hmax hal hf0 hend hcov
  have hrange : allocRange ga gb = .inr (f, n) := allocRange_of_place h0 hmax hal hf0 hend
  have hcovered : (bodyOf f n).any (fun i => !(s.vi v).covers (aVdie ga) i) = false := bodyOf_covered hcov
  refine ⟨fun hbody hlo hhi hquota => ?alloc, fun hlo hhi hbody => ?free⟩
  case alloc =>
    have hs : s.allocFree v gt (aVdie ga) false ga gb = .status 0 ((s.doAlloc gt f n).countGranules v (· + n)) := by
      simp only [State.allocFree, hrange, hcovered, State.allocStatus_of_free hbody hlo hhi, if_neg (Nat.not_lt.2 hquota)]
      rfl
    obtain ⟨hvis, hmem, -⟩ := s.doAlloc_body gt n hf0
    refine completes_of_run rfl (fun _ => rfl) hr (allocAct_of_status hd hc hf hk hs) ⟨fun x i => ?_,
      State.giveStatus_leaves (s.doAlloc_cur gt f n) hvis hmem v _ a b d⟩
    rw [State.gran_giveStatus, State.gran_doAlloc hf0]
  case free =>
    have hs : s.allocFree v gt (aVdie ga) true ga gb = .status 0 ((s.doFree gt f n).countGranules v (· - n)) := by
      simp only [State.allocFree, hrange, hcovered, State.freeStatus_of_allocated hlo hhi hbody]
      rfl
    obtain ⟨hvis, hmem, -⟩ := s.doFree_body gt n hf0
    refine completes_of_run rfl (fun _ => rfl) hr (allocAct_of_status hd hc hf hk hs) ⟨fun i h1 h2 => ?body, ?lower, ?upper, fun x i h => ?others,
      State.giveStatus_leaves (s.doFree_cur gt f n) hvis hmem v _ a b d⟩
    all_goals rw [State.gran_giveStatus, State.gran_doFree hf0]
    case body => exact if_pos ⟨rfl, h1, h2⟩
    case lower => grind
    case upper => grind
    case others => grind

end

section
/-! PROOF. Circular buffers (O20; R143, R147, R356). -/

namespace Sys2Proof.Machine

variable {s : State} {b : CBuf} {n : BitVec 3} {h r : BitVec 5}

/-! ## Counters (R142) -/

/-- RESV, PUSHED, TAKEN and POPPED. -/
def CBuf.counters (b : CBuf) : Nat × Nat × Nat × Nat := (b.resv, b.pushed, b.taken, b.popped)

theorem CBuf.counters_used (b : CBuf) (key side : Nat) : (b.used key side).counters = b.counters := by
  unfold CBuf.used
  split <;> rfl

theorem CBuf.counters_note (b : CBuf) (key depth kind : Nat) (ks : List Nat) : (b.note key depth kind ks).counters = b.counters := by
  unfold CBuf.note
  split <;> rfl

theorem CBuf.counters_iff {resv pushed taken popped : Nat} :
    b.counters = (resv, pushed, taken, popped) ↔ b.resv = resv ∧ b.pushed = pushed ∧ b.taken = taken ∧ b.popped = popped := by
  simp only [CBuf.counters, Prod.mk.injEq]

/-- With no earlier request and room a reservation advances RESV. -/
theorem CBuf.grant_reserves (who : Asker) {m : Nat} (hq : b.resQ = []) (hm : m ≤ b.freePages) :
    ∃ b', b.grant who 0 m true = some (b', b.resv) ∧ b'.counters = (b.resv + m, b.pushed, b.taken, b.popped) := by
  simp only [CBuf.grant, hq, List.head?_nil, hm, decide_true, Bool.and_self, if_true]
  exact ⟨_, rfl, rfl⟩

/-- With no earlier request and filled pages an acquisition advances TAKEN. -/
theorem CBuf.grant_acquires (who : Asker) {m : Nat} (hq : b.acqQ = []) (hm : m ≤ b.filled) :
    ∃ b', b.grant who 1 m true = some (b', b.taken) ∧ b'.counters = (b.resv, b.pushed, b.taken + m, b.popped) := by
  simp only [CBuf.grant, hq, List.head?_nil, Nat.one_ne_zero, if_false, hm, decide_true, Bool.and_self, if_true]
  exact ⟨_, rfl, rfl⟩

/-! ## The instructions (R147) -/

theorem checkHandle_own (hv : (s.cb (s.taskGt s.cur) h.toNat).valid = true) (ho : (s.cb (s.taskGt s.cur) h.toNat).owner = s.cur.vi) (k : CBuf → Act) :
    checkHandle s h.toNat k = k (s.cb (s.taskGt s.cur) h.toNat) := by
  simp only [checkHandle, hv, ho, ne_eq, not_true_eq_false, Bool.not_true, Bool.false_eq_true, if_false]

/-- Inside a domain only a protected buffer takes a producer's requests (R385). -/
theorem not_unprotected_producer {side : Nat} (hp : side = 0 → s.cur.depth = 0 ∨ b.prot = true) : ¬ (side = 0 ∧ s.cur.depth ≠ 0 ∧ b.prot = false) := by
  rintro ⟨h0, hopen, hprot⟩
  rcases hp h0 with hd | ht
  · exact hopen hd
  · exact Bool.false_ne_true (hprot.symm.trans ht)

/-- A buffer of the task's tile is replaced, and a G register takes the address of a page. -/
def State.givePage (s : State) (h r : BitVec 5) (b : CBuf) (page : Nat) (shared : Bool) : State :=
  { s.modCb (s.taskGt s.cur) h.toNat (fun _ => b) with
    cur := s.cur.wrG r ⟨dw (flat s.cur.vdie (s.taskGt s.cur % 128) ((s.cb (s.taskGt s.cur) h.toNat).pageOff page)), false, shared⟩ }

/-- An instruction of 4 bytes has changed nothing but tiles and, of its task, what the write of one G register may change. -/
def State.OnlyGives (s t : State) (r : BitVec 5) : Prop :=
  SameMemory s t ∧ t.cur.pc = s.cur.pc + 4 ∧ (∀ x : BitVec 5, x ≠ r → t.cur.rdG x = s.cur.rdG x) ∧
    t = { s with cur := t.cur, tiles := t.tiles, stalled := false }

/-- What a given page leaves besides its buffer and its register. -/
theorem State.givePage_leaves (s : State) (h r : BitVec 5) (c : CBuf) (page : Nat) (shared : Bool) :
    let t := (s.givePage h r c page shared).advance 4
    s.OnlyGives t r ∧
    (s.cur.liveG r = true →
      (t.cur.rdG r).v = dw (flat s.cur.vdie (s.taskGt s.cur % 128) ((s.cb (s.taskGt s.cur) h.toNat).pageOff page)) ∧ (t.cur.rdG r).p = false) ∧
    t.cb (s.taskGt s.cur) h.toNat = c := by
  intro t
  have hw : WritesG (s.modCb (s.taskGt s.cur) h.toNat (fun _ => c)) t [] r _ 4 := writesG_intro _ [] r _ 4
  refine ⟨⟨hw.memory, hw.pc, fun x hx => hw.rdG_other hx, rfl⟩, fun hl => ?_, s.cb_modCb _ _ _⟩
  rw [hw.rdG_same hl]
  exact ⟨rfl, rfl⟩

/-- What a change of one buffer leaves. -/
theorem State.modCb_leaves (s : State) (gt h : Nat) (f : CBuf → CBuf) (r : BitVec 5) :
    let t := (s.modCb gt h f).advance 4
    s.OnlyGives t r ∧
    t.cur.g = s.cur.g ∧ t.cb gt h = f (s.cb gt h) :=
  ⟨⟨sameMemory_of_eq rfl rfl, rfl, fun _ _ => rfl, rfl⟩, rfl, s.cb_modCb gt h f⟩

section Requests

variable (hv : (s.cb (s.taskGt s.cur) h.toNat).valid = true) (ho : (s.cb (s.taskGt s.cur) h.toNat).owner = s.cur.vi)
  (hn : pagesOf n ≤ (s.cb (s.taskGt s.cur) h.toNat).pages)
include hv ho hn

/-- A request that is granted at once moves the counters as the grant does. -/
theorem cbacq_granted {side page : Nat} {b' : CBuf} (hp : side = 0 → s.cur.depth = 0 ∨ (s.cb (s.taskGt s.cur) h.toNat).prot = true) (hf : ReleaseFree s)
    (hg : (s.cb (s.taskGt s.cur) h.toNat).granted = [])
    (hb : (s.cb (s.taskGt s.cur) h.toNat).grant (.task s.cur.key) side (pagesOf n) true = some (b', page)) :
    ∃ c shared, cbacq side n h r s = .next (s.givePage h r c page shared) ∧ c.counters = b'.counters := by
  rw [cbacq, checkHandle_own hv ho]
  simp only [if_neg (not_unprotected_producer hp), if_neg (Nat.not_lt.2 hn), releaseWait_of s _ hf, hg, hb, List.find?_nil]
  exact ⟨_, _, rfl, (CBuf.counters_note _ _ _ _ _).trans (b'.counters_used s.cur.key side)⟩

/-- Scalar pages of a side are released when nothing earlier is outstanding. -/
theorem cbrel_releases {side : Nat} (hp : side = 0 → s.cur.depth = 0 ∨ (s.cb (s.taskGt s.cur) h.toNat).prot = true) (hf : ReleaseFree s)
    (hk : pagesOf n ≤ ((s.cb (s.taskGt s.cur) h.toNat).scalarPages side).length) :
    cbrel side n h s = .next (s.modCb (s.taskGt s.cur) h.toNat (fun b =>
      let ks := ((s.cb (s.taskGt s.cur) h.toNat).scalarPages side).take (pagesOf n)
      if side = 0 then b.completeP s.cur.key s.cur.depth ks else b.completeC s.cur.key s.cur.depth ks)) := by
  have hlen : ¬ (((s.cb (s.taskGt s.cur) h.toNat).scalarPages side).take (pagesOf n)).length < pagesOf n := by
    rw [List.length_take]
    omega
  rw [cbrel, checkHandle_own hv ho]
  simp only [if_neg (not_unprotected_producer hp), if_neg (Nat.not_lt.2 hn), if_neg hlen, hf.1, hf.2]
  rfl

end Requests

/-- The item that CBQRY selects (R147). -/
theorem cbItem_selects (b : CBuf) (vdie tile : Nat) (k : BitVec 3) : cbItem b vdie tile k.toNat =
    if k = 0 then dw b.freePages else if k = 1 then dw b.filled else if k = 2 then dw (b.resv % 2 ^ 32) else if k = 3 then dw (b.pushed % 2 ^ 32)
    else if k = 4 then dw (b.taken % 2 ^ 32) else if k = 5 then dw (b.popped % 2 ^ 32) else if k = 6 then dw (2 ^ 63 + b.plog * 512 + b.pages)
    else dw (flat vdie tile b.base) := by
  obtain ⟨⟨m, hm⟩⟩ := k
  interval_cases m <;> rfl

end Sys2Proof.Machine

open Sys2Proof.Machine

/-- Settles O20: requests through `cbacq_granted` and `cbrel_releases`, and CBQRY by the item that k selects. -/
theorem bufferRowsComplete : Obligations.BufferRowsComplete := by
  intro n k h r q s hr gt b np address quiet
  refine ⟨fun hv ho hn hf => ⟨fun hp hg hq hroom => ?reserve, fun hg hq hfilled => ?acquire, fun hp hk => ?releaseP, fun hk => ?releaseC⟩, fun ho => ?query⟩
  case reserve =>
    obtain ⟨b', hgrant, hb'⟩ := CBuf.grant_reserves (.task s.cur.key) hq hroom
    obtain ⟨c, shared, hact, hc⟩ := cbacq_granted (r := r) hv ho hn (fun _ => hp) hf hg hgrant
    obtain ⟨hquiet, hreg, hcb⟩ := s.givePage_leaves h r c b.resv shared
    obtain ⟨hresv, hpushed, htaken, hpopped⟩ := CBuf.counters_iff.1 (hc.trans hb')
    refine completes_of_run rfl (fun _ => rfl) hr hact ⟨hquiet, hreg, ?_⟩
    rw [hcb]
    exact ⟨hresv, hpushed, htaken, hpopped⟩
  case acquire =>
    obtain ⟨b', hgrant, hb'⟩ := CBuf.grant_acquires (.task s.cur.key) hq hfilled
    obtain ⟨c, shared, hact, hc⟩ := cbacq_granted (side := 1) (r := r) hv ho hn nofun hf hg hgrant
    obtain ⟨hquiet, hreg, hcb⟩ := s.givePage_leaves h r c b.taken shared
    obtain ⟨hresv, hpushed, htaken, hpopped⟩ := CBuf.counters_iff.1 (hc.trans hb')
    refine completes_of_run rfl (fun _ => rfl) hr hact ⟨hquiet, hreg, ?_⟩
    rw [hcb]
    exact ⟨htaken, hpushed, hresv, hpopped⟩
  case releaseP => exact completes_of_run rfl (fun _ => rfl) hr (cbrel_releases hv ho hn (fun _ => hp) hf hk) (s.modCb_leaves gt h.toNat _ r)
  case releaseC => exact completes_of_run rfl (fun _ => rfl) hr (cbrel_releases (side := 1) hv ho hn nofun hf hk) (s.modCb_leaves gt h.toNat _ r)
  case query =>
    intro item
    have hitem : item = if b.valid then cbItem b s.cur.vdie (gt % 128) k.toNat else 0 := by
      rw [cbItem_selects]
      cases hv : b.valid
      · exact if_pos hv
      · exact if_neg (by simp [hv])
    rw [hitem]
    exact completes_of_run rfl (fun _ => rfl) hr (if_neg (Bool.eq_false_iff.1 (not_foreign ho))) (writesG_intro s [] r _ 4)

end

section
/-! PROOF. Definitions of buffers and windows, and GLAZE (O21; R146, R149, R226). -/

namespace Sys2Proof.Machine

variable {s : State} {a : BitVec 5} {q : BitVec 4} {l : Loc} {k : Nat} {d0 d1 : DWord}

/-! ## The descriptor of CBINIT (R146) -/

/-- The descriptor d0, d1 that ga addresses can be read at once, outside a domain, with nothing of the task outstanding before it (R226). -/
structure State.DescriptorAt (s : State) (a : BitVec 5) (l : Loc) (k : Nat) (d0 d1 : DWord) : Prop where
  outside : s.cur.depth = 0
  released : ReleaseFree s
  clean : CleanG s [a]
  aligned : (s.gv a).toNat % 8 = 0
  checked : s.check s.cur.who (s.taskGt s.cur) rRD (s.gv a).toNat 16 = .ok l
  free : AccessFree s l 16
  reads : ReadsAt s l 16 k
  low : nthDw (loadedDws 2 (s.fetch k 16)) 0 = d0
  high : nthDw (loadedDws 2 (s.fetch k 16)) 1 = d1

/-- CBINIT comes to its two doublewords. -/
theorem State.DescriptorAt.read (h : s.DescriptorAt a l k d0 d1) (f : State → List DWord → Act) :
    notInDomain s (checkRegs s [a] (releaseWait s (withDws s (s.gv a).toNat 2 f))) = f s (loadedDws 2 (s.fetch k 16)) := by
  rw [notInDomain_outside h.outside, checkRegs_clean s _ _ h.clean, releaseWait_of s _ h.released]
  exact withDws_of_readsAt (by decide) h.checked h.free h.reads f

/-- The task has read ga after a definition. -/
def State.readOperand (s : State) (a : BitVec 5) : State := s.modCur (fun t => t.noteReads [a])

theorem State.readOperand_pc (s : State) (a : BitVec 5) : (s.readOperand a).cur.pc = s.cur.pc := by
  rw [State.readOperand, State.modCur_cur, note_other]

/-- A state in which CBINIT has left memory and its task's place alone: what it leaves past the instruction. -/
theorem State.defined_leaves {y : State} (hmem : SameMemory s y) (hpc : y.cur.pc = s.cur.pc) (a : BitVec 5) :
    SameMemory s ((y.readOperand a).advance 4) ∧ ((y.readOperand a).advance 4).cur.pc = s.cur.pc + 4 := by
  refine ⟨hmem.trans (sameMemory_of_eq rfl rfl), ?_⟩
  rw [State.advance_cur]
  exact congrArg (· + 4) ((y.readOperand_pc a).trans hpc)

/-! ## Buffers (R146) -/

/-- A buffer of the task's tile is replaced and its waiting tasks are readied. -/
def State.redefine (s : State) (h : Nat) (b : CBuf) : State := (s.modCb (s.taskGt s.cur) h (fun _ => b)).wakeBuffer (s.taskGt s.cur) h

theorem State.redefine_leaves (s : State) (h : Nat) (b : CBuf) :
    (s.redefine h b).cb (s.taskGt s.cur) h = b ∧ SameMemory s (s.redefine h b) ∧ (s.redefine h b).cur.pc = s.cur.pc := by
  refine ⟨(State.cb_congr (State.wake_tiles _ _) _ _).trans (s.cb_modCb _ h _), ?_, State.wake_pc _ _⟩
  exact SameMemory.trans (t := s.modCb (s.taskGt s.cur) h (fun _ => b)) (sameMemory_of_eq rfl rfl) (State.wake_sameMemory _ _)

/-- Nothing in flight names the buffer. -/
structure State.BufferIdle (s : State) (h : Nat) : Prop where
  commands : ∀ c ∈ (s.tile (s.taskGt s.cur)).vq ++ (s.tile (s.taskGt s.cur)).mq, h ∉ c.handles
  holds : (s.cb (s.taskGt s.cur) h).holds = []
  transfers : ∀ x ∈ s.xfersInFlight, s.xferNamesCb x.1 x.2 (s.taskGt s.cur) h = false

theorem State.BufferIdle.not_busy {h : Nat} (hi : s.BufferIdle h) :
    (((s.tile (s.taskGt s.cur)).vq ++ (s.tile (s.taskGt s.cur)).mq).any (fun c => c.handles.contains h) || !(s.cb (s.taskGt s.cur) h).holds.isEmpty ||
      s.xfersInFlight.any (fun e => s.xferNamesCb e.1 e.2 (s.taskGt s.cur) h)) = false := by
  have hcmds : ((s.tile (s.taskGt s.cur)).vq ++ (s.tile (s.taskGt s.cur)).mq).any (fun c => c.handles.contains h) = false := by
    rw [List.any_eq_false]
    exact fun c hc hn => hi.commands c hc (List.contains_iff_mem.1 hn)
  have hxfers : s.xfersInFlight.any (fun e => s.xferNamesCb e.1 e.2 (s.taskGt s.cur) h) = false := by
    rw [List.any_eq_false]
    exact fun x hx => Bool.eq_false_iff.1 (hi.transfers x hx)
  rw [hcmds, hi.holds, hxfers]
  rfl

/-- CBINIT of a buffer that is not in use does what its two doublewords say. -/
theorem execCbinitBuffer_completes {p : State → Prop} {b : CBuf} (hr : Runs s q) (hd : s.DescriptorAt a l k d0 d1) (hi : s.BufferIdle (bits d0 32 5))
    (hx : cbinitBuffer d0 d1 true false s = .next (s.redefine (bits d0 32 5) b))
    (hp : ∀ t : State, SameMemory s t ∧ t.cur.pc = s.cur.pc + 4 → t.cb (s.taskGt s.cur) (bits d0 32 5) = b → p t) :
    Completes (exec (.cbinitBuffer a q) s) p := by
  obtain ⟨hcb, hmem, hpc⟩ := s.redefine_leaves (bits d0 32 5) b
  refine completes_of_run rfl (fun _ => rfl) hr ((hd.read _).trans ?_) (hp _ (State.defined_leaves hmem hpc a) hcb)
  dsimp only
  rw [show (s.cur.rdG a).v = s.gv a from rfl, hd.low, hd.high, hd.aligned, hi.not_busy]
  exact congrArg (Act.after (fun u => u.readOperand a)) hx

section Definition

variable (hres : bits d0 38 26 = 0 ∧ bits d0 25 7 = 0 ∧ bits d1 14 50 = 0)
  (hown : (s.cb (s.taskGt s.cur) (bits d0 32 5)).valid = true → (s.cb (s.taskGt s.cur) (bits d0 32 5)).owner = s.cur.vi)
  (hsub : (s.cb (s.taskGt s.cur) (bits d0 32 5)).sub = none)
include hres hown hsub

theorem cbinitBuffer_undefines (hpages : bits d1 0 9 = 0) : cbinitBuffer d0 d1 true false s = .next (s.redefine (bits d0 32 5) {}) := by
  have hfields : ¬ (bits d0 38 26 ≠ 0 ∨ bits d0 25 7 ≠ 0 ∨ bits d1 14 50 ≠ 0) := by omega
  simp only [cbinitBuffer, if_neg hfields, not_foreign hown, hpages, hsub, Bool.not_true, Bool.false_eq_true, if_false, if_true, Option.isSome_none]
  rfl

theorem cbinitBuffer_defines (hplog : 8 ≤ bits d1 9 5 ∧ bits d1 9 5 ≤ 16) (hpages : 2 ≤ bits d1 0 9 ∧ bits d1 0 9 ≤ 256)
    (hal : bits d0 0 25 % 2 ^ bits d1 9 5 = 0) (hend : bits d0 0 25 + bits d1 0 9 * 2 ^ bits d1 9 5 ≤ 0x1800000)
    (hready : s.rangeReady (s.taskGt s.cur) (bits d0 0 25) (bits d1 0 9 * 2 ^ bits d1 9 5) = true)
    (hfree : (s.tile (s.taskGt s.cur)).overlaps (bits d0 0 25) (bits d1 0 9 * 2 ^ bits d1 9 5) (some (bits d0 32 5)) none = false) :
    cbinitBuffer d0 d1 true false s = .next (s.redefine (bits d0 32 5)
      { valid := true, owner := s.cur.vi, prot := bit d0 37, base := bits d0 0 25, plog := bits d1 9 5, pages := bits d1 0 9 }) := by
  have hfields : ¬ (bits d0 38 26 ≠ 0 ∨ bits d0 25 7 ≠ 0 ∨ bits d1 14 50 ≠ 0) := by omega
  have hsize : ¬ (bits d1 9 5 < 8 ∨ 16 < bits d1 9 5 ∨ bits d1 0 9 = 1 ∨ 256 < bits d1 0 9 ∨ bits d0 0 25 % 2 ^ bits d1 9 5 ≠ 0 ∨
      0x1800000 < bits d0 0 25 + bits d1 0 9 * 2 ^ bits d1 9 5) := by omega
  have hsome : bits d1 0 9 ≠ 0 := by omega
  simp only [cbinitBuffer, if_neg hfields, not_foreign hown, if_neg hsome, if_neg hsize, hready, hfree, hsub, Bool.not_true, Bool.false_eq_true, if_false,
    Option.isSome_none]
  rfl

end Definition

/-! ## Windows (R146) -/

/-- CBINIT of a window that nothing in flight names does what its two doublewords say. -/
theorem execCbinitWindow_completes {p : State → Prop} {w : Win} (hr : Runs s q) (hd : s.DescriptorAt a l k d0 d1)
    (hcmds : s.winCmds (s.taskGt s.cur) (bits d0 32 4) = []) (hxfers : s.winXfers (s.taskGt s.cur) (bits d0 32 4) = [])
    (hx : cbinitWindow d0 d1 true false s = .next (s.modWin (s.taskGt s.cur) (bits d0 32 4) (fun _ => w)))
    (hp : ∀ t : State, SameMemory s t ∧ t.cur.pc = s.cur.pc + 4 → t.win (s.taskGt s.cur) (bits d0 32 4) = w → p t) :
    Completes (exec (.cbinitWindow a q) s) p := by
  have hleaves := State.defined_leaves (s := s) (y := s.modWin (s.taskGt s.cur) (bits d0 32 4) (fun _ => w)) (sameMemory_of_eq rfl rfl) rfl a
  have hwin := (s.win_modWin (s.taskGt s.cur) (bits d0 32 4) (fun _ => w) _ _).trans (if_pos ⟨rfl, rfl⟩)
  refine completes_of_run rfl (fun _ => rfl) hr ((hd.read _).trans ?_) (hp _ hleaves hwin)
  dsimp only
  rw [show (s.cur.rdG a).v = s.gv a from rfl, hd.low, hd.high, hd.aligned, hcmds, hxfers]
  exact congrArg (Act.after (fun u => u.readOperand a)) hx

section Definition

variable (hres : bits d0 36 28 = 0 ∧ bits d0 25 7 = 0 ∧ bits d1 25 39 = 0)
  (hown : (s.win (s.taskGt s.cur) (bits d0 32 4)).valid = true → (s.win (s.taskGt s.cur) (bits d0 32 4)).owner = s.cur.vi)
include hres hown

theorem cbinitWindow_undefines (hsize : bits d1 0 25 = 0) :
    cbinitWindow d0 d1 true false s = .next (s.modWin (s.taskGt s.cur) (bits d0 32 4) (fun _ => {})) := by
  have hfields : ¬ (bits d0 36 28 ≠ 0 ∨ bits d0 25 7 ≠ 0 ∨ bits d1 25 39 ≠ 0) := by omega
  simp only [cbinitWindow, if_neg hfields, not_foreign hown, hsize, Bool.not_true, Bool.false_eq_true, if_false, if_true]

theorem cbinitWindow_defines (hsome : bits d1 0 25 ≠ 0) (hbase : bits d0 0 25 % 256 = 0) (hsize : bits d1 0 25 % 256 = 0)
    (hend : bits d0 0 25 + 2 * bits d1 0 25 ≤ 0x1800000) (hready : s.rangeReady (s.taskGt s.cur) (bits d0 0 25) (2 * bits d1 0 25) = true)
    (hfree : (s.tile (s.taskGt s.cur)).overlaps (bits d0 0 25) (2 * bits d1 0 25) none (some (bits d0 32 4)) = false) :
    cbinitWindow d0 d1 true false s = .next (s.modWin (s.taskGt s.cur) (bits d0 32 4) (fun _ =>
      { valid := true, owner := s.cur.vi, base := bits d0 0 25, size := bits d1 0 25, front := false })) := by
  have hfields : ¬ (bits d0 36 28 ≠ 0 ∨ bits d0 25 7 ≠ 0 ∨ bits d1 25 39 ≠ 0) := by omega
  have hplace : ¬ (bits d0 0 25 % 256 ≠ 0 ∨ bits d1 0 25 % 256 ≠ 0 ∨ 0x1800000 < bits d0 0 25 + 2 * bits d1 0 25) := by omega
  simp only [cbinitWindow, if_neg hfields, not_foreign hown, if_neg hsome, if_neg hplace, hready, hfree, Bool.not_true, Bool.false_eq_true, if_false]

end Definition

/-! ## GLAZE (R149) -/

/-- GLAZE of a window that nothing names, by a task with nothing outstanding, swaps its halves. -/
theorem execGlaze_swaps {e : BitVec 5} {w : BitVec 4} (hr : Runs s q) (hd : s.cur.depth = 0) (hv : (s.win (s.taskGt s.cur) w.toNat).valid = true)
    (ho : (s.win (s.taskGt s.cur) w.toNat).owner = s.cur.vi) (hp : s.preserves (s.taskGt s.cur) w.toNat = false) (hown : s.cmdsOf s.cur = [])
    (hst : s.storesOf s.cur.key = []) (hcmds : s.winCmds (s.taskGt s.cur) w.toNat = []) (hxfers : s.winXfers (s.taskGt s.cur) w.toNat = []) :
    execGlaze e w q s = .next (((s.swapWin (s.taskGt s.cur) w.toNat).modCur (fun t => t.modSch (fun y => { y with glaze := none }))).advance 4) := by
  rw [execGlaze, run_of_runs _ _ _ _ hr, notInDomain_outside hd]
  simp only [hv, ho, hp, hown, hst, hcmds, hxfers, List.map_nil, List.any_nil, Bool.not_true, bne_self_eq_false, Bool.or_false, Bool.false_eq_true, if_false,
    ne_eq, not_true_eq_false, or_false]
  rfl

end Sys2Proof.Machine

open Sys2Proof.Machine

/-- Settles O21: the descriptor is read at once, and each definition passes its checks in their order. -/
theorem definitionAndGlazeRowsComplete : Obligations.DefinitionAndGlazeRowsComplete := by
  intro a e w q s hr hd gt ga
  refine ⟨fun l k hf hc hal hk hacc hread => ?cbinit, fun hv ho hp hown hst hcmds hxfers => ?glaze⟩
  case cbinit =>
    intro ds d0 d1 base
    have hdesc : s.DescriptorAt a l k d0 d1 := ⟨hd, hf, hc, hal, hk, hacc, hread, rfl, rfl⟩
    refine ⟨?buffer, ?window⟩
    case buffer =>
      intro h plog pages hcmds hholds hxfers h38 h25 h14 hown hsub
      have hidle : s.BufferIdle h := ⟨hcmds, hholds, hxfers⟩
      have hres : bits d0 38 26 = 0 ∧ bits d0 25 7 = 0 ∧ bits d1 14 50 = 0 := ⟨h38, h25, h14⟩
      refine ⟨fun h0 => ?undefined, fun hlo hhi h2 hmax halign hend hready hfree => ?defined⟩
      case undefined =>
        exact execCbinitBuffer_completes hr hdesc hidle (cbinitBuffer_undefines hres hown hsub h0) (fun t ⟨hmem, hpc⟩ hcb => ⟨congrArg CBuf.valid hcb, hmem, hpc⟩)
      case defined =>
        exact execCbinitBuffer_completes hr hdesc hidle (cbinitBuffer_defines hres hown hsub ⟨hlo, hhi⟩ ⟨h2, hmax⟩ halign hend hready hfree)
          (fun t ⟨hmem, hpc⟩ hcb => ⟨hmem, hpc, hcb⟩)
    case window =>
      intro x size hcmds hxfers h36 h25 h25' hown
      have hres : bits d0 36 28 = 0 ∧ bits d0 25 7 = 0 ∧ bits d1 25 39 = 0 := ⟨h36, h25, h25'⟩
      refine ⟨fun h0 => ?undefined, fun hsome hbase hsize hend hready hfree => ?defined⟩
      case undefined =>
        exact execCbinitWindow_completes hr hdesc hcmds hxfers (cbinitWindow_undefines hres hown h0)
          (fun t ⟨hmem, hpc⟩ hwin => ⟨congrArg Win.valid hwin, hmem, hpc⟩)
      case defined =>
        exact execCbinitWindow_completes hr hdesc hcmds hxfers (cbinitWindow_defines hres hown hsome hbase hsize hend hready hfree)
          (fun t ⟨hmem, hpc⟩ hwin => ⟨hmem, hpc, hwin⟩)
  case glaze =>
    exact ⟨_, execGlaze_swaps hr hd hv ho hp hown hst hcmds hxfers, sameMemory_of_eq rfl rfl, rfl, rfl, s.win_modWin gt w.toNat _⟩

end

section
/-! PROOF. The mover's instructions (O22; R155 to R157, R162, R169): the shadow set, status reads, and what a launch enters. -/

namespace Sys2Proof.Machine

variable {s t : State} {i : Instr} {q : BitVec 4} {a d : BitVec 5}

/-! ## Instructions that read and write G registers -/

theorem Task.noteReads_pc (u : Task) (ns : List (BitVec 5)) : (u.noteReads ns).pc = u.pc := by
  unfold Task.noteReads
  split <;> rfl

/-- An instruction of 4 bytes whose body reads registers and writes one. -/
theorem completes_writesG {body : State → Act} {reads : List (BitVec 5)} {x : RegV} (h : guardOf i = some q) (he : ∀ s, exec i s = run i q s body)
    (hr : Runs s q) (hb : body s = .next (s.modCur (fun u => (u.noteReads reads).wrG d x))) : Completes (exec i s) (fun t => WritesG s t reads d x 4) :=
  completes_of_run h he hr hb (writesG_intro s reads d x 4)

theorem WritesG.mv {reads : List (BitVec 5)} {x : RegV} {len : Nat} (h : WritesG s t reads d x len) : t.cur.mv = s.cur.mv :=
  (congrArg (fun z : State => z.cur.mv) h.frame :)

/-! ## The shadow set (R151, R155) -/

/-- One bit of a tag field is replaced. -/
theorem getLsbD_replaceBit (x : BitVec 11) {n j : Nat} (hn : n < 11) (hj : j < 11) (b : Bool) :
    (if b then x ||| (1#11 <<< n) else x &&& ~~~(1#11 <<< n)).getLsbD j = if j = n then b else x.getLsbD j := by
  have hone : (1#11 <<< n).getLsbD j = decide (j = n) := by
    simp only [BitVec.getLsbD_shiftLeft, BitVec.getLsbD_one]
    rw [Bool.eq_iff_iff]
    simp only [Bool.and_eq_true, Bool.not_eq_true', decide_eq_true_eq, decide_eq_false_iff_not]
    omega
  have hlt : decide (j < 11) = true := decide_eq_true hj
  cases b
  · simp only [Bool.false_eq_true, if_false, BitVec.getLsbD_and, BitVec.getLsbD_not, hone, hlt, Bool.true_and]
    by_cases h : j = n <;> simp [h]
  · simp only [if_true, BitVec.getLsbD_or, hone]
    by_cases h : j = n <;> simp [h]

/-- Shadow register n takes a register's value, its reserved bits zero, with the tags. -/
def Shadow.put (m : Shadow) (n : Nat) (x : RegV) (det : Bool) : Shadow :=
  { regs := m.regs.set! n (x.v &&& mvMask n)
    pois := if x.p then m.pois ||| (1#11 <<< n) else m.pois &&& ~~~(1#11 <<< n)
    taint := if x.t && det then m.taint ||| (1#11 <<< n) else m.taint &&& ~~~(1#11 <<< n) }

theorem Shadow.put_get (m : Shadow) (n j : Fin 11) (x : RegV) (det : Bool) :
    (m.put n.val x det).regs[j] = (if j = n then x.v &&& mvMask n.val else m.regs[j]) ∧
      (m.put n.val x det).pois.getLsbD j.val = (if j = n then x.p else m.pois.getLsbD j.val) ∧
      (m.put n.val x det).taint.getLsbD j.val = (if j = n then det && x.t else m.taint.getLsbD j.val) := by
  refine ⟨?_, ?_, ?_⟩
  · exact (Vector.getElem_setIfInBounds j.isLt).trans (if_congr (by rw [Fin.ext_iff, eq_comm]) rfl rfl)
  · rw [Shadow.put, getLsbD_replaceBit _ n.isLt j.isLt]
    simp only [Fin.ext_iff]
  · rw [Shadow.put, getLsbD_replaceBit _ n.isLt j.isLt, Bool.and_comm]
    simp only [Fin.ext_iff]

/-! ## Status (R162) -/

theorem withId_of (hp : (s.cur.rdG a).p = false) (hn : (s.gv a).toNat < 2 ^ 16) (k : Nat → Act) : withId a s k = k (s.gv a).toNat := by
  have hhigh : bits (s.cur.rdG a).v 16 48 = 0 := by
    rw [bits, Nat.shiftRight_eq_div_pow, show (s.cur.rdG a).v.toNat / 2 ^ 16 = 0 from Nat.div_eq_of_lt hn, Nat.zero_mod]
  have hlow : bits (s.cur.rdG a).v 0 16 = (s.gv a).toNat := by
    rw [bits, Nat.shiftRight_zero]
    exact Nat.mod_eq_of_lt hn
  unfold withId
  simp only [hp, hhigh, hlow, Bool.false_eq_true, if_false, ne_eq, not_true_eq_false]

/-! ## A launch (R156, R157, R169) -/

theorem checkShadow_clean {ns : List Nat} (h : ∀ n ∈ ns, s.cur.mv.pois.getLsbD n = false ∧ (s.cur.det && s.cur.mv.taint.getLsbD n) = false) (k : Act) :
    checkShadow s ns k = k := by
  have hpois : ns.any (fun n => s.cur.mv.pois.getLsbD n) = false := by simpa using fun n hn => (h n hn).1
  have htaint : (s.cur.det && ns.any (fun n => s.cur.mv.taint.getLsbD n)) = false := by
    cases hd : s.cur.det
    · rfl
    · simpa [hd] using fun n hn => (h n hn).2
  simp only [checkShadow, hpois, htaint, Bool.false_eq_true, if_false]

/-- A side that names a handle finds the cached entry, and one that names none has none. -/
theorem withEntry_cached {kind h : Nat} {e : Option (DWord × DWord)}
    (he : if kind = 1 then e ≠ none ∧ (s.tile (s.taskGt s.cur)).handle s.cur.vi h = e else e = none) (k : Option (DWord × DWord) → Act) :
    (if kind = 1 then withEntry s h k else k none) = k e := by
  split at he
  · next hk =>
    obtain ⟨hsome, hcached⟩ := he
    obtain ⟨y, rfl⟩ := Option.ne_none_iff_exists'.1 hsome
    rw [if_pos hk, withEntry, hcached]
  · next hk => rw [if_neg hk, he]

theorem logCtr_outside {r : MvRegs} (h : s.cur.depth = 0 ∨ mvCtr r = 0) (k : State → Act) : logCtr s r k = k s := if_pos h

/-- The issuing task has moved past an instruction of 4 bytes that enters transfer `x` under the next identifier of its tile, which `d` takes. -/
def State.EntersXfer (s t : State) (d : BitVec 5) (x : Transfer) : Prop :=
  let gt := s.taskGt s.cur
  let id := (s.tile gt).xctr.toNat
  (∀ y, t.tile y = if y = gt then { s.tile gt with xctr := (s.tile gt).xctr + 1, xfers := tinsert (s.tile gt).xfers (id % 1024) { x with id := id } }
    else s.tile y) ∧
  (s.cur.liveG d = true → t.cur.rdG d = ⟨BitVec.ofNat 64 id, false, s.cur.det⟩) ∧
  (∀ y : BitVec 5, y ≠ d → t.cur.g[y.toNat] = s.cur.g[y.toNat]) ∧ t.cur.mv = s.cur.mv ∧ t.cur.pc = s.cur.pc + 4 ∧ SameMemory s t

theorem State.launchXfer_enters (s : State) (reads : List (BitVec 5)) (d : BitVec 5) (x : Transfer) :
    s.EntersXfer (((s.launchXfer x).1.modCur (fun u => (u.noteReads reads).wrG d ⟨dw (s.launchXfer x).2, false, true⟩)).advance 4) d x := by
  have hw := writesG_intro (s.launchXfer x).1 reads d ⟨dw (s.launchXfer x).2, false, true⟩ 4
  refine ⟨s.tile_modTile (s.taskGt s.cur)
    (fun z => { z with xctr := z.xctr + 1, xfers := tinsert z.xfers ((s.tile (s.taskGt s.cur)).xctr.toNat % 1024) { x with id := (s.tile (s.taskGt s.cur)).xctr.toNat } }),
    fun hl => ?_, fun y hy => (hw.g y).trans (if_neg (fun h => hy h.1)), hw.mv, hw.pc, hw.memory⟩
  refine (hw.rdG_same hl).trans ?_
  rw [Bool.and_true]
  rfl

/-! ### MVGO -/

theorem ite_some_eq_none {α : Type} {p q r : Prop} [Decidable p] [Decidable q] [Decidable r] {x y : α} :
    (if p then none else if q then some x else if r then some y else none) = none ↔ p ∨ (¬ q ∧ ¬ r) := by
  simp only [ite_eq_left_iff, ite_eq_right_iff, reduceCtorEq, ite_eq_iff, and_false, false_or, imp_false]
  tauto

/-- The record of a collective lies in memory that no live workspace holds, whatever its task's place in the schedule (R187). -/
theorem State.liveArea_modSch {gt off : Nat} (h : s.liveArea gt off = none) (f : Sched → Sched) : (s.modCur (fun u => u.modSch f)).liveArea gt off = none := by
  unfold State.liveArea at h ⊢
  rw [List.findSome?_eq_none_iff] at h ⊢
  intro u hu
  rcases (State.mem_tasks _ u).1 hu with ⟨rfl, hst⟩ | ho
  · have hcur := h s.cur ((s.mem_tasks s.cur).2 (.inl ⟨rfl, hst⟩))
    exact ite_some_eq_none.2 (ite_some_eq_none.1 hcur)
  · exact h u ((s.mem_tasks u).2 (.inr ho))

theorem ReadsAt.clearBad {l : Loc} {n k : Nat} (h : ReadsAt s l n k) : ReadsAt s.clearBad l n k := by
  cases l with
  | sram gt off =>
    obtain ⟨o, hgran, hat, hwritten, hlive, hk⟩ := h
    exact ⟨o, hgran, hat, hwritten, State.liveArea_modSch hlive _, hk⟩
  | hbm mma => exact h
  | peer m mma => exact h
  | ctrl v p o => exact h

/-- The transfer that MVGO forms from the shadow set and the entries of its handles (R156). -/
def State.formed (s : State) (hs hd : Option (DWord × DWord)) : Transfer :=
  { vi := s.cur.vi, wp := s.cur.wp, regs := s.cur.mv.regs, srcH := hs.getD (0, 0), dstH := hd.getD (0, 0), det := s.cur.det, depth := s.cur.depth }

/-- The end of MVGO: the transfer is entered, and its identifier given. -/
def launchAct (s : State) (r : MvRegs) (d : BitVec 5) (x : Transfer) : Act :=
  logCtr s r (fun s => .next ((s.launchXfer x).1.modCur (fun u => u.wrG d ⟨dw (s.launchXfer x).2, false, true⟩)))

/-- MVGO with a collective's record read. -/
def recordAct (s : State) (r : MvRegs) (d : BitVec 5) (x : Transfer) (ds : List DWord) : Act :=
  if !s.recordOk r ds then illegalOperand s else launchAct (s.useTag (colTag ds)).1 r d { x with record := ds, use := (s.useTag (colTag ds)).2 }

section Launch

variable (hr : Runs s q) (hroom : s.xferRoom = true) (hfree : ReleaseFree s)
include hr hroom hfree

/-- MVGO whose fields are clean and whose checks pass. -/
theorem execMvgo_checked {hs hd : Option (DWord × DWord)}
    (hclean : ∀ n ∈ mvUsed s.cur.mv.regs, s.cur.mv.pois.getLsbD n = false ∧ (s.cur.det && s.cur.mv.taint.getLsbD n) = false)
    (hsrc : if mvSkind s.cur.mv.regs = 1 then hs ≠ none ∧ (s.tile (s.taskGt s.cur)).handle s.cur.vi (mvSh s.cur.mv.regs) = hs else hs = none)
    (hdst : if mvDkind s.cur.mv.regs = 1 then hd ≠ none ∧ (s.tile (s.taskGt s.cur)).handle s.cur.vi (mvDh s.cur.mv.regs) = hd else hd = none)
    (hcheck : s.clearBad.xferCheck s.cur.who (s.taskGt s.cur) (s.formed hs hd) hs hd = none) :
    execMvgo d q s = finish (.mvgo d q) (if mvDkind s.cur.mv.regs = 4 then withDws s.clearBad (mvDst s.cur.mv.regs) 8
        (fun u ds => recordAct u s.cur.mv.regs d (s.formed hs hd) ds)
      else launchAct s.clearBad s.cur.mv.regs d (s.formed hs hd)) := by
  have hclean' := checkShadow_clean (s := s.clearBad) (ns := mvUsed s.cur.mv.regs) hclean
  rw [execMvgo, run_of_runs _ _ _ _ hr]
  dsimp only
  rw [hroom, Bool.not_true, if_neg Bool.false_ne_true, releaseWait_of s _ hfree, withEntry_cached hsrc, withEntry_cached hdst, hclean', ← State.formed]
  simp only [show s.clearBad.xferCheck s.clearBad.cur.who (s.taskGt s.cur) (s.formed hs hd) hs hd = none from hcheck]
  rfl

/-- MVCHAIN whose fields are clean and whose checks pass (R169). -/
theorem execMvchain_launches (hd : s.cur.depth = 0) (hclean : ∀ n ∈ chUsed s.cur.mv.regs, s.cur.mv.pois.getLsbD n = false ∧ (s.cur.det && s.cur.mv.taint.getLsbD n) = false)
    (ha : CleanG s [a]) (hscope : 1 ≤ mvScope s.cur.mv.regs ∧ mvScope s.cur.mv.regs ≤ 4) (hrect : mvMc s.cur.mv.regs = true → mvRectOk s.cur.mv.regs = true)
    (hal : (s.gv a).toNat % 64 = 0) (hside : s.sideOk s.cur.who (s.taskGt s.cur) rRD (((s.gv a).toNat : Int), ((s.gv a).toNat : Int) + 63) = none)
    (hbar : s.wordOk s.cur.who (s.taskGt s.cur) (mvBar s.cur.mv.regs) 32 = none) (hctr : s.wordOk s.cur.who (s.taskGt s.cur) (mvCtr s.cur.mv.regs) 8 = none)
    (hwin : s.cur.det = true → s.chainWin (s.gv a).toNat ≠ none) :
    let x : Transfer := { vi := s.cur.vi, wp := s.cur.wp, regs := s.cur.mv.regs, isChain := true, chain := some (s.gv a).toNat, det := s.cur.det
                          detWin := if s.cur.det then s.chainWin (s.gv a).toNat else none }
    execMvchain a d q s = .next (((s.launchXfer x).1.modCur (fun u => (u.noteReads [a]).wrG d ⟨dw (s.launchXfer x).2, false, true⟩)).advance 4) := by
  have hform : ¬ (¬ (1 ≤ mvScope s.cur.mv.regs ∧ mvScope s.cur.mv.regs ≤ 4) ∨ (mvMc s.cur.mv.regs = true ∧ mvRectOk s.cur.mv.regs = false)) := by
    rintro (h | ⟨hmc, hbad⟩)
    · exact h hscope
    · exact Bool.false_ne_true (hbad.symm.trans (hrect hmc))
  have hdet : (s.cur.det && (s.chainWin (s.gv a).toNat).isNone) = false := by
    cases h : s.cur.det
    · rfl
    · obtain ⟨w, hw⟩ := Option.ne_none_iff_exists'.1 (hwin h)
      rw [hw]
      rfl
  have hpass : firstBad [if (s.gv a).toNat % 64 ≠ 0 then some (.addr 0x04 (s.gv a).toNat) else
      s.sideOk s.cur.who (s.taskGt s.cur) rRD (((s.gv a).toNat : Int), ((s.gv a).toNat : Int) + 63),
      s.wordOk s.cur.who (s.taskGt s.cur) (mvBar s.cur.mv.regs) 32, s.wordOk s.cur.who (s.taskGt s.cur) (mvCtr s.cur.mv.regs) 8] = none := by
    rw [if_neg (not_not_intro hal), hside, hbar, hctr]
    rfl
  intro x
  rw [execMvchain, run_of_runs _ _ _ _ hr]
  dsimp only
  rw [hroom, Bool.not_true, if_neg Bool.false_ne_true, releaseWait_of s _ hfree, checkShadow_clean hclean, checkRegs_clean s [a] _ ha, if_neg hform,
    if_neg (fun h => h.1 hd)]
  rw [show (s.cur.rdG a).v = s.gv a from rfl, hpass]
  dsimp only
  rw [hdet, if_neg Bool.false_ne_true, logCtr_outside (.inl hd), hd]
  rfl

end Launch

end Sys2Proof.Machine

open Sys2Proof.Machine

/-- Settles O22: MVSET and MVGET copy one shadow register, status reads find the entry or none, and a launch whose checks pass is `State.launchXfer`. -/
theorem moverRowsComplete : Obligations.MoverRowsComplete := by
  intro e a d q s hr m r gt ga ready enters
  refine ⟨fun n hn => ⟨?set, ?get⟩, fun hp hid => ⟨fun x hx => ⟨?test, fun hdone hf => ?wait⟩, fun hx => ⟨?testExpired, ?waitExpired⟩⟩,
    fun hs hd ⟨hroom, hf, hclean⟩ hsrc hdst hctr hcheck => ⟨fun hk => ?go, fun l k hk hc hu hread hok => ?collective⟩,
    fun ⟨hroom, hf, hclean⟩ ha hdepth hlo hhi hrect hal hside hbar hcw hwin => ?chain⟩
  case set =>
    have hact : (fun s : State => Act.next (s.modCur (fun t => { t.noteReads [a] with mv := t.mv.put e.toNat (s.cur.rdG a) t.det }))) s =
        .next (s.modCur (fun t => { t.noteReads [a] with mv := m.put n.val (s.cur.rdG a) s.cur.det })) := by rw [hn]; rfl
    refine completes_of_run rfl (fun _ => rfl) hr hact ⟨fun j => m.put_get n j (s.cur.rdG a) s.cur.det, ?_⟩
    exact congrArg (fun p : BitVec 56 => ({ s with cur := { s.cur.noteReads [a] with mv := m.put n.val (s.cur.rdG a) s.cur.det, pc := p + 4 }, stalled := false } : State))
      (s.cur.noteReads_pc [a])
  case get =>
    have hget : m.regs.toList.getD e.toNat 0 = r[n] := by
      rw [← hn]
      simp [r]
    refine completes_writesG (reads := []) rfl (fun _ => rfl) hr ?_
    dsimp only
    rw [hget, ← hn]
    rfl
  case test =>
    refine completes_writesG rfl (fun _ => rfl) hr ((withId_of hp hid _).trans ?_)
    dsimp only
    rw [hx]
  case wait =>
    refine completes_writesG rfl (fun _ => rfl) hr ((withId_of hp hid _).trans ?_)
    rw [hx]
    dsimp only
    rw [hdone, if_neg Bool.false_ne_true, releaseWait_of s _ hf]
  case testExpired =>
    refine completes_writesG rfl (fun _ => rfl) hr ((withId_of hp hid _).trans ?_)
    rw [hx]
    rfl
  case waitExpired =>
    refine completes_writesG rfl (fun _ => rfl) hr ((withId_of hp hid _).trans ?_)
    rw [hx]
    rfl
  case go =>
    have hexec : exec (.mvgo d q) s = _ := execMvgo_checked hr hroom hf hclean hsrc hdst hcheck
    rw [if_neg hk, launchAct, logCtr_outside (s := s.clearBad) (r := s.cur.mv.regs) hctr] at hexec
    exact ⟨_, hexec, s.clearBad.launchXfer_enters [] d _⟩
  case collective =>
    have hexec : exec (.mvgo d q) s = _ := execMvgo_checked hr hroom hf hclean hsrc hdst hcheck
    have hrecord : s.clearBad.recordOk r (loadedDws 8 (s.clearBad.fetch k (8 * 8))) = true := hok
    rw [if_pos hk, withDws_of_readsAt (s := s.clearBad) (a := mvDst s.cur.mv.regs) (n := 8) (by decide) hc hu hread.clearBad, recordAct, if_neg (by rw [hrecord]; decide),
      launchAct, logCtr_outside (s := (s.clearBad.useTag _).1) (r := s.cur.mv.regs) hctr] at hexec
    exact ⟨_, hexec, State.launchXfer_enters _ [] d _⟩
  case chain =>
    exact ⟨_, execMvchain_launches hr hroom hf hdepth hclean ha ⟨hlo, hhi⟩ hrect hal hside hbar hcw hwin, s.launchXfer_enters [a] d _⟩

end

section
/-! PROOF. Copy barriers and WAITC (O24; R178 to R180, R334). -/

namespace Sys2Proof.Machine

variable {s : State} {g off : Nat}

/-! ## A slice's place (R91, R92) -/

/-- A request to a fenced tile does not reach its slice (R18, R392). -/
theorem State.fencedTile_of_check1_sram {w : Who} {gt right x : Nat} (h : s.check1 w gt right x = .ok (.sram g off)) : s.fencedTile g = false := by
  unfold State.check1 at h
  split at h
  · cases h
  · split at h
    · split at h
      · split at h
        · cases h
        · split at h
          · cases h
          · next hf =>
            cases h
            rw [Bool.not_eq_true, Bool.or_eq_false_iff] at hf
            exact hf.1
      all_goals cases h
    all_goals
      repeat' split at h
      all_goals cases h

theorem State.fencedTile_of_check_sram {w : Who} {gt right x n : Nat} (h : s.check w gt right x n = .ok (.sram g off)) : s.fencedTile g = false := by
  unfold State.check at h
  split at h
  · next l hl =>
    split at h
    · cases h
      exact State.fencedTile_of_check1_sram hl
    · next he => exact absurd h (he _)
  · next he => exact absurd h (he _)

theorem Task.wrG_pc (u : Task) (d : BitVec 5) (x : RegV) : (u.wrG d x).pc = u.pc := by
  unfold Task.wrG
  split <;> rfl

/-! ## A store to a slice (R207) -/

/-- A store of a task alone, outside every window, that nothing of the task and no reservation meets, is performed at once. -/
theorem withStore_sram {x k : Nat} {bs : List Byte} {marks : List Bool} (h0 : 0 < bs.length) (hm : marks.length = bs.length)
    (hc : s.check s.cur.who (s.taskGt s.cur) rWR x bs.length = .ok (.sram g off)) (hu : AccessFree s (.sram g off) bs.length)
    (hheld : s.writeHeld s.cur.key (.sram g off) bs.length = none) (hw : WritesAt s (.sram g off) bs.length k) (htwin : s.cur.twin = none)
    (hdefer : s.defer = false) (f : State → Act) : ∃ md, withStore s x bs marks f = f (({ s with md := md } : State).put k bs marks) := by
  obtain ⟨hbusy, hstrong, hstores⟩ := hu
  have holder : (s.storesOf s.cur.key).any (fun y => y.strong || (!y.performed && s.storeMeets y (.sram g off) bs.length)) = false := by
    rw [List.any_eq_false]
    intro y hy
    obtain ⟨hmeets, hst⟩ := hstores y hy
    rw [hmeets, hst, Bool.and_false, Bool.or_false]
    exact Bool.false_ne_true
  obtain ⟨dc, di, co, hwrite⟩ := writeLoc_of_WritesAt s (s.storeMaster { key := s.cur.key, vi := s.cur.vi, addr := x, loc := .sram g off, bytes := bs, marks := marks })
    0 (aVdie x) (.sram g off) bs marks k h0 hm hw
  refine ⟨{ s.md with dcache := dc, dir := di, counters := co }, ?_⟩
  generalize hu : ({ s with md := { s.md with dcache := dc, dir := di, counters := co } } : State).put k bs marks = u at hwrite ⊢
  have hsame : u.stores = s.stores := by rw [← hu]; rfl
  have hfence := State.fencedTile_of_check_sram hc
  have htry : s.tryStore (s.storesOf s.cur.key) { key := s.cur.key, vi := s.cur.vi, addr := x, loc := .sram g off, bytes := bs, marks := marks } = { s := u } := by
    unfold State.tryStore
    simp only [State.locFenced, hfence, holder, hheld, Bool.false_and, Bool.or_self, Bool.false_eq_true, if_false]
    exact hwrite
  have hissue : s.issueStore { key := s.cur.key, vi := s.cur.vi, addr := x, loc := .sram g off, bytes := bs, marks := marks } = { s := u } := by
    unfold State.issueStore
    rw [htry]
    rfl
  rw [withStore, hc]
  simp only [chkAct, storeOut, hbusy, hstrong, State.ownTagBad, htwin, hdefer, Bool.or_self, Bool.false_and, Option.isSome_none, Bool.not_false, Bool.false_eq_true,
    if_false]
  rw [hissue]
  simp [State.countHits, chargeCur_nil, hsame]

/-! ## The barrier record (R178, R179) -/

/-- Every field of a barrier is within its width. -/
structure Barrier.Fits (b : Barrier) : Prop where
  owed : b.owed < 2 ^ 40
  round : b.round < 2 ^ 32
  seats : b.seats < 2 ^ 32
  quota : b.quota < 2 ^ 32

theorem bits_lt (x : DWord) (lo n : Nat) : bits x lo n < 2 ^ n := Nat.mod_lt _ (Nat.two_pow_pos n)

theorem State.bar_fits (s : State) (k : Nat) : (s.bar k).Fits := ⟨bits_lt _ _ _, bits_lt _ _ _, bits_lt _ _ _, bits_lt _ _ _⟩

theorem Barrier.Fits.close {b : Barrier} (h : b.Fits) : b.close.Fits := by
  unfold Barrier.close
  split
  · exact ⟨by positivity, Nat.mod_lt _ (by positivity), h.quota, h.quota⟩
  · exact h

theorem Barrier.Fits.seat {b : Barrier} (h : b.Fits) (n : Nat) : (b.seat n).Fits :=
  Barrier.Fits.close ⟨Nat.mod_lt _ (by positivity), h.round, (Nat.sub_le _ _).trans_lt h.seats, h.quota⟩

/-- A barrier that is stored is read back, and no other byte changes. -/
theorem State.bar_setBar (s : State) (k : Nat) {b : Barrier} (h : b.Fits) :
    (s.setBar k b).bar k = b ∧ ∀ x, x < k ∨ k + 32 ≤ x → (s.setBar k b).byteAt x = s.byteAt x :=
  (recordsReadBack s k).1 b h.owed h.round h.seats h.quota

/-- The word that BXTST gives: the round, and the four flags (R180). -/
def Barrier.flagWord (b : Barrier) : DWord :=
  dw (b.round * 2 ^ 32 + (if b.lfail then 8 else 0) + (if b.lpois then 4 else 0) + (if b.fail then 2 else 0) + (if b.pois then 1 else 0))

theorem Barrier.flagWord_fields {b : Barrier} (h : b.round < 2 ^ 32) : bits b.flagWord 32 32 = b.round ∧ bits b.flagWord 4 28 = 0 ∧
    bit b.flagWord 3 = b.lfail ∧ bit b.flagWord 2 = b.lpois ∧ bit b.flagWord 1 = b.fail ∧ bit b.flagWord 0 = b.pois := by
  have h3 := b.lfail.toNat_lt
  have h2 := b.lpois.toNat_lt
  have h1 := b.fail.toNat_lt
  have h0 := b.pois.toNat_lt
  simp only [Barrier.flagWord, ite_eq_toNat_mul]
  refine ⟨?_, ?_, bit_dw _ _ _ (by decide) (by omega), bit_dw _ _ _ (by decide) (by omega), bit_dw _ _ _ (by decide) (by omega), bit_dw _ _ _ (by decide) (by omega)⟩
  · rw [bits_dw _ _ _ (by omega)]; omega
  · rw [bits_dw _ _ _ (by omega)]; omega

theorem Barrier.length_bytes (b : Barrier) : (b.words.flatMap (fun x => toBytes 8 x.toNat)).length = 32 := length_flatMap_toBytes b.words

/-! ## The instructions (R180) -/

/-- A barrier of 32-byte alignment in a slice, outside every window and within the scope. -/
structure State.BarrierAt (s : State) (e x g off : Nat) : Prop where
  region : aRegion x = 0
  aligned : x % 32 = 0
  place : s.check s.cur.who (s.taskGt s.cur) rAny x 32 = .ok (.sram g off)
  noWindow : (s.tile g).winAt off = none
  noSecond : (s.tile g).inSecond off = false
  scope : e = 0 ∨ inScope e (s.taskGt s.cur) g = true

theorem withBarrier_of {e x : Nat} {written : Bool} (h : s.BarrierAt e x g off) (hgran : written = true → (s.gran g (off / 256)).state = 2) (f : Nat → Act) :
    withBarrier s e x written f = f (sramKey g off) := by
  have hplace : ¬ (aRegion x ≠ 0 ∨ x % 32 ≠ 0) := by rw [h.region, h.aligned]; decide
  have hscope : ¬ (e ≠ 0 ∧ inScope e (s.taskGt s.cur) g = false) := by
    rintro ⟨he, hout⟩
    exact h.scope.elim he (fun hin => Bool.false_ne_true (hout.symm.trans hin))
  rw [withBarrier, if_neg hplace, h.place]
  simp only [chkAct, h.noWindow, h.noSecond, Option.isSome_none, Bool.or_self, Bool.false_eq_true, if_false]
  cases written
  · simp only [Bool.false_and, Bool.false_eq_true, if_false, hscope]
  · simp only [hgran rfl, Bool.true_and]
    exact if_neg hscope

/-- A synchronisation point of a task with no failure to report (R139, R161, R397). -/
theorem syncCheck_quiet (hcrust : bits s.cur.st.crust 56 8 = 0) (hfailed : s.cur.sch.failedStore = none) (hmverr : bits s.cur.st.mverr 40 8 = 0) (k : Act) :
    syncCheck s k = k := by
  simp only [syncCheck, hcrust, hfailed, hmverr, ne_eq, not_true_eq_false, if_false]

/-- An instruction that only reads registers and moves on. -/
theorem exec_past_of_run {i : Instr} {q : BitVec 4} {body : State → Act} {reads : List (BitVec 5)} (h : guardOf i = some q) (he : ∀ s, exec i s = run i q s body)
    (hr : Runs s q) (hb : body s = .next (s.modCur (fun u => u.noteReads reads))) : exec i s = .next (s.past reads (s.cur.pc + 4)) := by
  rw [he, run_of_runs i q s body hr, hb, finish, length_of_guardOf h, State.past, ← s.cur.noteReads_pc reads]
  rfl

/-! ## Counter words (R334) -/

/-- WAITC reads written memory as it stands (R135, R334). -/
theorem counterWord_of_readsAt {l : Loc} {j : Nat} (h : ReadsAt s l 8 j) (vdie : Nat) : s.counterWord vdie l = { bytes := s.fetch j 8 } := by
  cases l with
  | sram gt x =>
    obtain ⟨o, hgran, hat, hwritten, -, rfl⟩ := h
    simp only [State.counterWord, State.readLoc, State.sramRead, granChunks_one _ _ _ (by decide : 0 < 8) hgran, List.foldl_cons, List.foldl_nil, State.sramRead1, hat,
      hwritten]
    simp
  | hbm mma =>
    obtain ⟨hframe, hheld, rfl⟩ := h
    have hf : (linesOf mma 8).find? (fun x => s.remoteHeld x false) = none := by simpa using hheld
    simp only [State.counterWord, State.readLoc, hf, hbmFetch_eq s mma 8 hframe]
  | peer m mma => exact h.elim
  | ctrl v p o => exact h.elim

/-- Whether a place lies in a window, where no counter may stand (R334). -/
def State.inWindow (s : State) (l : Loc) : Bool := match l with | .sram g off => ((s.tile g).winAt off).isSome || (s.tile g).inSecond off | _ => false

/-- A counter has reached a threshold when their signed distance is not negative. -/
theorem reached_of_toInt {m th : DWord} (h : 0 ≤ (m - th).toInt) : reached m th = true := by
  rw [reached, decide_eq_true_eq]
  rw [BitVec.toInt_eq_toNat_cond] at h
  split at h <;> omega

end Sys2Proof.Machine

open Sys2Proof.Machine

/-- Settles O24: the checks of R180 find the record in its slice, and each instruction is then what R179 does with it. -/
theorem barrierRowsComplete : Obligations.BarrierRowsComplete := by
  intro e a d q s g off hr gt ga n k b
  refine ⟨fun hregion hal hplace hwin hsecond =>
    ⟨fun hd htwin hdefer hc hpos hn hcheck hu hheld hw => ?init, fun hgran hscope => ⟨fun hd hc hn hf hseats hheld => ?arrive,
      fun hpa hpd hta hcrust hfailed hmverr hn hf hpassed => ?wait, fun hf hc => ?test⟩⟩,
    fun l j hc hcrust hfailed hmverr hal hcheck hf hscope hpeer hwin hread hclean hreached => ?waitc⟩
  case init =>
    have hat : s.BarrierAt 0 ga g off := ⟨hregion, hal, hplace, hwin, hsecond, .inl rfl⟩
    have hfits : Barrier.Fits ⟨0, 0, n, n, false, false, false, false⟩ := ⟨by positivity, by positivity, hn, hn⟩
    have hrange : ¬ (n = 0 ∨ 2 ^ 32 ≤ n) := by omega
    have hlen := Barrier.length_bytes ⟨0, 0, n, n, false, false, false, false⟩
    obtain ⟨md, hstore⟩ := withStore_sram (s := s) (x := ga) (k := k) (bs := (Barrier.words ⟨0, 0, n, n, false, false, false, false⟩).flatMap (fun x => toBytes 8 x.toNat))
      (marks := List.replicate 32 false) (by rw [hlen]; decide) (by rw [hlen, List.length_replicate]) (by rw [hlen]; exact hcheck) (by rw [hlen]; exact hu)
      (by rw [hlen]; exact hheld) (by rw [hlen]; exact hw) htwin hdefer (fun s => .next (s.modCur (fun t => t.noteReads [a, d])))
    have hset := State.bar_setBar { s with md := md } k hfits
    refine completes_of_run (u := (({ s with md := md } : State).setBar k ⟨0, 0, n, n, false, false, false, false⟩).modCur (fun t => t.noteReads [a, d])) rfl (fun _ => rfl)
      hr ?_ ⟨hset.1, hset.2, ?_⟩
    · exact (notInDomain_outside hd _).trans ((checkRegs_clean s [a, d] _ hc).trans ((withBarrier_of (written := false) hat (fun h => absurd h Bool.false_ne_true) _).trans ((if_neg hrange).trans hstore)))
    · exact congrArg (fun p : BitVec 56 => { s.cur.noteReads [a, d] with pc := p + 4 }) (s.cur.noteReads_pc [a, d])
  case arrive =>
    have hat : s.BarrierAt e.toNat ga g off := ⟨hregion, hal, hplace, hwin, hsecond, hscope.imp_left (congrArg BitVec.toNat)⟩
    have hset := s.bar_setBar k ((s.bar_fits k).seat n)
    refine completes_of_run (u := (s.setBar k (b.seat n)).modCur (fun t => (t.noteReads [a, d]).wrG d ⟨dw b.round, false, true⟩)) rfl (fun _ => rfl) hr ?_
      ⟨hset.1, hset.2, ?_⟩
    · refine (notInDomain_outside hd _).trans ((checkRegs_clean s [a, d] _ hc).trans ((withBarrier_of hat (fun _ => hgran) _).trans
        ((if_neg (Nat.not_le.2 hn)).trans ((releaseWait_of s _ hf).trans ((if_neg hseats).trans ?_)))))
      rw [hheld]
      rfl
    · exact congrArg (fun p : BitVec 56 => { (s.cur.noteReads [a, d]).wrG d ⟨dw b.round, false, true⟩ with pc := p + 4 })
        ((Task.wrG_pc _ _ _).trans (s.cur.noteReads_pc [a, d]))
  case wait =>
    have hat : s.BarrierAt e.toNat ga g off := ⟨hregion, hal, hplace, hwin, hsecond, hscope.imp_left (congrArg BitVec.toNat)⟩
    exact exec_past_of_run rfl (fun _ => rfl) hr ((if_neg (Bool.eq_false_iff.1 hpa)).trans ((if_neg (Bool.eq_false_iff.1 hpd)).trans
      ((checkTaint_clean s a _ hta).trans ((syncCheck_quiet hcrust hfailed hmverr _).trans ((withBarrier_of hat (fun _ => hgran) _).trans
        ((if_neg (Nat.not_le.2 hn)).trans ((releaseWait_of s _ hf).trans (if_pos hpassed))))))))
  case test =>
    have hat : s.BarrierAt e.toNat ga g off := ⟨hregion, hal, hplace, hwin, hsecond, hscope.imp_left (congrArg BitVec.toNat)⟩
    obtain ⟨t, hexec, hw⟩ := completes_writesG (i := .bxtst e a d q) (reads := [a]) (d := d) (x := ⟨b.flagWord, false, true⟩) rfl (fun _ => rfl) hr
      ((checkRegs_clean s [a] _ hc).trans ((withBarrier_of hat (fun _ => hgran) _).trans (releaseWait_of s _ hf)))
    obtain ⟨hround, hzero, h3, h2, h1, h0⟩ := Barrier.flagWord_fields (s.bar_fits k).round
    exact ⟨t, hexec, b.flagWord, hround, hzero, h3, h2, h1, h0, hw⟩
  case waitc =>
    refine exec_past_of_run rfl (fun _ => rfl) hr ((checkRegs_clean s [a, d] _ hc).trans ((syncCheck_quiet hcrust hfailed hmverr _).trans ?_))
    have hwindow : s.inWindow l = false := by
      cases l with
      | sram x y =>
        obtain ⟨hat, hin⟩ := hwin x y rfl
        rw [State.inWindow, hat, hin]
        rfl
      | _ => rfl
    have hout : ¬ (!waitScopeOk e.toNat gt l) = true := by rw [hscope]; decide
    dsimp only
    rw [show s.check s.cur.who (s.taskGt s.cur) rRD (s.cur.rdG a).v.toNat 8 = .ok l from hcheck]
    refine (if_neg (Bool.eq_false_iff.1 hread.notCtrl)).trans ((if_neg (not_not_intro hal)).trans ((if_neg (Bool.eq_false_iff.1 hwindow)).trans
      ((if_neg hout).trans ((releaseWait_of s _ hf).trans ?_))))
    rw [counterWord_of_readsAt hread]
    exact (if_neg (Bool.eq_false_iff.1 hclean)).trans (if_pos (reached_of_toInt hreached))

end

section
/-! PROOF. The mover's events (O40; R154, R158 to R160, R164, R165, R167, R265). -/

namespace Sys2Proof.Machine

variable {s t u : State} {gt : Nat} {x : Transfer}

/-! ## Entries of the transfer table (R157) -/

/-- The table of tile `gt` holds transfer `x`, as an entry of which `p` says more. -/
def State.HasXfer (s : State) (gt : Nat) (x : Transfer) (p : Transfer → Prop) : Prop := ∃ y, (x.id % 1024, y) ∈ (s.tile gt).xfers ∧ y.id = x.id ∧ p y

theorem State.hasXfer_xPut (s : State) (gt : Nat) {y : Transfer} {p : Transfer → Prop} (hid : y.id = x.id) (hp : p y) : (s.xPut gt y).HasXfer gt x p := by
  refine ⟨y, ?_, hid, hp⟩
  rw [State.xPut, State.tile_modTile, if_pos rfl, ← hid]
  exact mem_tinsert_self _ _ _

theorem State.HasXfer.congr {p : Transfer → Prop} (h : s.HasXfer gt x p) (ht : (t.tile gt).xfers = (s.tile gt).xfers) : t.HasXfer gt x p := by
  rw [State.HasXfer, ht]
  exact h

/-- A stop changes the code, if it is the first, and the stop mark alone (R160). -/
theorem Transfer.halt_eq (y : Transfer) (c : Nat) : y.halt c = { y with code := if y.code = 0 then c else y.code, stop := true } := by
  unfold Transfer.halt Transfer.setCode
  split <;> rfl

/-- A transfer that begins is stopped at once or goes on as it is (R154, R160). -/
theorem State.xferStart_cases (s : State) (gt : Nat) (y : Transfer) : s.xferStart gt y = (s, y) ∨ ∃ c, s.xferStart gt y = (s, y.halt c) := by
  unfold State.xferStart
  dsimp only
  split
  · exact .inr ⟨_, rfl⟩
  · split
    · exact .inr ⟨_, rfl⟩
    · split
      · split
        · exact .inr ⟨_, rfl⟩
        · exact .inl rfl
      · exact .inl rfl

/-! ## Freezing a chain (R407) -/

/-- A log entry writes memory only through the VI's event counter (R399). -/
theorem State.logEvent_sameMemory {v : Nat} (h : (s.vi v).evctr = 0) (kind addr : Nat) (info : DWord) : SameMemory s (s.logEvent v kind addr info) := by
  unfold State.logEvent
  dsimp only
  rw [if_pos (.inl h)]
  exact sameMemory_of_eq rfl rfl

/-- A freeze writes memory only through its log entry (R407). -/
theorem State.recordFreeze_sameMemory {v : Nat} (h : (s.vi v).evctr = 0) (kind cause : Nat) (ident : DWord) : SameMemory s (s.recordFreeze v kind cause ident) := by
  unfold State.recordFreeze
  dsimp only
  refine SameMemory.trans ?_ (State.hostEvent_sameMemory _ _)
  refine SameMemory.trans (t := s.modVi v _) (sameMemory_of_eq rfl rfl) (State.logEvent_sameMemory ?_ _ _ _)
  rw [State.vi_modVi_self]
  split <;> exact h

theorem State.freezeXfer_sameMemory (gt : Nat) (h : (s.vi x.vi).evctr = 0) (code : Nat) : SameMemory s (s.freezeXfer gt x code) := by
  unfold State.freezeXfer
  split
  · exact State.recordFreeze_sameMemory h _ _ _
  · split
    · exact State.recordFreeze_sameMemory h _ _ _
    · exact .refl s

/-! ## Completion (R159) -/

/-- A completed transfer, its buffers empty. -/
def Transfer.over (x : Transfer) : Transfer := { x with state := 2, dstPages := [], srcPage := none, inp := [], out := [], busy := [] }

/-- The entry of a transfer is put back, the mover's busy time noted and tasks woken: no byte of memory changes. -/
structure State.Records (s t : State) (gt : Nat) (x : Transfer) : Prop where
  memory : SameMemory s t
  entry : t.HasXfer gt x (· = x)

theorem State.records_wake (s : State) (gt : Nat) (x : Transfer) (f : Tile → Tile) (hf : ∀ z, (f z).xfers = z.xfers) (p : Task → Park → Bool) :
    s.Records (((s.xPut gt x).modTile gt f).wake p) gt x := by
  refine ⟨SameMemory.trans (sameMemory_of_eq rfl rfl) (State.wake_sameMemory _ _), (s.hasXfer_xPut (p := (· = x)) gt rfl rfl).congr ?_⟩
  rw [State.tile, State.wake_tiles, ← State.tile, State.tile_modTile, if_pos rfl]
  exact hf _

/-- Nothing of a completed transfer is charged to its task (R138, R161). -/
theorem nothing_charged (hcrust : x.crusts = []) (hcode : x.code = 0) : x.crusts = [] ∧ ¬ (x.code ≠ 0 ∧ x.code ≠ 0x0A) := ⟨hcrust, fun h => h.1 hcode⟩

section Completion

variable (hstop : x.stop = false) (hcrust : x.crusts = []) (hcode : x.code = 0) (hbar : mvBar x.regs = 0)
include hstop hcrust hcode hbar

/-- A transfer with neither counter nor barrier only has its entry say so. -/
theorem State.completeXfer_plain (hctr : mvCtr x.regs = 0) : (s.clearBusy x.busy).Records (s.completeXfer gt x) gt x.over := by
  have hc : s.wordAt x.vi gt (mvCtr x.regs) 8 = .none := if_pos hctr
  have hb : s.wordAt x.vi gt (mvBar x.regs) 32 = .none := if_pos hbar
  have hout : (WordAt.none == .outside || WordAt.none == .outside) = false := rfl
  unfold State.completeXfer
  simp only [hc, hb, hout, Bool.false_eq_true, if_false, if_neg (Bool.eq_false_iff.1 hstop), if_pos (nothing_charged hcrust hcode)]
  exact State.records_wake _ gt x.over (fun z => { z with lastBusy := z.cycle.toNat }) (fun _ => rfl) _

/-- The counter of a transfer without a barrier takes 1 (R159 step 3). -/
theorem State.completeXfer_counts {k : Nat} (hc : s.wordAt x.vi gt (mvCtr x.regs) 8 = .at_ k) :
    ((s.clearBusy x.busy).putDws k [((s.clearBusy x.busy).getDws k 1).headD 0 + 1]).Records (s.completeXfer gt x) gt x.over := by
  have hb : s.wordAt x.vi gt (mvBar x.regs) 32 = .none := if_pos hbar
  have hout : (WordAt.at_ k == .outside || WordAt.none == .outside) = false := rfl
  unfold State.completeXfer
  simp only [hc, hb, hout, Bool.false_eq_true, if_false, if_neg (Bool.eq_false_iff.1 hstop), if_pos (nothing_charged hcrust hcode)]
  exact State.records_wake _ gt x.over (fun z => { z with lastBusy := z.cycle.toNat }) (fun _ => rfl) _

end Completion

theorem execTransferCompletion_completes (hx : s.xfer? s.ev.gt s.ev.id = some x) (hchain : x.isChain = false) (hstate : x.state = 1) (hend : x.atEnd = true)
    (hack : s.awaits x.ids x.reqs = ([], [])) (hbar : mvBar x.regs = 0) (hctr : s.wordAt x.vi s.ev.gt (mvCtr x.regs) 8 ≠ .busy) :
    execTransferCompletion s = .next (s.completeXfer s.ev.gt x) := by
  have hb : s.wordAt x.vi s.ev.gt (mvBar x.regs) 32 = .none := if_pos hbar
  have hc : (s.wordAt x.vi s.ev.gt (mvCtr x.regs) 8 == .busy) = false := beq_eq_false_iff_ne.2 hctr
  unfold execTransferCompletion
  simp only [hx, hc, hb, hack, hchain, hstate, hend, Bool.or_true, Bool.true_or]
  rfl

theorem getDws_congr (h : SameMemory s t) (k n : Nat) : t.getDws k n = s.getDws k n := by
  rw [State.getDws, State.fetch_congr h, State.getDws]

/-! ## What leaves every tile but for its granules -/

/-- The tiles differ in their granule tables alone. -/
def State.OnlyGrans (s t : State) : Prop := ∀ g, ∃ l, t.tile g = { s.tile g with gran := l }

theorem State.OnlyGrans.refl (s : State) : s.OnlyGrans s := fun _ => ⟨_, rfl⟩

theorem State.OnlyGrans.trans (h : s.OnlyGrans t) (h' : t.OnlyGrans u) : s.OnlyGrans u := fun g => by
  obtain ⟨l, hl⟩ := h g
  obtain ⟨m, hm⟩ := h' g
  exact ⟨m, hm.trans (by rw [hl])⟩

theorem State.OnlyGrans.of_tiles (h : t.tiles = s.tiles) : s.OnlyGrans t := fun g => ⟨(s.tile g).gran, by rw [State.tile, h, State.tile]⟩

theorem State.OnlyGrans.cb (h : s.OnlyGrans t) (g b : Nat) : t.cb g b = s.cb g b := by
  obtain ⟨l, hl⟩ := h g
  rw [State.cb, hl, State.cb]

theorem State.onlyGrans_setGran (s : State) (gt i : Nat) (x : Gran) : s.OnlyGrans (s.setGran gt i x) := fun g => by
  rw [State.setGran, State.tile_modTile]
  split
  · next h =>
    subst h
    exact ⟨_, rfl⟩
  · exact ⟨_, rfl⟩

theorem State.onlyGrans_put (s : State) (k : Nat) (bs : List Byte) (marks : List Bool) : s.OnlyGrans (s.put k bs marks) := .of_tiles rfl

theorem State.onlyGrans_sramWrite1 (s : State) (ag vd gt : Nat) (own : List (Nat × Nat)) (off : Nat) (bs : List Byte) (marks : List Bool) :
    s.OnlyGrans (s.sramWrite1 ag vd gt own off bs marks).s := by
  unfold State.sramWrite1
  dsimp only
  split
  · exact .refl s
  · split
    · exact ((s.onlyGrans_put _ _ _).trans (State.onlyGrans_put _ _ _ _)).trans (State.onlyGrans_setGran _ _ _ _)
    · split
      · exact s.onlyGrans_put _ _ _
      · exact .refl s

theorem State.onlyGrans_sramWrite (s : State) (ag vd gt : Nat) (own : List (Nat × Nat)) (off : Nat) (bs : List Byte) (marks : List Bool) :
    s.OnlyGrans (s.sramWrite ag vd gt own off bs marks).s :=
  foldl_keeps (fun w : Wr => s.OnlyGrans w.s) _ _ _ (.refl s) (fun _ _ hw => hw.trans (State.onlyGrans_sramWrite1 _ _ _ _ _ _ _ _))

theorem State.onlyGrans_storeWords (s : State) (gt vd base : Nat) (ws : List (Nat × DWord)) : s.OnlyGrans (s.storeWords gt vd base ws).1 :=
  foldl_keeps (fun r : State × List DWord => s.OnlyGrans r.1) _ _ _ (.refl s) (fun _ _ hr => hr.trans (State.onlyGrans_sramWrite _ _ _ _ _ _ _ _))

theorem State.onlyGrans_modTask (s : State) (k : Nat) (f : Task → Task) : s.OnlyGrans (s.modTask k f) := .of_tiles (modTask_tiles s k f)

theorem State.onlyGrans_writeLines (s : State) (k : Nat) (ls : List Nat) : s.OnlyGrans (s.writeLines k ls) := by
  unfold State.writeLines
  split
  · exact .refl s
  · exact ((State.onlyGrans_storeWords _ _ _ _ _).trans (State.onlyGrans_storeWords _ _ _ _ _)).trans (State.onlyGrans_modTask _ _ _)

theorem State.onlyGrans_dropLines (s : State) (k : Nat) (ls : List Nat) : s.OnlyGrans (s.dropLines k ls) := by
  unfold State.dropLines
  split
  · exact .refl s
  · exact (s.onlyGrans_writeLines _ _).trans (State.onlyGrans_modTask _ _ _)

theorem State.onlyGrans_makeRoom (s : State) (gt k n : Nat) : s.OnlyGrans (s.makeRoom gt k n) := by
  refine foldl_keeps (fun y : State => s.OnlyGrans y) _ _ _ (.refl s) (fun y v hy => ?_)
  split
  · exact hy
  · exact hy.trans (y.onlyGrans_dropLines _ _)

theorem State.onlyGrans_fillLines (s : State) (k : Nat) (ls : List Nat) : s.OnlyGrans (s.fillLines k ls) := by
  unfold State.fillLines
  split
  · exact .refl s
  · dsimp only
    split
    · exact .refl s
    · refine State.OnlyGrans.trans ?_ (State.onlyGrans_modTask _ _ _)
      split
      · exact s.onlyGrans_makeRoom _ _ _
      · exact .refl s

theorem State.onlyGrans_onLines (s : State) (k : Nat) (ls : List Nat) (f : Task → Task) : s.OnlyGrans (s.onLines k ls f) := by
  unfold State.onLines
  split
  · exact .refl s
  · dsimp only
    split
    · exact (s.onlyGrans_fillLines k ls).trans (State.onlyGrans_modTask _ _ _)
    · exact ((s.onlyGrans_fillLines k ls).trans (State.onlyGrans_modTask _ _ _)).trans (State.onlyGrans_dropLines _ _ _)

/-! ## Pages of a buffer (R143, R387) -/

variable {b : CBuf}

theorem CBuf.publish_keeps (fuel : Nat) (b : CBuf) : (CBuf.publish fuel b).resv = b.resv ∧ (CBuf.publish fuel b).undoR = b.undoR := by
  induction fuel generalizing b with
  | zero => exact ⟨rfl, rfl⟩
  | succ n ih =>
    unfold CBuf.publish
    split
    · exact ih _
    · exact ⟨rfl, rfl⟩

/-- RESV steps back over discarded reservations only (R387 step 5). -/
theorem CBuf.settleR_nothing (h : b.undoR = []) : b.settleR = b := by
  unfold CBuf.settleR
  simp only [h, List.contains_nil, Bool.false_and]
  rw [List.find?_eq_none.2 (fun _ _ => Bool.false_ne_true)]

theorem CBuf.completeP_resv (h : b.undoR = []) (key : Nat) (ks : List Nat) : (b.completeP key 0 ks).resv = b.resv := by
  have hkeeps := CBuf.publish_keeps b.pages { b with
    scal := ks.foldl (fun l k => sdel l (b.slot k)) b.scal, done := ks.foldl (fun l k => sadd l (b.slot k)) b.done }
  unfold CBuf.completeP
  rw [if_neg (fun h => h.1 rfl)]
  dsimp only
  rw [CBuf.settleR_nothing (hkeeps.2.trans h)]
  exact hkeeps.1

/-- A page is reserved in a buffer that nobody waits for. -/
theorem CBuf.grant_page (who : Asker) (hq : b.resQ = []) (hm : 1 ≤ b.freePages) :
    ∃ b', b.grant who 0 1 false = some (b', b.resv) ∧ b'.resv = b.resv + 1 ∧ b'.undoR = b.undoR ∧ b'.pageOff = b.pageOff := by
  simp only [CBuf.grant, hq, List.head?_nil, hm, decide_true, Bool.and_self, if_true]
  exact ⟨_, rfl, rfl, rfl, rfl⟩

/-- A page is written to a slice and its crust entries are charged: every buffer stays as it was. -/
theorem State.cb_written (s : State) (ag vd gt : Nat) (own : List (Nat × Nat)) (off : Nat) (bs : List Byte) (marks : List Bool) (k : Nat) (ls : List Nat) (g h : Nat) :
    let w := s.sramWrite ag vd gt own off bs marks
    (if w.crust = [] then w.s else w.s.onLines k ls (fun y => y.charge w.crust)).cb g h = s.cb g h := by
  have hw := s.onlyGrans_sramWrite ag vd gt own off bs marks
  dsimp only
  split
  · exact hw.cb g h
  · exact (hw.trans (State.onlyGrans_onLines _ _ _ _)).cb g h

/-- A stream keeps no page that it did not have (R264). -/
theorem Stream.mem_retire {z : Stream} {q : Nat × List Byte × List Bool × List Nat} (hq : q ∈ z.retire.pages) : q ∈ z.pages := (List.mem_filter.1 hq).1

/-! ## Handles (R165) -/

/-- A handle cache without a handle of a VI. -/
def Tile.withoutHandle (v h : Nat) (z : Tile) : Tile := { z with hcache := z.hcache.filter (fun c => !(c.1 == v && c.2.1 == h)) }

theorem Tile.not_mem_withoutHandle {v h : Nat} {z : Tile} : ∀ c ∈ (z.withoutHandle v h).hcache, ¬ (c.1 = v ∧ c.2.1 = h) := by
  rintro c hc ⟨hv, hh⟩
  have hkeep := (List.mem_filter.1 hc).2
  rw [hv, hh, beq_self_eq_true, beq_self_eq_true] at hkeep
  exact Bool.false_ne_true hkeep

theorem State.tile_map_withoutHandle (s : State) (v h g : Nat) :
    State.tile { s with tiles := s.tiles.map (fun e : Nat × Tile => (e.1, e.2.withoutHandle v h)) } g = (s.tile g).withoutHandle v h :=
  tget_map (fun _ z => Tile.withoutHandle v h z) {} s.tiles g

end Sys2Proof.Machine

open Sys2Proof.Machine

/-- Settles O40: each event's one branch is followed, and the entry it puts back, the memory it leaves and the page it reserves are read off. -/
theorem moverEventsComplete : Obligations.MoverEventsComplete := by
  intro s gt v entry
  refine ⟨fun x hfind hcount hchain hheld => ?transferBegin, fun x hturn => ?turn,
    fun x a hx hchain hstate hstop hforce ha => ⟨fun hcode hskip => ?inForce, fun hcode hx0 hctr => ?failed⟩,
    fun x hx hchain hstate hstop hend hcrust hcode hack hbar => ⟨fun hctr => ?plain, fun k hctr => ?counts⟩,
    fun e hwait he => ?fill, fun h rest hnone hq hmem => ?revoke, fun h hrev huses => ?done,
    fun i g h p hsub hfirst hp hq hu hfree hheld hfence hgated => ?delivery⟩
  case transferBegin =>
    have hexec : execTransferBegin s = .next ((s.xferStart gt { x with state := 1 }).1.xPut gt (s.xferStart gt { x with state := 1 }).2) := by
      unfold execTransferBegin
      simp only [gt] at hfind hcount hheld
      simp only [hfind, hchain, hheld, Nat.not_le.2 hcount]
      rfl
    rcases s.xferStart_cases gt { x with state := 1 } with hgo | ⟨c, hstopped⟩
    · rw [hgo] at hexec
      exact ⟨_, hexec, s.xPut_sameMemory _ _, s.hasXfer_xPut gt rfl rfl⟩
    · rw [hstopped, Transfer.halt_eq] at hexec
      exact ⟨_, hexec, s.xPut_sameMemory _ _, s.hasXfer_xPut gt rfl rfl⟩
  case turn =>
    have hexec : execMoverTurn s = .next ((s.mvTurn gt x).modTile gt (fun z => { z with xlast := x.id })) := by
      unfold execMoverTurn
      rw [show s.nextTurn s.ev.gt = some x from hturn]
    refine ⟨_, hexec, ?_⟩
    dsimp only
    rw [State.tile_modTile, if_pos rfl]
  case inForce =>
    change Completes (execChainDescriptorFetch s) _
    unfold execChainDescriptorFetch
    simp only [show s.xfer? s.ev.gt s.ev.id = some x from hx, hchain, hstate, hstop, hforce, ha, hcode, hskip]
    exact Completes.next ⟨s.xPut_sameMemory _ _, s.hasXfer_xPut gt rfl ⟨rfl, rfl, rfl, rfl⟩⟩
  case failed =>
    change Completes (execChainDescriptorFetch s) _
    unfold execChainDescriptorFetch
    simp only [show s.xfer? s.ev.gt s.ev.id = some x from hx, hchain, hstate, hstop, hforce, ha, if_pos hcode]
    refine Completes.next ⟨(State.freezeXfer_sameMemory gt hctr _).trans (State.xPut_sameMemory _ _ _), State.hasXfer_xPut _ gt ?_ ?_⟩
    · rw [Transfer.halt_eq]
    · rw [Transfer.halt_eq, if_pos hx0]
      exact ⟨rfl, rfl⟩
  case plain =>
    have hnone : s.wordAt x.vi gt (mvCtr x.regs) 8 = .none := if_pos hctr
    obtain ⟨hmem, y, hy, hid, rfl⟩ := State.completeXfer_plain (s := s) (gt := gt) hstop hcrust hcode hbar hctr
    exact ⟨_, execTransferCompletion_completes hx hchain hstate hend hack hbar (by rw [hnone]; nofun),
      (s.clearBusy_sameMemory _).trans hmem, _, hy, rfl, rfl, hcode⟩
  case counts =>
    obtain ⟨hmem, y, hy, hid, rfl⟩ := State.completeXfer_counts (s := s) (gt := gt) hstop hcrust hcode hbar hctr
    have hclear := s.clearBusy_sameMemory x.busy
    refine ⟨_, execTransferCompletion_completes hx hchain hstate hend hack hbar (by rw [hctr]; nofun), ?_, fun z hz => ?_, _, hy, rfl, rfl, hcode⟩
    · have hput : ((s.clearBusy x.busy).putDws k [((s.clearBusy x.busy).getDws k 1).headD 0 + 1]).getDws k 1 = _ := getDws_putDws _ _ _
      rw [getDws_congr hmem, hput, getDws_congr hclear]
      rfl
    · rw [(hmem z).1, byteAt_putDws_out _ _ _ _ hz, (hclear z).1]
  case fill =>
    change Completes (execHandleCacheFill s) _
    unfold execHandleCacheFill
    simp only [show s.handleWait s.ev.vi s.ev.index = none from hwait, show s.handleEntry s.ev.vi s.ev.index = some e from he]
    refine Completes.next ⟨SameMemory.trans (sameMemory_of_eq rfl rfl) (State.wake_sameMemory _ _), ?_⟩
    rw [State.tile, State.wake_tiles, ← State.tile, State.tile_modTile, if_pos rfl]
    exact List.mem_append_right _ List.mem_cons_self
  case revoke =>
    have hready : (if h < (s.vi s.ev.vi).htcount.toNat then s.memWait (s.handleAt s.ev.vi h) 8 true else none) = none := by
      split
      · next hlt => exact hmem hlt
      · rfl
    change Completes (execRevoke s) _
    unfold execRevoke
    simp only [show (s.vi s.ev.vi).revoking = none from hnone, show (s.vi s.ev.vi).revq = h :: rest from hq, hready]
    refine Completes.next ⟨?_, ?_, fun g => ?_⟩
    · rw [State.vi, State.wake_vis, ← State.vi, State.vi_modVi_self]
    · rw [State.vi, State.wake_vis, ← State.vi, State.vi_modVi_self]
    · rw [State.tile, State.wake_tiles]
      exact (congrArg (fun z : Tile => ∀ c ∈ z.hcache, ¬ (c.1 = v ∧ c.2.1 = h)) (State.tile_map_withoutHandle _ v h g)).mpr Tile.not_mem_withoutHandle
  case done =>
    have hnone : s.xfersInFlight.any (fun e => e.2.uses s.ev.vi h) = false := List.any_eq_false.2 (fun e he => Bool.eq_false_iff.1 (huses e he))
    change Completes (execRevocationDone s) _
    unfold execRevocationDone
    simp only [show (s.vi s.ev.vi).revoking = some h from hrev, hnone]
    refine Completes.next ⟨sameMemory_of_eq rfl rfl, ?_, ?_⟩ <;> rw [State.vi_modVi_self]
  case delivery =>
    obtain ⟨b', hpage, hresv, hundo, hoff⟩ := CBuf.grant_page (.stream s.ev.id) hq hfree
    have hopen : ¬ (((s.writeHeld (2 ^ 63) (.sram g ((s.cb g h).pageOff (s.cb g h).resv)) p.2.1.length).isSome || s.fencedTile g || (s.tile g).gated) = true) := by
      rw [hheld, hfence, hgated]
      decide
    change Completes (execStreamDelivery s) _
    unfold execStreamDelivery
    simp only [hsub, hfirst, hp, hpage, hoff, if_neg hopen]
    refine Completes.next ⟨?_, fun q hq => ?_⟩
    · refine (congrArg CBuf.resv (State.cb_modCb _ g h _)).trans ?_
      rw [State.cb_written, State.cb_modCb, CBuf.completeP_resv (hundo.trans hu)]
      exact hresv
    · rw [State.die_modDie_self, tget_tset, if_pos rfl] at hq
      exact List.mem_or_eq_of_mem_set (Stream.mem_retire hq)

end
